-- ==== Sys2Proof/Word.lean ====
section
/-! DEFINITION. The byte of a ring frame, and the clamps of spec/00_scope.md ("Clamped to a range").
Quantities that the manual holds as integers in a unit (pressures, masses, money, times) are `Nat`
or `Int`; only frame bytes and the frame check are bits. -/

namespace Sys2Proof

/-- One byte of a ring frame (R182). -/
abbrev Byte := BitVec 8

/-- "Clamped to a range": below the range the lower end, above it the upper end (00_scope.md). -/
def clampInt (lo hi x : Int) : Int := if x < lo then lo else if hi < x then hi else x

/-- The same for an unsigned quantity with lower end 0. -/
def clampNat (hi x : Nat) : Nat := if hi < x then hi else x

/-- A count that stops at 65535 (R197, the four ring counts). -/
def countUp (n : Nat) : Nat := if n < 65535 then n + 1 else 65535

/-- A set flag is 1 and a clear flag is 0 (R183). -/
def flagNat (b : Bool) : Nat := if b then 1 else 0

end Sys2Proof
end

