-- ==== Sys2Proof/Syntax.lean ====
section
/-! DEFINITION. The commands of the JF-460: one constructor of `Instr` per row of
spec/opcode_table.json (120 rows), with the identifiers and the operands the rows carry. -/

namespace Sys2Proof

/-! ## Identifiers (00_scope.md, "Identifiers") -/

/-- Fuelling positions P1 to P4. -/
inductive Pos where
  | p1 | p2 | p3 | p4
  deriving DecidableEq, Repr

/-- Storage banks B1 to B4. -/
inductive Bank where
  | b1 | b2 | b3 | b4
  deriving DecidableEq, Repr

/-- The four positions in order. -/
def Pos.all : List Pos := [.p1, .p2, .p3, .p4]

/-- The four banks in order. -/
def Bank.all : List Bank := [.b1, .b2, .b3, .b4]

/-- One item for each of P1 to P4. -/
structure PerPos (α : Type) where
  p1 : α
  p2 : α
  p3 : α
  p4 : α
  deriving DecidableEq, Repr

/-- One item for each of B1 to B4. -/
structure PerBank (α : Type) where
  b1 : α
  b2 : α
  b3 : α
  b4 : α
  deriving DecidableEq, Repr

def PerPos.get {α : Type} (v : PerPos α) : Pos → α
  | .p1 => v.p1
  | .p2 => v.p2
  | .p3 => v.p3
  | .p4 => v.p4

def PerPos.set {α : Type} (v : PerPos α) (p : Pos) (x : α) : PerPos α :=
  match p with
  | .p1 => { v with p1 := x }
  | .p2 => { v with p2 := x }
  | .p3 => { v with p3 := x }
  | .p4 => { v with p4 := x }

def PerPos.all {α : Type} (x : α) : PerPos α := ⟨x, x, x, x⟩

def PerPos.map {α β : Type} (f : α → β) (v : PerPos α) : PerPos β := ⟨f v.p1, f v.p2, f v.p3, f v.p4⟩

def PerPos.toList {α : Type} (v : PerPos α) : List α := [v.p1, v.p2, v.p3, v.p4]

def PerBank.get {α : Type} (v : PerBank α) : Bank → α
  | .b1 => v.b1
  | .b2 => v.b2
  | .b3 => v.b3
  | .b4 => v.b4

def PerBank.set {α : Type} (v : PerBank α) (b : Bank) (x : α) : PerBank α :=
  match b with
  | .b1 => { v with b1 := x }
  | .b2 => { v with b2 := x }
  | .b3 => { v with b3 := x }
  | .b4 => { v with b4 := x }

def PerBank.all {α : Type} (x : α) : PerBank α := ⟨x, x, x, x⟩

def PerBank.map {α β : Type} (f : α → β) (v : PerBank α) : PerBank β := ⟨f v.b1, f v.b2, f v.b3, f v.b4⟩

def PerBank.toList {α : Type} (v : PerBank α) : List α := [v.b1, v.b2, v.b3, v.b4]

/-- Pressure class of a position. -/
inductive PClass where
  | h35 | h70
  deriving DecidableEq, Repr

/-- Precool category, coldest first; C00 means no precooling. -/
inductive Category where
  | c40 | c30 | c20 | c00
  deriving DecidableEq, Repr

/-- The far side of a bank valve: a position's manifold or the compressor discharge (R2). -/
inductive ValveEnd where
  | pos (p : Pos)
  | compressor
  deriving DecidableEq, Repr

/-- A source a position draws from, and an entry of a draw sequence (R33). -/
inductive Source where
  | bank (b : Bank)
  | compressor
  deriving DecidableEq, Repr

/-- A holder of a bank claim (R36). -/
inductive Holder where
  | pos (p : Pos)
  | compressor
  deriving DecidableEq, Repr

/-- The roles of the node map, with their indices (R2). -/
inductive Role where
  | nozzlePressure (p : Pos)
  | outletTemp (p : Pos)
  | meter (p : Pos)
  | holster (p : Pos)
  | coupled (p : Pos)
  | vehicle (p : Pos)
  | tenderSource (p : Pos)
  | dispenseValve (p : Pos)
  | ventValve (p : Pos)
  | controlValve (p : Pos)
  | bankPressure (b : Bank)
  | bankTemp (b : Bank)
  | bankValve (b : Bank) (d : ValveEnd)
  | suctionPressure
  | dischargePressure
  | dischargeTemp
  | compressorRunning
  | compressorDrive
  | chillerFault
  | chillerDrive
  | ambientTemp
  | gasDetect
  deriving DecidableEq, Repr

/-- Kind of a role (R2, R3). -/
inductive RoleKind where
  | analogue | count | digital | vehicle | tenderSource | actuator
  deriving DecidableEq, Repr

/-- The unit that takes ISOLATE for a role (R11). -/
inductive IsolateTo where
  | position (p : Pos)
  | bank (b : Bank)
  | compressor
  | chiller
  | nobody
  deriving DecidableEq, Repr

/-- Quality of a signal record (R7). -/
inductive Quality where
  | absent | good | uncertain | bad | stale
  deriving DecidableEq, Repr

/-- The two signals of a bank that BKM reads. -/
inductive BankSignal where
  | pressure | temp
  deriving DecidableEq, Repr

/-- The fill command of a VEHDATA frame (R17). -/
inductive FillCommand where
  | run | halt | abort
  deriving DecidableEq, Repr

/-- The vehicle fields a VEHICLE record holds (R17). -/
structure VehicleFields where
  version  : Option Nat
  volume   : Option Nat
  pclass   : Option PClass
  pressure : Option Int
  temp     : Option Int
  command  : Option FillCommand
  deriving DecidableEq, Repr

/-- Limit region of an analogue record (R12). -/
inductive Region where
  | inside | high | low
  deriving DecidableEq, Repr

/-- A signal record (R7), which SIG holds and every delivery carries as it stood when SIG took the
arrival (R18). The timer holds the 0.1 s ticks left; `none` is stopped. -/
structure SigRec where
  value   : Int
  level   : Bool
  vehicle : VehicleFields
  quality : Quality
  timer   : Option Nat
  region  : Region
  deriving DecidableEq, Repr

/-- The kinds of arrival a delivery names, each with the record it carries (R18). A record that becomes
ABSENT at a commit is delivered as the change of its quality; no other change of quality ends at ABSENT. -/
inductive Arrival where
  | value (rec : SigRec)
  | transition (rec : SigRec)
  | refresh (rec : SigRec)
  | quality (rec : SigRec)
  deriving DecidableEq, Repr

/-- The record an arrival carries (R18). -/
def Arrival.record : Arrival → SigRec
  | .value x => x
  | .transition x => x
  | .refresh x => x
  | .quality x => x

/-- A change of quality of a record of a position, as FIL takes it (R2, R18): which position, which role,
and the record. -/
structure PosSignal where
  pos    : Pos
  role   : Role
  record : SigRec
  deriving DecidableEq, Repr

/-- The fields of a VEHDATA payload as they stand in the frame (R184): a field is present when its
mask bit is set; the codes are not judged yet. -/
structure VehData where
  version   : Nat
  volume    : Option Nat
  classCode : Option Nat
  pressure  : Option Nat
  temp      : Option Int
  command   : Nat
  deriving DecidableEq, Repr

/-- Attribution of an increment (R141, R145). -/
inductive Attribution where
  | session (b : Bank)
  | compressor
  | unattributed
  | afterRun
  | outOfFill
  deriving DecidableEq, Repr

/-- An increment as a report names it: its milligrams and its attribution (R142). -/
structure Increment where
  mg  : Nat
  att : Attribution
  deriving DecidableEq, Repr

/-- Outcome of a closed DRAW session (R45). -/
inductive DrawOutcome where
  | balanced | mismatch | unchecked
  deriving DecidableEq, Repr

/-- Why a bank was isolated (R47). -/
inductive IsoCause where
  | overpressure | signal | request
  deriving DecidableEq, Repr

/-- Why the compressor locked out (R67). -/
inductive LockCause where
  | prime | feedback | overheat | signal | trip
  deriving DecidableEq, Repr

/-- The cause carried by a LOST message (R47, R51, R66, R67). -/
inductive LostCause where
  | isolated (c : IsoCause)
  | supply
  | signal
  | lockout (c : LockCause)
  | trip
  deriving DecidableEq, Repr

/-- A LOST as the compressor takes it: the bank and the cause (R47, R51). -/
structure LostBank where
  bank  : Bank
  cause : LostCause
  deriving DecidableEq, Repr

/-- The trip causes (R204); SIGNAL names its row and MASS-BALANCE its bank. -/
inductive TripCause where
  | loop
  | signal (row : Nat)
  | gasDetect
  | massBalance (b : Bank)
  | request
  | supply
  deriving DecidableEq, Repr

/-- End reasons in the order of the table of R127. -/
inductive EndReason where
  | overpressure | tripped | signalLost | meterFault | overtemp | disconnected | vehicleStop
  | supervisorStop | massCap | completeSoc | completePressure | rampExceeded | timeLimit
  | pauseTimeout | banksExhausted | startPressure | leak | notPermitted | precoolUnavailable
  | precoolLost
  deriving DecidableEq, Repr

/-- The vehicle link (R124). -/
inductive Link where
  | none | pending | established | dropped
  deriving DecidableEq, Repr

/-- Tender kind (R157). -/
inductive TenderKind where
  | card | fleet
  deriving DecidableEq, Repr

/-- Who asked: the source node of a REQUEST and the tag it chose (R185, R191). -/
structure Req where
  src : Nat
  tag : Nat
  deriving DecidableEq, Repr

/-- The fill figures in milligrams as MTR holds them, the source table among them, and the
uncertain-count mark (R136, R148). -/
structure FillMasses where
  fill     : Nat
  banks    : PerBank Nat
  cmp      : Nat
  unattr   : Nat
  afterRun : Nat
  uncertain : Bool
  deriving DecidableEq, Repr

/-- What FIL hands BIL on leaving ENDING (R129), with MTR's figures (R148). -/
structure FillSummary where
  pos        : Pos
  pclass     : PClass
  txn        : Nat
  kind       : TenderKind
  cap        : Nat
  gen        : Nat
  authTime   : Option Nat
  reason     : Option EndReason
  required   : Category
  final      : Category
  reRates    : Nat
  link       : Link
  mismatch   : Bool
  unchecked  : Bool
  uncertain  : Bool
  endTime    : Option Nat
  masses     : FillMasses
  deriving DecidableEq, Repr

/-- What the part reads on its hard lines when it starts running after a restart: the address
straps (R182), whether the trip loop is open (R204), and the seconds the backup crystal counted
since the last second the machine took (R206). -/
structure Lines where
  straps      : Fin 8
  loopOpen    : Bool
  downSeconds : Nat
  deriving DecidableEq, Repr

/-! ## The commands -/

/-- One constructor per row of spec/opcode_table.json, in the table's order. -/
inductive Instr where
  -- station ring
  | frameArrival (bytes : List Byte)
  | ringOutSendDone
  -- supervisor requests
  | readItem (rq : Req) (item index unit second sect : Nat)
  | tableRead (rq : Req) (table row copy : Nat)
  | tableWrite (rq : Req) (table row : Nat) (data : List Byte)
  | tableDiscard (rq : Req) (table : Nat)
  | tableCommit (rq : Req) (table : Nat)
  | modeSet (rq : Req) (mode : Nat)
  | tripRequest (rq : Req)
  | restartRequest (rq : Req)
  | causeClear (rq : Req)
  | timeSet (rq : Req) (seconds : Nat)
  | bankIsolate (rq : Req) (bank : Nat)
  | bankReturn (rq : Req) (bank : Nat)
  | lockoutClear (rq : Req)
  | positionOpen (rq : Req) (pos : Nat)
  | positionClose (rq : Req) (pos : Nat)
  | positionStop (rq : Req) (pos : Nat)
  | positionLimit (rq : Req) (pos cap : Nat)
  | accountSet (rq : Req) (id cls allowance : Nat)
  | accountCredit (rq : Req) (id amount : Nat)
  | accountWithdraw (rq : Req) (id amount : Nat)
  | accountBlock (rq : Req) (id : Nat)
  | accountUnblock (rq : Req) (id : Nat)
  | accountRemove (rq : Req) (id : Nat)
  | accountRead (rq : Req) (id : Nat)
  | txnRead (rq : Req)
  | txnRelease (rq : Req) (number : Nat)
  -- payment
  | tender (source : Nat) (broadcast : Bool) (pos kind reference account amount : Nat)
  -- signal image
  | sampleAnalogue (role : Role) (quality : Nat) (value : Int)
  | sampleDigital (role : Role) (quality : Nat) (value : Int)
  | count (role : Role) (quality count : Nat)
  | vehData (role : Role) (data : VehData)
  | freshnessExpiry (role : Role)
  -- bank manager
  | bankSignalValue (b : Bank) (sg : BankSignal) (rec : SigRec)
  | bankSignalQuality (b : Bank) (sg : BankSignal) (rec : SigRec)
  | bankIsolateSignal (b : Bank)
  | bQChange
  | positionClaim (p : Pos) (b : Bank)
  | compressorClaim (b : Bank)
  | bankWithdraw (p : Pos)
  | bankRelease (b : Bank) (party : Holder)
  | bankIncrementReport (p : Pos) (mg : Nat) (att : Attribution)
  | bkmTrip
  -- compressor controller
  | cmpSignalArrival (role : Role) (arr : Arrival)
  | cmpIsolate
  | cmpBankAnnouncement (b : Bank)
  | outputClaim (p : Pos)
  | outputRelease (p : Pos)
  | outputWithdraw (p : Pos)
  | yielded (b : Bank)
  | cmpBankLost (lost : LostBank)
  | primeTimerExpiry
  | minimumRunExpiry
  | offTimerExpiry
  | startHistoryAgeing
  | cmpTrip
  -- precool controller
  | reserveStep
  | coldConsumption (p : Pos) (inc : Increment)
  | categoryReport (p : Pos) (cat : Option Category) (entry : Bool)
  | sourceReport (p : Pos) (src : Source)
  | admissionRequest (p : Pos) (cat : Category)
  | admissionCancel (p : Pos)
  | mainEntryReport (p : Pos)
  | mainLeaveReport (p : Pos)
  | outletTempArrival (p : Pos) (arr : Arrival)
  | settleTimerExpiry (p : Pos)
  | excursionTimerExpiry (p : Pos)
  | stabilisationTimerExpiry
  | parkTimerExpiry
  | chillerFaultDelivery (arr : Arrival)
  | chillerIsolate
  | pclTrip
  -- fill engine
  | filHolsterTransition (p : Pos) (rec : SigRec)
  | filCoupledTransition (p : Pos) (rec : SigRec)
  | filNozzlePressure (p : Pos) (rec : SigRec)
  | filBankPressure (b : Bank) (arr : Arrival)
  | filVehdata (p : Pos) (rec : SigRec)
  | filSignalQuality (sg : PosSignal)
  | positionIsolate (p : Pos)
  | filGranted (p : Pos) (src : Source)
  | filBankAnnouncement (b : Bank)
  | compressorStateReport
  | waitCancelled (p : Pos) (src : Source)
  | filLost (p : Pos) (src : Source) (cause : LostCause)
  | sessionOutcome (p : Pos) (b : Bank) (o : DrawOutcome)
  | admitted (p : Pos) (cat : Category)
  | reRateRequest (p : Pos) (cat : Category) (outlet : Int)
  | meterFaultReport (p : Pos)
  | unauthorisedFlowReport (p : Pos)
  | filMassReport (p : Pos) (mass : Nat) (att : Attribution) (uncertain : Bool)
  | fillTimerExpiry (p : Pos)
  | pulseTimerExpiry (p : Pos)
  | leakCheckTimerExpiry (p : Pos)
  | precoolWaitTimerExpiry (p : Pos)
  | bankWaitTimerExpiry (p : Pos)
  | pauseTimerExpiry (p : Pos)
  | vehicleTimerExpiry (p : Pos)
  | mismatchTimerExpiry (p : Pos)
  | afterRunTimerExpiry (p : Pos)
  | ventTimerExpiry (p : Pos)
  | filTrip
  -- metering unit
  | meterCount (p : Pos) (count : Nat) (quality : Quality)
  | meterQualityChange (p : Pos) (rec : SigRec)
  -- billing unit
  | loweredCap (p : Pos) (cap : Nat)
  | cancelled (p : Pos)
  | fillSummary (sum : FillSummary)
  | stationClockAdvance
  -- station mode controller
  | smcHolsterTransition (p : Pos) (rec : SigRec)
  | bankLow
  | descentReport
  | idleTimerExpiry
  | parkTimeExpiry
  | tripCause (c : TripCause)
  | tripLoopOpen
  | supplyMonitorTrip
  | rifTrip
  -- restarts
  | powerOn (held : Bool) (lines : Lines)
  | supplyDip (lines : Lines)
  | commandRestart (lines : Lines)
  deriving DecidableEq, Repr

end Sys2Proof
end

