-- ==== Sys2Proof/Decode.lean ====
section
/-! DEFINITION. The command that a word spells by the bits of spec/opcode_table.json. The table gives
no row any bits (every row's "fields" is empty and none has "fixed"), so no word spells a command.
The ring frames that do carry commands are read by `parseFrame` and `requestCommand`
(Sys2Proof/Machine/Operands.lean, Sys2Proof/Machine/RingIn.lean). -/

namespace Sys2Proof

/-- No row of the table has bits: none. -/
def decodeTableWord (_nbits _w : Nat) : Option Instr := none

end Sys2Proof
end

