-- ==== Sys2Proof/Config.lean ====
section
/-! DEFINITION. The figures fixed in the part, and the free values the spec leaves open. -/

namespace Sys2Proof

/-- K of the density law in the units of R22. -/
def Config.densityK : Nat := 2424800

/-- Node map rows (01_signals_and_the_node_map.md, "The node map"). -/
def Config.nodeRows : Nat := 64

/-- Places of the transit buffer (R188). -/
def Config.transitPlaces : Nat := 8

/-- Places of the reply queue (R191). -/
def Config.replyPlaces : Nat := 8

/-- Places of the notice queue (R191). -/
def Config.noticePlaces : Nat := 16

/-- The transit run count at which a waiting reply or notice goes first (R192). -/
def Config.transitRun : Nat := 8

/-- Record places of the transaction queue (R170). -/
def Config.recordPlaces : Nat := 32

/-- Account slots (R163). -/
def Config.accountSlots : Nat := 16

/-- Age in run-seconds at which a start leaves the history (R55). -/
def Config.startAge : Nat := 3600

/-- The broadcast address (00_scope.md, "Node addresses"). -/
def Config.broadcast : Nat := 255

/-- Class nominal pressure (R95). -/
def Config.nominal : PClass → Nat
  | .h35 => 3500
  | .h70 => 7000

/-- Class P_end cap (R95). -/
def Config.pEndCap : PClass → Nat
  | .h35 => 3850
  | .h70 => 7700

/-- Class ceiling (R95). -/
def Config.ceiling : PClass → Nat
  | .h35 => 4375
  | .h70 => 8750

/-- FREE VALUE. What a 32-bit unsigned figure holds when the exact figure does not fit: the spec
gives the width and no result there. Nothing is known of it. DESIGN CHOICE, assumption log 3. -/
opaque Config.overflow32 (exact : Nat) : BitVec 32

/-- FREE VALUE. The same for a 64-bit unsigned figure. DESIGN CHOICE, assumption log 3. -/
opaque Config.overflow64 (exact : Nat) : BitVec 64

end Sys2Proof
end

