-- ==== Sys2Proof/Machine/State.lean ====
section
/-! DEFINITION. The state of the part: the retained domain (tables, accounts, transaction queue,
totalisers, start history, cause flags, clocks, snapshots), the volatile state of the ten blocks,
the hard lines, the messages in flight between blocks, and the queue of commands that wait. -/

namespace Sys2Proof.Machine

open Sys2Proof

/-! ## The tables -/

/-- Stale action of a node map row (R1). -/
inductive StaleAction where
  | hold | isolate | trip
  deriving DecidableEq, Repr

/-- Limit action of a node map row (R1). -/
inductive LimitAction where
  | none | note | isolate | trip
  deriving DecidableEq, Repr

/-- Edge select of a node map row (R1). -/
inductive EdgeSelect where
  | none | rise | fall | both
  deriving DecidableEq, Repr

/-- Edge action of a node map row (R1). -/
inductive EdgeAction where
  | note | isolate | trip
  deriving DecidableEq, Repr

/-- A valid node map row (R1); an empty row is `none` in the table. -/
structure NodeRow where
  source      : Nat
  channel     : Nat
  role        : Role
  offset      : Int
  freshness   : Nat
  stale       : StaleAction
  low         : Int
  high        : Int
  limitAction : LimitAction
  edgeSelect  : EdgeSelect
  edgeAction  : EdgeAction
  deriving DecidableEq, Repr

/-- The station row (R199). -/
structure StationRow where
  supervisor : Nat
  mbFloor    : Nat
  mbTolerance : Nat
  mbTrip     : Nat
  rateCapH35 : Nat
  rateCapH70 : Nat
  idleTime   : Nat
  parkTime   : Nat
  bankLowWake : Bool
  deriving DecidableEq, Repr

/-- A bank row (R32). -/
structure BankRow where
  configured  : Bool
  volume      : Nat
  rated       : Nat
  floor       : Nat
  refillStart : Nat
  fillTo      : Nat
  deriving DecidableEq, Repr

/-- The bank table: four bank rows and the two draw sequences (R32, R33). -/
structure BankTable where
  rows : PerBank BankRow
  h35  : List Source
  h70  : List Source
  deriving DecidableEq, Repr

/-- The compressor row (R52). -/
structure CmpRow where
  fitted       : Bool
  primeTime    : Nat
  minRun       : Nat
  minOff       : Nat
  startsLimit  : Nat
  suctionMin   : Nat
  hysteresis   : Nat
  dischargeMax : Nat
  refillOrder  : List Bank
  runSpeed     : Nat
  deriving DecidableEq, Repr

/-- Row 0 of the precool table (R72). -/
structure ChillerRow where
  fitted    : Bool
  capacity  : Nat
  recovery  : Nat
  loss      : Nat
  cp        : Nat
  bq        : Nat
  readyOn   : Nat
  readyOff  : Nat
  stabilise : Nat
  parkDelay : Nat
  settle    : Nat
  excursion : Nat
  deriving DecidableEq, Repr

/-- The three fields of one precooled category (R73). -/
structure CategoryRow where
  target    : Int
  bound     : Int
  threshold : Nat
  deriving DecidableEq, Repr

/-- The precool table (R72, R73). -/
structure PrecoolTable where
  row0 : ChillerRow
  c40  : CategoryRow
  c30  : CategoryRow
  c20  : CategoryRow
  deriving DecidableEq, Repr

/-- A position row (R106). -/
structure PosRow where
  pclass     : PClass
  required   : Category
  fallback   : Option Category
  volClass   : Nat
  vehicleComm : Bool
  autoReRate : Bool
  maxFill    : Nat
  pulseWeight : Nat
  maxDelta   : Nat
  wakeEnable : Bool
  afterRun   : Nat
  ventTarget : Nat
  ventLimit  : Nat
  deriving DecidableEq, Repr

/-- One cell of a fill table (R93). -/
structure Cell where
  aprr : Nat
  pEnd : Nat
  deriving DecidableEq, Repr

/-- The class parameters, row 1 of a fill table (R92). -/
structure FillParams where
  socLimit    : Nat
  tankTempMax : Nat
  pulseTime   : Nat
  leakTime    : Nat
  leakLimit   : Nat
  switchDiff  : Nat
  lowerBand   : Nat
  upperBand   : Nat
  abortBand   : Nat
  maxFillTime : Nat
  pauseLimit  : Nat
  precoolWait : Nat
  bankWait    : Nat
  nonCommCap  : Nat
  minStart    : Nat
  vehTimeout  : Nat
  mismatchTol : Nat
  mismatchTime : Nat
  deriving DecidableEq, Repr

/-- A fill table: edges (R91), parameters (R92) and the 96 cell rows of five cells (R93). -/
structure FillTable where
  volEdges : List Int
  ambEdges : List Int
  p0Edges  : List Int
  params   : FillParams
  cells    : List (List Cell)
  deriving DecidableEq, Repr

/-- The tariff table (R153): row 0, then the prices of classes 0 to 3 by band. -/
structure Tariff where
  bands    : List Nat
  rollover : Nat
  minCap   : Nat
  prices   : List (List Nat)
  deriving DecidableEq, Repr

/-- A table with its active copy, shadow copy and generation (11_the_station_ring.md, "Tables"). -/
structure Copy (α : Type) where
  active : α
  shadow : α
  gen    : Nat
  deriving DecidableEq, Repr

/-- The held older generation of a fill table (R97). -/
structure OlderGen where
  gen     : Nat
  table   : FillTable
  holders : Nat
  deriving DecidableEq, Repr

/-- A fill table with its holder count and at most one held older generation (R97). -/
structure FillCopy where
  copy    : Copy FillTable
  holders : Nat
  older   : Option OlderGen
  deriving DecidableEq, Repr

/-- The nine tables (00_scope.md, "Tables"). -/
structure Tables where
  nodeMap    : Copy (List (Option NodeRow))
  station    : Copy StationRow
  bank       : Copy BankTable
  compressor : Copy CmpRow
  precool    : Copy PrecoolTable
  position   : Copy (PerPos PosRow)
  fillH35    : FillCopy
  fillH70    : FillCopy
  tariff     : Copy Tariff
  deriving DecidableEq, Repr

/-! ### Default copies -/

/-- R199, the defaults. -/
def StationRow.dflt : StationRow := ⟨1, 200, 20, 2000, 6000, 6000, 1800, 900, false⟩

/-- R32, an unconfigured row reads back as zeros. -/
def BankRow.dflt : BankRow := ⟨false, 0, 0, 0, 0, 0⟩

/-- R32, four unconfigured rows and two empty sequences. -/
def BankTable.dflt : BankTable := ⟨.all .dflt, [], []⟩

/-- R52, the unfitted row. -/
def CmpRow.dflt : CmpRow := ⟨false, 0, 0, 0, 0, 0, 0, 0, [], 0⟩

/-- R72, the defaults of row 0. -/
def ChillerRow.dflt : ChillerRow := ⟨false, 0, 0, 0, 143, 1914, 0, 0, 0, 0, 0, 1⟩

/-- R73, the defaults of row 1. -/
def PrecoolTable.dflt : PrecoolTable :=
  ⟨.dflt, ⟨-400, -330, 0⟩, ⟨-300, -260, 0⟩, ⟨-200, -170, 0⟩⟩

/-- R106, the defaults. -/
def PosRow.dflt : PosRow := ⟨.h35, .c00, none, 0, false, false, 1, 0, 1, false, 0, 0, 60⟩

/-- R92, the defaults; the non-communicating cap is 3500 in table 7 and 7000 in table 8. -/
def FillParams.dflt : PClass → FillParams
  | .h35 => ⟨980, 850, 3, 5, 50, 300, 100, 100, 700, 1200, 60, 300, 120, 3500, 50, 50, 500, 5⟩
  | .h70 => ⟨980, 850, 3, 5, 50, 300, 100, 100, 700, 1200, 60, 300, 120, 7000, 50, 50, 500, 5⟩

/-- R90, the default row 1 and zeros in every other row. -/
def FillTable.dflt (k : PClass) : FillTable :=
  ⟨[0, 0, 0], [0, 0, 0, 0, 0], [0, 0, 0, 0], .dflt k, List.replicate 96 (List.replicate 5 ⟨0, 0⟩)⟩

/-- R153, the defaults. -/
def Tariff.dflt : Tariff :=
  ⟨[0, 180, 360, 540, 720, 900, 1080, 1260], 0, 100, List.replicate 4 (List.replicate 8 1)⟩

/-- A table that has never been committed: its default, generation 0. -/
def Copy.fresh {α : Type} (x : α) : Copy α := ⟨x, x, 0⟩

/-- Every table at its default (R207). -/
def Tables.dflt : Tables where
  nodeMap := .fresh (List.replicate Config.nodeRows none)
  station := .fresh .dflt
  bank := .fresh .dflt
  compressor := .fresh .dflt
  precool := .fresh .dflt
  position := .fresh (.all .dflt)
  fillH35 := ⟨.fresh (.dflt .h35), 0, none⟩
  fillH70 := ⟨.fresh (.dflt .h70), 0, none⟩
  tariff := .fresh .dflt

/-! ## Ring interface -/

/-- The three actuate commands (R184). -/
inductive ActCommand where
  | close | open | set
  deriving DecidableEq, Repr

/-- An entry of the command queue (R190). -/
structure CmdEntry where
  role    : Role
  command : ActCommand
  value   : Nat
  deriving DecidableEq, Repr

/-- A reply that waits (R185, R191). -/
structure Reply where
  dest    : Nat
  code    : Nat
  tag     : Nat
  status  : Nat
  data    : List Byte
  restart : Bool
  deriving DecidableEq, Repr

/-- A notice that waits (R185, R191). -/
structure Notice where
  dest    : Nat
  code    : Nat
  subject : Nat
  data    : List Byte
  deriving DecidableEq, Repr

/-- The frame RING-OUT is sending; `restart` marks the OK reply to RESTART (R205). -/
structure OutFrame where
  bytes   : List Byte
  restart : Bool
  deriving DecidableEq, Repr

/-- RIF (R182 to R198). -/
structure Rif where
  ownAddress       : Nat
  transit          : List (List Byte)
  commands         : List CmdEntry
  replies          : List Reply
  reserved         : Nat
  notices          : List Notice
  ringOut          : Option OutFrame
  runCount         : Nat
  checkErrors      : Nat
  formatErrors     : Nat
  transitOverflows : Nat
  requestDiscards  : Nat
  overrun          : Bool
  tripTaken        : Bool
  deriving DecidableEq, Repr

/-! ## Bank manager -/

/-- Bank state with its holder (R36). -/
inductive BankState where
  | unconfigured
  | available
  | claimedPos (p : Pos)
  | claimedCmp
  | isolated
  deriving DecidableEq, Repr

/-- An open session (R44). -/
structure Session where
  holder    : Holder
  invOpen   : Nat
  openValid : Bool
  metered   : Nat
  openTime  : Option Nat
  deriving DecidableEq, Repr

/-- The last session of a bank (R46). -/
inductive LastSession where
  | draw (p : Pos) (o : DrawOutcome) (figures : Option (Int × Nat))
  | refill (gain : Option Int)
  deriving DecidableEq, Repr

/-- A bank record (R36). -/
structure BankRec where
  state     : BankState
  waiters   : List Pos
  inventory : Nat
  invValid  : Bool
  cause     : Option IsoCause
  session   : Option Session
  last      : Option LastSession
  deriving DecidableEq, Repr

/-! ## Compressor controller -/

/-- Compressor states (R54). -/
inductive CmpState where
  | stopped | priming | unloaded | loaded | cooldown | lockout
  deriving DecidableEq, Repr

/-- Destination while LOADED (R54). -/
inductive CmpDest where
  | refill (b : Bank)
  | direct (p : Pos)
  deriving DecidableEq, Repr

/-- Reason of a held episode (R56, R57). -/
inductive HeldReason where
  | supply | signal | startLimit
  deriving DecidableEq, Repr

/-- The volatile part of the compressor record (R54). -/
structure Cmp where
  state      : CmpState
  dest       : Option CmpDest
  holder     : Option (Pos × Option Nat)
  waiters    : List Pos
  startedAt  : Option Nat
  primeTimer : Option Nat
  offTimer   : Option Nat
  supplyLow  : Bool
  refillWant : Bool
  held       : Option HeldReason
  cause      : Option LockCause
  deriving DecidableEq, Repr

/-! ## Precool controller -/

/-- Chiller states (R75). -/
inductive ChillerState where
  | parked | pulldown | ready | fault
  deriving DecidableEq, Repr

/-- Chiller fault cause (R75). -/
inductive ChillerCause where
  | level | signal
  deriving DecidableEq, Repr

/-- Monitor phases (R85). -/
inductive MonPhase where
  | idle | settling | armed | asked
  deriving DecidableEq, Repr

/-- A category monitor (R85). -/
structure Monitor where
  phase     : MonPhase
  category  : Option Category
  settle    : Option Nat
  excursion : Option Nat
  deriving DecidableEq, Repr

/-- PCL (R75, R82, R84, R85). -/
structure Pcl where
  state      : ChillerState
  reserve    : Nat
  stabilised : Bool
  stabTimer  : Option Nat
  parkTimer  : Option Nat
  cause      : Option ChillerCause
  demand     : PerPos (Option Category)
  source     : PerPos (Option Source)
  pending    : PerPos (Option Category)
  monitor    : PerPos Monitor
  deriving DecidableEq, Repr

/-! ## Fill engine -/

/-- Position states (R108). -/
inductive PState where
  | closed | idle | lifted | authorised | pulse | leakCheck | precoolWait | main | bankWait | paused
  | ending | venting | hangUp | fault
  deriving DecidableEq, Repr

/-- Cause of a position fault (R131, R130). -/
inductive FaultCause where
  | isolate | meter | flow | ceiling | vent
  deriving DecidableEq, Repr

/-- Fill identity (R108, R111). -/
structure FillId where
  txn      : Nat
  kind     : TenderKind
  cap      : Nat
  gen      : Nat
  authTime : Option Nat
  deriving DecidableEq, Repr

/-- Selection record and the two values set from the cell (R100, R101). -/
structure Selection where
  volClass    : Nat
  fromVehicle : Bool
  ambBand     : Nat
  p0Band      : Nat
  aprr        : Nat
  pEnd        : Nat
  deriving DecidableEq, Repr

/-- The stage a grant in BANK-WAIT leads to (R108). -/
inductive WaitStage where
  | pulse | main
  deriving DecidableEq, Repr

/-- The stage to resume from PAUSED (R123). -/
inductive ResumeStage where
  | pulse | leakCheck | main
  deriving DecidableEq, Repr

/-- The ten timers of a position context, in 0.1 s ticks left (R108). -/
structure PosTimers where
  fill     : Option Nat
  pulse    : Option Nat
  leak     : Option Nat
  precool  : Option Nat
  bankWait : Option Nat
  pause    : Option Nat
  vehicle  : Option Nat
  mismatch : Option Nat
  afterRun : Option Nat
  vent     : Option Nat
  deriving DecidableEq, Repr

/-- A position context (R108). `reAnchor` (the next entry into MAIN anchors the ramp: R119, R123),
`fellBack` (the fill has made its fallback lookup: R102) and `leakRef` (R117) are state these rules
imply. -/
structure Ctx where
  state      : PState
  opened     : Bool
  faultMark  : Bool
  faultCause : Option FaultCause
  fill       : Option FillId
  category   : Category
  reRates    : Nat
  selection  : Option Selection
  p0         : Option Int
  source     : Option Source
  waitOn     : Option Source
  waitStage  : WaitStage
  anchor     : Int
  tau        : Nat
  target     : Option Int
  opening    : Nat
  halt       : Bool
  signal     : Bool
  resume     : ResumeStage
  link       : Link
  consistent : Nat
  soc        : Option Nat
  timers     : PosTimers
  outcomes   : List (Bank × DrawOutcome)
  mismatchMark  : Bool
  uncheckedMark : Bool
  uncertainMark : Bool
  endReason  : Option EndReason
  endTime    : Option Nat
  awaited    : List Bank
  leakRef    : Int
  reAnchor   : Bool
  fellBack   : Bool
  deriving DecidableEq, Repr

/-! ## Metering unit -/

/-- A meter context without its totaliser (R136). -/
structure MeterCtx where
  baseline  : Option Nat
  fault     : Bool
  isOpen    : Bool
  fill      : Nat
  banks     : PerBank Nat
  cmp       : Nat
  unattr    : Nat
  afterRun  : Nat
  uncertain : Bool
  outMass   : Nat
  outNotice : Bool
  deriving DecidableEq, Repr

/-! ## Billing unit -/

/-- A filled tender context (R156). -/
structure TenderCtx where
  txn        : Nat
  kind       : TenderKind
  reference  : Nat
  node       : Nat
  account    : Nat
  authorised : Nat
  band       : Nat
  cls        : Nat
  price      : Nat
  cap        : Nat
  hold       : Nat
  start      : Option Nat
  timeUnset  : Bool
  deriving DecidableEq, Repr

/-- A hold of an account: {position, amount} (R163). -/
structure Hold where
  pos    : Pos
  amount : Nat
  deriving DecidableEq, Repr

/-- A fleet account (R163). -/
structure Account where
  id        : Nat
  blocked   : Bool
  cls       : Nat
  balance   : Nat
  holds     : List Hold
  allowance : Nat
  used      : Nat
  deriving DecidableEq, Repr

/-! ## Transaction queue -/

/-- A fill snapshot (R173). -/
structure Snapshot where
  txn       : Nat
  kind      : TenderKind
  reference : Nat
  node      : Nat
  account   : Nat
  price     : Nat
  start     : Option Nat
  timeUnset : Bool
  cap       : Nat
  fill      : Nat
  afterRun  : Nat
  unattr    : Nat
  deriving DecidableEq, Repr

/-- A transaction record (R174); the flags are R175's. -/
structure TxnRecord where
  txn        : Nat
  pos        : Pos
  pclass     : PClass
  kind       : TenderKind
  reference  : Nat
  account    : Nat
  start      : Nat
  endTime    : Nat
  required   : Category
  final      : Category
  reRates    : Nat
  link       : Link
  fillMass   : Nat
  billed     : Nat
  afterRun   : Nat
  unattr     : Nat
  price      : Nat
  amount     : Nat
  reason     : Option EndReason
  interrupted : Bool
  mismatch   : Bool
  unchecked  : Bool
  timeUnset  : Bool
  uncertain  : Bool
  deriving DecidableEq, Repr

/-! ## Station mode controller -/

/-- Station modes, in the order of the table of R201. -/
inductive Mode where
  | configuring | parked | quiet | run | trip
  deriving DecidableEq, Repr

/-- The set trip latch: first cause and the station-clock time of the trip (R201, R204). -/
structure TripInfo where
  cause : TripCause
  time  : Option Nat
  deriving DecidableEq, Repr

/-- Restart cause flags (R205). -/
structure CauseFlags where
  power         : Bool
  supplyDip     : Bool
  command       : Bool
  tripAtRestart : Bool
  retainLost    : Bool
  deriving DecidableEq, Repr

/-- SMC's volatile state (R201) and the reset the supply monitor holds (R205). -/
structure Smc where
  mode      : Mode
  latch     : Option TripInfo
  further   : Nat
  idleTimer : Option Nat
  parkTimer : Option Nat
  inReset   : Bool
  deriving DecidableEq, Repr

/-- The retained domain other than the tables (00_scope.md, "The retained domain"). -/
structure Retained where
  accounts   : List (Option Account)
  heldDay    : Option Int
  records    : List TxnRecord
  reserved   : PerPos Bool
  snapshots  : PerPos (Option Snapshot)
  txnCounter : Nat
  totaliser  : PerPos Nat
  history    : List Nat
  flags      : CauseFlags
  lastTrip   : Option TripCause
  clock      : Option Nat
  runSeconds : Nat
  deriving DecidableEq, Repr

/-- The hard lines (00_scope.md, "Hard lines"): the straps as the part read them last, the trip
loop input, and the master isolation output. -/
structure Pins where
  straps          : Fin 8
  loopOpen        : Bool
  masterIsolation : Bool
  deriving DecidableEq, Repr

/-- The state of the part. `mail` holds the messages between blocks that are in flight, oldest
first (DESIGN CHOICE, assumption log 1); `ticks` is the phase of the 0.1 s time base within the
second; `bkmBq` is the B_q that BKM has taken, the active one but for a change it has still to take (R24);
`bankWaitOrder` lists the positions in BANK-WAIT by their entry, earliest first (R115). -/
structure State where
  tables        : Tables
  ret           : Retained
  rif           : Rif
  sig           : List (Role × SigRec)
  bkm           : PerBank BankRec
  bkmBq         : Nat
  cmp           : Cmp
  pcl           : Pcl
  fil           : PerPos Ctx
  bankWaitOrder : List Pos
  mtr           : PerPos MeterCtx
  bil           : PerPos (Option TenderCtx)
  smc           : Smc
  pins          : Pins
  ticks         : Nat
  mail          : List Instr
  pending       : List Instr
  deriving DecidableEq, Repr

/-! ## Outcomes -/

/-- Faults. There are none: every rule of the spec that turns a command away gives it a reply, a
notice or no effect, and the part goes on, so no command stops the machine. -/
inductive Fault where
  deriving DecidableEq, Repr

/-- Refusals. -/
inductive Refusal where
  /-- Raised only by an arm of `exec` whose row has no meaning yet; safe. No arm raises it now. -/
  | notModelled (mnemonic : String)
  deriving DecidableEq, Repr

/-- What a step of this machine answers. -/
abbrev Outcome := Host.Outcome State Fault Refusal

/-! ## Blocks at their start (R198, R37, R71, R89, R135, R136, R156) -/

def Rif.start (own : Nat) : Rif := ⟨own, [], [], [], 0, [], none, 0, 0, 0, 0, 0, false, false⟩

def BankRec.start (configured : Bool) : BankRec :=
  ⟨if configured then .available else .unconfigured, [], 0, false, none, none, none⟩

def Cmp.start : Cmp := ⟨.stopped, none, none, [], none, none, none, false, false, none, none⟩

def Monitor.start : Monitor := ⟨.idle, none, none, none⟩

def Pcl.start : Pcl :=
  ⟨.parked, 0, false, none, none, none, .all none, .all none, .all none, .all .start⟩

def PosTimers.stopped : PosTimers := ⟨none, none, none, none, none, none, none, none, none, none⟩

def Ctx.start : Ctx where
  state := .closed
  opened := false
  faultMark := false
  faultCause := none
  fill := none
  category := .c00
  reRates := 0
  selection := none
  p0 := none
  source := none
  waitOn := none
  waitStage := .pulse
  anchor := 0
  tau := 0
  target := none
  opening := 0
  halt := false
  signal := false
  resume := .pulse
  link := .none
  consistent := 0
  soc := none
  timers := .stopped
  outcomes := []
  mismatchMark := false
  uncheckedMark := false
  uncertainMark := false
  endReason := none
  endTime := none
  awaited := []
  leakRef := 0
  reAnchor := true
  fellBack := false

def MeterCtx.start : MeterCtx := ⟨none, false, false, 0, .all 0, 0, 0, 0, false, 0, false⟩

def Retained.empty : Retained where
  accounts := List.replicate Config.accountSlots none
  heldDay := none
  records := []
  reserved := .all false
  snapshots := .all none
  txnCounter := 0
  totaliser := .all 0
  history := []
  flags := ⟨false, false, false, false, false⟩
  lastTrip := none
  clock := none
  runSeconds := 0

/-- The part right after its first restart: power on, backup domain not held (R207, R200), straps
0 and the trip loop closed (assumption log 2). -/
def State.reset : State where
  tables := .dflt
  ret := { Retained.empty with flags := ⟨true, false, false, false, true⟩ }
  rif := .start 240
  sig := []
  bkm := .all (.start false)
  bkmBq := 1914
  cmp := .start
  pcl := .start
  fil := .all .start
  bankWaitOrder := []
  mtr := .all .start
  bil := .all none
  smc := ⟨.configuring, none, 0, none, none, false⟩
  pins := ⟨0, false, false⟩
  ticks := 0
  mail := []
  pending := []

end Sys2Proof.Machine
end

