-- ==== Sys2Proof/Machine/Flags.lean ====
section
/-! DEFINITION. The tests and small figures every block uses: kinds and ranges of roles (R2),
usable qualities (R7), limit regions (R12), classes of position states (R108), the bands of a list
of edges (R96), and figures held in a stated width. -/

namespace Sys2Proof

/-! ## Roles, qualities and categories (R2, R7, R11; 00_scope.md, "Identifiers") -/

/-- R2, the column "Kind". -/
def Role.kind : Role → RoleKind
  | .nozzlePressure _ | .outletTemp _ | .bankPressure _ | .bankTemp _ | .suctionPressure
  | .dischargePressure | .dischargeTemp | .ambientTemp => .analogue
  | .meter _ => .count
  | .holster _ | .coupled _ | .compressorRunning | .chillerFault | .gasDetect => .digital
  | .vehicle _ => .vehicle
  | .tenderSource _ => .tenderSource
  | .dispenseValve _ | .ventValve _ | .controlValve _ | .bankValve _ _ | .compressorDrive
  | .chillerDrive => .actuator

/-- The analogue, count, digital and vehicle-data roles (R2). -/
def RoleKind.isInput : RoleKind → Bool
  | .analogue | .count | .digital | .vehicle => true
  | .tenderSource | .actuator => false

def Role.isActuator (r : Role) : Bool := Role.kind r == .actuator

/-- R2, the column "Value range": lower and upper end of an analogue role. -/
def Role.range : Role → Int × Int
  | .nozzlePressure _ | .bankPressure _ | .suctionPressure | .dischargePressure => (0, 10000)
  | .outletTemp _ | .bankTemp _ | .dischargeTemp | .ambientTemp => (-600, 1000)
  | .meter _ => (0, 65535)
  | _ => (0, 0)

/-- R15, the level a record starts with. -/
def Role.restLevel : Role → Bool
  | .holster _ => true
  | _ => false

/-- R11, the table. -/
def Role.isolateTo : Role → IsolateTo
  | .nozzlePressure p | .outletTemp p | .meter p | .holster p | .coupled p => .position p
  | .bankPressure b | .bankTemp b => .bank b
  | .suctionPressure | .dischargePressure | .dischargeTemp | .compressorRunning => .compressor
  | .chillerFault => .chiller
  | _ => .nobody

/-- GOOD and UNCERTAIN are the usable qualities (R7). -/
def Quality.usable : Quality → Bool
  | .good | .uncertain => true
  | .absent | .bad | .stale => false

/-- R9: the stale action is taken on passing from ABSENT, GOOD or UNCERTAIN into BAD or STALE. -/
def Quality.takesStaleAction : Quality → Bool
  | .absent | .good | .uncertain => true
  | .bad | .stale => false

/-- R8: frame quality codes 0 GOOD, 1 UNCERTAIN, 2 BAD; any other code is taken as BAD. -/
def Quality.ofCode : Nat → Quality
  | 0 => .good
  | 1 => .uncertain
  | _ => .bad

/-- The role of a bank signal. -/
def BankSignal.role (b : Bank) : BankSignal → Role
  | .pressure => .bankPressure b
  | .temp => .bankTemp b

/-- R12: a value equal to a limit is INSIDE. -/
def Region.of (low high v : Int) : Region :=
  if high < v then .high else if v < low then .low else .inside

/-- R12: a crossing is any change of region into HIGH or LOW. -/
def Region.crossing (before after : Region) : Bool := before != after && after != .inside

/-- R12: a return is a change from HIGH or LOW to INSIDE. -/
def Region.returning (before after : Region) : Bool := before != after && after == .inside

/-- Coldest to warmest (00_scope.md, "Identifiers"). -/
def Category.rank : Category → Nat
  | .c40 => 0
  | .c30 => 1
  | .c20 => 2
  | .c00 => 3

/-- `b` is warmer than `a`. -/
def Category.warmer (a b : Category) : Bool := decide (a.rank < b.rank)

/-- The categories warmer than one, coldest first. -/
def Category.warmerThan : Category → List Category
  | .c40 => [.c30, .c20, .c00]
  | .c30 => [.c20, .c00]
  | .c20 => [.c00]
  | .c00 => []

end Sys2Proof

namespace Sys2Proof.Machine

open Sys2Proof

/-! ## Position states (R108) -/

/-- The six running states. -/
def PState.running : PState → Bool
  | .pulse | .leakCheck | .precoolWait | .main | .bankWait | .paused => true
  | _ => false

/-- AUTHORISED and the running states: the states an end condition ends (R128). -/
def PState.endable (st : PState) : Bool := st == .authorised || st.running

/-- A fill is in progress from entry into AUTHORISED until the position leaves ENDING (R108). -/
def PState.inProgress (st : PState) : Bool := st.endable || st == .ending

/-- The states from AUTHORISED to VENTING (R203). -/
def PState.descentSpan (st : PState) : Bool := st.inProgress || st == .venting

/-- The states from AUTHORISED to HANG-UP (R5, R107). -/
def PState.busySpan (st : PState) : Bool := st.descentSpan || st == .hangUp

/-- The collecting states of R141. -/
def PState.collecting (st : PState) : Bool := st.running || st == .ending

/-! ## Bands (R96) -/

/-- R96: the number of edges, taken from the first, that are at or below the value. -/
def bandOf : List Int → Int → Nat
  | [], _ => 0
  | e :: es, v => if e ≤ v then bandOf es v + 1 else 0

/-- Strictly ascending (R94, R154). -/
def ascending : List Int → Bool
  | a :: b :: rest => decide (a < b) && ascending (b :: rest)
  | _ => true

/-! ## Figures held in a stated width -/

/-- A 32-bit unsigned figure: exact while it fits, a free value beyond (assumption log 3). -/
def hold32 (n : Nat) : Nat := if n < 2 ^ 32 then n else (Config.overflow32 n).toNat

/-- A 64-bit unsigned figure: exact while it fits, a free value beyond (assumption log 3). -/
def hold64 (n : Nat) : Nat := if n < 2 ^ 64 then n else (Config.overflow64 n).toNat

/-- The generation after a taken commit: after 65535 it returns to 1 (R97, R196). -/
def nextGen (g : Nat) : Nat := if 65535 ≤ g then 1 else g + 1

/-- The transaction number after `n`: after 4,294,967,295 it returns to 1 (R172). -/
def nextTxn (n : Nat) : Nat := if 4294967295 ≤ n then 1 else n + 1

/-- A timer started with a duration in 0.1 s ticks. -/
def startTimer (ticks : Nat) : Option Nat := some ticks

/-- A timer started with a duration in whole seconds. -/
def startSeconds (s : Nat) : Option Nat := some (10 * s)

/-- One tick of the 0.1 s time base at a timer. -/
def tickTimer : Option Nat → Option Nat
  | none => none
  | some n => some (n - 1)

/-- A running timer with no time left: its expiry is due. -/
def timerDue (t : Option Nat) : Bool := t == some 0

/-! ## Modes -/

/-- QUIET or RUN. -/
def Mode.active : Mode → Bool
  | .quiet | .run => true
  | _ => false

/-- R201: master isolation is energised in PARKED, QUIET and RUN. -/
def Mode.energises : Mode → Bool
  | .parked | .quiet | .run => true
  | .configuring | .trip => false

/-- R109: QUIET allows a required category of C00 only, RUN every category, the others none. -/
def Mode.allows (m : Mode) (required : Category) : Bool :=
  match m with
  | .run => true
  | .quiet => required == .c00
  | _ => false

end Sys2Proof.Machine
end

