-- ==== Sys2Proof/Machine/Density.lean ====
section
/-! DEFINITION. The integer evaluation of the density law and the figures made from it
(02_density_and_inventory_arithmetic.md, R20 to R30). -/

namespace Sys2Proof.Machine

open Sys2Proof

/-- R20: p clamped to 0 to 10000. -/
def densityP (p : Int) : Nat := (clampInt 0 10000 p).toNat

/-- R20: c clamped to -600 to +1000, then t = c + 2732 in 0.1 K. -/
def kelvin (c : Int) : Nat := (clampInt (-600) 1000 c + 2732).toNat

/-- R21: the denominator, in mK. -/
def densityD (bq : Nat) (p c : Int) : Nat := 100 * kelvin c + bq * densityP p / 100

/-- R22: the density in mg/L. -/
def density (bq : Nat) (p c : Int) : Nat := Config.densityK * densityP p / densityD bq p c

/-- R25: the inventory in grams of a bank of `volume` litres. -/
def inventoryOf (bq volume : Nat) (p c : Int) : Nat := density bq p c * volume / 1000

/-- R29: the reference density of a class, at 15.0 °C. -/
def refDensity (bq : Nat) (k : PClass) : Nat := density bq (Config.nominal k) 150

/-- R30: the state of charge in per mille, clamped to 0 to 1200. -/
def stateOfCharge (bq : Nat) (k : PClass) (p c : Int) : Nat :=
  clampNat 1200 (density bq p c * 1000 / refDensity bq k)

/-- R82: the cold an increment consumes, in joules; a target at or above the source costs nothing. -/
def coldJoules (mg cp : Nat) (source target : Int) : Nat :=
  mg * cp * (kelvin source - (target + 2732).toNat) / 100000

/-- R160: the amount of a mass at a price, rounded half up. -/
def amountOf (g price : Nat) : Nat := (g * price + 50000) / 100000

/-- R105: the ramp target, clamped to P_end_used. -/
def rampTarget (anchor : Int) (aprr tau : Nat) (pEnd : Nat) : Int :=
  min (anchor + (aprr * tau / 600 : Nat)) pEnd

end Sys2Proof.Machine
end

