-- ==== Sys2Proof/Machine/Operands.lean ====
section
/-! DEFINITION. The one encoding of fields (R183): widths from ranges, high byte first, signed in
two's complement; the codes of enumerations, unit indices and optional fields; the layouts of the
observed payloads (R184); and the frame check (R182). -/

namespace Sys2Proof

/-! ## Unit indices and enumerations (R183, R186) -/

def Pos.num : Pos → Nat
  | .p1 => 1
  | .p2 => 2
  | .p3 => 3
  | .p4 => 4

def Bank.num : Bank → Nat
  | .b1 => 1
  | .b2 => 2
  | .b3 => 3
  | .b4 => 4

/-- Positions outside P1 to P4 have no meaning. -/
def Pos.ofNum : Nat → Option Pos
  | 1 => some .p1
  | 2 => some .p2
  | 3 => some .p3
  | 4 => some .p4
  | _ => none

def Bank.ofNum : Nat → Option Bank
  | 1 => some .b1
  | 2 => some .b2
  | 3 => some .b3
  | 4 => some .b4
  | _ => none

def ValveEnd.num : ValveEnd → Nat
  | .pos p => Pos.num p
  | .compressor => 5

def ValveEnd.ofNum (n : Nat) : Option ValveEnd :=
  if n = 5 then some .compressor else (Pos.ofNum n).map .pos

def Source.num : Source → Nat
  | .bank b => Bank.num b
  | .compressor => 5

def Source.ofNum (n : Nat) : Option Source :=
  if n = 5 then some .compressor else (Bank.ofNum n).map .bank

/-- The role's place in the table of R2, then its unit index and its second index. -/
def Role.code : Role → Nat × Nat × Nat
  | .nozzlePressure p => (0, Pos.num p, 0)
  | .outletTemp p => (1, Pos.num p, 0)
  | .meter p => (2, Pos.num p, 0)
  | .holster p => (3, Pos.num p, 0)
  | .coupled p => (4, Pos.num p, 0)
  | .vehicle p => (5, Pos.num p, 0)
  | .tenderSource p => (6, Pos.num p, 0)
  | .dispenseValve p => (7, Pos.num p, 0)
  | .ventValve p => (8, Pos.num p, 0)
  | .controlValve p => (9, Pos.num p, 0)
  | .bankPressure b => (10, Bank.num b, 0)
  | .bankTemp b => (11, Bank.num b, 0)
  | .bankValve b d => (12, Bank.num b, ValveEnd.num d)
  | .suctionPressure => (13, 0, 0)
  | .dischargePressure => (14, 0, 0)
  | .dischargeTemp => (15, 0, 0)
  | .compressorRunning => (16, 0, 0)
  | .compressorDrive => (17, 0, 0)
  | .chillerFault => (18, 0, 0)
  | .chillerDrive => (19, 0, 0)
  | .ambientTemp => (20, 0, 0)
  | .gasDetect => (21, 0, 0)

/-- A position role from its unit index; it takes no second index. -/
def posRole (f : Pos → Role) (unit second : Nat) : Option Role :=
  if second = 0 then (Pos.ofNum unit).map f else none

/-- A bank role from its unit index; it takes no second index. -/
def bankRole (f : Bank → Role) (unit second : Nat) : Option Role :=
  if second = 0 then (Bank.ofNum unit).map f else none

/-- A role that takes no index. -/
def plainRole (r : Role) (unit second : Nat) : Option Role :=
  if unit = 0 ∧ second = 0 then some r else none

/-- R2: the role with its indices, or none where they do not match. -/
def Role.ofCode (role unit second : Nat) : Option Role :=
  match role with
  | 0 => posRole .nozzlePressure unit second
  | 1 => posRole .outletTemp unit second
  | 2 => posRole .meter unit second
  | 3 => posRole .holster unit second
  | 4 => posRole .coupled unit second
  | 5 => posRole .vehicle unit second
  | 6 => posRole .tenderSource unit second
  | 7 => posRole .dispenseValve unit second
  | 8 => posRole .ventValve unit second
  | 9 => posRole .controlValve unit second
  | 10 => bankRole .bankPressure unit second
  | 11 => bankRole .bankTemp unit second
  | 12 =>
    match Bank.ofNum unit, ValveEnd.ofNum second with
    | some b, some d => some (.bankValve b d)
    | _, _ => none
  | 13 => plainRole .suctionPressure unit second
  | 14 => plainRole .dischargePressure unit second
  | 15 => plainRole .dischargeTemp unit second
  | 16 => plainRole .compressorRunning unit second
  | 17 => plainRole .compressorDrive unit second
  | 18 => plainRole .chillerFault unit second
  | 19 => plainRole .chillerDrive unit second
  | 20 => plainRole .ambientTemp unit second
  | 21 => plainRole .gasDetect unit second
  | _ => none

def PClass.num : PClass → Nat
  | .h35 => 0
  | .h70 => 1

def PClass.ofNum : Nat → Option PClass
  | 0 => some .h35
  | 1 => some .h70
  | _ => none

def Category.ofNum : Nat → Option Category
  | 0 => some .c40
  | 1 => some .c30
  | 2 => some .c20
  | 3 => some .c00
  | _ => none

def Quality.num : Quality → Nat
  | .absent => 0
  | .good => 1
  | .uncertain => 2
  | .bad => 3
  | .stale => 4

def Region.num : Region → Nat
  | .inside => 0
  | .high => 1
  | .low => 2

def TenderKind.num : TenderKind → Nat
  | .card => 0
  | .fleet => 1

def TenderKind.ofNum : Nat → Option TenderKind
  | 0 => some .card
  | 1 => some .fleet
  | _ => none

/-- The link outcomes of R186: 0 NONE, 1 ESTABLISHED, 2 DROPPED; PENDING is carried as NONE (R124). -/
def Link.outcomeNum : Link → Nat
  | .none | .pending => 0
  | .established => 1
  | .dropped => 2

/-- The link as the position context lists it (R108). -/
def Link.num : Link → Nat
  | .none => 0
  | .pending => 1
  | .established => 2
  | .dropped => 3

/-- R186: 1 to 20 in the order of R127. -/
def EndReason.num : EndReason → Nat
  | .overpressure => 1
  | .tripped => 2
  | .signalLost => 3
  | .meterFault => 4
  | .overtemp => 5
  | .disconnected => 6
  | .vehicleStop => 7
  | .supervisorStop => 8
  | .massCap => 9
  | .completeSoc => 10
  | .completePressure => 11
  | .rampExceeded => 12
  | .timeLimit => 13
  | .pauseTimeout => 14
  | .banksExhausted => 15
  | .startPressure => 16
  | .leak => 17
  | .notPermitted => 18
  | .precoolUnavailable => 19
  | .precoolLost => 20

def IsoCause.num : IsoCause → Nat
  | .overpressure => 0
  | .signal => 1
  | .request => 2

def LockCause.num : LockCause → Nat
  | .prime => 0
  | .feedback => 1
  | .overheat => 2
  | .signal => 3
  | .trip => 4

/-- R204, the table of causes. -/
def TripCause.num : TripCause → Nat
  | .loop => 0
  | .signal _ => 1
  | .gasDetect => 2
  | .massBalance _ => 3
  | .request => 4
  | .supply => 5

/-- The row or bank a trip cause names (R204). -/
def TripCause.subject : TripCause → Option Nat
  | .signal row => some row
  | .massBalance b => some b.num
  | _ => none

def DrawOutcome.num : DrawOutcome → Nat
  | .balanced => 0
  | .mismatch => 1
  | .unchecked => 2

end Sys2Proof

namespace Sys2Proof.Machine

open Sys2Proof

/-! ## Numbers as bytes -/

/-- The `k` bytes of `n`, high byte first. -/
def beBytes : Nat → Nat → List Byte
  | 0, _ => []
  | k + 1, n => BitVec.ofNat 8 (n / 256 ^ k) :: beBytes k n

/-- The unsigned number of a byte list, high byte first. -/
def natOf (bs : List Byte) : Nat := bs.foldl (fun a b => 256 * a + b.toNat) 0

/-- The two's complement number of a byte list. -/
def intOf (bs : List Byte) : Int :=
  if 2 * natOf bs < 256 ^ bs.length then natOf bs else (natOf bs : Int) - 256 ^ bs.length

/-- The `k` bytes of a signed number in two's complement. -/
def beInt (k : Nat) (x : Int) : List Byte := beBytes k (x % 256 ^ k).toNat

def u1 (n : Nat) : List Byte := beBytes 1 n
def u2 (n : Nat) : List Byte := beBytes 2 n
def u4 (n : Nat) : List Byte := beBytes 4 n
def u8 (n : Nat) : List Byte := beBytes 8 n
def i2 (x : Int) : List Byte := beInt 2 x
def uFlag (b : Bool) : List Byte := u1 (flagNat b)

/-- R183, optional fields: 1 and the field, or 0 and zeros in the field's width. -/
def optField (width : Nat) : Option (List Byte) → List Byte
  | some bs => u1 1 ++ bs
  | none => u1 0 ++ List.replicate width 0

/-- R183, lists: a count byte, the entries, and zeros up to the room of the largest list. -/
def listField (most width : Nat) (entries : List (List Byte)) : List Byte :=
  u1 entries.length ++ entries.flatten ++ List.replicate ((most - entries.length) * width) 0

/-! ## Fields by their range -/

/-- A field with its range; its width follows from the range (R183). -/
structure Field where
  lo : Int
  hi : Int
  deriving DecidableEq, Repr

/-- R183: the smallest of 1, 2, 4 or 8 bytes that holds the range, signed when it has negatives. -/
def Field.width (f : Field) : Nat :=
  if f.lo < 0 then
    if -128 ≤ f.lo ∧ f.hi ≤ 127 then 1
    else if -32768 ≤ f.lo ∧ f.hi ≤ 32767 then 2
    else if -2147483648 ≤ f.lo ∧ f.hi ≤ 2147483647 then 4 else 8
  else if f.hi ≤ 255 then 1 else if f.hi ≤ 65535 then 2 else if f.hi ≤ 4294967295 then 4 else 8

/-- The number of one encoded field. -/
def Field.read (f : Field) (bs : List Byte) : Int := if f.lo < 0 then intOf bs else natOf bs

/-- The bytes of one field. -/
def Field.write (f : Field) (x : Int) : List Byte := beInt f.width x

/-- Reads fields in order; `none` unless the data have exactly their length. -/
def readFields : List Field → List Byte → Option (List Int)
  | [], bs => if bs.isEmpty then some [] else none
  | f :: fs, bs =>
    if bs.length < f.width then none
    else (readFields fs (bs.drop f.width)).map (fun xs => f.read (bs.take f.width) :: xs)

/-- Writes fields in order. -/
def writeFields : List Field → List Int → List Byte
  | f :: fs, x :: xs => f.write x ++ writeFields fs xs
  | _, _ => []

/-- Every field lies in its range. -/
def inRanges : List Field → List Int → Bool
  | f :: fs, x :: xs => decide (f.lo ≤ x) && decide (x ≤ f.hi) && inRanges fs xs
  | [], [] => true
  | _, _ => false

/-- The length of the data a list of fields takes. -/
def fieldsLength (fs : List Field) : Nat := (fs.map Field.width).sum

/-! ## Unit indices and enumerations (R183) -/

/-- A source or none, as a unit index. -/
def sourceNum (o : Option Source) : Nat :=
  match o with
  | some x => Source.num x
  | none => 0

/-- A category or none, none listed last (R106). -/
def categoryNum : Option Category → Nat
  | some c => c.rank
  | none => 4

def StaleAction.num : StaleAction → Nat
  | .hold => 0
  | .isolate => 1
  | .trip => 2

def StaleAction.ofNum : Nat → Option StaleAction
  | 0 => some .hold
  | 1 => some .isolate
  | 2 => some .trip
  | _ => none

def LimitAction.num : LimitAction → Nat
  | .none => 0
  | .note => 1
  | .isolate => 2
  | .trip => 3

def LimitAction.ofNum : Nat → Option LimitAction
  | 0 => some .none
  | 1 => some .note
  | 2 => some .isolate
  | 3 => some .trip
  | _ => Option.none

def EdgeSelect.num : EdgeSelect → Nat
  | .none => 0
  | .rise => 1
  | .fall => 2
  | .both => 3

def EdgeSelect.ofNum : Nat → Option EdgeSelect
  | 0 => some .none
  | 1 => some .rise
  | 2 => some .fall
  | 3 => some .both
  | _ => Option.none

def EdgeAction.num : EdgeAction → Nat
  | .note => 0
  | .isolate => 1
  | .trip => 2

def EdgeAction.ofNum : Nat → Option EdgeAction
  | 0 => some .note
  | 1 => some .isolate
  | 2 => some .trip
  | _ => none

/-- R186: 0 is NONE. -/
def endReasonNum : Option EndReason → Nat
  | some r => r.num
  | none => 0

def PState.num : PState → Nat
  | .closed => 0
  | .idle => 1
  | .lifted => 2
  | .authorised => 3
  | .pulse => 4
  | .leakCheck => 5
  | .precoolWait => 6
  | .main => 7
  | .bankWait => 8
  | .paused => 9
  | .ending => 10
  | .venting => 11
  | .hangUp => 12
  | .fault => 13

def FaultCause.num : FaultCause → Nat
  | .isolate => 0
  | .meter => 1
  | .flow => 2
  | .ceiling => 3
  | .vent => 4

def HeldReason.num : HeldReason → Nat
  | .supply => 0
  | .signal => 1
  | .startLimit => 2

def ChillerCause.num : ChillerCause → Nat
  | .level => 0
  | .signal => 1

def ChillerState.num : ChillerState → Nat
  | .parked => 0
  | .pulldown => 1
  | .ready => 2
  | .fault => 3

def MonPhase.num : MonPhase → Nat
  | .idle => 0
  | .settling => 1
  | .armed => 2
  | .asked => 3

def CmpState.num : CmpState → Nat
  | .stopped => 0
  | .priming => 1
  | .unloaded => 2
  | .loaded => 3
  | .cooldown => 4
  | .lockout => 5

def Mode.num : Mode → Nat
  | .configuring => 0
  | .parked => 1
  | .quiet => 2
  | .run => 3
  | .trip => 4

def ActCommand.num : ActCommand → Nat
  | .close => 0
  | .open => 1
  | .set => 2

/-! ## Statuses (R194) -/

/-- R194. -/
inductive Status where
  | ok | busy | range | state | denied | unknown | table | full | notOldest | funds | notFound
  | duplicate
  deriving DecidableEq, Repr

def Status.num : Status → Nat
  | .ok => 0
  | .busy => 1
  | .range => 2
  | .state => 3
  | .denied => 4
  | .unknown => 5
  | .table => 6
  | .full => 7
  | .notOldest => 8
  | .funds => 9
  | .notFound => 10
  | .duplicate => 11

/-! ## Frames (R182, R184) -/

/-- A frame with a good check: header fields and payload (R182). -/
structure Frame where
  dest    : Nat
  source  : Nat
  kind    : Nat
  payload : List Byte
  deriving DecidableEq, Repr

/-- One bit of the check register: generator x^16 + x^12 + x^5 + 1. -/
def crcBit (r : BitVec 16) : BitVec 16 :=
  if r.msb then (r <<< 1) ^^^ 0x1021#16 else r <<< 1

/-- One byte, most significant bit first. -/
def crcByte (r : BitVec 16) (b : Byte) : BitVec 16 :=
  let x := r ^^^ ((b.zeroExtend 16) <<< 8)
  crcBit (crcBit (crcBit (crcBit (crcBit (crcBit (crcBit (crcBit x)))))))

/-- R182: the register starts at all ones and is sent as it stands. -/
def crc (bs : List Byte) : BitVec 16 := bs.foldl crcByte 0xFFFF#16

/-- R182: header, payload and check of a frame the part originates. -/
def Frame.bytes (f : Frame) : List Byte :=
  let body := u1 f.dest ++ u1 f.source ++ u1 f.kind ++ u1 f.payload.length ++ f.payload
  body ++ u2 (crc body).toNat

/-- R182, R187 step 1: the frame of the bytes that arrived, or none for a check error (a check that
does not match, a length field above 56, or bytes that are not as many as the length field says). -/
def parseFrame (bs : List Byte) : Option Frame :=
  match bs with
  | d :: s :: k :: l :: rest =>
    if 56 < l.toNat ∨ rest.length ≠ l.toNat + 2 then none
    else if natOf (rest.drop l.toNat) = (crc (bs.take (4 + l.toNat))).toNat then
      some ⟨d.toNat, s.toNat, k.toNat, rest.take l.toNat⟩
    else none
  | _ => none

/-- R184: the length of a VEHDATA payload with a presence mask. -/
def vehLength (mask : Byte) : Nat :=
  4 + (if mask.getLsbD 0 then 2 else 0) + (if mask.getLsbD 1 then 1 else 0)
    + (if mask.getLsbD 2 then 2 else 0) + (if mask.getLsbD 3 then 2 else 0)

/-- R183 to R185: the payload has the length its kind requires. Unknown kinds require none. -/
def formatOk (f : Frame) : Bool :=
  match f.kind with
  | 1 => f.payload.length == 6
  | 2 => f.payload.length == 4
  | 3 =>
    match f.payload with
    | _ :: mask :: _ => f.payload.length == vehLength mask
    | _ => false
  | 4 => f.payload.length == 12
  | 5 => f.payload.length == 4
  | 6 => decide (2 ≤ f.payload.length)
  | 7 => decide (3 ≤ f.payload.length)
  | 8 => decide (2 ≤ f.payload.length)
  | _ => true

/-- Takes a field of `k` bytes off the front when `present`. -/
def takeIf (present : Bool) (k : Nat) (bs : List Byte) : Option (List Byte) × List Byte :=
  if present then (some (bs.take k), bs.drop k) else (none, bs)

/-- R184: the fields of a VEHDATA payload that has the right length. -/
def parseVehData (payload : List Byte) : VehData :=
  let mask := payload.getD 1 0
  let vol := takeIf (mask.getLsbD 0) 2 (payload.drop 3)
  let cls := takeIf (mask.getLsbD 1) 1 vol.2
  let prs := takeIf (mask.getLsbD 2) 2 cls.2
  let tmp := takeIf (mask.getLsbD 3) 2 prs.2
  { version := (payload.getD 2 0).toNat
    volume := vol.1.map natOf
    classCode := cls.1.map natOf
    pressure := prs.1.map natOf
    temp := tmp.1.map intOf
    command := natOf (tmp.2.take 1) }

/-- A numbered parameter of `k` bytes at an offset. -/
def param (bs : List Byte) (off k : Nat) : Nat := natOf ((bs.drop off).take k)

end Sys2Proof.Machine
end

