-- ==== Sys2Proof/Machine/Rows.lean ====
section
/-! DEFINITION. The rows of the nine tables: their fields with the ranges the owners' chapters give
(R1 to R3, R32, R33, R52, R72, R73, R90 to R93, R106, R153, R199), read from and written to the
encoding of R183, and the checks of a commit (R4, R34, R53, R74, R94, R107, R154). -/

namespace Sys2Proof.Machine

open Sys2Proof

def flagField : Field := ⟨0, 1⟩

/-- The fields when the data have their exact length and every field is in its range. -/
def checkedFields (fs : List Field) (bs : List Byte) : Option (List Int) :=
  (readFields fs bs).bind (fun xs => if inRanges fs xs then some xs else none)

/-- The fields of a row whose first field is a flag that, when clear, leaves the others unchecked
(R1, R32, R52): `some none` for a row stored as an empty one. -/
def flaggedFields (fs : List Field) (bs : List Byte) : Option (Option (List Int)) :=
  (readFields fs bs).bind fun xs =>
    if xs.head? = some 0 then some none
    else if inRanges fs xs then some (some xs) else none

/-! ## Table 1, node map (R1 to R3) -/

def nodeFields : List Field :=
  [flagField, ⟨1, 239⟩, ⟨0, 255⟩, ⟨0, 21⟩, ⟨0, 4⟩, ⟨0, 5⟩, ⟨-1000, 1000⟩, ⟨0, 600⟩, ⟨0, 2⟩,
   ⟨-600, 10000⟩, ⟨-600, 10000⟩, ⟨0, 3⟩, ⟨0, 3⟩, ⟨0, 2⟩]

/-- R1, R3: each field that does not apply to the role's kind holds its neutral value, and the
limits lie in the role's range. -/
def NodeRow.suits (r : NodeRow) : Bool :=
  let k := r.role.kind
  let range := r.role.range
  (k == .analogue || r.offset == 0)
    && (if k.isInput then decide (1 ≤ r.freshness) else r.freshness == 0 && r.stale == .hold)
    && (k != .vehicle || r.stale == .hold)
    && (if k == .analogue then
          decide (range.1 ≤ r.low) && decide (r.high ≤ range.2) && decide (r.low ≤ r.high)
        else r.low == 0 && r.high == 0 && r.limitAction == .none)
    && (k == .digital || (r.edgeSelect == .none && r.edgeAction == .note))
    && (k != .tenderSource || r.channel == 0)

/-- The node map row of checked fields, when its role and indices match (R2). -/
def nodeRowOf : List Int → Option NodeRow
  | [_, src, ch, role, unit, second, off, fresh, stale, low, high, lim, sel, edge] =>
    match Role.ofCode role.toNat unit.toNat second.toNat, StaleAction.ofNum stale.toNat,
      LimitAction.ofNum lim.toNat, EdgeSelect.ofNum sel.toNat, EdgeAction.ofNum edge.toNat with
    | some r, some st, some la, some es, some ea =>
      some ⟨src.toNat, ch.toNat, r, off, fresh.toNat, st, low, high, la, es, ea⟩
    | _, _, _, _, _ => none
  | _ => none

/-- R1: `none` is answered RANGE; `some none` is an empty row. -/
def parseNodeRow (bs : List Byte) : Option (Option NodeRow) :=
  match flaggedFields nodeFields bs with
  | none => none
  | some none => some none
  | some (some xs) =>
    match nodeRowOf xs with
    | some r => if r.suits then some (some r) else none
    | none => none

def printNodeRow : Option NodeRow → List Byte
  | none => writeFields nodeFields (List.replicate 14 0)
  | some r =>
    let c := r.role.code
    writeFields nodeFields
      [1, r.source, r.channel, c.1, c.2.1, c.2.2, r.offset, r.freshness, r.stale.num, r.low, r.high,
       r.limitAction.num, r.edgeSelect.num, r.edgeAction.num]

/-- R4: the valid rows with their numbers, in ascending order. -/
def validRows (rows : List (Option NodeRow)) (n : Nat := 0) : List (Nat × NodeRow) :=
  match rows with
  | [] => []
  | none :: rest => validRows rest (n + 1)
  | some r :: rest => (n, r) :: validRows rest (n + 1)

/-- R4: a row repeats a lower row by (source, channel) or by role. -/
def NodeRow.repeats (lower : List NodeRow) (r : NodeRow) : Bool :=
  lower.any (fun q =>
    (r.role.kind != .tenderSource && q.role.kind != .tenderSource
      && q.source == r.source && q.channel == r.channel) || q.role == r.role)

/-- R4: the first valid row that repeats a lower one. -/
def firstRepeat (lower : List NodeRow) : List (Nat × NodeRow) → Option Nat
  | [] => none
  | (n, r) :: rest => if r.repeats lower then some n else firstRepeat (r :: lower) rest

/-! ## Table 2, station (R199) -/

def stationFields : List Field :=
  [⟨1, 239⟩, ⟨0, 100000⟩, ⟨0, 1000⟩, ⟨1, 2000000⟩, ⟨0, 6000⟩, ⟨0, 6000⟩, ⟨0, 65535⟩, ⟨0, 65535⟩,
   flagField]

def parseStation (bs : List Byte) : Option StationRow :=
  match checkedFields stationFields bs with
  | some [a, b, c, d, e, f, g, h, w] =>
    some ⟨a.toNat, b.toNat, c.toNat, d.toNat, e.toNat, f.toNat, g.toNat, h.toNat, w == 1⟩
  | _ => none

def printStation (r : StationRow) : List Byte :=
  writeFields stationFields
    [r.supervisor, r.mbFloor, r.mbTolerance, r.mbTrip, r.rateCapH35, r.rateCapH70, r.idleTime,
     r.parkTime, flagNat r.bankLowWake]

/-! ## Table 3, bank (R32 to R34) -/

def bankFields : List Field :=
  [flagField, ⟨50, 20000⟩, ⟨100, 10000⟩, ⟨0, 10000⟩, ⟨0, 10000⟩, ⟨0, 10000⟩]

def parseBankRow (bs : List Byte) : Option BankRow :=
  match flaggedFields bankFields bs with
  | some none => some .dflt
  | some (some [_, v, r, f, s, t]) => some ⟨true, v.toNat, r.toNat, f.toNat, s.toNat, t.toNat⟩
  | _ => none

def printBankRow (r : BankRow) : List Byte :=
  writeFields bankFields [flagNat r.configured, r.volume, r.rated, r.floor, r.refillStart, r.fillTo]

def seqFields : List Field := [⟨0, 5⟩, ⟨0, 255⟩, ⟨0, 255⟩, ⟨0, 255⟩, ⟨0, 255⟩, ⟨0, 255⟩]

/-- Every number names an entry. -/
def entriesOf {α : Type} (f : Nat → Option α) : List Int → Option (List α)
  | [] => some []
  | x :: xs =>
    match f x.toNat, entriesOf f xs with
    | some a, some as => some (a :: as)
    | _, _ => none

/-- No entry twice. -/
def distinct {α : Type} [DecidableEq α] : List α → Bool
  | [] => true
  | x :: xs => !xs.contains x && distinct xs

/-- R33: a draw sequence of at most 5 different entries. The places beyond the length may hold any bytes:
they are not read, and read back as 0 (DESIGN CHOICE, assumption log 45: R183 only gives the list its full
room). -/
def parseSequence (bs : List Byte) : Option (List Source) :=
  match checkedFields seqFields bs with
  | some (n :: xs) =>
    (entriesOf Source.ofNum (xs.take n.toNat)).bind fun es => if distinct es then some es else none
  | _ => none

def printSequence (es : List Source) : List Byte := listField 5 1 (es.map (fun e => u1 e.num))

/-- R34: floor < refill-start < fill-to ≤ rated maximum, for a configured row. -/
def BankRow.pressuresOk (r : BankRow) : Bool :=
  !r.configured
    || (decide (r.floor < r.refillStart) && decide (r.refillStart < r.fillTo)
          && decide (r.fillTo ≤ r.rated))

/-- R34: the number of the first bank row that fails. -/
def firstBadBank (t : BankTable) : Option Nat :=
  t.rows.toList.findIdx? (fun r => !r.pressuresOk)

/-! ## Table 4, compressor (R52, R53) -/

def cmpFields : List Field :=
  [flagField, ⟨1, 60⟩, ⟨0, 3600⟩, ⟨0, 3600⟩, ⟨1, 12⟩, ⟨0, 10000⟩, ⟨0, 2000⟩, ⟨0, 1000⟩,
   ⟨0, 4⟩, ⟨0, 255⟩, ⟨0, 255⟩, ⟨0, 255⟩, ⟨0, 255⟩, ⟨1, 1000⟩]

def parseCmpRow (bs : List Byte) : Option CmpRow :=
  match flaggedFields cmpFields bs with
  | some none => some .dflt
  | some (some [_, pt, mr, mo, sl, sm, hy, dm, n, e1, e2, e3, e4, rs]) =>
    match entriesOf Bank.ofNum ([e1, e2, e3, e4].take n.toNat) with
    | some es =>
      if distinct es then
        some ⟨true, pt.toNat, mr.toNat, mo.toNat, sl.toNat, sm.toNat, hy.toNat, dm.toNat, es, rs.toNat⟩
      else none
    | none => none
  | _ => none

def printCmpRow (r : CmpRow) : List Byte :=
  writeFields (cmpFields.take 8)
      [flagNat r.fitted, r.primeTime, r.minRun, r.minOff, r.startsLimit, r.suctionMin, r.hysteresis,
       r.dischargeMax]
    ++ listField 4 1 (r.refillOrder.map (fun b => u1 b.num)) ++ u2 r.runSpeed

/-- R53. -/
def CmpRow.suctionOk (r : CmpRow) : Bool := decide (r.suctionMin + r.hysteresis ≤ 10000)

/-! ## Table 5, precool (R72 to R74) -/

def chillerFields : List Field :=
  [flagField, ⟨0, 2000000000⟩, ⟨0, 1000000⟩, ⟨0, 1000000⟩, ⟨1, 1000⟩, ⟨0, 4000⟩, ⟨0, 2000000000⟩,
   ⟨0, 2000000000⟩, ⟨0, 600⟩, ⟨0, 3600⟩, ⟨0, 120⟩, ⟨1, 60⟩]

def parseChillerRow (bs : List Byte) : Option ChillerRow :=
  match checkedFields chillerFields bs with
  | some [a, b, c, d, e, f, g, h, i, j, k, l] =>
    some ⟨a == 1, b.toNat, c.toNat, d.toNat, e.toNat, f.toNat, g.toNat, h.toNat, i.toNat, j.toNat,
      k.toNat, l.toNat⟩
  | _ => none

def printChillerRow (r : ChillerRow) : List Byte :=
  writeFields chillerFields
    [flagNat r.fitted, r.capacity, r.recovery, r.loss, r.cp, r.bq, r.readyOn, r.readyOff, r.stabilise,
     r.parkDelay, r.settle, r.excursion]

def categoryFields : List Field :=
  [⟨-600, 1000⟩, ⟨-600, 1000⟩, ⟨0, 2000000000⟩, ⟨-600, 1000⟩, ⟨-600, 1000⟩, ⟨0, 2000000000⟩,
   ⟨-600, 1000⟩, ⟨-600, 1000⟩, ⟨0, 2000000000⟩]

def parseCategories (bs : List Byte) : Option (CategoryRow × CategoryRow × CategoryRow) :=
  match checkedFields categoryFields bs with
  | some [a, b, c, d, e, f, g, h, i] => some (⟨a, b, c.toNat⟩, ⟨d, e, f.toNat⟩, ⟨g, h, i.toNat⟩)
  | _ => none

def printCategories (t : PrecoolTable) : List Byte :=
  writeFields categoryFields
    [t.c40.target, t.c40.bound, t.c40.threshold, t.c30.target, t.c30.bound, t.c30.threshold,
     t.c20.target, t.c20.bound, t.c20.threshold]

/-- R74, row 0. -/
def ChillerRow.thresholdsOk (r : ChillerRow) : Bool :=
  decide (r.readyOff < r.readyOn) && decide (r.readyOn ≤ r.capacity)

/-- R74, row 1. -/
def PrecoolTable.categoriesOk (t : PrecoolTable) : Bool :=
  decide (t.c40.bound < t.c30.bound) && decide (t.c30.bound < t.c20.bound)
    && [t.c40, t.c30, t.c20].all
      (fun c => decide (c.target < c.bound) && decide (c.threshold ≤ t.row0.capacity))

/-- R74: the first row that fails; a table whose fitted flag is clear passes. -/
def firstBadPrecool (t : PrecoolTable) : Option Nat :=
  if !t.row0.fitted then none
  else if !t.row0.thresholdsOk then some 0
  else if !t.categoriesOk then some 1 else none

/-! ## Table 6, position (R106, R107) -/

def posFields : List Field :=
  [⟨0, 1⟩, ⟨0, 3⟩, ⟨0, 4⟩, ⟨0, 3⟩, flagField, flagField, ⟨1, 200000⟩, ⟨0, 100000⟩, ⟨1, 32767⟩,
   flagField, ⟨0, 600⟩, ⟨0, 10000⟩, ⟨1, 600⟩]

def parsePosRow (bs : List Byte) : Option PosRow :=
  match checkedFields posFields bs with
  | some [cl, rq, fb, vc, co, ar, mf, pw, md, we, aw, vt, vl] =>
    match PClass.ofNum cl.toNat, Category.ofNum rq.toNat with
    | some k, some r =>
      some ⟨k, r, Category.ofNum fb.toNat, vc.toNat, co == 1, ar == 1, mf.toNat, pw.toNat, md.toNat,
        we == 1, aw.toNat, vt.toNat, vl.toNat⟩
    | _, _ => none
  | _ => none

def printPosRow (r : PosRow) : List Byte :=
  writeFields posFields
    [r.pclass.num, r.required.rank, categoryNum r.fallback, r.volClass, flagNat r.vehicleComm,
     flagNat r.autoReRate, r.maxFill, r.pulseWeight, r.maxDelta, flagNat r.wakeEnable, r.afterRun,
     r.ventTarget, r.ventLimit]

/-- R107: the fallback category is none or warmer than the required category. -/
def PosRow.fallbackOk (r : PosRow) : Bool :=
  match r.fallback with
  | none => true
  | some c => r.required.warmer c

/-- R107: the number of the first position row that fails. -/
def firstBadPosition (t : PerPos PosRow) : Option Nat := t.toList.findIdx? (fun r => !r.fallbackOk)

/-! ## Tables 7 and 8, fill tables (R90 to R94) -/

def edgeFields : List Field :=
  [⟨1, 10000⟩, ⟨1, 10000⟩, ⟨1, 10000⟩, ⟨-600, 1000⟩, ⟨-600, 1000⟩, ⟨-600, 1000⟩, ⟨-600, 1000⟩,
   ⟨-600, 1000⟩, ⟨0, 10000⟩, ⟨0, 10000⟩, ⟨0, 10000⟩, ⟨0, 10000⟩]

def paramFields : List Field :=
  [⟨900, 1000⟩, ⟨0, 1000⟩, ⟨1, 10⟩, ⟨1, 60⟩, ⟨0, 1000⟩, ⟨0, 2000⟩, ⟨0, 2000⟩, ⟨0, 2000⟩, ⟨1, 3000⟩,
   ⟨60, 3600⟩, ⟨1, 600⟩, ⟨0, 1800⟩, ⟨1, 1800⟩, ⟨0, 10000⟩, ⟨0, 2000⟩, ⟨1, 600⟩, ⟨0, 2000⟩, ⟨1, 60⟩]

def cellFields : List Field :=
  [⟨0, 6000⟩, ⟨0, 10000⟩, ⟨0, 6000⟩, ⟨0, 10000⟩, ⟨0, 6000⟩, ⟨0, 10000⟩, ⟨0, 6000⟩, ⟨0, 10000⟩,
   ⟨0, 6000⟩, ⟨0, 10000⟩]

def paramsOf : List Int → Option FillParams
  | [a, b, c, d, e, f, g, h, i, j, k, l, m, n, o, p, q, r] =>
    some ⟨a.toNat, b.toNat, c.toNat, d.toNat, e.toNat, f.toNat, g.toNat, h.toNat, i.toNat, j.toNat,
      k.toNat, l.toNat, m.toNat, n.toNat, o.toNat, p.toNat, q.toNat, r.toNat⟩
  | _ => none

def FillParams.ints (p : FillParams) : List Int :=
  [p.socLimit, p.tankTempMax, p.pulseTime, p.leakTime, p.leakLimit, p.switchDiff, p.lowerBand,
   p.upperBand, p.abortBand, p.maxFillTime, p.pauseLimit, p.precoolWait, p.bankWait, p.nonCommCap,
   p.minStart, p.vehTimeout, p.mismatchTol, p.mismatchTime]

def cellsOf : List Int → List Cell
  | a :: p :: rest => ⟨a.toNat, p.toNat⟩ :: cellsOf rest
  | _ => []

/-- A fill table row written into a table (R90): none is answered RANGE. -/
def parseFillRow (t : FillTable) (row : Nat) (bs : List Byte) : Option FillTable :=
  if row = 0 then
    (checkedFields edgeFields bs).map fun xs =>
      { t with volEdges := xs.take 3, ambEdges := (xs.drop 3).take 5, p0Edges := xs.drop 8 }
  else if row = 1 then
    ((checkedFields paramFields bs).bind paramsOf).map fun p => { t with params := p }
  else if row < 98 then
    (checkedFields cellFields bs).map fun xs => { t with cells := t.cells.set (row - 2) (cellsOf xs) }
  else none

def printFillRow (t : FillTable) (row : Nat) : List Byte :=
  if row = 0 then writeFields edgeFields (t.volEdges ++ t.ambEdges ++ t.p0Edges)
  else if row = 1 then writeFields paramFields t.params.ints
  else
    writeFields cellFields ((t.cells.getD (row - 2) []).flatMap (fun c => [(c.aprr : Int), (c.pEnd : Int)]))

/-- R90: the number of the cell row of a volume class (0 for V1), category and ambient band,
counted from the first cell row. -/
def cellRow (vol : Nat) (k : Category) (amb : Nat) : Nat := 24 * vol + 6 * k.rank + amb

/-- The cell of a lookup (R100). -/
def FillTable.cell (t : FillTable) (vol : Nat) (k : Category) (amb p0 : Nat) : Cell :=
  (t.cells.getD (cellRow vol k amb) []).getD p0 ⟨0, 0⟩

/-- R94: the first row that fails. -/
def firstBadFill (k : PClass) (t : FillTable) : Option Nat :=
  if !(ascending t.volEdges && ascending t.ambEdges && ascending t.p0Edges) then some 0
  else if Config.pEndCap k < t.params.nonCommCap ∨ t.params.abortBand ≤ t.params.upperBand then some 1
  else
    (t.cells.findIdx? (fun cs => cs.any (fun c => decide (Config.pEndCap k < c.pEnd)))).map (· + 2)

/-! ## Table 9, tariff (R153, R154) -/

def tariffFields : List Field :=
  List.replicate 8 ⟨0, 1439⟩ ++ [⟨0, 1439⟩, ⟨1, 200000⟩]

def priceFields : List Field := List.replicate 8 ⟨1, 9999999⟩

/-- A tariff row written into the table (R153): none is answered RANGE. -/
def parseTariffRow (t : Tariff) (row : Nat) (bs : List Byte) : Option Tariff :=
  if row = 0 then
    (checkedFields tariffFields bs).map fun xs =>
      { t with
        bands := (xs.take 8).map Int.toNat
        rollover := (xs.getD 8 0).toNat
        minCap := (xs.getD 9 0).toNat }
  else if row < 5 then
    (checkedFields priceFields bs).map fun xs =>
      { t with prices := t.prices.set (row - 1) (xs.map Int.toNat) }
  else none

def printTariffRow (t : Tariff) (row : Nat) : List Byte :=
  if row = 0 then
    writeFields tariffFields (t.bands.map Int.ofNat ++ [(t.rollover : Int), (t.minCap : Int)])
  else writeFields priceFields ((t.prices.getD (row - 1) []).map Int.ofNat)

/-- R154. -/
def Tariff.bandsOk (t : Tariff) : Bool :=
  t.bands.head? == some 0 && ascending (t.bands.map Int.ofNat)

end Sys2Proof.Machine
end

