-- ==== Sys2Proof/Machine/Ops.lean ====
section
/-! DEFINITION. The named operations over State that every block uses: reading the active tables and
the signal records, writing one item of a block, sending a message to another block, and the shape
every command's meaning has. A block has no exception entry: raising an alarm is a notice, a fault
state or the trip latch, each an effect on State. -/

namespace Sys2Proof.Machine

open Sys2Proof

/-! ## The shape of a meaning -/

/-- A command's effect. While the supply monitor holds the part in reset nothing is taken, and what
arrives is lost (R198, R205). -/
def running (s : State) (f : State → State) : Outcome :=
  .next (if s.smc.inReset then s else f s)

/-- Sends a message to another block (or to another step of the same block). -/
def post (m : Instr) (s : State) : State := { s with mail := s.mail ++ [m] }

/-- Sends messages in order. -/
def postAll (ms : List Instr) (s : State) : State := { s with mail := s.mail ++ ms }

/-- Does one thing for each element of a list, in order. -/
def forEach {α : Type} (xs : List α) (f : α → State → State) (s : State) : State :=
  xs.foldl (fun t x => f x t) s

/-- Does it when the test holds. -/
def onlyIf (c : Bool) (f : State → State) (s : State) : State := if c then f s else s

/-! ## Active tables -/

/-- The valid rows of the active node map with their numbers. -/
def State.nodeRows (s : State) : List (Nat × NodeRow) := validRows s.tables.nodeMap.active

/-- The row of a role in the active node map, with its number (R4: at most one). -/
def State.rowOf (s : State) (r : Role) : Option (Nat × NodeRow) :=
  s.nodeRows.find? (fun x => x.2.role == r)

/-- The role has a row in the active node map. -/
def State.mapped (s : State) (r : Role) : Bool := (s.rowOf r).isSome

/-- The actuator roles of the active node map, in row order: the order in which a restart, a node map commit
and a trip queue their CLOSEs (DESIGN CHOICE, assumption log 48: R5, R19 and R204 give none). -/
def State.actuatorRoles (s : State) : List Role :=
  (s.nodeRows.map (fun x => x.2.role)).filter Role.isActuator

def State.stationRow (s : State) : StationRow := s.tables.station.active
def State.bankRow (s : State) (b : Bank) : BankRow := s.tables.bank.active.rows.get b
def State.cmpRow (s : State) : CmpRow := s.tables.compressor.active
def State.chillerRow (s : State) : ChillerRow := s.tables.precool.active.row0
def State.posRow (s : State) (p : Pos) : PosRow := s.tables.position.active.get p
def State.tariff (s : State) : Tariff := s.tables.tariff.active

/-- B_q of the active precool table (R23). -/
def State.bq (s : State) : Nat := s.chillerRow.bq

/-- The draw sequence of a class (R33). -/
def State.sequence (s : State) : PClass → List Source
  | .h35 => s.tables.bank.active.h35
  | .h70 => s.tables.bank.active.h70

/-- The fields of a precooled category; C00 has none (R73). -/
def PrecoolTable.category (t : PrecoolTable) : Category → Option CategoryRow
  | .c40 => some t.c40
  | .c30 => some t.c30
  | .c20 => some t.c20
  | .c00 => none

def State.categoryRow (s : State) (c : Category) : Option CategoryRow :=
  s.tables.precool.active.category c

def Tables.fill (t : Tables) : PClass → FillCopy
  | .h35 => t.fillH35
  | .h70 => t.fillH70

def Tables.setFill (t : Tables) (k : PClass) (f : FillCopy) : Tables :=
  match k with
  | .h35 => { t with fillH35 := f }
  | .h70 => { t with fillH70 := f }

/-! ## Signal records -/

/-- Vehicle fields all absent (R7). -/
def vehicleAbsent : VehicleFields := ⟨none, none, none, none, none, none⟩

/-- The starting state of a record (R7). -/
def SigRec.start (r : NodeRow) : SigRec :=
  ⟨0, Role.restLevel r.role, vehicleAbsent, .absent, some r.freshness, .inside⟩

/-- What a block finds for a role that has no record (R7): quality ABSENT, and value 0 in the held pressure
of NOTICE BANK-ISOLATED and in the items (DESIGN CHOICE, assumption log 50: R7 gives no value). -/
def SigRec.unmapped (r : Role) : SigRec :=
  ⟨0, Role.restLevel r, vehicleAbsent, .absent, none, .inside⟩

/-- The records of a node map: one for each input role of a valid row (R7). -/
def recordsOf (rows : List (Nat × NodeRow)) : List (Role × SigRec) :=
  (rows.filter (fun x => x.2.role.kind.isInput)).map (fun x => (x.2.role, SigRec.start x.2))

/-- The record of a role as it stands, ABSENT where there is none (R7). -/
def State.record (s : State) (r : Role) : SigRec :=
  match s.sig.find? (fun x => x.1 == r) with
  | some x => x.2
  | none => SigRec.unmapped r

/-- Replaces the record of a role that has one. -/
def setRecord (r : Role) (x : SigRec) (s : State) : State :=
  { s with sig := s.sig.map (fun y => if y.1 == r then (r, x) else y) }

/-- The state as a block finds it that reads the record of a role from a delivery. -/
def withRecord (r : Role) (x : SigRec) (s : State) : State :=
  { s with sig := (r, x) :: s.sig.filter (fun y => y.1 != r) }

/-- R18: a block takes a delivery. In its event it finds the record of the role as the delivery carries
it, and the other records as they stand (DEDUCED, assumption log 39). The records that SIG holds are not
changed. -/
def seeing (r : Role) (x : SigRec) (f : State → State) (s : State) : State :=
  { f (withRecord r x s) with sig := s.sig }

def State.value (s : State) (r : Role) : Int := (s.record r).value
def State.quality (s : State) (r : Role) : Quality := (s.record r).quality
def State.level (s : State) (r : Role) : Bool := (s.record r).level
def State.usable (s : State) (r : Role) : Bool := (s.quality r).usable

/-- The value of a usable record. -/
def State.usableValue (s : State) (r : Role) : Option Int :=
  if s.usable r then some (s.value r) else none

/-- The row of the role has stale action HOLD, or the role is unmapped (R11). -/
def State.underHold (s : State) (r : Role) : Bool :=
  match s.rowOf r with
  | some x => x.2.stale == .hold
  | none => true

/-! ## Items of the blocks -/

/-- The trip latch is set. -/
def State.latched (s : State) : Bool := s.smc.latch.isSome

def State.ctx (s : State) (p : Pos) : Ctx := s.fil.get p
def State.bank (s : State) (b : Bank) : BankRec := s.bkm.get b
def State.meter (s : State) (p : Pos) : MeterCtx := s.mtr.get p

def setCtx (p : Pos) (c : Ctx) (s : State) : State := { s with fil := s.fil.set p c }
def setBank (b : Bank) (r : BankRec) (s : State) : State := { s with bkm := s.bkm.set b r }
def setMeter (p : Pos) (m : MeterCtx) (s : State) : State := { s with mtr := s.mtr.set p m }

def updCtx (p : Pos) (f : Ctx → Ctx) (s : State) : State := setCtx p (f (s.ctx p)) s
def updBank (b : Bank) (f : BankRec → BankRec) (s : State) : State := setBank b (f (s.bank b)) s
def updMeter (p : Pos) (f : MeterCtx → MeterCtx) (s : State) : State := setMeter p (f (s.meter p)) s
def updCmp (f : Cmp → Cmp) (s : State) : State := { s with cmp := f s.cmp }
def updPcl (f : Pcl → Pcl) (s : State) : State := { s with pcl := f s.pcl }
def updSmc (f : Smc → Smc) (s : State) : State := { s with smc := f s.smc }
def updRif (f : Rif → Rif) (s : State) : State := { s with rif := f s.rif }
def updRet (f : Retained → Retained) (s : State) : State := { s with ret := f s.ret }
def updTables (f : Tables → Tables) (s : State) : State := { s with tables := f s.tables }
def updTimers (p : Pos) (f : PosTimers → PosTimers) (s : State) : State :=
  updCtx p (fun c => { c with timers := f c.timers }) s

/-- The station clock as it is recorded: its seconds, or 0 while it reads UNSET (R174, R175). -/
def clockOrZero (t : Option Nat) : Nat := t.getD 0

/-- Records held plus reservations held (R170). -/
def State.reservations (s : State) : Nat := s.ret.reserved.toList.countP id

/-- The compressor is fitted. -/
def State.cmpFitted (s : State) : Bool := s.cmpRow.fitted

/-- The class parameters, edges and cells a fill uses: the generation it latched (R98). -/
def State.fillTable (s : State) (k : PClass) (gen : Nat) : FillTable :=
  let f := s.tables.fill k
  if gen = f.copy.gen then f.copy.active
  else
    match f.older with
    | some o => if o.gen = gen then o.table else f.copy.active
    | none => f.copy.active

/-- The fill table of the position's fill. -/
def State.latchedTable (s : State) (p : Pos) : FillTable :=
  let k := (s.posRow p).pclass
  match (s.ctx p).fill with
  | some f => s.fillTable k f.gen
  | none => (s.tables.fill k).copy.active

def State.params (s : State) (p : Pos) : FillParams := (s.latchedTable p).params

/-- The nozzle pressure of a position as its record holds it. -/
def State.nozzle (s : State) (p : Pos) : Int := s.value (.nozzlePressure p)

end Sys2Proof.Machine
end

