-- ==== Sys2Proof/Machine/Ring.lean ====
section
/-! DEFINITION. The ring interface's queues and egress (R188 to R192): queueing a command, a notice, a
reply and a transit frame, and the arbiter that chooses the next frame for RING-OUT. -/

namespace Sys2Proof.Machine

open Sys2Proof

/-! ## Notices and replies -/

/-- The notices of R185, with their codes. -/
inductive NoticeKind where
  | signalQuality | signalLimit | signalEdge | bankIsolated | massMismatch | compressorHeld
  | supplyLow | compressorStopped | compressorLockout | chillerFault | reRated | linkDropped
  | positionFault | meterFault | unauthorisedFlow | tenderAccepted | tenderRejected | fillEnd
  | dayRollover | recordReady | actuateRefused | trip
  deriving DecidableEq, Repr

def NoticeKind.code : NoticeKind → Nat
  | .signalQuality => 1
  | .signalLimit => 2
  | .signalEdge => 3
  | .bankIsolated => 4
  | .massMismatch => 5
  | .compressorHeld => 6
  | .supplyLow => 7
  | .compressorStopped => 8
  | .compressorLockout => 9
  | .chillerFault => 10
  | .reRated => 11
  | .linkDropped => 12
  | .positionFault => 13
  | .meterFault => 14
  | .unauthorisedFlow => 15
  | .tenderAccepted => 16
  | .tenderRejected => 17
  | .fillEnd => 18
  | .dayRollover => 19
  | .recordReady => 20
  | .actuateRefused => 21
  | .trip => 22

/-- R185: the supervisor node of the active station table, or broadcast while it has never been
committed. -/
def State.supervisor (s : State) : Nat :=
  if s.tables.station.gen = 0 then Config.broadcast else s.stationRow.supervisor

/-- R191: a notice joins the tail; in a full queue the oldest is discarded and the flag set. -/
def Rif.pushNotice (n : Notice) (r : Rif) : Rif :=
  if r.notices.length < Config.noticePlaces then { r with notices := r.notices ++ [n] }
  else { r with notices := r.notices.drop 1 ++ [n], overrun := true }

/-- R191: a reply fills its reserved place. A request that no frame brought reserved no place, and
its reply takes a free one if there is one (assumption log 5). -/
def Rif.pushReply (y : Reply) (r : Rif) : Rif :=
  if 0 < r.reserved then { r with reserved := r.reserved - 1, replies := r.replies ++ [y] }
  else if r.replies.length < Config.replyPlaces then { r with replies := r.replies ++ [y] }
  else r

/-! ## Opening commands and the trip (R189, R190) -/

/-- An OPEN, or a SET with a non-zero value. -/
def CmdEntry.opens (e : CmdEntry) : Bool :=
  match e.command with
  | .close => false
  | .open => true
  | .set => decide (0 < e.value)

/-- R189, R190: RIF acts on the latch from the event that sets it, and from RIF_TRIP. -/
def State.tripHeld (s : State) : Bool := s.latched || s.rif.tripTaken

/-- R189: a foreign ACTUATE payload that the filter refuses in trip: OPEN, SET with a non-zero value
or an unknown command code. -/
def actuateOpens (payload : List Byte) : Bool :=
  match param payload 1 1 with
  | 0 => false
  | 2 => decide (0 < param payload 2 2)
  | _ => true

/-- The actuator row that a foreign ACTUATE names (R6, R189). -/
def State.actuatorRowOf (s : State) (dest channel : Nat) : Option Nat :=
  (s.nodeRows.find? (fun x => x.2.role.isActuator && x.2.source == dest && x.2.channel == channel)).map
    (·.1)

/-- R189: the data of ACTUATE-REFUSED (reason 0 OWNED, 1 TRIPPED). -/
def refusedData (reason : Nat) (f : Frame) : List Byte :=
  u1 reason ++ u1 f.source ++ u1 f.dest ++ f.payload

/-- R189: NOTICE ACTUATE-REFUSED for a frame; the subject is its actuator row, or 255. -/
def refusedNotice (s : State) (reason : Nat) (f : Frame) : Notice :=
  ⟨s.supervisor, NoticeKind.code .actuateRefused,
    (s.actuatorRowOf f.dest (param f.payload 0 1)).getD 255, refusedData reason f⟩

/-! ## The arbiter (R192) -/

/-- R190: the ACTUATE frame of an entry, from the role's row in the active node map. -/
def State.actuateFrame (s : State) (e : CmdEntry) : Option OutFrame :=
  (s.rowOf e.role).map fun x =>
    ⟨(Frame.mk x.2.source s.rif.ownAddress 5
        (u1 x.2.channel ++ u1 e.command.num ++ u2 e.value)).bytes, false⟩

def State.replyFrame (s : State) (y : Reply) : OutFrame :=
  ⟨(Frame.mk y.dest s.rif.ownAddress 7 (u1 y.code ++ u1 y.tag ++ u1 y.status ++ y.data)).bytes,
    y.restart⟩

def State.noticeFrame (s : State) (n : Notice) : OutFrame :=
  ⟨(Frame.mk n.dest s.rif.ownAddress 8 (u1 n.code ++ u1 n.subject ++ n.data)).bytes, false⟩

/-- R189: a transit frame that the arrival filter would refuse in trip. -/
def State.transitRefused (s : State) (bs : List Byte) : Option Frame :=
  if s.tripHeld then
    match parseFrame bs with
    | some f =>
      if f.kind = 5 ∧ f.source ≠ s.rif.ownAddress ∧ (!formatOk f || actuateOpens f.payload) then some f
      else none
    | none => none
  else none

/-- Sends the head reply, or the head notice when there is no reply; idle when there is neither. -/
def sendReplyOrNotice (s : State) : State :=
  match s.rif.replies, s.rif.notices with
  | y :: ys, _ =>
    { s with rif := { s.rif with replies := ys, ringOut := some (s.replyFrame y), runCount := 0 } }
  | [], n :: ns =>
    { s with rif := { s.rif with notices := ns, ringOut := some (s.noticeFrame n), runCount := 0 } }
  | [], [] => { s with rif := { s.rif with ringOut := none } }

/-- R192: a reply or a notice waits. -/
def Rif.waiting (r : Rif) : Bool := !r.replies.isEmpty || !r.notices.isEmpty

/-- R189: a transit frame discarded at egress queues ACTUATE-REFUSED with reason TRIPPED; a frame with
a format error was counted on arrival and queues nothing. -/
def dropRefused (s : State) (f : Frame) (r : Rif) : Rif :=
  if formatOk f then Rif.pushNotice (refusedNotice s 1 f) r else r

/-- R192: the choice of the next frame. A command entry whose role has lost its row forms no frame,
and a transit frame refused at egress is not sent (R189); after either the arbiter chooses again,
at most `fuel` times. At the run count a waiting reply or notice goes before the transit buffer is looked
at, as R192's words have it; the worked sequence of 11_the_station_ring.md discards a refused transit frame
first (DESIGN CHOICE, assumption log 46). -/
def arbitrate : Nat → State → State
  | 0, s => { s with rif := { s.rif with ringOut := none } }
  | fuel + 1, s =>
    match s.rif.commands, s.rif.transit with
    | e :: es, _ =>
      match s.actuateFrame e with
      | some f => { s with rif := { s.rif with commands := es, ringOut := some f } }
      | none => arbitrate fuel { s with rif := { s.rif with commands := es } }
    | [], t :: ts =>
      if s.rif.runCount = Config.transitRun ∧ s.rif.waiting then sendReplyOrNotice s
      else
        match s.transitRefused t with
        | some f => arbitrate fuel { s with rif := dropRefused s f { s.rif with transit := ts } }
        | none =>
          { s with
            rif := { s.rif with
              transit := ts
              ringOut := some ⟨t, false⟩
              runCount := if s.rif.waiting then s.rif.runCount + 1 else 0 } }
    | [], [] => sendReplyOrNotice s

/-- The most choices one event can need: each command entry and transit frame at most once. -/
def Rif.choices (r : Rif) : Nat := r.commands.length + r.transit.length + 1

/-- R192: the arbiter chooses when RING-OUT finishes sending. -/
def chooseNext (s : State) : State := arbitrate s.rif.choices s

/-- R192: and when something arrives in a source while RING-OUT is idle. -/
def kick (s : State) : State := if s.rif.ringOut.isNone then chooseNext s else s

/-! ## Queueing -/

/-- Queues a notice to a node (R185, R191). -/
def noticeTo (dest : Nat) (k : NoticeKind) (subject : Nat) (data : List Byte) (s : State) : State :=
  kick (updRif (Rif.pushNotice ⟨dest, k.code, subject, data⟩) s)

/-- Queues a notice to the supervisor. -/
def notice (k : NoticeKind) (subject : Nat) (data : List Byte) (s : State) : State :=
  noticeTo s.supervisor k subject data s

/-- Queues the reply to a request (R191, R194). -/
def reply (rq : Req) (code : Nat) (st : Status) (data : List Byte) (s : State) : State :=
  kick (updRif (Rif.pushReply ⟨rq.src, code, rq.tag, st.num, data, false⟩) s)

/-- R188: a frame to be forwarded joins the transit buffer, or is discarded and counted. -/
def forward (bs : List Byte) (s : State) : State :=
  if s.rif.transit.length < Config.transitPlaces then
    kick (updRif (fun r => { r with transit := r.transit ++ [bs] }) s)
  else updRif (fun r => { r with transitOverflows := countUp r.transitOverflows }) s

/-- R190: the entry as it is held while the latch is set: an opening command is held as CLOSE. -/
def heldEntry (trip : Bool) (e : CmdEntry) : CmdEntry :=
  if trip && e.opens then ⟨e.role, .close, 0⟩
  else if e.command == .close then ⟨e.role, .close, 0⟩ else e

/-- R190: a command for a role replaces the role's entry or joins the tail; an opening command that
replaces a CLOSE moves the entry to the tail. -/
def enqueue (e : CmdEntry) (q : List CmdEntry) : List CmdEntry :=
  match q.find? (fun x => x.role == e.role) with
  | none => q ++ [e]
  | some old =>
    if e.opens && old.command == .close then q.filter (fun x => x.role != e.role) ++ [e]
    else q.map (fun x => if x.role == e.role then e else x)

/-- Queues an actuate command for a role (R190); a role with no row has none. -/
def actuate (r : Role) (c : ActCommand) (v : Nat) (s : State) : State :=
  if s.mapped r then
    kick (updRif (fun x => { x with commands := enqueue (heldEntry s.tripHeld ⟨r, c, v⟩) x.commands }) s)
  else s

def close (r : Role) (s : State) : State := actuate r .close 0 s

/-- ACTUATE OPEN with value 1000. -/
def openFull (r : Role) (s : State) : State := actuate r .open 1000 s

/-- Queues CLOSE for every actuator role of the active node map (R5, R19, R204). -/
def closeAll (s : State) : State := forEach s.actuatorRoles close s

end Sys2Proof.Machine
end

