-- ==== Sys2Proof/Machine/Banks.lean ====
section
/-! DEFINITION. The bank manager (03_storage_banks.md, R32 to R51; inventories by R24 to R28). -/

namespace Sys2Proof.Machine

open Sys2Proof

/-! ## Answers -/

/-- Answers to a claim (R38, R43, R63). -/
inductive ClaimAnswer where
  | granted | waiting | refused
  deriving DecidableEq, Repr

/-- Answers to WITHDRAW at BKM (R40). -/
inductive BankWithdrawal where
  | withdrawn
  | holding (b : Bank)
  deriving DecidableEq, Repr

/-! ## Inventory (R25 to R28) -/

/-- R25: the inventory of a bank from the values its two records hold, with the B_q that BKM has taken
(R24). -/
def bankInventory (b : Bank) (s : State) : Nat :=
  inventoryOf s.bkmBq (s.bankRow b).volume (s.value (.bankPressure b)) (s.value (.bankTemp b))

/-- R26: evaluated when both records are usable, otherwise the figure is kept and marked invalid. -/
def evalInventory (b : Bank) (s : State) : State :=
  if s.usable (.bankPressure b) && s.usable (.bankTemp b) then
    updBank b (fun r => { r with inventory := bankInventory b s, invValid := true }) s
  else updBank b (fun r => { r with invValid := false }) s

/-- R27, R28: figure 0, invalid. -/
def clearInventory (b : Bank) (s : State) : State :=
  updBank b (fun r => { r with inventory := 0, invValid := false }) s

/-! ## Sessions (R44 to R46) -/

/-- R44: the session opened by a grant. -/
def openSession (b : Bank) (h : Holder) (s : State) : Session :=
  ⟨h, (s.bank b).inventory, (s.bank b).invValid, 0, s.ret.clock⟩

/-- R45: metered mass in grams. -/
def Session.meteredG (x : Session) : Nat := x.metered / 1000

/-- R45: the discrepancy in grams. -/
def discrepancy (x : Session) (invClose : Nat) : Int :=
  ((x.invOpen : Int) - invClose) - x.meteredG

/-- R45: the tolerance in grams. -/
def tolerance (st : StationRow) (x : Session) : Nat :=
  max st.mbFloor (x.meteredG * st.mbTolerance / 1000)

/-- R45: BALANCED within the tolerance; R46: above the trip figure MISMATCH, whatever the tolerance. -/
def judgeBalance (st : StationRow) (d : Int) (t : Nat) : DrawOutcome :=
  if d.natAbs ≤ t ∧ d ≤ st.mbTrip then .balanced else .mismatch

/-- R45: the outcome of a DRAW session, with its figures unless the check is skipped. -/
def drawOutcome (st : StationRow) (x : Session) (inv : Nat) (valid : Bool) :
    DrawOutcome × Option (Int × Nat) :=
  if x.openValid && valid then
    let d := discrepancy x inv
    let t := tolerance st x
    (judgeBalance st d t, some (d, t))
  else (.unchecked, none)

/-- R46: the gain of a REFILL session. -/
def refillGain (x : Session) (inv : Nat) (valid : Bool) : Option Int :=
  if x.openValid && valid then some ((inv : Int) - x.invOpen) else none

/-- R46: the data of NOTICE MASS-MISMATCH. -/
def mismatchData (p : Pos) (x : Session) (inv : Nat) (d : Int) (t : Nat) : List Byte :=
  u1 p.num ++ u4 x.invOpen ++ u4 inv ++ u4 x.meteredG ++ beInt 4 d ++ u4 t

/-- R45, R46: the close of a DRAW session: the check, the notice, the trip cause above the trip
figure, the outcome for FIL, and the last session. -/
def closeDraw (b : Bank) (p : Pos) (x : Session) (s : State) : State :=
  let inv := (s.bank b).inventory
  let r := drawOutcome s.stationRow x inv (s.bank b).invValid
  let s1 := updBank b (fun k => { k with session := none, last := some (.draw p r.1 r.2) }) s
  let s2 :=
    match r with
    | (.mismatch, some (d, t)) => notice .massMismatch b.num (mismatchData p x inv d t) s1
    | _ => s1
  let s3 :=
    match r with
    | (.mismatch, some (d, _)) =>
      onlyIf (decide ((s.stationRow.mbTrip : Int) < d)) (post (.tripCause (.massBalance b))) s2
    | _ => s2
  post (.sessionOutcome p b r.1) s3

/-- The end of a claim closes its session: a DRAW with its check, a REFILL with its gain. -/
def closeSession (b : Bank) (s : State) : State :=
  match (s.bank b).session with
  | none => s
  | some x =>
    match x.holder with
    | .pos p => closeDraw b p x s
    | .compressor =>
      updBank b (fun k =>
        { k with
          session := none
          last := some (.refill (refillGain x (s.bank b).inventory (s.bank b).invValid)) }) s

/-! ## Claims (R37 to R43) -/

/-- The bank a position holds. -/
def State.heldBank (s : State) (p : Pos) : Option Bank :=
  Bank.all.find? (fun b => (s.bank b).state == .claimedPos p)

/-- Takes a position off every bank wait list. -/
def leaveBankLists (p : Pos) (s : State) : State :=
  { s with bkm := s.bkm.map (fun r => { r with waiters := r.waiters.filter (fun q => q != p) }) }

/-- The position stands on a bank wait list. -/
def State.onBankList (s : State) (p : Pos) : Bool :=
  s.bkm.toList.any (fun r => r.waiters.contains p)

/-- A grant to a position (R37, R38): off every list, the holder, and a DRAW session. -/
def grantBank (b : Bank) (p : Pos) (s : State) : State :=
  let s1 := leaveBankLists p s
  updBank b (fun r => { r with state := .claimedPos p, session := some (openSession b (.pos p) s1) }) s1

/-- R42: a bank that becomes AVAILABLE is announced to FIL and CMP. -/
def announce (b : Bank) (s : State) : State :=
  postAll [.filBankAnnouncement b, .cmpBankAnnouncement b] s

/-- R39: the compressor yields: its session closes, its valve is commanded closed, CMP is told. -/
def yieldBank (b : Bank) (s : State) : State :=
  post (.yielded b) (close (.bankValve b .compressor) (closeSession b s))

/-- R40: joins the tail of a list, or keeps its place; off any other list first (R38). -/
def joinList (b : Bank) (p : Pos) (s : State) : State :=
  if (s.bank b).waiters.contains p then s
  else updBank b (fun r => { r with waiters := r.waiters ++ [p] }) (leaveBankLists p s)

/-- R38: a claim by a position. -/
def claimBank (p : Pos) (b : Bank) (s : State) : ClaimAnswer × State :=
  if s.latched then (.refused, s)
  else if (s.heldBank p).isSome && s.heldBank p != some b then (.refused, s)
  else
    match (s.bank b).state with
    | .available => (.granted, grantBank b p s)
    | .claimedCmp => (.granted, grantBank b p (yieldBank b s))
    | .claimedPos q => if q = p then (.refused, s) else (.waiting, joinList b p s)
    | .isolated | .unconfigured => (.refused, s)

/-- R43: a claim by the compressor. -/
def claimForCompressor (b : Bank) (s : State) : ClaimAnswer × State :=
  if (s.bank b).state = .available ∧ !s.latched then
    (.granted,
      updBank b (fun r =>
        { r with state := .claimedCmp, session := some (openSession b .compressor s) }) s)
  else (.refused, s)

/-- R40: WITHDRAW. -/
def withdrawBank (p : Pos) (s : State) : BankWithdrawal × State :=
  if s.onBankList p then (.withdrawn, leaveBankLists p s)
  else
    match s.heldBank p with
    | some b => (.holding b, s)
    | none => (.withdrawn, s)

/-- The valve between a bank and a holder. -/
def holderValve (b : Bank) : Holder → Role
  | .pos p => .bankValve b (.pos p)
  | .compressor => .bankValve b .compressor

/-- R36: the state that names a holder. -/
def BankState.ofHolder : Holder → BankState
  | .pos p => .claimedPos p
  | .compressor => .claimedCmp

/-- R41, steps 3 and 4: the bank passes to the head of its list or becomes AVAILABLE. -/
def passBank (b : Bank) (s : State) : State :=
  match (s.bank b).waiters with
  | q :: _ => post (.filGranted q (.bank b)) (grantBank b q s)
  | [] => announce b (updBank b (fun r => { r with state := .available }) s)

/-- R41: a release by a party; from a party that is not the holder it is ignored. -/
def releaseBank (b : Bank) (h : Holder) (s : State) : State :=
  if (s.bank b).state = .ofHolder h then passBank b (close (holderValve b h) (closeSession b s)) else s

/-! ## Isolation (R47, R48) -/

/-- The five valve roles of a bank, in the order of R47. -/
def bankValves (b : Bank) : List Role :=
  [.bankValve b (.pos .p1), .bankValve b (.pos .p2), .bankValve b (.pos .p3), .bankValve b (.pos .p4),
   .bankValve b .compressor]

/-- The holder is told LOST with a cause. -/
def tellLost (b : Bank) (c : LostCause) (s : State) : State :=
  match (s.bank b).state with
  | .claimedPos p => post (.filLost p (.bank b) c) s
  | .claimedCmp => post (.cmpBankLost ⟨b, c⟩) s
  | _ => s

/-- Every waiting position is removed in list order and told WAIT-CANCELLED. -/
def cancelWaiters (b : Bank) (s : State) : State :=
  postAll ((s.bank b).waiters.map (fun p => .waitCancelled p (.bank b)))
    (updBank b (fun r => { r with waiters := [] }) s)

/-- R47: isolation; a bank already ISOLATED, or UNCONFIGURED, is left as it is. A DRAW session open on the
bank closes with the inventory as BKM holds it. Where SIG's stale action is the cause the ISOLATE comes
before the change of quality, so the inventory is still valid and the check is made (R27, R45); a worked
sequence of 03_storage_banks.md closes it UNCHECKED (DESIGN CHOICE, assumption log 49). -/
def isolateBank (b : Bank) (c : IsoCause) (s : State) : State :=
  if (s.bank b).state = .isolated ∨ (s.bank b).state = .unconfigured then s
  else
    let s1 := cancelWaiters b (tellLost b (.isolated c) (closeSession b s))
    let s2 := updBank b (fun r => { r with state := .isolated, cause := some c })
      (forEach (bankValves b) close s1)
    notice .bankIsolated b.num (u1 c.num ++ u2 (s.value (.bankPressure b)).toNat) s2

/-- R48: a pressure above the rated maximum isolates a configured bank; while the record is unusable no
comparison is made. -/
def overPressureCheck (b : Bank) (s : State) : State :=
  if s.usable (.bankPressure b) ∧ ((s.bankRow b).rated : Int) < s.value (.bankPressure b) then
    isolateBank b .overpressure s
  else s

/-! ## Events -/

/-- BANK_SIGNAL_VALUE (R26, R48), with the record as delivered: the inventory first, and then the
isolation. -/
def bankSignalValue (b : Bank) (sg : BankSignal) (s : State) : State :=
  if (s.bank b).state = .unconfigured then s
  else
    let s1 := evalInventory b s
    match sg with
    | .pressure => overPressureCheck b s1
    | .temp => s1

/-- BANK_SIGNAL_QUALITY (R27), with the record as delivered. -/
def bankSignalQuality (b : Bank) (sg : BankSignal) (s : State) : State :=
  match s.quality (sg.role b) with
  | .bad | .stale => updBank b (fun r => { r with invValid := false }) s
  | .absent => clearInventory b s
  | .good | .uncertain => if (s.bank b).state = .unconfigured then s else evalInventory b s

/-- The inventory at open of an open session is marked invalid (R24, R28). -/
def invalidateOpen (b : Bank) (s : State) : State :=
  updBank b (fun r => { r with session := r.session.map (fun x => { x with openValid := false }) }) s

/-- B_Q_CHANGE (R24) at one bank. -/
def bQChangeBank (b : Bank) (s : State) : State :=
  let s1 :=
    if (s.bank b).invValid then updBank b (fun r => { r with inventory := bankInventory b s }) s else s
  invalidateOpen b s1

/-- B_Q_CHANGE (R24): from here on BKM evaluates with the active B_q. -/
def bQChange (s : State) : State := forEach Bank.all bQChangeBank { s with bkmBq := s.bq }

/-- POSITION_CLAIM as a step of its own: a GRANTED answer goes to FIL as a message (DESIGN CHOICE,
assumption log 8). -/
def positionClaim (p : Pos) (b : Bank) (s : State) : State :=
  match claimBank p b s with
  | (.granted, t) => post (.filGranted p (.bank b)) t
  | (_, t) => t

/-- R44: an increment attributed SESSION(b) joins the DRAW session the position holds on b. -/
def bankIncrement (p : Pos) (mg : Nat) (a : Attribution) (s : State) : State :=
  match a with
  | .session b =>
    match (s.bank b).session with
    | some x =>
      if x.holder = .pos p then
        updBank b (fun r => { r with session := some { x with metered := hold32 (x.metered + mg) } }) s
      else s
    | none => s
  | _ => s

/-- The claim states. -/
def BankState.claimed : BankState → Bool
  | .claimedPos _ | .claimedCmp => true
  | _ => false

/-- The banks with a holder. -/
def State.claimedBanks (s : State) : List Bank := Bank.all.filter (fun b => (s.bank b).state.claimed)

/-- R51, step 1, at one bank: its session closes and its holder is told LOST with cause TRIP. -/
def tripClaim (b : Bank) (s : State) : State := tellLost b .trip (closeSession b s)

/-- R51, step 3, at one bank. -/
def freeBank (b : Bank) (s : State) : State := updBank b (fun r => { r with state := .available }) s

/-- BKM_TRIP (R51): every claim is lost, then every wait list is emptied, then every bank that had a
holder becomes AVAILABLE; those banks are announced at the end (R42). -/
def bkmTrip (s : State) : State :=
  let freed := s.claimedBanks
  forEach freed announce
    (forEach freed freeBank (forEach Bank.all cancelWaiters (forEach freed tripClaim s)))

/-! ## Requests (R49) -/

/-- BANK-ISOLATE. -/
def bankIsolateRequest (rq : Req) (n : Nat) (s : State) : State :=
  match Bank.ofNum n with
  | none => reply rq 32 .range [] s
  | some b =>
    if (s.bank b).state = .unconfigured then reply rq 32 .state [] s
    else reply rq 32 .ok [] (isolateBank b .request s)

/-- R49: the conditions of BANK-RETURN. -/
def State.bankReturnOk (s : State) (b : Bank) : Bool :=
  (s.bank b).state == .isolated && s.quality (.bankPressure b) == .good
    && s.quality (.bankTemp b) == .good
    && decide (s.value (.bankPressure b) ≤ ((s.bankRow b).rated : Int))

/-- BANK-RETURN. -/
def bankReturnRequest (rq : Req) (n : Nat) (s : State) : State :=
  match Bank.ofNum n with
  | none => reply rq 33 .range [] s
  | some b =>
    if s.bankReturnOk b then
      reply rq 33 .ok [] (announce b (updBank b (fun r => { r with state := .available, cause := none }) s))
    else reply rq 33 .state [] s

/-! ## Commands -/

def execBankIsolate (rq : Req) (n : Nat) (s : State) : Outcome := running s (bankIsolateRequest rq n)
def execBankReturn (rq : Req) (n : Nat) (s : State) : Outcome := running s (bankReturnRequest rq n)

def execBankSignalValue (b : Bank) (sg : BankSignal) (x : SigRec) (s : State) : Outcome :=
  running s (seeing (sg.role b) x (bankSignalValue b sg))

def execBankSignalQuality (b : Bank) (sg : BankSignal) (x : SigRec) (s : State) : Outcome :=
  running s (seeing (sg.role b) x (bankSignalQuality b sg))

/-- R47: an ISOLATE that reaches an UNCONFIGURED bank is ignored. -/
def execBankIsolateSignal (b : Bank) (s : State) : Outcome := running s (isolateBank b .signal)

def execBQChange (s : State) : Outcome := running s bQChange
def execPositionClaim (p : Pos) (b : Bank) (s : State) : Outcome := running s (positionClaim p b)

/-- COMPRESSOR_CLAIM as a step of its own (R43). A GRANTED answer leaves the bank claimed, and nothing
tells CMP: the answer goes to the event that claimed, and here there is none (DESIGN CHOICE, assumption
log 8). -/
def execCompressorClaim (b : Bank) (s : State) : Outcome :=
  running s (fun t => (claimForCompressor b t).2)

/-- BANK_WITHDRAW as a step of its own (R40). Its answer, WITHDRAWN or HOLDING, goes to the event that
asked, and here there is none (DESIGN CHOICE, assumption log 8). -/
def execBankWithdraw (p : Pos) (s : State) : Outcome := running s (fun t => (withdrawBank p t).2)
def execBankRelease (b : Bank) (h : Holder) (s : State) : Outcome := running s (releaseBank b h)
def execBankIncrementReport (p : Pos) (mg : Nat) (a : Attribution) (s : State) : Outcome :=
  running s (bankIncrement p mg a)
def execBkmTrip (s : State) : Outcome := running s bkmTrip

end Sys2Proof.Machine
end

