-- ==== Sys2Proof/Machine/Compressor.lean ====
section
/-! DEFINITION. The compressor controller (04_the_compressor.md, R52 to R71). -/

namespace Sys2Proof.Machine

open Sys2Proof

/-- Answers to WITHDRAW at CMP (R65). -/
inductive OutputWithdrawal where
  | withdrawn | holding
  deriving DecidableEq, Repr

/-! ## State changes (R54) -/

/-- PRIMING, UNLOADED and LOADED. -/
def CmpState.runs : CmpState → Bool
  | .priming | .unloaded | .loaded => true
  | _ => false

/-- R54: SMC and FIL are told of a change of state. -/
def cmpReport (s : State) : State := postAll [.descentReport, .compressorStateReport] s

/-- A change of the compressor's state, reported when it is one. -/
def cmpGoto (st : CmpState) (s : State) : State :=
  onlyIf (s.cmp.state != st) cmpReport (updCmp (fun c => { c with state := st }) s)

/-! ## Starts (R55 to R58) -/

/-- R55: an entry is young while the run-seconds counter is less than the entry plus 3600. -/
def young (now entry : Nat) : Bool := decide (now < entry + Config.startAge)

def State.youngStarts (s : State) : Nat := s.ret.history.countP (young s.ret.runSeconds)

/-- The test on a bank that R56 and R60 share: configured, its compressor valve mapped, AVAILABLE with
an empty wait list, and a usable pressure below the figure. -/
def State.refillable (s : State) (b : Bank) (below : Nat) : Bool :=
  (s.bankRow b).configured && s.mapped (.bankValve b .compressor)
    && (s.bank b).state == .available && (s.bank b).waiters.isEmpty
    && s.usable (.bankPressure b) && decide (s.value (.bankPressure b) < (below : Int))

/-- R56: a refill want. -/
def State.refillWanted (s : State) : Bool :=
  s.cmpRow.refillOrder.any (fun b => s.refillable b (s.bankRow b).refillStart)

/-- R56: a direct want. -/
def State.directWanted (s : State) : Bool := !s.cmp.waiters.isEmpty

/-- R56, the first condition. -/
def State.startPermitted (s : State) : Bool := s.cmpFitted && s.smc.mode.active && !s.latched

/-- The suction pressure a start needs (R56). -/
def State.suctionThreshold (s : State) : Nat :=
  s.cmpRow.suctionMin + (if s.cmp.supplyLow then s.cmpRow.hysteresis else 0)

def State.suctionOk (s : State) : Bool :=
  s.usable .suctionPressure && decide ((s.suctionThreshold : Int) ≤ s.value .suctionPressure)

def State.startSignalsOk (s : State) : Bool :=
  s.usable .dischargeTemp && decide (s.value .dischargeTemp ≤ (s.cmpRow.dischargeMax : Int))
    && s.usable .compressorRunning && !s.level .compressorRunning

/-- R56: the reason of the first condition with a reason that fails, in the order of the table of R56
(DESIGN CHOICE, assumption log 51: no rule says which reason is carried when several fail at once). -/
def State.startRefusal (s : State) : Option HeldReason :=
  if !s.suctionOk then some .supply
  else if !s.startSignalsOk then some .signal
  else if s.cmpRow.startsLimit ≤ s.youngStarts then some .startLimit
  else none

/-- R57: which wants there are: 0 direct, 1 refill, 2 both. -/
def wantNum (direct refill : Bool) : Nat := if direct && refill then 2 else if refill then 1 else 0

/-- R57: run-seconds until the oldest young entry ages. -/
def State.ageLeft (s : State) : Nat :=
  match s.ret.history.find? (young s.ret.runSeconds) with
  | some e => e + Config.startAge - s.ret.runSeconds
  | none => 0

/-- R57: the data of NOTICE COMPRESSOR-HELD. -/
def State.heldData (s : State) (r : HeldReason) : List Byte :=
  u1 r.num ++ u1 (wantNum s.directWanted s.refillWanted)
    ++ optField 2 (if r = .startLimit then some (u2 s.ageLeft) else none)
    ++ optField 2
        (if r = .supply then (s.usableValue .suctionPressure).map (fun v => u2 v.toNat) else none)
    ++ optField 2 (if r = .supply then some (u2 s.suctionThreshold) else none)

/-- R55: aged entries are removed. -/
def ageHistory (s : State) : State :=
  updRet (fun r => { r with history := r.history.filter (young r.runSeconds) }) s

/-- R58; the entries that have aged by now are gone from the history before the start joins it (R55). -/
def startCompressor (s : State) : State :=
  let s1 := updRet (fun r => { r with history := r.history ++ [r.runSeconds] }) (ageHistory s)
  let s2 := updCmp (fun c =>
    { c with
      supplyLow := false
      held := none
      startedAt := some s.ret.runSeconds
      primeTimer := startSeconds s.cmpRow.primeTime }) s1
  cmpGoto .priming (actuate .compressorDrive .set s.cmpRow.runSpeed s2)

/-- R57: the episode is opened with its notice, or kept with the latest reason. -/
def holdStart (r : HeldReason) (s : State) : State :=
  let s1 := if s.cmp.held.isNone then notice .compressorHeld 0 (s.heldData r) s else s
  updCmp (fun c => { c with held := some r }) s1

def endEpisode (s : State) : State := updCmp (fun c => { c with held := none }) s

/-- R56, the report of a refill want that arises in PARKED, and the flag. -/
def noteRefillWant (s : State) : State :=
  let want := s.refillWanted
  let s1 := onlyIf (s.smc.mode == .parked && want && !s.cmp.refillWant) (post .bankLow) s
  updCmp (fun c => { c with refillWant := want }) s1

/-- R56: a start evaluation, made in STOPPED. -/
def startEval (s0 : State) : State :=
  let s := noteRefillWant s0
  if (s.directWanted || s.refillWanted) && s.startPermitted then
    match s.startRefusal with
    | none => startCompressor s
    | some r => holdStart r s
  else endEpisode s

/-- A start evaluation where the compressor is STOPPED. -/
def evalIfStopped (s : State) : State := onlyIf (s.cmp.state == .stopped) startEval s

/-! ## The off time (R62) -/

/-- The end of a run whose CLOSE is queued: the run and prime timers stop and the off timer starts; a
minimum off time of 0 passes through COOLDOWN to STOPPED, with a start evaluation. -/
def enterCooldown (s : State) : State :=
  let s1 := cmpGoto .cooldown
    (updCmp (fun c =>
      { c with
        startedAt := none
        primeTimer := none
        offTimer := startSeconds s.cmpRow.minOff }) s)
  if s.cmpRow.minOff = 0 then
    startEval (cmpGoto .stopped (updCmp (fun c => { c with offTimer := none }) s1))
  else s1

/-! ## The output and the refill (R60, R61, R64) -/

/-- R64: a grant of the output, without its message. -/
def grantOutput (p : Pos) (s : State) : State :=
  cmpGoto .loaded (updCmp (fun c =>
    { c with
      holder := some (p, s.ret.clock)
      dest := some (.direct p)
      waiters := c.waiters.filter (fun q => q != p) }) s)

/-- R60, step 2: the first candidate whose claim BKM grants. -/
def claimRefill : List Bank → State → Option State
  | [], _ => none
  | b :: bs, s =>
    match claimForCompressor b s with
    | (.granted, t) =>
      some (actuate (.bankValve b .compressor) .open 1000
        (cmpGoto .loaded (updCmp (fun c => { c with dest := some (.refill b) }) t)))
    | (_, t) => claimRefill bs t

/-- R60: the refill candidates, in refill order. -/
def State.refillCandidates (s : State) : List Bank :=
  s.cmpRow.refillOrder.filter (fun b => s.refillable b (s.bankRow b).fillTo)

/-- Run-seconds since the last start (R54). -/
def State.runTimer (s : State) : Nat :=
  match s.cmp.startedAt with
  | some t => s.ret.runSeconds - t
  | none => 0

/-- R62: a normal stop. -/
def normalStop (s : State) : State := enterCooldown (close .compressorDrive s)

/-- R60, step 3. -/
def stopIfDue (ranOut : Bool) (s : State) : State :=
  if ranOut || decide (s.cmpRow.minRun ≤ s.runTimer) then normalStop s else s

/-- R60, step 1: the waiter that a target choice grants the output. While the latch is set there is none: a
claim would be refused (R63, R69; DEDUCED, assumption log 16). -/
def State.nextHolder (s : State) : Option Pos := if s.latched then none else s.cmp.waiters.head?

/-- R64: GRANTED is sent to the waiter that the event grants. It is sent before the reports of the state changes
that the event makes, so that FIL takes it as the source (R115) before a report of that event makes it walk
afresh (DEDUCED, assumption log 66). -/
def tellGranted (s : State) : State :=
  match s.nextHolder with
  | some q => post (.filGranted q .compressor) s
  | none => s

/-- R60: the destination: the next waiter, else a refill, else the stop that is due. -/
def chooseTarget (ranOut : Bool) (s : State) : State :=
  match s.nextHolder with
  | some q => grantOutput q s
  | none =>
    if s.smc.mode.active then
      match claimRefill s.refillCandidates s with
      | some t => t
      | none => stopIfDue ranOut s
    else stopIfDue ranOut s

/-- R60: target choice in UNLOADED; `ranOut` marks the expiry of the minimum run. -/
def targetChoice (ranOut : Bool) (s : State) : State := chooseTarget ranOut (tellGranted s)

/-- R59, R61, R64: entry into UNLOADED with no destination, and the target choice that follows. -/
def enterUnloaded (s : State) : State :=
  chooseTarget false
    (cmpGoto .unloaded
      (updCmp (fun c => { c with dest := none, holder := none, primeTimer := none }) (tellGranted s)))

def chooseIfUnloaded (s : State) : State := onlyIf (s.cmp.state == .unloaded) (targetChoice false) s

/-- The bank being refilled. -/
def State.refillBank (s : State) : Option Bank :=
  match s.cmp.dest with
  | some (.refill b) => if s.cmp.state = .loaded then some b else none
  | _ => none

/-- The position the output feeds. -/
def State.outputHolder (s : State) : Option Pos := s.cmp.holder.map (·.1)

/-- R61: a refill ends with a release of the bank. -/
def endRefill (b : Bank) (s : State) : State := enterUnloaded (releaseBank b .compressor s)

/-- The bank that is being refilled, if any, is released to BKM. -/
def releaseRefill (s : State) : State :=
  match s.refillBank with
  | some b => releaseBank b .compressor s
  | none => s

/-- The DIRECT holder, if any, is told LOST. -/
def loseOutput (c : LostCause) (s : State) : State :=
  match s.outputHolder with
  | some p => post (.filLost p .compressor c) s
  | none => s

/-- The destination and the holder become none. -/
def dropDestination (c : LostCause) (s : State) : State :=
  updCmp (fun k => { k with dest := none, holder := none }) (loseOutput c (releaseRefill s))

/-! ## Stops and lockout (R66, R67) -/

/-- R66: the stop for low supply, with one CLOSE; the value is absent while the record is unusable. -/
def supplyStop (s : State) : State :=
  let s1 := close .compressorDrive (dropDestination .supply s)
  let s2 := updCmp (fun c => { c with supplyLow := true }) s1
  enterCooldown (notice .supplyLow 0
    (u1 (s.quality .suctionPressure).num
      ++ optField 2 ((s.usableValue .suctionPressure).map (fun v => u2 v.toNat))) s2)

/-- R66: the stop for a lost signal under HOLD, with one CLOSE. -/
def signalStop (r : Role) (s : State) : State :=
  enterCooldown (notice .compressorStopped 0 (u1 r.code.1 ++ u1 (s.quality r).num)
    (close .compressorDrive (dropDestination .signal s)))

/-- R67, step 3. -/
def cancelOutputWaiters (s : State) : State :=
  updCmp (fun c => { c with waiters := [] })
    (postAll (s.cmp.waiters.map (fun p => .waitCancelled p .compressor)) s)

/-- R67: the locking event. Nothing changes in LOCKOUT. -/
def lockout (cause : LockCause) (temp : Option Int) (s : State) : State :=
  if s.cmp.state = .lockout then s
  else
    let s1 := close .compressorDrive (cancelOutputWaiters (dropDestination (.lockout cause) s))
    let s2 := cmpGoto .lockout (updCmp (fun c =>
      { c with
        startedAt := none
        primeTimer := none
        offTimer := startSeconds s.cmpRow.minOff
        cause := some cause
        held := none }) s1)
    notice .compressorLockout 0 (u1 cause.num ++ optField 2 (temp.map i2)) s2

/-! ## Signals at CMP (R56, R59, R61, R66, R67) -/

/-- R59: priming completes. -/
def completePriming (s : State) : State :=
  onlyIf (s.cmp.state == .priming && s.level .compressorRunning && s.usable .compressorRunning)
    enterUnloaded s

/-- R61: the refill of a bank ends at its arrival when `ends` holds; R60: any other BANK-PRESSURE arrival
makes a target choice in UNLOADED. -/
def bankAtCmp (b : Bank) (ends : Bool) (s : State) : State :=
  if s.refillBank = some b ∧ ends then endRefill b s else chooseIfUnloaded s

/-- A value arrival while the compressor is not STOPPED. -/
def cmpValue (r : Role) (s : State) : State :=
  match r with
  | .suctionPressure =>
    onlyIf (s.cmp.state.runs && decide (s.value r < (s.cmpRow.suctionMin : Int))) supplyStop s
  | .dischargeTemp =>
    onlyIf (s.cmp.state.runs && decide ((s.cmpRow.dischargeMax : Int) < s.value r))
      (lockout .overheat (some (s.value r))) s
  | .bankPressure b => bankAtCmp b (decide (((s.bankRow b).fillTo : Int) ≤ s.value r)) s
  | _ => s

/-- R66: the record is lost under HOLD. A record that a node map commit made ABSENT has no row
whose stale action was taken, and stops the compressor the same way. -/
def State.lostUnderHold (s : State) (r : Role) : Bool :=
  !s.usable r && (s.quality r == .absent || s.underHold r)

/-- A change of quality while the compressor is not STOPPED. -/
def cmpQuality (r : Role) (s : State) : State :=
  match r with
  | .suctionPressure => onlyIf (s.cmp.state.runs && !s.usable r) supplyStop s
  | .dischargeTemp => onlyIf (s.cmp.state.runs && s.lostUnderHold r) (signalStop r) s
  | .compressorRunning =>
    if s.cmp.state.runs && s.lostUnderHold r then signalStop r s else completePriming s
  | .bankPressure b => bankAtCmp b (!s.usable r) s
  | _ => s

/-- A transition of COMPRESSOR-RUNNING: priming, or R67's FEEDBACK. -/
def runningTransition (level : Bool) (s : State) : State :=
  if !level && (s.cmp.state == .unloaded || s.cmp.state == .loaded) then lockout .feedback none s
  else completePriming s

/-- R56: the roles whose arrivals call for a start evaluation. -/
def startsEvaluation : Role → Bool
  | .suctionPressure | .dischargeTemp | .compressorRunning | .bankPressure _ => true
  | _ => false

/-- CMP_SIGNAL_ARRIVAL, with the record as delivered. In STOPPED every kind of arrival of the roles of R56
makes a start evaluation, a transition and a level refresh of COMPRESSOR-RUNNING among them (DESIGN
CHOICE, assumption log 40: R56 speaks of value arrivals and quality changes). -/
def cmpSignal (r : Role) (a : Arrival) (s : State) : State :=
  if s.cmp.state = .stopped then onlyIf (startsEvaluation r) startEval s
  else
    match a with
    | .value _ => cmpValue r s
    | .quality _ => cmpQuality r s
    | .transition _ => if r = .compressorRunning then runningTransition (s.level r) s else s
    | .refresh _ => if r = .compressorRunning then completePriming s else s

/-! ## Claims on the output (R63 to R65) -/

/-- R63: joins the tail, or keeps its place. -/
def joinOutput (p : Pos) (s : State) : State :=
  if s.cmp.waiters.contains p then s else updCmp (fun c => { c with waiters := c.waiters ++ [p] }) s

/-- R63. -/
def claimOutput (p : Pos) (s : State) : ClaimAnswer × State :=
  if !s.cmpFitted || s.latched || s.outputHolder == some p || (s.heldBank p).isSome then (.refused, s)
  else
    match s.cmp.state with
    | .lockout => (.refused, s)
    | .unloaded => (.granted, grantOutput p s)
    | .loaded =>
      match s.refillBank with
      | some b => (.granted, grantOutput p (releaseBank b .compressor s))
      | none => (.waiting, joinOutput p s)
    | .priming | .cooldown => (.waiting, joinOutput p s)
    | .stopped => (.waiting, startEval (joinOutput p s))

/-- R64: a release by the holder; any other is ignored. -/
def releaseOutput (p : Pos) (s : State) : State :=
  if s.outputHolder = some p then enterUnloaded s else s

/-- R65. -/
def withdrawOutput (p : Pos) (s : State) : OutputWithdrawal × State :=
  if s.cmp.waiters.contains p then
    (.withdrawn, updCmp (fun c => { c with waiters := c.waiters.filter (fun q => q != p) }) s)
  else if s.outputHolder = some p then (.holding, s)
  else (.withdrawn, s)

/-- OUTPUT_CLAIM as a step of its own: a GRANTED answer goes to FIL as a message (DESIGN CHOICE,
assumption log 8), before what the event sends besides, as in `tellGranted`. -/
def outputClaim (p : Pos) (s : State) : State :=
  match claimOutput p s with
  | (.granted, _) => (claimOutput p (post (.filGranted p .compressor) s)).2
  | (_, t) => t

/-! ## Other events -/

/-- CMP_BANK_ANNOUNCEMENT (R56, R60). -/
def cmpAnnouncement (s : State) : State :=
  match s.cmp.state with
  | .stopped => startEval s
  | .unloaded => targetChoice false s
  | _ => s

/-- YIELDED and CMP_BANK_LOST (R61): the refill ends when the bank is the destination. -/
def refillGone (b : Bank) (s : State) : State :=
  if s.refillBank = some b then enterUnloaded s else s

/-- PRIME_TIMER_EXPIRY (R59). -/
def primeExpiry (s : State) : State :=
  onlyIf (s.cmp.state == .priming && s.cmp.primeTimer.isSome) (lockout .prime none) s

/-- MINIMUM_RUN_EXPIRY (R60, R62). -/
def minRunExpiry (s : State) : State := onlyIf (s.cmp.state == .unloaded) (targetChoice true) s

/-- OFF_TIMER_EXPIRY (R62; in LOCKOUT it runs out without changing the state, R67). -/
def offExpiry (s : State) : State :=
  if s.cmp.offTimer.isNone then s
  else
    let s1 := updCmp (fun c => { c with offTimer := none }) s
    if s.cmp.state = .cooldown then startEval (cmpGoto .stopped s1) else s1

/-- START_HISTORY_AGEING (R55): a removal in STOPPED is followed by a start evaluation. -/
def historyAgeing (s : State) : State :=
  if s.ret.history.all (young s.ret.runSeconds) then s else evalIfStopped (ageHistory s)

/-- R69: a change of mode. A change between QUIET and RUN does not affect the compressor. -/
def cmpModeChange (old : Mode) (s : State) : State :=
  if old.active && s.smc.mode.active then s
  else
    match s.cmp.state with
    | .stopped => startEval s
    | .unloaded => targetChoice false s
    | _ =>
      match s.refillBank, s.smc.mode.active with
      | some b, false => endRefill b s
      | _, _ => s

/-- R53, the commit's application after the new row is active; `was` is the old fitted flag. No
position is left on the output wait list of a compressor made unfitted (R65). -/
def cmpCommitted (was : Bool) (s : State) : State :=
  if was = s.cmpFitted then evalIfStopped s
  else
    let s1 := updCmp (fun c =>
      { c with
        state := .stopped
        cause := none
        supplyLow := if was then false else c.supplyLow
        waiters := if was then [] else c.waiters
        held := none
        startedAt := none
        primeTimer := none
        offTimer := none }) s
    startEval (cmpReport (onlyIf was (close .compressorDrive) s1))

/-! ## LOCKOUT-CLEAR (R68) -/

/-- R68: a fault condition remains. -/
def State.compressorFaulty (s : State) : Bool :=
  [Role.suctionPressure, .dischargeTemp, .compressorRunning].any (fun r => !s.usable r)
    || (s.mapped .dischargePressure && !s.usable .dischargePressure)
    || [Role.suctionPressure, .dischargePressure, .dischargeTemp].any
        (fun r => (s.record r).region != .inside)
    || decide ((s.cmpRow.dischargeMax : Int) < s.value .dischargeTemp)
    || s.level .compressorRunning

/-- R68: the state LOCKOUT is left for. -/
def leaveLockout (s : State) : State :=
  let s1 := updCmp (fun c => { c with cause := none }) s
  if s.cmp.offTimer.isSome then cmpGoto .cooldown s1 else startEval (cmpGoto .stopped s1)

def lockoutClearRequest (rq : Req) (s : State) : State :=
  if s.cmp.state ≠ .lockout ∨ s.latched ∨ s.compressorFaulty then reply rq 40 .state [] s
  else reply rq 40 .ok [] (leaveLockout s)

/-! ## Commands -/

def execLockoutClear (rq : Req) (s : State) : Outcome := running s (lockoutClearRequest rq)
def execCmpSignalArrival (r : Role) (a : Arrival) (s : State) : Outcome :=
  running s (seeing r a.record (cmpSignal r a))

def execCmpIsolate (s : State) : Outcome := running s (lockout .signal none)
def execCmpBankAnnouncement (_b : Bank) (s : State) : Outcome := running s cmpAnnouncement
def execOutputClaim (p : Pos) (s : State) : Outcome := running s (outputClaim p)
def execOutputRelease (p : Pos) (s : State) : Outcome := running s (releaseOutput p)

/-- OUTPUT_WITHDRAW as a step of its own (R65): its answer goes to the event that asked, and here there is
none (DESIGN CHOICE, assumption log 8). -/
def execOutputWithdraw (p : Pos) (s : State) : Outcome :=
  running s (fun t => (withdrawOutput p t).2)
def execYielded (b : Bank) (s : State) : Outcome := running s (refillGone b)
/-- R61: the refill ends whatever the cause of the LOST. -/
def execCmpBankLost (x : LostBank) (s : State) : Outcome := running s (refillGone x.bank)
def execPrimeTimerExpiry (s : State) : Outcome := running s primeExpiry
def execMinimumRunExpiry (s : State) : Outcome := running s minRunExpiry
def execOffTimerExpiry (s : State) : Outcome := running s offExpiry
def execStartHistoryAgeing (s : State) : Outcome := running s historyAgeing
def execCmpTrip (s : State) : Outcome := running s (lockout .trip none)

end Sys2Proof.Machine
end

