-- ==== Sys2Proof/Machine/Metering.lean ====
section
/-! DEFINITION. The metering unit (08_metering_and_mass_balance_attribution.md, R136 to R152). -/

namespace Sys2Proof

/-! ## The gram figures of a fill (R148) -/

/-- Fill mass in grams. -/
def FillMasses.fillG (x : FillMasses) : Nat := x.fill / 1000

/-- After-run mass in grams. -/
def FillMasses.afterRunG (x : FillMasses) : Nat := x.afterRun / 1000

/-- Unattributed mass in grams. -/
def FillMasses.unattrG (x : FillMasses) : Nat := x.unattr / 1000

/-- Drawn mass in grams, formed by subtraction. -/
def FillMasses.drawnG (x : FillMasses) : Nat := x.fillG - x.afterRunG - x.unattrG

end Sys2Proof

namespace Sys2Proof.Machine

open Sys2Proof

/-! ## Placing an increment (R141, R145) -/

/-- R141: the attribution in a collecting state; R145 outside one. -/
def attributionOf (st : PState) (src : Option Source) : Attribution :=
  match st with
  | .pulse | .main =>
    match src with
    | some (.bank b) => .session b
    | some .compressor => .compressor
    | none => .unattributed
  | .leakCheck | .precoolWait | .bankWait | .paused => .unattributed
  | .ending => .afterRun
  | _ => .outOfFill

/-- R141: the increment joins the fill mass and exactly one other figure. -/
def placeIncrement (a : Attribution) (mg : Nat) (m : MeterCtx) : MeterCtx :=
  match a with
  | .session b =>
    { m with fill := hold64 (m.fill + mg), banks := m.banks.set b (hold64 (m.banks.get b + mg)) }
  | .compressor => { m with fill := hold64 (m.fill + mg), cmp := hold64 (m.cmp + mg) }
  | .unattributed => { m with fill := hold64 (m.fill + mg), unattr := hold64 (m.unattr + mg) }
  | .afterRun => { m with fill := hold64 (m.fill + mg), afterRun := hold64 (m.afterRun + mg) }
  | .outOfFill => { m with outMass := hold64 (m.outMass + mg) }

/-- R144: an UNCERTAIN count that adds to the fill sets the mark. -/
def markUncertain (u : Bool) (m : MeterCtx) : MeterCtx := { m with uncertain := m.uncertain || u }

/-- R149: the live snapshot takes the three figures. -/
def writeSnapshot (p : Pos) (s : State) : State :=
  let m := s.meter p
  updRet (fun r =>
    { r with
      snapshots := r.snapshots.set p
        ((r.snapshots.get p).map (fun x =>
          { x with fill := m.fill, afterRun := m.afterRun, unattr := m.unattr })) }) s

/-- R140, R150: the totaliser. -/
def addTotal (p : Pos) (mg : Nat) (s : State) : State :=
  updRet (fun r => { r with totaliser := r.totaliser.set p (hold64 (r.totaliser.get p + mg)) }) s

/-- R142: the reports to BKM and PCL. -/
def massReports (p : Pos) (mg : Nat) (a : Attribution) : List Instr :=
  [.bankIncrementReport p mg a, .coldConsumption p ⟨mg, a⟩]

/-- R140, R143, R144: an increment that joins the fill. -/
def fillIncrement (p : Pos) (mg : Nat) (a : Attribution) (u : Bool) (s : State) : State :=
  let s1 := writeSnapshot p (updMeter p (fun m => markUncertain u (placeIncrement a mg m)) s)
  postAll (massReports p mg a ++ [.filMassReport p (s1.meter p).fill a u]) s1

/-- R145: flow outside a fill; `count` is the count taken. -/
def outsideIncrement (p : Pos) (mg count : Nat) (s : State) : State :=
  let s1 := updMeter p (placeIncrement .outOfFill mg) s
  let s2 :=
    if (s.meter p).outNotice then s1
    else
      notice .unauthorisedFlow p.num (u4 mg ++ u1 (s.ctx p).state.num ++ u2 count)
        (updMeter p (fun m => { m with outNotice := true }) s1)
  postAll (massReports p mg .outOfFill ++ [.unauthorisedFlowReport p]) s2

/-- R140: an accepted increment; one of 0 mg changes no figure and sends no report. -/
def acceptIncrement (p : Pos) (mg count : Nat) (u : Bool) (s : State) : State :=
  if mg = 0 then s
  else
    let s1 := addTotal p mg s
    match attributionOf (s.ctx p).state (s.ctx p).source with
    | .outOfFill => outsideIncrement p mg count s1
    | a => fillIncrement p mg a u s1

/-! ## Counts (R137, R138) -/

/-- R137: the delta, modulo 65536. -/
def countDelta (baseline count : Nat) : Nat := (count + 65536 - baseline) % 65536

/-- R138. -/
def meterFault (p : Pos) (baseline count : Nat) (s : State) : State :=
  post (.meterFaultReport p)
    (notice .meterFault p.num (u2 baseline ++ u2 count ++ u2 (countDelta baseline count))
      (updMeter p (fun m => { m with fault := true }) s))

/-- R137, with the count and whether it is UNCERTAIN. A delta above the maximum is a meter fault at pulse
weight 0 too (DESIGN CHOICE, assumption log 42: R140 says that such a position's counts change only the
baseline). -/
def takeCount (p : Pos) (count : Nat) (u : Bool) (s : State) : State :=
  let s1 := updMeter p (fun m => { m with baseline := some count }) s
  match (s.meter p).baseline with
  | none => s1
  | some b =>
    if (s.posRow p).maxDelta < countDelta b count then meterFault p b count s1
    else acceptIncrement p (countDelta b count * (s.posRow p).pulseWeight) count u s1

/-- What a METER_COUNT delivers of the METER record (R18): its count and its quality, all that MTR reads
of it. -/
def countRecord (count : Nat) (quality : Quality) : SigRec :=
  ⟨count, false, vehicleAbsent, quality, none, .inside⟩

/-- METER_COUNT: the count and the quality of the record as delivered. -/
def meterCount (p : Pos) (s : State) : State :=
  takeCount p (s.value (.meter p)).toNat (s.quality (.meter p) == .uncertain) s

/-- R146: the baseline becomes absent. -/
def dropBaseline (p : Pos) (s : State) : State := updMeter p (fun m => { m with baseline := none }) s

/-- METER_QUALITY_CHANGE (R146), with the record as delivered. -/
def meterQuality (p : Pos) (s : State) : State :=
  match s.quality (.meter p) with
  | .absent => dropBaseline p s
  | .good | .uncertain | .bad | .stale => s

/-! ## The fill figures (R147, R148) -/

/-- R147: opened at zero. -/
def openFigures (p : Pos) (s : State) : State :=
  updMeter p (fun m =>
    { m with
      isOpen := true, fill := 0, banks := .all 0, cmp := 0, unattr := 0, afterRun := 0,
      uncertain := false }) s

/-- R147, R148: closed, and readable as they stand. -/
def closeFigures (p : Pos) (s : State) : State := updMeter p (fun m => { m with isOpen := false }) s

/-- R148: the figures of the fill summary. -/
def State.masses (s : State) (p : Pos) : FillMasses :=
  let m := s.meter p
  ⟨m.fill, m.banks, m.cmp, m.unattr, m.afterRun, m.uncertain⟩

/-- R138, R145: what POSITION-OPEN clears when it takes the position out of FAULT. -/
def clearAlarms (p : Pos) (s : State) : State :=
  updMeter p (fun m => { m with fault := false, outMass := 0, outNotice := false }) s

/-! ## Commands -/

def execMeterCount (p : Pos) (count : Nat) (quality : Quality) (s : State) : Outcome :=
  running s (seeing (.meter p) (countRecord count quality) (meterCount p))

def execMeterQualityChange (p : Pos) (x : SigRec) (s : State) : Outcome :=
  running s (seeing (.meter p) x (meterQuality p))

end Sys2Proof.Machine
end

