-- ==== Sys2Proof/Machine/Precool.lean ====
section
/-! DEFINITION. The precool controller (05_precooling.md, R72 to R89). -/

namespace Sys2Proof.Machine

open Sys2Proof

/-! ## Admission (R84) -/

/-- PULLDOWN and READY. -/
def ChillerState.runs : ChillerState → Bool
  | .pulldown | .ready => true
  | _ => false

/-- R84: CHILLER-FAULT is unmapped or usable. -/
def State.contactOk (s : State) : Bool := !s.mapped .chillerFault || s.usable .chillerFault

/-- R84: the conditions of ADMIT for a category; a request naming C00 is answered ADMIT. -/
def State.admissible (s : State) (c : Category) : Bool :=
  match s.categoryRow c with
  | none => true
  | some r =>
    s.chillerRow.fitted && s.pcl.state == .ready && s.pcl.stabilised
      && decide (r.threshold ≤ s.pcl.reserve) && !s.latched && s.contactOk

def setPending (p : Pos) (c : Option Category) (s : State) : State :=
  updPcl (fun k => { k with pending := k.pending.set p c }) s

/-- R84: one pending request. -/
def reEvaluateAt (p : Pos) (s : State) : State :=
  match s.pcl.pending.get p with
  | none => s
  | some c => onlyIf (s.admissible c) (fun t => post (.admitted p c) (setPending p none t)) s

/-- R84: every pending request is answered again. -/
def reEvaluate (s : State) : State := forEach Pos.all reEvaluateAt s

/-- R84: a request: answered ADMIT (true), or WAIT and pending. -/
def requestAdmission (p : Pos) (c : Category) (s : State) : Bool × State :=
  if s.admissible c then (true, setPending p none s) else (false, setPending p (some c) s)

/-- ADMISSION_REQUEST as a step of its own: ADMIT goes to FIL as a message (DESIGN CHOICE, assumption
log 8). -/
def admissionRequest (p : Pos) (c : Category) (s : State) : State :=
  match requestAdmission p c s with
  | (true, t) => post (.admitted p c) t
  | (false, t) => t

/-- ADMISSION_CANCEL (R84). -/
def admissionCancel (p : Pos) (s : State) : State := setPending p none s

/-! ## The chiller (R76 to R80) -/

/-- R79: leaving READY, or any stop, leaves the stabilisation timer stopped and the flag clear. -/
def chillerTo (st : ChillerState) (s : State) : State :=
  updPcl (fun k => { k with state := st, stabilised := false, stabTimer := none }) s

/-- R79: entry into READY. -/
def enterReady (s : State) : State :=
  let i := s.chillerRow.stabilise
  updPcl (fun k =>
    { k with
      state := .ready
      stabilised := i == 0
      stabTimer := if i = 0 then none else startSeconds i }) s

/-- R79: the thresholds on the reserve as it stands. -/
def applyThresholds (s : State) : State :=
  match s.pcl.state with
  | .pulldown => onlyIf (decide (s.chillerRow.readyOn ≤ s.pcl.reserve)) enterReady s
  | .ready => onlyIf (decide (s.pcl.reserve < s.chillerRow.readyOff)) (chillerTo .pulldown) s
  | .parked | .fault => s

/-- R76: the run condition. -/
def State.runCondition (s : State) : Bool :=
  s.chillerRow.fitted && !s.latched
    && (s.smc.mode == .run || s.pcl.demand.toList.any Option.isSome)

/-- R77: the start out of PARKED. -/
def startChiller (s : State) : State :=
  let s1 := openFull .chillerDrive s
  if s.chillerRow.readyOn ≤ s.pcl.reserve then enterReady s1 else chillerTo .pulldown s1

def stopPark (s : State) : State := updPcl (fun k => { k with parkTimer := none }) s

/-- R78: the chiller parks. -/
def parkChiller (s : State) : State := stopPark (chillerTo .parked (close .chillerDrive s))

/-- R78: the run condition is found absent while running. -/
def beginPark (s : State) : State :=
  if s.pcl.parkTimer.isSome then s
  else if s.chillerRow.parkDelay = 0 then parkChiller s
  else updPcl (fun k => { k with parkTimer := startSeconds s.chillerRow.parkDelay }) s

/-- R76 to R78: an evaluation of the run condition. -/
def runEval (s : State) : State :=
  if !s.chillerRow.fitted then s
  else
    match s.pcl.state with
    | .parked => onlyIf s.runCondition startChiller s
    | .pulldown | .ready => if s.runCondition then stopPark s else beginPark s
    | .fault => s

/-- R80: entry into FAULT, when fitted and not in it already. -/
def enterChillerFault (c : ChillerCause) (s : State) : State :=
  if !s.chillerRow.fitted || s.pcl.state == .fault then s
  else
    let s1 := updPcl (fun k => { k with cause := some c })
      (stopPark (chillerTo .fault (close .chillerDrive s)))
    notice .chillerFault 0 (u1 c.num ++ u4 s.pcl.reserve) s1

/-- R80: FAULT is left for PARKED, with a run evaluation. -/
def leaveChillerFault (s : State) : State :=
  if s.pcl.state = .fault then
    runEval (updPcl (fun k => { k with cause := none }) (chillerTo .parked s))
  else s

/-- R80: the level of CHILLER-FAULT while its record is usable. -/
def State.contactLevel (s : State) : Option Bool :=
  if s.usable .chillerFault then some (s.level .chillerFault) else none

/-- CHILLER_FAULT_DELIVERY (R80, R84), with the record as delivered. Every kind of delivery is judged by
the level and the quality that it leaves. -/
def chillerFaultDelivery (s : State) : State :=
  reEvaluate
    (match s.contactLevel with
     | some true => enterChillerFault .level s
     | some false => leaveChillerFault s
     | none => s)

/-- STABILISATION_TIMER_EXPIRY (R79). -/
def stabilised (s : State) : State :=
  if s.pcl.stabTimer.isSome then
    reEvaluate (updPcl (fun k => { k with stabilised := true, stabTimer := none }) s)
  else s

/-- PARK_TIMER_EXPIRY (R78). -/
def parkExpiry (s : State) : State := if s.pcl.parkTimer.isSome then parkChiller s else s

/-! ## The reserve (R81, R82) -/

def setReserve (n : Nat) (s : State) : State := updPcl (fun k => { k with reserve := n }) s

/-- R81: the reserve after a step. -/
def reserveAfter (r : ChillerRow) (runs : Bool) (reserve : Nat) : Nat :=
  (clampInt 0 r.capacity ((reserve : Int) + (if runs then r.recovery else 0) - r.loss)).toNat

/-- RESERVE_STEP (R81). -/
def reserveStep (s : State) : State :=
  if s.chillerRow.fitted then
    reEvaluate (applyThresholds
      (setReserve (reserveAfter s.chillerRow s.pcl.state.runs s.pcl.reserve) s))
  else s

/-- R82: the temperature of the record of a source, if usable. -/
def State.recordTemp (s : State) (x : Option Source) : Option Int :=
  match x with
  | some (.bank b) => s.usableValue (.bankTemp b)
  | some .compressor => s.usableValue .dischargeTemp
  | none => none

/-- R82: the source temperature of a position. -/
def State.sourceTemp (s : State) (p : Pos) : Int :=
  match s.recordTemp (s.pcl.source.get p) with
  | some t => t
  | none => (s.usableValue .ambientTemp).getD 500

/-- R82: the cold an increment consumes at a position. -/
def State.coldOf (s : State) (p : Pos) (mg : Nat) (c : CategoryRow) : Nat :=
  coldJoules mg s.chillerRow.cp (s.sourceTemp p) c.target

/-- COLD_CONSUMPTION (R82); every attribution that a report names consumes cold (R142). -/
def coldConsumption (p : Pos) (i : Increment) (s : State) : State :=
  match (s.pcl.demand.get p).bind s.categoryRow with
  | none => s
  | some c => reEvaluate (applyThresholds (setReserve (s.pcl.reserve - s.coldOf p i.mg c) s))

/-! ## The category monitor (R85 to R87) -/

def setMonitor (p : Pos) (m : Monitor) (s : State) : State :=
  updPcl (fun k => { k with monitor := k.monitor.set p m }) s

/-- R85: the monitor at entry into MAIN, from the demand. -/
def enterMonitor (p : Pos) (s : State) : State :=
  match s.pcl.demand.get p with
  | none => setMonitor p .start s
  | some c =>
    if s.chillerRow.settle = 0 then setMonitor p ⟨.armed, some c, none, none⟩ s
    else setMonitor p ⟨.settling, some c, startSeconds s.chillerRow.settle, none⟩ s

/-- MAIN_LEAVE_REPORT (R85). An IDLE monitor holds no category, whatever the demand still is (DESIGN
CHOICE, assumption log 41: R85 gives an IDLE monitor its phase and stopped timers only). -/
def idleMonitor (p : Pos) (s : State) : State := setMonitor p .start s

/-- R76, R84, R85: demand none drops the pending request and idles the monitor; a new category
restarts a monitor that is not IDLE. -/
def settleDemand (p : Pos) (s : State) : State :=
  match s.pcl.demand.get p with
  | none => idleMonitor p (setPending p none s)
  | some c =>
    onlyIf ((s.pcl.monitor.get p).phase != .idle && (s.pcl.monitor.get p).category != some c)
      (enterMonitor p) s

/-- R76: a category of C00 gives demand none. -/
def demandOf : Option Category → Option Category
  | some .c00 => none
  | c => c

/-- CATEGORY_REPORT (R76, R82): at entry into AUTHORISED the source becomes none. The pending requests are
answered again here too (DESIGN CHOICE, assumption log 52: R84 lists a change of chiller state, not every
run evaluation). -/
def categoryReport (p : Pos) (c : Option Category) (entry : Bool) (s : State) : State :=
  let s1 := updPcl (fun k =>
    { k with
      demand := k.demand.set p (demandOf c)
      source := if entry then k.source.set p none else k.source }) s
  reEvaluate (runEval (settleDemand p s1))

/-- SOURCE_REPORT (R82). -/
def sourceReport (p : Pos) (x : Source) (s : State) : State :=
  updPcl (fun k => { k with source := k.source.set p (some x) }) s

/-- SETTLE_TIMER_EXPIRY (R85). -/
def settleExpiry (p : Pos) (s : State) : State :=
  let m := s.pcl.monitor.get p
  if m.phase = .settling ∧ m.settle.isSome then
    setMonitor p { m with phase := .armed, settle := none, excursion := none } s
  else s

/-- R86: a value in ARMED. -/
def armedValue (bound v : Int) (excursion : Nat) (m : Monitor) : Monitor :=
  if bound < v then
    { m with excursion := if m.excursion.isSome then m.excursion else startSeconds excursion }
  else { m with excursion := none }

/-- OUTLET_TEMP_ARRIVAL (R86), with the record as delivered. -/
def outletArrival (p : Pos) (a : Arrival) (s : State) : State :=
  let m := s.pcl.monitor.get p
  match a with
  | .value _ =>
    match m.phase, m.category.bind s.categoryRow with
    | .armed, some c =>
      setMonitor p (armedValue c.bound (s.value (.outletTemp p)) s.chillerRow.excursion m) s
    | _, _ => s
  | .quality _ =>
    if s.usable (.outletTemp p) then s else setMonitor p { m with excursion := none } s
  | .transition _ | .refresh _ => s

/-- EXCURSION_TIMER_EXPIRY (R87). -/
def excursionExpiry (p : Pos) (s : State) : State :=
  let m := s.pcl.monitor.get p
  match m.phase, m.excursion, m.category with
  | .armed, some _, some c =>
    post (.reRateRequest p c (s.value (.outletTemp p)))
      (setMonitor p { m with phase := .asked, excursion := none } s)
  | _, _, _ => s

/-! ## Trip, mode and commit -/

/-- PCL_TRIP (R88): parked at once, with no drive command of PCL's own. -/
def pclTrip (s : State) : State :=
  if s.pcl.state.runs then stopPark (chillerTo .parked s) else s

/-- R76: a change of mode; the pending requests are answered again (DESIGN CHOICE, assumption log 52). -/
def pclModeChange (s : State) : State := reEvaluate (runEval s)

/-- R74: fitted to unfitted. -/
def unfitChiller (s : State) : State :=
  updPcl (fun k => { k with reserve := 0, cause := none })
    (stopPark (chillerTo .parked (close .chillerDrive s)))

/-- R74: unfitted to fitted. -/
def fitChiller (s : State) : State :=
  let s1 := updPcl (fun k => { k with reserve := 0, cause := none }) (stopPark (chillerTo .parked s))
  if s.usable .chillerFault && s.level .chillerFault then enterChillerFault .level s1 else runEval s1

/-- R74: fitted in both copies. -/
def refitChiller (s : State) : State :=
  runEval (applyThresholds (setReserve (min s.pcl.reserve s.chillerRow.capacity) s))

/-- R74: the commit's application after the new copy is active; `was` is the old fitted flag. -/
def pclCommitted (was : Bool) (s : State) : State :=
  reEvaluate
    (match was, s.chillerRow.fitted with
     | true, false => unfitChiller s
     | false, true => fitChiller s
     | true, true => refitChiller s
     | false, false => s)

/-! ## Commands -/

def execReserveStep (s : State) : Outcome := running s reserveStep
def execColdConsumption (p : Pos) (i : Increment) (s : State) : Outcome :=
  running s (coldConsumption p i)

def execCategoryReport (p : Pos) (c : Option Category) (entry : Bool) (s : State) : Outcome :=
  running s (categoryReport p c entry)

def execSourceReport (p : Pos) (x : Source) (s : State) : Outcome := running s (sourceReport p x)
def execAdmissionRequest (p : Pos) (c : Category) (s : State) : Outcome :=
  running s (admissionRequest p c)
def execAdmissionCancel (p : Pos) (s : State) : Outcome := running s (admissionCancel p)
def execMainEntryReport (p : Pos) (s : State) : Outcome := running s (enterMonitor p)
def execMainLeaveReport (p : Pos) (s : State) : Outcome := running s (idleMonitor p)

def execOutletTempArrival (p : Pos) (a : Arrival) (s : State) : Outcome :=
  running s (seeing (.outletTemp p) a.record (outletArrival p a))

def execSettleTimerExpiry (p : Pos) (s : State) : Outcome := running s (settleExpiry p)
def execExcursionTimerExpiry (p : Pos) (s : State) : Outcome := running s (excursionExpiry p)
def execStabilisationTimerExpiry (s : State) : Outcome := running s stabilised
def execParkTimerExpiry (s : State) : Outcome := running s parkExpiry

def execChillerFaultDelivery (a : Arrival) (s : State) : Outcome :=
  running s (seeing .chillerFault a.record chillerFaultDelivery)

def execChillerIsolate (s : State) : Outcome := running s (enterChillerFault .signal)
def execPclTrip (s : State) : Outcome := running s pclTrip

end Sys2Proof.Machine
end

