-- ==== Sys2Proof/Machine/Fill.lean ====
section
/-! DEFINITION. The fill engine's shared operations (06_fill_tables_and_ramp_selection.md, R95 to R105;
07_fuelling_positions.md, R108 to R131): states, faults, the end of a fill, the bank walk, the
stages, the pause, the lookup and the vehicle link. -/

namespace Sys2Proof.Machine

open Sys2Proof

/-! ## State changes and availability (R108, R109) -/

/-- A change of a position's state: it leaves the list of BANK-WAIT positions unless it becomes one,
and SMC is told when it enters or leaves the span of R203. -/
def goState (p : Pos) (st : PState) (s : State) : State :=
  let before := (s.ctx p).state
  let s1 := updCtx p (fun c => { c with state := st }) s
  let s2 := { s1 with bankWaitOrder := s1.bankWaitOrder.filter (fun q => q != p) }
  onlyIf (before.descentSpan != st.descentSpan) (post .descentReport) s2

/-- R109. -/
def State.available (s : State) (p : Pos) : Bool :=
  (s.ctx p).opened && (s.posRow p).pulseWeight != 0 && s.smc.mode.allows (s.posRow p).required

/-- R109: an availability evaluation. -/
def evalAvailability (p : Pos) (s : State) : State :=
  match (s.ctx p).state, s.available p with
  | .closed, true => goState p (if s.level (.holster p) then .idle else .lifted) s
  | .idle, false | .lifted, false => goState p .closed s
  | _, _ => s

def evalAllAvailability (s : State) : State := forEach Pos.all evalAvailability s

/-- IDLE, or CLOSED if the position is no longer available (R112, R130). -/
def toIdle (p : Pos) (s : State) : State := goState p (if s.available p then .idle else .closed) s

/-! ## Valves of a position -/

/-- CLOSE for the dispense and control valves. -/
def closeFlow (p : Pos) (s : State) : State := close (.controlValve p) (close (.dispenseValve p) s)

/-- CLOSE for the valve of a drawn bank. -/
def closeDrawn (p : Pos) (s : State) : State :=
  match (s.ctx p).source with
  | some (.bank b) => close (.bankValve b (.pos p)) s
  | _ => s

/-- OPEN 1000 for the valve of a drawn bank. -/
def openDrawn (p : Pos) (s : State) : State :=
  match (s.ctx p).source with
  | some (.bank b) => openFull (.bankValve b (.pos p)) s
  | _ => s

/-- R121: the control opening is set and queued. -/
def setOpening (p : Pos) (n : Nat) (s : State) : State :=
  actuate (.controlValve p) .set n (updCtx p (fun c => { c with opening := n }) s)

/-- OPEN for the bank valve and the dispense valve, and SET with the control opening. -/
def openFlow (p : Pos) (s : State) : State :=
  actuate (.controlValve p) .set (s.ctx p).opening (openFull (.dispenseValve p) (openDrawn p s))

/-! ## Faults and hang-up (R130, R131) -/

/-- R131: the fault mark; the first cause is kept. -/
def markFault (p : Pos) (f : FaultCause) (s : State) : State :=
  updCtx p (fun c =>
    { c with faultMark := true, faultCause := if c.faultMark then c.faultCause else some f }) s

/-- The code of a held fault cause in NOTICE POSITION-FAULT. -/
def State.faultNum (s : State) (p : Pos) : Nat := (((s.ctx p).faultCause).map FaultCause.num).getD 0

/-- R131: entry into FAULT with the cause that the context holds. -/
def enterFault (p : Pos) (s : State) : State :=
  notice .positionFault p.num (u1 (s.faultNum p)) (goState p .fault (closeFlow p s))

/-- R131: entry into FAULT from CLOSED, IDLE or LIFTED. -/
def faultNow (p : Pos) (f : FaultCause) (s : State) : State :=
  enterFault p (updCtx p (fun c => { c with faultCause := some f }) s)

/-- R130: the end of HANG-UP. -/
def endHangUp (p : Pos) (s : State) : State :=
  if (s.ctx p).faultMark then enterFault p s else toIdle p s

/-- R130: entry into HANG-UP; a HOLSTER record held at level 1 ends it. -/
def enterHangUp (p : Pos) (s : State) : State :=
  onlyIf (s.level (.holster p)) (endHangUp p) (goState p .hangUp s)

/-- R130: venting is complete. -/
def ventDone (p : Pos) (s : State) : State :=
  if (s.ctx p).faultMark then enterFault p s else enterHangUp p s

/-- R130: entry into VENTING. -/
def enterVenting (p : Pos) (s : State) : State :=
  let s1 := goState p .venting s
  if s.nozzle p ≤ ((s.posRow p).ventTarget : Int) then ventDone p s1
  else
    updTimers p (fun t => { t with vent := startSeconds (s.posRow p).ventLimit })
      (openFull (.ventValve p) s1)

/-! ## Generations (R97, R98) -/

/-- R98: the fill latches the active generation of its class. -/
def latchGen (k : PClass) (s : State) : State :=
  let f := s.tables.fill k
  updTables (fun t => t.setFill k { f with holders := f.holders + 1 }) s

/-- R97: the older generation loses a holder; with none left it is discarded. -/
def OlderGen.drop (o : OlderGen) : Option OlderGen :=
  if o.holders ≤ 1 then none else some { o with holders := o.holders - 1 }

/-- R97, R98: the latch on a generation is released. -/
def FillCopy.release (gen : Nat) (f : FillCopy) : FillCopy :=
  if gen = f.copy.gen then { f with holders := f.holders - 1 }
  else { f with older := f.older.bind (fun o => if o.gen = gen then o.drop else some o) }

def releaseGen (k : PClass) (gen : Nat) (s : State) : State :=
  updTables (fun t => t.setFill k ((t.fill k).release gen)) s

/-! ## Leaving ENDING (R129) -/

/-- R124: the link that a fill carries out: PENDING is carried as NONE. -/
def Link.carried : Link → Link
  | .pending => .none
  | x => x

/-- R129: the fill summary, with the figures MTR holds. -/
def State.summary (s : State) (p : Pos) (f : FillId) : FillSummary :=
  let c := s.ctx p
  { pos := p
    pclass := (s.posRow p).pclass
    txn := f.txn
    kind := f.kind
    cap := f.cap
    gen := f.gen
    authTime := f.authTime
    reason := c.endReason
    required := (s.posRow p).required
    final := c.category
    reRates := c.reRates
    link := Link.carried c.link
    mismatch := c.mismatchMark
    unchecked := c.uncheckedMark
    uncertain := c.uncertainMark
    endTime := c.endTime
    masses := s.masses p }

/-- R129: leaving ENDING. -/
def leaveEnding (p : Pos) (s : State) : State :=
  match (s.ctx p).fill with
  | none => goState p .hangUp s
  | some f =>
    let s1 := postAll [.categoryReport p none false, .fillSummary (s.summary p f)] s
    let s2 := updCtx p (fun c => { c with fill := none }) (closeFigures p s1)
    if s.latched then enterHangUp p s2 else enterVenting p s2

/-- R128: the position leaves ENDING when the after-run timer has expired and no outcome is awaited. -/
def tryLeave (p : Pos) (s : State) : State :=
  let c := s.ctx p
  onlyIf (c.state == .ending && c.timers.afterRun.isNone && c.awaited.isEmpty) (leaveEnding p) s

/-! ## The end of a fill (R128) -/

/-- A release of a bank at BKM, noted as awaited while the fill is in progress (R108, R115, R128). Every
release sent is noted, one that BKM will ignore (R41) among them (DEDUCED, assumption log 27). -/
def releaseAwaited (p : Pos) (b : Bank) (s : State) : State :=
  releaseBank b (.pos p)
    (onlyIf (s.ctx p).state.inProgress
      (updCtx p (fun k => { k with awaited := k.awaited ++ [b] })) s)

/-- The source held is released at its owner. -/
def releaseSource (p : Pos) (s : State) : State :=
  let s1 := updCtx p (fun c => { c with source := none }) s
  match (s.ctx p).source with
  | some (.bank b) => releaseAwaited p b s1
  | some .compressor => releaseOutput p s1
  | none => s1

/-- R128, step 4: WITHDRAW at both owners; a holding is released at once. -/
def dropWait (p : Pos) (s : State) : State :=
  if (s.ctx p).waitOn.isNone then s
  else
    let s1 := updCtx p (fun c => { c with waitOn := none }) s
    let s2 :=
      match withdrawBank p s1 with
      | (.holding b, t) => releaseAwaited p b t
      | (.withdrawn, t) => t
    match withdrawOutput p s2 with
    | (.holding, t) => releaseOutput p t
    | (.withdrawn, t) => t

/-- R128, step 5: the position was in MAIN, or PAUSED from MAIN. -/
def Ctx.fromMain (c : Ctx) : Bool := c.state == .main || (c.state == .paused && c.resume == .main)

/-- R128, steps 6 and 7: every timer stops but the after-run timer, which starts; a window of 0 has
expired in the ending event. -/
def endTimers (window : Nat) : PosTimers :=
  { PosTimers.stopped with afterRun := if window = 0 then none else startTimer window }

/-- R128: an end of a fill in AUTHORISED or a running state. -/
def endFill (p : Pos) (r : EndReason) (s : State) : State :=
  let c := s.ctx p
  if !c.state.endable then s
  else
    let s1 := closeDrawn p (closeFlow p
      (updCtx p (fun c => { c with endReason := some r, endTime := s.ret.clock, opening := 0 }) s))
    let s2 := admissionCancel p (dropWait p (releaseSource p s1))
    let s3 := onlyIf c.fromMain (post (.mainLeaveReport p)) s2
    let s4 := updCtx p (fun c =>
      { c with timers := endTimers (s.posRow p).afterRun, soc := none }) s3
    tryLeave p (goState p .ending s4)

/-- R131: a fault cause, by the state of the position; `r` is the end reason it gives a fill. -/
def faultEvent (p : Pos) (f : FaultCause) (r : EndReason) (s : State) : State :=
  match (s.ctx p).state with
  | .closed | .idle | .lifted => faultNow p f s
  | .authorised | .pulse | .leakCheck | .precoolWait | .main | .bankWait | .paused =>
    endFill p r (markFault p f s)
  | .ending | .venting | .hangUp => markFault p f s
  | .fault => s

/-! ## The bank walk (R114) -/

/-- How a walk ends. -/
inductive WalkResult where
  | grant (x : Source)
  | wait (x : Source)
  | empty
  deriving DecidableEq, Repr

/-- R114: an entry is suitable for a position. -/
def State.suitable (s : State) (p : Pos) (x : Source) : Bool :=
  match x with
  | .bank b =>
    (s.bankRow b).configured && (s.bank b).state != .isolated && s.usable (.bankPressure b)
      && decide (((s.bankRow b).floor : Int) < s.value (.bankPressure b))
      && decide (s.nozzle p + (s.params p).switchDiff ≤ s.value (.bankPressure b))
  | .compressor => s.cmpFitted && s.cmp.state != .lockout

/-- R114: a suitable entry is free. -/
def State.isFree (s : State) (x : Source) : Bool :=
  match x with
  | .bank b => (s.bank b).state == .available || (s.bank b).state == .claimedCmp
  | .compressor => s.cmp.state == .unloaded || (s.cmp.state == .loaded && s.refillBank.isSome)

/-- The answer to the claim of one entry, after the WITHDRAW to the other owner (R114). -/
inductive EntryAnswer where
  | holding (x : Source)
  | answered (a : ClaimAnswer)
  deriving DecidableEq, Repr

/-- R114: the claim of one entry, after the WITHDRAW to the other owner. -/
def claimEntry (p : Pos) (x : Source) (s : State) : EntryAnswer × State :=
  match x with
  | .bank b =>
    match withdrawOutput p s with
    | (.holding, t) => (.holding .compressor, t)
    | (.withdrawn, t) =>
      match claimBank p b t with
      | (a, u) => (.answered a, u)
  | .compressor =>
    match withdrawBank p s with
    | (.holding b, t) => (.holding (.bank b), t)
    | (.withdrawn, t) =>
      match claimOutput p t with
      | (a, u) => (.answered a, u)

/-- WITHDRAW to the owner of an entry: a WAITING answer that FIL does not keep (R114). -/
def withdrawEntry (p : Pos) (x : Source) (s : State) : State :=
  match x with
  | .bank _ => (withdrawBank p s).2
  | .compressor => (withdrawOutput p s).2

/-- R114: the free suitable entries, claimed in sequence order. -/
def walkFree (p : Pos) : List Source → State → Option Source × State
  | [], s => (none, s)
  | x :: xs, s =>
    match claimEntry p x s with
    | (.holding y, t) => (some y, t)
    | (.answered .granted, t) => (some x, t)
    | (.answered .waiting, t) => walkFree p xs (withdrawEntry p x t)
    | (.answered .refused, t) => walkFree p xs t

/-- R114: no suitable entry is free: the first suitable one is claimed. -/
def walkWait (p : Pos) (xs : List Source) (s : State) : WalkResult × State :=
  match xs with
  | [] => (.empty, s)
  | x :: _ =>
    match claimEntry p x s with
    | (.holding y, t) => (.grant y, t)
    | (.answered .granted, t) => (.grant x, t)
    | (.answered .waiting, t) => (.wait x, t)
    | (.answered .refused, t) => (.empty, t)

/-- R114: a bank walk. -/
def walk (p : Pos) (s : State) : WalkResult × State :=
  let fit := (s.sequence (s.posRow p).pclass).filter (s.suitable p)
  match walkFree p (fit.filter s.isFree) s with
  | (some x, t) => (.grant x, t)
  | (none, t) => walkWait p fit t

/-! ## Sources and stages (R115, R116, R119) -/

/-- A grant: the source is recorded and reported to PCL, and any wait is over (R114, R115). -/
def takeSource (p : Pos) (x : Source) (s : State) : State :=
  post (.sourceReport p x) (updCtx p (fun c =>
    { c with source := some x, waitOn := none, timers := { c.timers with bankWait := none } }) s)

/-- R116: the pulse itself. -/
def startPulse (p : Pos) (s : State) : State :=
  let s1 := setOpening p 100 (openFull (.dispenseValve p) (openDrawn p (goState p .pulse s)))
  updTimers p (fun t => { t with pulse := startSeconds (s.params p).pulseTime }) s1

/-- R105: the ramp is anchored at the nozzle pressure held. -/
def anchorRamp (p : Pos) (s : State) : State :=
  updCtx p (fun c => { c with anchor := s.nozzle p, tau := 0, reAnchor := false }) s

/-- R119: entry into MAIN with a source. -/
def beginMain (p : Pos) (s : State) : State :=
  let s1 := post (.mainEntryReport p) (goState p .main (openFlow p s))
  onlyIf (s.ctx p).reAnchor (anchorRamp p) s1

/-- R115: entry into BANK-WAIT. -/
def enterBankWait (p : Pos) (x : Source) (st : WaitStage) (s : State) : State :=
  let s1 := updCtx p (fun c =>
    { c with
      waitOn := some x
      waitStage := st
      timers := { c.timers with bankWait := startSeconds (s.params p).bankWait } })
    (goState p .bankWait (closeFlow p s))
  { s1 with bankWaitOrder := s1.bankWaitOrder ++ [p] }

/-- The stage a grant leads to. -/
def enterStage (p : Pos) (st : WaitStage) (s : State) : State :=
  match st with
  | .pulse => startPulse p s
  | .main => beginMain p s

/-- R113, R116, R119: a walk with a stage, from a state other than BANK-WAIT. While the latch is set
FIL makes no walk (R134). -/
def walkStage (p : Pos) (st : WaitStage) (s : State) : State :=
  if s.latched then s
  else
    match walk p s with
    | (.grant x, t) => enterStage p st (takeSource p x t)
    | (.wait x, t) => enterBankWait p x st t
    | (.empty, t) => endFill p .banksExhausted t

/-! ## Pause causes (R122, R123) -/

/-- R122: SIGNAL is present. -/
def State.signalLost (s : State) (p : Pos) : Bool :=
  ([Role.nozzlePressure p, .coupled p, .meter p]
      ++ (if (s.ctx p).category = Category.c00 then [] else [Role.outletTemp p])).any
    (fun r => !s.usable r && s.underHold r)

/-- A pause cause is present. -/
def Ctx.caused (c : Ctx) : Bool := c.halt || c.signal

/-- R122: the set as it now stands, and the pause timer. -/
def setCauses (p : Pos) (halt : Bool) (s : State) : State :=
  let signal := s.signalLost p
  let timer := (s.ctx p).timers.pause
  let timer' :=
    if !(halt || signal) then none
    else if (s.ctx p).caused then timer else startSeconds (s.params p).pauseLimit
  updCtx p (fun c =>
    { c with halt := halt, signal := signal, timers := { c.timers with pause := timer' } }) s

/-- PAUSED with a resume stage. -/
def pauseIn (p : Pos) (r : ResumeStage) (s : State) : State :=
  goState p .paused (updCtx p (fun c => { c with resume := r }) s)

/-- R119: going on to MAIN. The precool-wait timer is done with. -/
def goMain (p : Pos) (s : State) : State :=
  let s1 := updTimers p (fun t => { t with precool := none }) s
  if (s.ctx p).caused then pauseIn p .main s1 else walkStage p .main s1

/-- R117: entry into LEAK-CHECK. -/
def enterLeakCheck (p : Pos) (s : State) : State :=
  let s1 := updCtx p (fun c => { c with leakRef := s.nozzle p }) s
  if (s.ctx p).caused then pauseIn p .leakCheck s1
  else
    updTimers p (fun t => { t with leak := startSeconds (s.params p).leakTime })
      (goState p .leakCheck s1)

/-- R123: a cause takes effect on the stage in progress. -/
def takePause (p : Pos) (s : State) : State :=
  match (s.ctx p).state with
  | .pulse =>
    pauseIn p .pulse (releaseSource p (closeFlow p (updTimers p (fun t => { t with pulse := none }) s)))
  | .leakCheck => pauseIn p .leakCheck (updTimers p (fun t => { t with leak := none }) s)
  | .main => post (.mainLeaveReport p) (pauseIn p .main (closeDrawn p (closeFlow p s)))
  | _ => s

/-- R123: resuming MAIN. -/
def resumeMain (p : Pos) (s : State) : State :=
  let s1 := updCtx p (fun c => { c with reAnchor := true }) s
  if (s.ctx p).source.isSome then beginMain p s1 else goMain p s1

/-- R123: the set is empty: the position resumes its stage. -/
def resumeStage (p : Pos) (s : State) : State :=
  if (s.ctx p).state = .paused then
    match (s.ctx p).resume with
    | .pulse => walkStage p .pulse s
    | .leakCheck => enterLeakCheck p s
    | .main => resumeMain p s
  else s

/-- R123: what the set of causes brings to the stage in progress. -/
def followCauses (p : Pos) (s : State) : State :=
  if (s.ctx p).caused then takePause p s else resumeStage p s

/-- R122, R123: a re-evaluation of the causes in a running state. -/
def reviewCauses (p : Pos) (halt : Bool) (s : State) : State :=
  if !(s.ctx p).state.running then s else followCauses p (setCauses p halt s)

/-! ## Fresh walks in BANK-WAIT (R115) -/

/-- A grant in BANK-WAIT: on to the recorded stage, or into PAUSED with no source where a pause cause
is present (R113, R119). -/
def leaveBankWait (p : Pos) (x : Source) (s : State) : State :=
  let s1 := takeSource p x s
  let c := s1.ctx p
  if c.caused then
    pauseIn p (match c.waitStage with | .pulse => .pulse | .main => .main) (releaseSource p s1)
  else enterStage p c.waitStage s1

/-- A fresh walk for a position in BANK-WAIT; while the latch is set it only keeps its state (R134). -/
def freshWalk (p : Pos) (s : State) : State :=
  if s.latched then s
  else
    match walk p s with
    | (.grant x, t) => leaveBankWait p x t
    | (.wait x, t) => updCtx p (fun c => { c with waitOn := some x }) t
    | (.empty, t) => endFill p .banksExhausted t

/-- R115: FIL serves its positions in BANK-WAIT, earliest first. -/
def serveWaiters (s : State) : State :=
  forEach s.bankWaitOrder
    (fun p t => if (t.ctx p).state = .bankWait then freshWalk p t else t) s

/-! ## The switch (R120) -/

/-- R120: the walk after the source has gone; a grant keeps the position in MAIN. -/
def walkOn (p : Pos) (s : State) : State :=
  if s.latched then s
  else
    match walk p s with
    | (.grant x, t) => openDrawn p (takeSource p x t)
    | (.wait x, t) => post (.mainLeaveReport p) (enterBankWait p x .main t)
    | (.empty, t) => endFill p .banksExhausted t

/-- R120: a switch trigger with a source still held. -/
def switchSource (p : Pos) (s : State) : State := walkOn p (releaseSource p s)

/-- R120: the pressure test of a drawn bank. -/
def State.bankTooLow (s : State) (p : Pos) (b : Bank) : Bool :=
  decide (s.value (.bankPressure b) - s.nozzle p < ((s.params p).switchDiff : Int))
    || decide (s.value (.bankPressure b) ≤ ((s.bankRow b).floor : Int))

/-! ## The lookup (R100 to R102) -/

/-- R101: the rate cap of a class in the active station table. -/
def State.rateCap (s : State) : PClass → Nat
  | .h35 => s.stationRow.rateCapH35
  | .h70 => s.stationRow.rateCapH70

/-- R101: APRR_used and P_end_used of a cell. -/
def usedOf (cell : Cell) (rateCap nonCommCap : Nat) (link : Link) : Nat × Nat :=
  (min cell.aprr rateCap,
   if link = .established then cell.pEnd else min cell.pEnd nonCommCap)

/-- R101: the values of a category for a selection, from the latched generation. -/
def State.lookupAt (s : State) (p : Pos) (x : Selection) (c : Category) : Selection :=
  let t := s.latchedTable p
  let u := usedOf (t.cell x.volClass c x.ambBand x.p0Band) (s.rateCap (s.posRow p).pclass)
    t.params.nonCommCap (s.ctx p).link
  { x with aprr := u.1, pEnd := u.2 }

/-- R100: the volume class and whether the vehicle gave it. An ESTABLISHED link whose VEHICLE record holds
no volume (SIG has taken a VEHDATA that FIL has still to take) gives the default class, source DEFAULT
(DESIGN CHOICE, assumption log 43). -/
def State.volumeClass (s : State) (p : Pos) : Nat × Bool :=
  match (s.ctx p).link, (s.record (.vehicle p)).vehicle.volume with
  | .established, some v => (bandOf (s.latchedTable p).volEdges v, true)
  | _, _ => ((s.posRow p).volClass, false)

/-- R100: the ambient band; band 5 while AMBIENT-TEMP is not usable. -/
def State.ambientBand (s : State) (p : Pos) : Nat :=
  match s.usableValue .ambientTemp with
  | some v => bandOf (s.latchedTable p).ambEdges v
  | none => 5

/-- R100, R101: the selection record of a fill and its values. -/
def State.selectionOf (s : State) (p : Pos) : Selection :=
  let v := s.volumeClass p
  let p0 := ((s.ctx p).p0).getD 0
  s.lookupAt p
    ⟨v.1, v.2, s.ambientBand p, bandOf (s.latchedTable p).p0Edges p0, 0, 0⟩ (s.ctx p).category

/-- R100: the lookup, with the UNCERTAIN-DATA mark when AMBIENT-TEMP was not GOOD. -/
def makeLookup (p : Pos) (s : State) : State :=
  updCtx p (fun c =>
    { c with
      selection := some (s.selectionOf p)
      uncertainMark := c.uncertainMark || s.quality .ambientTemp != .good }) s

/-- APRR_used of the context's selection. -/
def State.aprrUsed (s : State) (p : Pos) : Nat := (((s.ctx p).selection).map Selection.aprr).getD 0

/-! ## Precool wait (R117, R118, R102) -/

/-- The category changes; PCL is told (R102, R104). -/
def setCategory (p : Pos) (c : Category) (x : Selection) (s : State) : State :=
  post (.categoryReport p (some c) false)
    (updCtx p (fun k => { k with category := c, selection := some x }) s)

/-- R118: expiry of the precool-wait timer; `wait` is what a fresh WAIT leads to. -/
def precoolExpired (wait : State → State) (p : Pos) (s0 : State) : State :=
  let s := admissionCancel p (updTimers p (fun t => { t with precool := none }) s0)
  match (s.posRow p).fallback, (s.ctx p).fellBack, (s.ctx p).selection with
  | some c, false, some x =>
    let y := s.lookupAt p x c
    if y.aprr = 0 then endFill p .notPermitted s
    else
      let s1 := updCtx p (fun k => { k with fellBack := true }) (setCategory p c y s)
      let s2 := reviewCauses p (s1.ctx p).halt s1
      if c = .c00 then goMain p s2
      else
        match requestAdmission p c s2 with
        | (true, t) => goMain p t
        | (false, t) => wait t
  | _, _, _ => endFill p .precoolUnavailable s

/-- R118: PRECOOL-WAIT with its timer. A limit of 0 expires in the entering event, and a fill makes one
fallback lookup (R102), so two entries are the most one event holds: `fuel` counts them. -/
def precoolWait : Nat → Pos → State → State
  | 0, _, s => s
  | fuel + 1, p, s =>
    let limit := (s.params p).precoolWait
    let s1 := updTimers p (fun t => { t with precool := startSeconds limit }) (goState p .precoolWait s)
    if limit = 0 then precoolExpired (precoolWait fuel p) p s1 else s1

/-- The admission of a fill after its lookup (R117, steps 4 and 5). -/
def askAdmission (p : Pos) (s : State) : State :=
  let c := (s.ctx p).category
  if c = .c00 then goMain p s
  else
    match requestAdmission p c s with
    | (true, t) => goMain p t
    | (false, t) => precoolWait 2 p t

/-! ## The vehicle link (R124, R125) -/

/-- R125: why the link was dropped, as NOTICE LINK-DROPPED carries it. -/
inductive DropCause where
  | inconsistent | timeout | mismatch
  deriving DecidableEq, Repr

def DropCause.num : DropCause → Nat
  | .inconsistent => 0
  | .timeout => 1
  | .mismatch => 2

/-- R125: the link is DROPPED; the end it may give is R125's last check. -/
def dropLink (p : Pos) (d : DropCause) (s : State) : State :=
  let cap := (s.params p).nonCommCap
  notice .linkDropped p.num (u1 d.num)
    (updCtx p (fun c =>
      { c with
        link := .dropped
        selection := c.selection.map (fun x => { x with pEnd := min x.pEnd cap })
        timers := { c.timers with vehicle := none, mismatch := none } }) s)

/-- R125: the nozzle pressure held stands at P_end_used, or at the cap while no lookup is made. -/
def State.dropCompletes (s : State) (p : Pos) : Bool :=
  let limit := (((s.ctx p).selection).map Selection.pEnd).getD (s.params p).nonCommCap
  decide ((limit : Int) ≤ s.nozzle p)

/-- R125: the drop and the end that may follow it. -/
def dropAndCheck (p : Pos) (d : DropCause) (s : State) : State :=
  let s1 := dropLink p d s
  onlyIf (s1.dropCompletes p) (endFill p .completePressure) s1

/-- R125: the mismatch timer, judged while the link is ESTABLISHED; with no tank pressure in the VEHICLE record it
is left as it is (DESIGN CHOICE, assumption log 59). -/
def judgeMismatch (p : Pos) (s : State) : State :=
  match (s.ctx p).link, (s.record (.vehicle p)).vehicle.pressure with
  | .established, some tank =>
    let far := (s.params p).mismatchTol < (tank - s.nozzle p).natAbs
    updTimers p (fun t =>
      { t with
        mismatch :=
          if far then
            (if t.mismatch.isSome then t.mismatch else startSeconds (s.params p).mismatchTime)
          else none }) s
  | _, _ => s

/-- R124: an arrival is consistent at a position. -/
def isConsistent (f : VehicleFields) (k : PClass) : Bool :=
  f.volume.isSome && f.pressure.isSome && f.temp.isSome && f.pclass == some k

/-- The link becomes ESTABLISHED, or a fresh arrival restarts its timer (R124, R125). -/
def keepLink (p : Pos) (s : State) : State :=
  updCtx p (fun c =>
    { c with
      link := .established
      timers := { c.timers with vehicle := startTimer (s.params p).vehTimeout } }) s

/-- The vehicle fields of a position as its VEHICLE record holds them. -/
def State.vehicleOf (s : State) (p : Pos) : VehicleFields := (s.record (.vehicle p)).vehicle

/-- R124, R125: the link judged at a VEHDATA arrival; a drop does not yet end the fill. -/
def judgeLink (p : Pos) (s : State) : State :=
  let good := isConsistent (s.vehicleOf p) (s.posRow p).pclass
  match (s.ctx p).link with
  | .pending =>
    let n := if good then (s.ctx p).consistent + 1 else 0
    let s1 := updCtx p (fun c => { c with consistent := n }) s
    if 2 ≤ n then judgeMismatch p (keepLink p s1) else s1
  | .established =>
    if good then judgeMismatch p (keepLink p s) else dropLink p .inconsistent s
  | .none | .dropped => s

/-! ## Authorisation and the pulse entry (R111, R113) -/

/-- R113: entry into PULSE. -/
def enterPulse (p : Pos) (s : State) : State :=
  let link : Link := if (s.posRow p).vehicleComm && s.mapped (.vehicle p) then .pending else .none
  let s1 := updCtx p (fun c =>
    { c with
      link := link
      consistent := 0
      soc := none
      timers := { c.timers with fill := startSeconds (s.params p).maxFillTime } }) (goState p .pulse s)
  let s2 := setCauses p false s1
  if (s2.ctx p).caused then pauseIn p .pulse s2 else walkStage p .pulse s2

/-- R111: entry into AUTHORISED, with MTR's figures opened (R147). -/
def authorise (p : Pos) (txn : Nat) (kind : TenderKind) (cap : Nat) (s : State) : State :=
  let row := s.posRow p
  let gen := (s.tables.fill row.pclass).copy.gen
  let s1 := updCtx p (fun c =>
    { Ctx.start with
      state := c.state
      opened := c.opened
      category := row.required
      fill := some ⟨txn, kind, cap, gen, s.ret.clock⟩ }) (latchGen row.pclass s)
  let s2 := openFigures p (post (.categoryReport p (some row.required) true) s1)
  let s3 := goState p .authorised s2
  if s.level (.coupled p) then enterPulse p s3 else s3

end Sys2Proof.Machine
end

