-- ==== Sys2Proof/Machine/FillEvents.lean ====
section
/-! DEFINITION. The fill engine's events and requests (07_fuelling_positions.md, R110 to R134;
re-rate by R103 and R104; meter reports by R139, R143 and R145). -/

namespace Sys2Proof.Machine

open Sys2Proof

/-! ## Holster and coupling (R110, R112, R127, R130) -/

/-- R112: the fill is cancelled in AUTHORISED. -/
def cancelFill (p : Pos) (s : State) : State :=
  match (s.ctx p).fill with
  | none => toIdle p s
  | some f =>
    let s1 := releaseGen (s.posRow p).pclass f.gen (post (.cancelled p) s)
    let s2 := closeFigures p (post (.categoryReport p none false) s1)
    toIdle p (updCtx p (fun c => { c with fill := none }) s2)

/-- FIL_HOLSTER_TRANSITION: its direction is the level that the record as delivered holds. -/
def holsterTransition (p : Pos) (s : State) : State :=
  match (s.ctx p).state, s.level (.holster p) with
  | .idle, false => goState p .lifted s
  | .lifted, true => goState p .idle s
  | .authorised, true => cancelFill p s
  | .hangUp, true => endHangUp p s
  | st, true => onlyIf st.running (endFill p .disconnected) s
  | _, _ => s

/-- FIL_COUPLED_TRANSITION: its direction is the level that the record as delivered holds. -/
def coupledTransition (p : Pos) (s : State) : State :=
  match (s.ctx p).state, s.level (.coupled p) with
  | .authorised, true => enterPulse p s
  | st, false => onlyIf st.running (endFill p .disconnected) s
  | _, _ => s

/-! ## Nozzle pressure (R120, R121, R125, R127, R130) -/

/-- R105: the ramp target of a position as it now stands. -/
def State.rampTarget (s : State) (p : Pos) (x : Selection) : Int :=
  Machine.rampTarget (s.ctx p).anchor x.aprr (s.ctx p).tau x.pEnd

/-- R121: a step of the control opening. -/
def rampStep (p : Pos) (target : Int) (s : State) : State :=
  let v := s.nozzle p
  let k := s.params p
  let o := (s.ctx p).opening
  if target + k.upperBand < v then
    if o = 0 then s else setOpening p (o - 100) s
  else if v < target - k.lowerBand then
    if 1000 ≤ o then s else setOpening p (min (o + 100) 1000) s
  else s

/-- R120: a nozzle pressure that leaves too little difference to the drawn bank. -/
def switchByNozzle (p : Pos) (s : State) : State :=
  match (s.ctx p).source with
  | some (.bank b) => onlyIf (s.bankTooLow p b) (switchSource p) s
  | _ => s

/-- R121, R127, R120: a nozzle pressure in MAIN: the end checks, the switch trigger, and the ramp step
if the position is still in MAIN. -/
def nozzleInMain (p : Pos) (s : State) : State :=
  match (s.ctx p).selection with
  | none => s
  | some x =>
    if (x.pEnd : Int) ≤ s.nozzle p then endFill p .completePressure s
    else
      let target := s.rampTarget p x
      let s1 := updCtx p (fun c => { c with target := some target }) s
      if target + (s.params p).abortBand < s.nozzle p then endFill p .rampExceeded s1
      else
        let s2 := switchByNozzle p s1
        onlyIf ((s2.ctx p).state == .main) (rampStep p target) s2

/-- R130: a nozzle pressure in VENTING. -/
def nozzleInVenting (p : Pos) (s : State) : State :=
  if s.nozzle p ≤ ((s.posRow p).ventTarget : Int) then
    ventDone p (updTimers p (fun t => { t with vent := none }) (close (.ventValve p) s))
  else s

/-- R127: the class ceiling, judged before any other use of the value. -/
def ceilingCheck (p : Pos) (s : State) : State :=
  onlyIf (decide ((Config.ceiling (s.posRow p).pclass : Int) ≤ s.nozzle p))
    (faultEvent p .ceiling .overpressure) s

/-- FIL_NOZZLE_PRESSURE, with the record as delivered: the ceiling, and then the use of the value in the
state the ceiling leaves. In VENTING a value at or above the ceiling sets the mark (R127) and may still
complete the venting (R130). -/
def nozzlePressure (p : Pos) (s0 : State) : State :=
  let s := ceilingCheck p s0
  let st := (s.ctx p).state
  if st = .venting then nozzleInVenting p s
  else if st.running then
    let s1 := judgeMismatch p s
    if st = .main then nozzleInMain p s1 else s1
  else s

/-! ## Bank pressure (R120) -/

/-- FIL_BANK_PRESSURE at one position. -/
def bankPressureAt (b : Bank) (a : Arrival) (p : Pos) (s : State) : State :=
  if (s.ctx p).state = .main ∧ (s.ctx p).source = some (.bank b) then
    match a with
    | .value _ => onlyIf (s.bankTooLow p b) (switchSource p) s
    | .quality _ => onlyIf (!s.usable (.bankPressure b)) (switchSource p) s
    | .transition _ | .refresh _ => s
  else s

/-- FIL_BANK_PRESSURE, with the record as delivered. -/
def filBankPressure (b : Bank) (a : Arrival) (s : State) : State :=
  forEach Pos.all (bankPressureAt b a) s

/-! ## Vehicle data (R126) -/

/-- R31: the latest SOC. -/
def State.socOf (s : State) (p : Pos) (f : VehicleFields) : Option Nat :=
  match f.pressure, f.temp with
  | some pr, some t => some (stateOfCharge s.bq (s.posRow p).pclass pr t)
  | _, _ => none

/-- R127: OVERTEMP. -/
def overTemp (max : Nat) (f : VehicleFields) : Bool :=
  match f.temp with
  | some t => decide ((max : Int) ≤ t)
  | none => false

/-- R127: COMPLETE-SOC. -/
def socComplete (limit : Nat) (c : Ctx) : Bool :=
  match c.soc with
  | some n => c.link == .established && decide (limit ≤ n)
  | none => false

/-- R126, step 4, and R125: the first end condition of the table that a VEHDATA arrival meets;
`dropped` marks a link that this arrival dropped. -/
def State.vehicleEnd (s : State) (p : Pos) (f : VehicleFields) (dropped : Bool) : Option EndReason :=
  if overTemp (s.params p).tankTempMax f then some .overtemp
  else if f.command = some .abort then some .vehicleStop
  else if socComplete (s.params p).socLimit (s.ctx p) then some .completeSoc
  else if dropped && s.dropCompletes p then some .completePressure
  else none

/-- R126, step 3: the HALT cause after the fill command. -/
def haltAfter (halt : Bool) : Option FillCommand → Bool
  | some .halt => true
  | some .run => false
  | _ => halt

/-- R126, step 3: the fill command changes the set of pause causes. -/
def applyCommand (p : Pos) (f : VehicleFields) (s : State) : State :=
  setCauses p (haltAfter (s.ctx p).halt f.command) s

/-- FIL_VEHDATA (R126), with the record as delivered: the link, the SOC, the fill command, the end checks.
What the command's causes bring to the stage in progress (R123) is taken when no end is met (DEDUCED,
assumption log 19). -/
def vehicleData (p : Pos) (s : State) : State :=
  if !(s.ctx p).state.running then s
  else
    let f := s.vehicleOf p
    let s1 := judgeLink p s
    let dropped := (s.ctx p).link == .established && (s1.ctx p).link == .dropped
    let s2 := applyCommand p f (updCtx p (fun c => { c with soc := s1.socOf p f }) s1)
    match s2.vehicleEnd p f dropped with
    | some r => endFill p r s2
    | none => followCauses p s2

/-! ## Signals (R122, R131) -/

/-- FIL_SIGNAL_QUALITY, with the record as delivered. -/
def signalQuality (p : Pos) (s : State) : State := reviewCauses p (s.ctx p).halt s

/-! ## Grants, announcements and losses (R115, R116, R120, R123) -/

/-- R115: a holding that the position does not want is released at once. -/
def releaseUnwanted (p : Pos) (x : Source) (s : State) : State :=
  match x with
  | .bank b => releaseAwaited p b s
  | .compressor => releaseOutput p s

/-- FIL_GRANTED. A grant of the source that a walk already took starts nothing more. -/
def granted (p : Pos) (x : Source) (s : State) : State :=
  if (s.ctx p).state = .bankWait ∧ (s.ctx p).waitOn = some x then leaveBankWait p x s
  else if (s.ctx p).source = some x then s
  else releaseUnwanted p x s

/-- The wait in BANK-WAIT names this entry. -/
def Ctx.waitsOn (c : Ctx) (x : Source) : Bool := c.state == .bankWait && c.waitOn == some x

/-- R115, R134: the wait has ended at its owner: a fresh walk. -/
def waitEnded (p : Pos) (x : Source) (s : State) : State :=
  if (s.ctx p).waitsOn x then freshWalk p (updCtx p (fun c => { c with waitOn := none }) s) else s

/-- R116: a LOST during the pulse. -/
def lostInPulse (p : Pos) (s : State) : State :=
  walkStage p .pulse (closeFlow p (updTimers p (fun t => { t with pulse := none }) s))

/-- R128: an awaited note of a bank is cleared. -/
def clearAwaited (p : Pos) (b : Bank) (s : State) : State :=
  updCtx p (fun c => { c with awaited := c.awaited.erase b }) s

/-- R128: the note that a LOST naming a bank clears. -/
def clearLost (p : Pos) (x : Source) (s : State) : State :=
  match x with
  | .bank b => clearAwaited p b s
  | .compressor => s

/-- FIL_LOST. -/
def lost (p : Pos) (x : Source) (s0 : State) : State :=
  let s := clearLost p x s0
  if (s.ctx p).source = some x then
    let s1 := updCtx p (fun c => { c with source := none }) s
    match (s.ctx p).state with
    | .pulse => lostInPulse p s1
    | .main => walkOn p s1
    | _ => s1
  else tryLeave p (waitEnded p x s)

/-- R128: a session outcome is collected, with the mark it sets. -/
def collectOutcome (b : Bank) (o : DrawOutcome) (c : Ctx) : Ctx :=
  { c with
    outcomes := c.outcomes ++ [(b, o)]
    mismatchMark := c.mismatchMark || o == .mismatch
    uncheckedMark := c.uncheckedMark || o == .unchecked }

/-- SESSION_OUTCOME (R128): dropped where no fill is in progress. -/
def sessionOutcome (p : Pos) (b : Bank) (o : DrawOutcome) (s : State) : State :=
  if (s.ctx p).state.inProgress then tryLeave p (clearAwaited p b (updCtx p (collectOutcome b o) s)) else s

/-! ## Admission and re-rate (R118, R103, R104) -/

/-- ADMIT (R118). -/
def admitted (p : Pos) (c : Category) (s : State) : State :=
  if (s.ctx p).state = .precoolWait ∧ (s.ctx p).category = c then goMain p s else s

/-- R103, step 2: a category whose bound the outlet value meets; C00 has no bound. -/
def State.boundMeets (s : State) (outlet : Int) (c : Category) : Bool :=
  match s.categoryRow c with
  | some r => decide (outlet ≤ r.bound)
  | none => true

/-- R103, steps 2 to 4: the new category with its values. -/
def State.reRateTo (s : State) (p : Pos) (x : Selection) (c : Category) (outlet : Int) :
    Option (Category × Selection) :=
  ((c.warmerThan.dropWhile (fun k => !s.boundMeets outlet k)).map
    (fun k => (k, s.lookupAt p x k))).find? (fun y => y.2.aprr != 0)

/-- R104: the re-rate. -/
def reRate (p : Pos) (old new : Category) (x : Selection) (outlet : Int) (s : State) : State :=
  let s1 := anchorRamp p
    (updCtx p (fun c => { c with reRates := c.reRates + 1 }) (setCategory p new x s))
  let s2 := notice .reRated p.num
    (u1 old.rank ++ u1 new.rank ++ i2 outlet ++ u2 x.aprr ++ u2 x.pEnd) s1
  if (x.pEnd : Int) ≤ s.nozzle p then endFill p .completePressure s2
  else reviewCauses p (s2.ctx p).halt s2

/-- RE_RATE_REQUEST (R103). -/
def reRateRequest (p : Pos) (c : Category) (outlet : Int) (s : State) : State :=
  if (s.ctx p).state = .main ∧ (s.ctx p).category = c then
    if !(s.posRow p).autoReRate then endFill p .precoolLost s
    else
      match ((s.ctx p).selection).bind (fun x => s.reRateTo p x c outlet) with
      | some (k, x) => reRate p c k x outlet s
      | none => endFill p .precoolLost s
  else s

/-! ## Reports of MTR (R139, R143, R145) -/

/-- UNAUTHORISED_FLOW_REPORT (R145, R131); in a running state it changes nothing. -/
def unauthorisedFlow (p : Pos) (s : State) : State :=
  if (s.ctx p).state.running then s else faultEvent p .flow .meterFault s

/-- R143: the MASS-CAP check. -/
def State.capReached (s : State) (p : Pos) (mass : Nat) : Bool :=
  match (s.ctx p).fill with
  | some f => decide (f.cap * 1000 ≤ mass)
  | none => false

/-- FIL_MASS_REPORT (R143). -/
def massReport (p : Pos) (mass : Nat) (uncertain : Bool) (s : State) : State :=
  let st := (s.ctx p).state
  let s1 := onlyIf (st.collecting && uncertain) (updMeter p (markUncertain true)) s
  onlyIf (st.running && s.capReached p mass) (endFill p .massCap) s1

/-! ## Timers -/

/-- A timer's expiry stops it; a timer that is stopped has none. -/
def expire (p : Pos) (left : PosTimers → Option Nat) (stop : PosTimers → PosTimers)
    (f : State → State) (s : State) : State :=
  if (left (s.ctx p).timers).isSome then f (updTimers p stop s) else s

/-- FILL_TIMER_EXPIRY (R113). -/
def fillExpiry (p : Pos) (s : State) : State :=
  expire p PosTimers.fill (fun t => { t with fill := none }) (endFill p .timeLimit) s

/-- R116: the end of the pulse. -/
def pulseEnd (p : Pos) (s : State) : State :=
  let s1 := releaseSource p (updCtx p (fun c => { c with opening := 0 }) (closeFlow p s))
  let p0 := s1.nozzle p
  let s2 := updCtx p (fun c => { c with p0 := some p0 }) s1
  if p0 < ((s.params p).minStart : Int) then endFill p .startPressure s2
  else if (Config.pEndCap (s.posRow p).pclass : Int) ≤ p0 then endFill p .completePressure s2
  else enterLeakCheck p s2

/-- PULSE_TIMER_EXPIRY (R116). -/
def pulseExpiry (p : Pos) (s : State) : State :=
  expire p PosTimers.pulse (fun t => { t with pulse := none }) (pulseEnd p) s

/-- R117, step 2. -/
def endPending (p : Pos) (s : State) : State :=
  updCtx p (fun c => { c with link := if c.link = .pending then .none else c.link }) s

/-- R117: the end of the leak check. -/
def leakEnd (p : Pos) (s : State) : State :=
  if ((s.params p).leakLimit : Int) < (s.ctx p).leakRef - s.nozzle p then endFill p .leak s
  else
    let s1 := makeLookup p (endPending p s)
    if s1.aprrUsed p = 0 then endFill p .notPermitted s1 else askAdmission p s1

/-- LEAK_CHECK_TIMER_EXPIRY (R117). -/
def leakExpiry (p : Pos) (s : State) : State :=
  expire p PosTimers.leak (fun t => { t with leak := none }) (leakEnd p) s

/-- PRECOOL_WAIT_TIMER_EXPIRY (R118). -/
def precoolExpiry (p : Pos) (s : State) : State :=
  expire p PosTimers.precool (fun t => { t with precool := none })
    (precoolExpired (precoolWait 1 p) p) s

/-- BANK_WAIT_TIMER_EXPIRY (R115). -/
def bankWaitExpiry (p : Pos) (s : State) : State :=
  expire p PosTimers.bankWait (fun t => { t with bankWait := none }) (endFill p .banksExhausted) s

/-- PAUSE_TIMER_EXPIRY (R122). -/
def pauseExpiry (p : Pos) (s : State) : State :=
  expire p PosTimers.pause (fun t => { t with pause := none })
    (endFill p (if (s.ctx p).signal then .signalLost else .pauseTimeout)) s

/-- VEHICLE_TIMER_EXPIRY (R125). -/
def vehicleExpiry (p : Pos) (s : State) : State :=
  expire p PosTimers.vehicle (fun t => { t with vehicle := none }) (dropAndCheck p .timeout) s

/-- MISMATCH_TIMER_EXPIRY (R125). -/
def mismatchExpiry (p : Pos) (s : State) : State :=
  expire p PosTimers.mismatch (fun t => { t with mismatch := none }) (dropAndCheck p .mismatch) s

/-- AFTER_RUN_TIMER_EXPIRY (R128). -/
def afterRunExpiry (p : Pos) (s : State) : State :=
  expire p PosTimers.afterRun (fun t => { t with afterRun := none }) (tryLeave p) s

/-- R130: the vent timer expires first: the vent valve is left open. -/
def ventFault (p : Pos) (s : State) : State :=
  enterFault p (updCtx p (fun c => { c with faultCause := some .vent }) s)

/-- VENT_TIMER_EXPIRY (R130). -/
def ventExpiry (p : Pos) (s : State) : State :=
  expire p PosTimers.vent (fun t => { t with vent := none }) (ventFault p) s

/-! ## Trip (R134) -/

/-- FIL_TRIP at one position. -/
def tripPosition (p : Pos) (s : State) : State :=
  match (s.ctx p).state with
  | .idle | .lifted => goState p .closed s
  | .venting => ventDone p (updTimers p (fun t => { t with vent := none }) s)
  | _ => endFill p .tripped s

def filTrip (s : State) : State := forEach Pos.all tripPosition s

/-! ## Requests (R132, R133) -/

/-- R132: what POSITION-OPEN asks of a position in FAULT. -/
def State.faultCleared (s : State) (p : Pos) : Bool :=
  [Role.nozzlePressure p, .holster p, .coupled p, .meter p].all (fun r => s.quality r == .good)
    && (s.quality (.outletTemp p) == .good || !s.mapped (.outletTemp p))
    && s.level (.holster p) && !s.level (.coupled p)

def setOpened (p : Pos) (b : Bool) (s : State) : State :=
  evalAvailability p (updCtx p (fun c => { c with opened := b }) s)

/-- R132, R138, R145: POSITION-OPEN takes a position out of FAULT. -/
def leaveFault (p : Pos) (s : State) : State :=
  let s1 := updCtx p (fun c => { c with faultMark := false, faultCause := none })
    (close (.ventValve p) s)
  setOpened p true (goState p .closed (clearAlarms p s1))

/-- POSITION-OPEN (R132). -/
def positionOpenRequest (rq : Req) (n : Nat) (s : State) : State :=
  match Pos.ofNum n with
  | none => reply rq 48 .range [] s
  | some p =>
    if (s.ctx p).state = .fault then
      if s.faultCleared p then leaveFault p (reply rq 48 .ok [] s) else reply rq 48 .state [] s
    else setOpened p true (reply rq 48 .ok [] s)

/-- POSITION-CLOSE (R132). -/
def positionCloseRequest (rq : Req) (n : Nat) (s : State) : State :=
  match Pos.ofNum n with
  | none => reply rq 49 .range [] s
  | some p => setOpened p false (reply rq 49 .ok [] s)

/-- POSITION-STOP (R133). -/
def positionStopRequest (rq : Req) (n : Nat) (s : State) : State :=
  match Pos.ofNum n with
  | none => reply rq 50 .range [] s
  | some p =>
    if (s.ctx p).state.endable then reply rq 50 .ok [] (endFill p .supervisorStop s)
    else reply rq 50 .state [] s

/-- R133: the lowered cap at FIL, and the MASS-CAP check on the fill mass in whole grams. -/
def lowerCap (p : Pos) (f : FillId) (cap : Nat) (s : State) : State :=
  let s1 := post (.loweredCap p cap) (updCtx p (fun c => { c with fill := some { f with cap := cap } }) s)
  onlyIf ((s.ctx p).state.running && decide (cap ≤ (s.meter p).fill / 1000)) (endFill p .massCap) s1

/-- POSITION-LIMIT (R133). -/
def positionLimitRequest (rq : Req) (n cap : Nat) (s : State) : State :=
  match Pos.ofNum n with
  | none => reply rq 51 .range [] s
  | some p =>
    match (s.ctx p).state.endable, (s.ctx p).fill with
    | true, some f =>
      if cap < 1 ∨ 200000 < cap ∨ f.cap ≤ cap then reply rq 51 .range [] s
      else lowerCap p f cap (reply rq 51 .ok [] s)
    | _, _ => reply rq 51 .state [] s

/-! ## Commands -/

def execPositionOpen (rq : Req) (n : Nat) (s : State) : Outcome := running s (positionOpenRequest rq n)
def execPositionClose (rq : Req) (n : Nat) (s : State) : Outcome := running s (positionCloseRequest rq n)
def execPositionStop (rq : Req) (n : Nat) (s : State) : Outcome := running s (positionStopRequest rq n)

def execPositionLimit (rq : Req) (n cap : Nat) (s : State) : Outcome :=
  running s (positionLimitRequest rq n cap)

def execFilHolsterTransition (p : Pos) (x : SigRec) (s : State) : Outcome :=
  running s (seeing (.holster p) x (holsterTransition p))

def execFilCoupledTransition (p : Pos) (x : SigRec) (s : State) : Outcome :=
  running s (seeing (.coupled p) x (coupledTransition p))

def execFilNozzlePressure (p : Pos) (x : SigRec) (s : State) : Outcome :=
  running s (seeing (.nozzlePressure p) x (nozzlePressure p))

def execFilBankPressure (b : Bank) (a : Arrival) (s : State) : Outcome :=
  running s (seeing (.bankPressure b) a.record (filBankPressure b a))

def execFilVehdata (p : Pos) (x : SigRec) (s : State) : Outcome :=
  running s (seeing (.vehicle p) x (vehicleData p))

def execFilSignalQuality (x : PosSignal) (s : State) : Outcome :=
  running s (seeing x.role x.record (signalQuality x.pos))

def execPositionIsolate (p : Pos) (s : State) : Outcome :=
  running s (faultEvent p .isolate .signalLost)

def execFilGranted (p : Pos) (x : Source) (s : State) : Outcome := running s (granted p x)
def execFilBankAnnouncement (_b : Bank) (s : State) : Outcome := running s serveWaiters
def execCompressorStateReport (s : State) : Outcome := running s serveWaiters
def execWaitCancelled (p : Pos) (x : Source) (s : State) : Outcome := running s (waitEnded p x)
def execFilLost (p : Pos) (x : Source) (_c : LostCause) (s : State) : Outcome := running s (lost p x)

def execSessionOutcome (p : Pos) (b : Bank) (o : DrawOutcome) (s : State) : Outcome :=
  running s (sessionOutcome p b o)

def execAdmit (p : Pos) (c : Category) (s : State) : Outcome := running s (admitted p c)

def execReRateRequest (p : Pos) (c : Category) (outlet : Int) (s : State) : Outcome :=
  running s (reRateRequest p c outlet)

def execMeterFaultReport (p : Pos) (s : State) : Outcome :=
  running s (faultEvent p .meter .meterFault)

def execUnauthorisedFlowReport (p : Pos) (s : State) : Outcome := running s (unauthorisedFlow p)

def execFilMassReport (p : Pos) (mass : Nat) (_a : Attribution) (u : Bool) (s : State) : Outcome :=
  running s (massReport p mass u)

def execFillTimerExpiry (p : Pos) (s : State) : Outcome := running s (fillExpiry p)
def execPulseTimerExpiry (p : Pos) (s : State) : Outcome := running s (pulseExpiry p)
def execLeakCheckTimerExpiry (p : Pos) (s : State) : Outcome := running s (leakExpiry p)
def execPrecoolWaitTimerExpiry (p : Pos) (s : State) : Outcome := running s (precoolExpiry p)
def execBankWaitTimerExpiry (p : Pos) (s : State) : Outcome := running s (bankWaitExpiry p)
def execPauseTimerExpiry (p : Pos) (s : State) : Outcome := running s (pauseExpiry p)
def execVehicleTimerExpiry (p : Pos) (s : State) : Outcome := running s (vehicleExpiry p)
def execMismatchTimerExpiry (p : Pos) (s : State) : Outcome := running s (mismatchExpiry p)
def execAfterRunTimerExpiry (p : Pos) (s : State) : Outcome := running s (afterRunExpiry p)
def execVentTimerExpiry (p : Pos) (s : State) : Outcome := running s (ventExpiry p)
def execFilTrip (s : State) : Outcome := running s filTrip

end Sys2Proof.Machine
end

