-- ==== Sys2Proof/Machine/Billing.lean ====
section
/-! DEFINITION. The billing unit (09_prices_tenders_and_fleet_accounts.md, R153 to R169) and the
transaction queue (10_the_transaction_queue_and_totalisers.md, R170 to R180). -/

namespace Sys2Proof.Machine

open Sys2Proof

/-! ## Prices and caps (R155, R158) -/

/-- R155: the band of a station-clock reading; band 0 while the clock reads UNSET. -/
def Tariff.band (t : Tariff) (clock : Option Nat) : Nat :=
  match clock with
  | some s => bandOf (t.bands.map Int.ofNat) ((s % 86400 / 60 : Nat) : Int) - 1
  | none => 0

/-- R155: the price of a customer class in a band. -/
def Tariff.price (t : Tariff) (cls band : Nat) : Nat := (t.prices.getD cls []).getD band 0

/-- R158: grams that an amount buys at a price. -/
def gramsFor (amount price : Nat) : Nat := amount * 100000 / price

/-- R163: the sum of the holds of an account. -/
def Account.held (a : Account) : Nat := (a.holds.map Hold.amount).sum

/-- R158: the available funds. -/
def Account.available (a : Account) : Nat := a.balance - a.held

/-- R158: the cap of a CARD tender. -/
def cardCap (maxFill amount price : Nat) : Nat := min maxFill (gramsFor amount price)

/-- R158: the cap of a FLEET tender. -/
def fleetCap (maxFill price : Nat) (a : Account) : Nat :=
  min maxFill (min (a.allowance - a.used) (gramsFor a.available price))

/-! ## Accounts (R163) -/

/-- The account that holds an id. -/
def State.account (s : State) (id : Nat) : Option Account :=
  s.ret.accounts.findSome? (fun o => o.bind (fun a => if a.id = id then some a else none))

/-- Replaces the account that holds an id. -/
def updAccount (id : Nat) (f : Account → Account) (s : State) : State :=
  updRet (fun r =>
    { r with
      accounts := r.accounts.map (fun o => o.map (fun a => if a.id = id then f a else a)) }) s

/-- The position's hold entry is removed. -/
def dropHold (p : Pos) (a : Account) : Account := { a with holds := a.holds.filter (fun h => h.pos != p) }

/-- The position's hold entry is set to an amount (R161). -/
def setHold (p : Pos) (n : Nat) (a : Account) : Account :=
  { a with holds := a.holds.map (fun h => if h.pos = p then { h with amount := n } else h) }

/-! ## Places, numbers and snapshots (R171 to R173, R176) -/

/-- R170: a place is FREE. -/
def State.placeFree (s : State) : Bool :=
  decide (s.ret.records.length + s.reservations < Config.recordPlaces)

/-- R171: the reservation for a position. -/
def reservePlace (p : Pos) (s : State) : State :=
  updRet (fun r => { r with reserved := r.reserved.set p true }) s

/-- R171: the reservation of a position is released and its snapshot cleared. -/
def releasePlace (p : Pos) (s : State) : State :=
  updRet (fun r =>
    { r with reserved := r.reserved.set p false, snapshots := r.snapshots.set p none }) s

/-- R173: the live snapshot changes. -/
def updSnapshot (p : Pos) (f : Snapshot → Snapshot) (s : State) : State :=
  updRet (fun r => { r with snapshots := r.snapshots.set p ((r.snapshots.get p).map f) }) s

/-- R178: the counts of records and of reservations that a reply or a notice carries. -/
def State.queueCounts (s : State) : List Byte := u1 s.ret.records.length ++ u1 s.reservations

/-- R176: a record takes the place of its position's reservation; without one nothing is placed. -/
def placeRecord (r : TxnRecord) (s : State) : State :=
  if s.ret.reserved.get r.pos then
    let s1 := updRet (fun k => { k with records := k.records ++ [r] }) (releasePlace r.pos s)
    notice .recordReady r.pos.num (u4 r.txn ++ s1.queueCounts) s1
  else s

/-! ## Taking a tender (R157 to R159) -/

/-- R157, the reasons in the order of the table. -/
inductive TenderRefusal where
  | format | source | tripped | positionState | accountUnknown | accountBlocked | capTooLow | queueFull
  deriving DecidableEq, Repr

def TenderRefusal.num : TenderRefusal → Nat
  | .format => 0
  | .source => 1
  | .tripped => 2
  | .positionState => 3
  | .accountUnknown => 4
  | .accountBlocked => 5
  | .capTooLow => 6
  | .queueFull => 7

/-- R157, check 2: the source node of the position's TENDER-SOURCE row. -/
def State.tenderSourceIs (s : State) (p : Pos) (source : Nat) : Bool :=
  match s.rowOf (.tenderSource p) with
  | some x => x.2.source == source
  | none => false

/-- The TENDER as BIL judges it: position and kind known. -/
structure TenderIn where
  source    : Nat
  pos       : Pos
  kind      : TenderKind
  reference : Nat
  account   : Nat
  amount    : Nat
  deriving DecidableEq, Repr

/-- R155: the customer class of a tender. -/
def State.tenderClass (s : State) (t : TenderIn) : Nat :=
  match t.kind with
  | .card => 0
  | .fleet => ((s.account t.account).map Account.cls).getD 0

/-- R155: the price of a tender taken now. -/
def State.tenderPrice (s : State) (t : TenderIn) : Nat :=
  s.tariff.price (s.tenderClass t) (s.tariff.band s.ret.clock)

/-- R158: the cap of a tender taken now. -/
def State.tenderCap (s : State) (t : TenderIn) : Nat :=
  let most := (s.posRow t.pos).maxFill
  match t.kind with
  | .card => cardCap most t.amount (s.tenderPrice t)
  | .fleet => ((s.account t.account).map (fleetCap most (s.tenderPrice t))).getD 0

/-- R157, checks 5 and 6: the account of a FLEET tender. -/
def State.accountRefusal (s : State) (t : TenderIn) : Option TenderRefusal :=
  match t.kind with
  | .card => none
  | .fleet =>
    match s.account t.account with
    | none => some .accountUnknown
    | some a => if a.blocked then some .accountBlocked else none

/-- R157: the first of checks 2 to 8 that fails. -/
def State.tenderRefusal (s : State) (t : TenderIn) : Option TenderRefusal :=
  if !s.tenderSourceIs t.pos t.source then some .source
  else if s.latched then some .tripped
  else if (s.ctx t.pos).state ≠ .lifted then some .positionState
  else
    match s.accountRefusal t with
    | some r => some r
    | none =>
      if s.tenderCap t < s.tariff.minCap then some .capTooLow
      else if !s.placeFree then some .queueFull
      else none

/-- R156: the context of an accepted tender. -/
def State.tenderContext (s : State) (t : TenderIn) (txn : Nat) : TenderCtx :=
  let price := s.tenderPrice t
  let cap := s.tenderCap t
  { txn := txn
    kind := t.kind
    reference := t.reference
    node := t.source
    account := if t.kind = .fleet then t.account else 0
    authorised := if t.kind = .card then t.amount else 0
    band := s.tariff.band s.ret.clock
    cls := s.tenderClass t
    price := price
    cap := cap
    hold := if t.kind = .fleet then amountOf cap price else 0
    start := s.ret.clock
    timeUnset := s.ret.clock.isNone }

/-- R156, R173: the tender part of the snapshot, with the three masses at 0. -/
def TenderCtx.snapshot (c : TenderCtx) : Snapshot :=
  ⟨c.txn, c.kind, c.reference, c.node, c.account, c.price, c.start, c.timeUnset, c.cap, 0, 0, 0⟩

/-- R159: the data of NOTICE TENDER-ACCEPTED. -/
def TenderCtx.acceptedData (c : TenderCtx) : List Byte :=
  u4 c.txn ++ u4 c.reference ++ u4 c.price ++ u4 c.cap
    ++ optField 4 (if c.kind = .fleet then some (u4 c.hold) else none)

/-- R159, step 2: the hold of a FLEET tender. -/
def placeHold (p : Pos) (c : TenderCtx) (s : State) : State :=
  match c.kind with
  | .card => s
  | .fleet => updAccount c.account (fun a => { a with holds := a.holds ++ [⟨p, c.hold⟩] }) s

/-- R159: an accepted tender. The context of a fill whose CANCELLED or summary is still in flight is replaced, and
that message is then taken for the new fill (DESIGN CHOICE, assumption log 60). -/
def acceptTender (t : TenderIn) (s : State) : State :=
  let p := t.pos
  let txn := nextTxn s.ret.txnCounter
  let c := s.tenderContext t txn
  let s1 := placeHold p c (updRet (fun r => { r with txnCounter := txn }) (reservePlace p s))
  let s2 := { s1 with bil := s1.bil.set p (some c) }
  let s3 := updRet (fun r => { r with snapshots := r.snapshots.set p (some c.snapshot) }) s2
  noticeTo c.node .tenderAccepted p.num c.acceptedData (authorise p txn c.kind c.cap s3)

/-- R157: NOTICE TENDER-REJECTED, and nothing else. -/
def rejectTender (source pos reference : Nat) (r : TenderRefusal) (s : State) : State :=
  noticeTo source .tenderRejected pos (u1 r.num ++ u4 reference) s

/-- TENDER (R157). A broadcast TENDER is dropped. -/
def takeTender (source : Nat) (broadcast : Bool) (pos kind reference account amount : Nat) (s : State) :
    State :=
  if broadcast then s
  else
    match Pos.ofNum pos, TenderKind.ofNum kind with
    | some p, some k =>
      let t : TenderIn := ⟨source, p, k, reference, account, amount⟩
      match s.tenderRefusal t with
      | some r => rejectTender source pos reference r s
      | none => acceptTender t s
    | _, _ => rejectTender source pos reference .format s

/-! ## Changes during a fill (R161) -/

/-- LOWERED_CAP. -/
def lowerTenderCap (p : Pos) (cap : Nat) (s : State) : State :=
  match s.bil.get p with
  | none => s
  | some c =>
    let hold := if c.kind = .fleet then amountOf cap c.price else c.hold
    let s1 := { s with bil := s.bil.set p (some { c with cap := cap, hold := hold }) }
    let s2 := updSnapshot p (fun x => { x with cap := cap }) s1
    onlyIf (c.kind == .fleet) (updAccount c.account (setHold p hold)) s2

/-- R162: NOTICE FILL-END to the tender node. -/
def fillEnd (node : Nat) (p : Pos) (txn reference billed amount : Nat) (cancelled : Bool) (s : State) :
    State :=
  noticeTo node .fillEnd p.num
    (u4 txn ++ u4 reference ++ u4 billed ++ u4 amount ++ uFlag cancelled) s

/-- CANCELLED. -/
def cancelTender (p : Pos) (s : State) : State :=
  match s.bil.get p with
  | none => s
  | some c =>
    let s1 := releasePlace p s
    let s2 :=
      match c.kind with
      | .fleet => updAccount c.account (dropHold p) s1
      | .card => fillEnd c.node p c.txn c.reference 0 0 true s1
    { s2 with bil := s2.bil.set p none }

/-! ## Settlement (R162) -/

/-- R162, FLEET: the debit, the hold and used today. -/
def debit (p : Pos) (amount billed : Nat) (a : Account) : Account :=
  dropHold p { a with balance := a.balance - amount, used := hold32 (a.used + billed) }

/-- R162: what a fill is settled by, from the summary and the context or from the snapshot. -/
structure Settlement where
  pos       : Pos
  txn       : Nat
  kind      : TenderKind
  reference : Nat
  node      : Nat
  account   : Nat
  price     : Nat
  cap       : Nat
  fillG     : Nat
  deriving DecidableEq, Repr

/-- R162: the billed mass. -/
def Settlement.billed (x : Settlement) : Nat := min x.fillG x.cap

/-- R162: the amount. -/
def Settlement.amount (x : Settlement) : Nat := amountOf x.billed x.price

/-- R162: the account is debited, or the card terminal is told. -/
def settle (x : Settlement) (s : State) : State :=
  match x.kind with
  | .fleet => updAccount x.account (debit x.pos x.amount x.billed) s
  | .card => fillEnd x.node x.pos x.txn x.reference x.billed x.amount false s

/-- R162: the settlement of a summary. -/
def TenderCtx.settlement (c : TenderCtx) (p : Pos) (fillG : Nat) : Settlement :=
  ⟨p, c.txn, c.kind, c.reference, c.node, c.account, c.price, c.cap, fillG⟩

/-- R162, R174, R175: the record of a settled fill. -/
def State.recordOf (s : State) (sum : FillSummary) (c : TenderCtx) : TxnRecord :=
  let x := c.settlement sum.pos sum.masses.fillG
  { txn := c.txn
    pos := sum.pos
    pclass := sum.pclass
    kind := c.kind
    reference := c.reference
    account := c.account
    start := clockOrZero c.start
    endTime := clockOrZero sum.endTime
    required := sum.required
    final := sum.final
    reRates := sum.reRates
    link := sum.link
    fillMass := x.fillG
    billed := x.billed
    afterRun := sum.masses.afterRunG
    unattr := sum.masses.unattrG
    price := c.price
    amount := x.amount
    reason := sum.reason
    interrupted := false
    mismatch := sum.mismatch
    unchecked := sum.unchecked
    timeUnset := c.timeUnset || sum.endTime.isNone || s.ret.clock.isNone
    uncertain := sum.uncertain || sum.masses.uncertain }

/-- FILL_SUMMARY (R162, R176, R98). A summary that finds the position's tender context empty is dropped whole: no
settlement, no record, and the generation that the fill latched is not released (DESIGN CHOICE, assumption log
63: R162 takes the context as filled; the case can follow the crossing of log 60). -/
def settleSummary (sum : FillSummary) (s : State) : State :=
  match s.bil.get sum.pos with
  | none => s
  | some c =>
    let s1 := settle (c.settlement sum.pos sum.masses.fillG) s
    let s2 := releaseGen sum.pclass sum.gen (placeRecord (s.recordOf sum c) s1)
    { s2 with bil := s2.bil.set sum.pos none }

/-! ## Account requests (R163 to R166) -/

/-- R163: the data of ACCOUNT-READ. -/
def Account.data (a : Account) : List Byte :=
  u2 a.id ++ uFlag a.blocked ++ u1 a.cls ++ u4 a.balance
    ++ listField 4 5 (a.holds.map (fun h => u1 h.pos.num ++ u4 h.amount)) ++ u4 a.allowance ++ u4 a.used

/-- R163: a request that names an id, answered RANGE for id 0 and NOT-FOUND where none holds it. -/
def onAccount (rq : Req) (code id : Nat) (s : State) (f : Account → State) : State :=
  if id = 0 then reply rq code .range [] s
  else
    match s.account id with
    | none => reply rq code .notFound [] s
    | some a => f a

/-- R164: the lowest-numbered ABSENT slot takes an account. -/
def fillSlot (a : Account) : List (Option Account) → List (Option Account)
  | [] => []
  | none :: rest => some a :: rest
  | some b :: rest => some b :: fillSlot a rest

/-- ACCOUNT-SET (R164). -/
def accountSet (rq : Req) (id cls allowance : Nat) (s : State) : State :=
  if id = 0 ∨ 3 < cls ∨ 1000000 < allowance then reply rq 64 .range [] s
  else
    match s.account id with
    | some a =>
      if a.holds.isEmpty then
        reply rq 64 .ok [] (updAccount id (fun b => { b with cls := cls, allowance := allowance }) s)
      else reply rq 64 .state [] s
    | none =>
      if s.ret.accounts.any Option.isNone then
        reply rq 64 .ok []
          (updRet (fun r =>
            { r with accounts := fillSlot ⟨id, false, cls, 0, [], allowance, 0⟩ r.accounts }) s)
      else reply rq 64 .full [] s

/-- R163: the most a balance may hold, and the most one credit or withdrawal may move. -/
def balanceMax : Nat := 2000000000

/-- ACCOUNT-CREDIT (R165). -/
def accountCredit (rq : Req) (id amount : Nat) (s : State) : State :=
  onAccount rq 65 id s fun a =>
    if amount < 1 ∨ balanceMax < amount ∨ balanceMax < a.balance + amount then reply rq 65 .range [] s
    else
      reply rq 65 .ok (u4 (a.balance + amount))
        (updAccount id (fun b => { b with balance := b.balance + amount }) s)

/-- ACCOUNT-WITHDRAW (R165). -/
def accountWithdraw (rq : Req) (id amount : Nat) (s : State) : State :=
  onAccount rq 66 id s fun a =>
    if amount < 1 ∨ balanceMax < amount then reply rq 66 .range [] s
    else if a.available < amount then reply rq 66 .funds [] s
    else
      reply rq 66 .ok (u4 (a.balance - amount))
        (updAccount id (fun b => { b with balance := b.balance - amount }) s)

/-- ACCOUNT-BLOCK and ACCOUNT-UNBLOCK (R166). -/
def setBlocked (rq : Req) (code id : Nat) (b : Bool) (s : State) : State :=
  onAccount rq code id s fun _ =>
    reply rq code .ok [] (updAccount id (fun a => { a with blocked := b }) s)

/-- ACCOUNT-REMOVE (R164). -/
def accountRemove (rq : Req) (id : Nat) (s : State) : State :=
  onAccount rq 69 id s fun a =>
    if a.holds.isEmpty && a.balance == 0 then
      reply rq 69 .ok []
        (updRet (fun r =>
          { r with
            accounts := r.accounts.map (fun o => o.bind (fun b => if b.id = id then none else some b)) })
          s)
    else reply rq 69 .state [] s

/-- ACCOUNT-READ (R163). -/
def accountRead (rq : Req) (id : Nat) (s : State) : State :=
  onAccount rq 70 id s fun a => reply rq 70 .ok a.data s

/-! ## Day rollover (R167) -/

/-- R167: the day number, none while the clock reads UNSET. -/
def State.dayNumber (s : State) : Option Int :=
  s.ret.clock.map (fun t => ((t : Int) - s.tariff.rollover * 60) / 86400)

/-- R167: a rollover. -/
def rollover (d : Int) (s : State) : State :=
  notice .dayRollover 0 (beInt 4 d)
    (updRet (fun r =>
      { r with
        heldDay := some d
        accounts := r.accounts.map (fun o => o.map (fun a => { a with used := 0 })) }) s)

/-- R167: the day number is computed, and a rollover taken when it differs from the held one. -/
def checkDay (s : State) : State :=
  match s.dayNumber with
  | none => s
  | some d => if s.ret.heldDay = some d then s else rollover d s

/-- R206: one second of the backup crystal: both counts advance, the station clock when it is set. -/
def crystalSecond (s : State) : State :=
  updRet (fun r =>
    { r with
      clock := r.clock.map (fun t => hold32 (t + 1))
      runSeconds := hold32 (r.runSeconds + 1) }) s

/-- R206, R167: one second while the part runs: BIL judges the day number of the new reading. -/
def clockSecond (s : State) : State := checkDay (crystalSecond s)

/-! ## Transaction requests (R178, R179, R186) -/

/-- R175, R186: the flag bits. -/
def TxnRecord.flagBits (r : TxnRecord) : Nat :=
  flagNat r.interrupted + 2 * flagNat r.mismatch + 4 * flagNat r.unchecked + 8 * flagNat r.timeUnset
    + 16 * flagNat r.uncertain

/-- R186: the 51 bytes of a record. The gram figures are taken from 64-bit milligrams: one that does not fit the
four bytes of its field is a free value (DESIGN CHOICE, assumption log 3). -/
def TxnRecord.data (r : TxnRecord) : List Byte :=
  u4 r.txn ++ u1 r.pos.num ++ u1 r.pclass.num ++ u1 r.kind.num ++ u4 r.reference ++ u2 r.account
    ++ u4 r.start ++ u4 r.endTime ++ u1 r.required.rank ++ u1 r.final.rank ++ u1 r.reRates
    ++ u1 r.link.outcomeNum ++ u4 (hold32 r.fillMass) ++ u4 (hold32 r.billed) ++ u4 (hold32 r.afterRun)
    ++ u4 (hold32 r.unattr)
    ++ u4 r.price ++ u4 r.amount ++ u1 (endReasonNum r.reason) ++ u1 r.flagBits

/-- TXN-READ (R178). -/
def txnReadRequest (rq : Req) (s : State) : State :=
  match s.ret.records with
  | r :: _ => reply rq 80 .ok (s.queueCounts ++ r.data) s
  | [] => reply rq 80 .notFound (u1 s.reservations) s

/-- TXN-RELEASE (R179). -/
def txnReleaseRequest (rq : Req) (n : Nat) (s : State) : State :=
  match s.ret.records with
  | [] => reply rq 81 .notFound [] s
  | r :: rest =>
    if r.txn = n then
      let s1 := updRet (fun k => { k with records := rest }) s
      reply rq 81 .ok s1.queueCounts s1
    else reply rq 81 .notOldest (u4 r.txn) s

/-! ## Commands -/

def execAccountSet (rq : Req) (id cls allowance : Nat) (s : State) : Outcome :=
  running s (accountSet rq id cls allowance)

def execAccountCredit (rq : Req) (id amount : Nat) (s : State) : Outcome :=
  running s (accountCredit rq id amount)

def execAccountWithdraw (rq : Req) (id amount : Nat) (s : State) : Outcome :=
  running s (accountWithdraw rq id amount)

def execAccountBlock (rq : Req) (id : Nat) (s : State) : Outcome := running s (setBlocked rq 67 id true)
def execAccountUnblock (rq : Req) (id : Nat) (s : State) : Outcome :=
  running s (setBlocked rq 68 id false)

def execAccountRemove (rq : Req) (id : Nat) (s : State) : Outcome := running s (accountRemove rq id)
def execAccountRead (rq : Req) (id : Nat) (s : State) : Outcome := running s (accountRead rq id)
def execTxnRead (rq : Req) (s : State) : Outcome := running s (txnReadRequest rq)
def execTxnRelease (rq : Req) (n : Nat) (s : State) : Outcome := running s (txnReleaseRequest rq n)

def execTender (source : Nat) (broadcast : Bool) (pos kind reference account amount : Nat)
    (s : State) : Outcome :=
  running s (takeTender source broadcast pos kind reference account amount)

def execLoweredCap (p : Pos) (cap : Nat) (s : State) : Outcome := running s (lowerTenderCap p cap)
def execCancelled (p : Pos) (s : State) : Outcome := running s (cancelTender p)
def execFillSummary (sum : FillSummary) (s : State) : Outcome := running s (settleSummary sum)

/-- STATION_CLOCK_ADVANCE. The counts run in the backup domain while the part is held in reset too;
BIL judges the day number only while the part runs. -/
def execStationClockAdvance (s : State) : Outcome :=
  .next (if s.smc.inReset then crystalSecond s else clockSecond s)

end Sys2Proof.Machine
end

