-- ==== Sys2Proof/Machine/Signals.lean ====
section
/-! DEFINITION. The signal image (01_signals_and_the_node_map.md): samples, counts and vehicle data
applied to signal records, freshness expiry, the stale, limit and edge actions, and the deliveries
to the owning blocks (R7 to R18). -/

namespace Sys2Proof.Machine

open Sys2Proof

/-! ## Deliveries (R2, R18) -/

/-- The blocks' steps for a value arrival of an analogue role. -/
def valueMessages (r : Role) (x : SigRec) : List Instr :=
  match r with
  | .nozzlePressure p => [.filNozzlePressure p x]
  | .outletTemp p => [.outletTempArrival p (.value x)]
  | .bankPressure b =>
    [.bankSignalValue b .pressure x, .cmpSignalArrival r (.value x), .filBankPressure b (.value x)]
  | .bankTemp b => [.bankSignalValue b .temp x]
  | .suctionPressure | .dischargePressure | .dischargeTemp => [.cmpSignalArrival r (.value x)]
  | _ => []

/-- The blocks' steps for a change of quality, the record becoming ABSENT at a commit among them. -/
def qualityMessages (r : Role) (x : SigRec) : List Instr :=
  match r with
  | .nozzlePressure p | .holster p | .coupled p | .vehicle p => [.filSignalQuality ⟨p, r, x⟩]
  | .outletTemp p => [.filSignalQuality ⟨p, r, x⟩, .outletTempArrival p (.quality x)]
  | .meter p => [.meterQualityChange p x, .filSignalQuality ⟨p, r, x⟩]
  | .bankPressure b =>
    [.bankSignalQuality b .pressure x, .cmpSignalArrival r (.quality x), .filBankPressure b (.quality x)]
  | .bankTemp b => [.bankSignalQuality b .temp x]
  | .suctionPressure | .dischargePressure | .dischargeTemp | .compressorRunning =>
    [.cmpSignalArrival r (.quality x)]
  | .chillerFault => [.chillerFaultDelivery (.quality x)]
  | _ => []

/-- The blocks' steps for a transition of a digital role (R15); its direction is the record's level. -/
def transitionMessages (r : Role) (x : SigRec) : List Instr :=
  match r with
  | .holster p => [.filHolsterTransition p x, .smcHolsterTransition p x]
  | .coupled p => [.filCoupledTransition p x]
  | .compressorRunning => [.cmpSignalArrival r (.transition x)]
  | .chillerFault => [.chillerFaultDelivery (.transition x)]
  | _ => []

/-- The blocks' steps for a level refresh of a digital role (R15). -/
def refreshMessages (r : Role) (x : SigRec) : List Instr :=
  match r with
  | .compressorRunning => [.cmpSignalArrival r (.refresh x)]
  | .chillerFault => [.chillerFaultDelivery (.refresh x)]
  | _ => []

/-- A change of quality is delivered when there is one, with the record as the frame left it. A frame that
changes both the value and the quality is delivered as its value first and as the change of quality after
it (DEDUCED, assumption log 6). -/
def qualityDelivery (r : Role) (before : Quality) (x : SigRec) : List Instr :=
  if before = x.quality then [] else qualityMessages r x

/-! ## Actions (R11, R13, R16) -/

/-- R11: ISOLATE is given to the unit of the role; AMBIENT-TEMP and GAS-DETECT have none. -/
def isolateMessages (r : Role) : List Instr :=
  match r.isolateTo with
  | .position p => [.positionIsolate p]
  | .bank b => [.bankIsolateSignal b]
  | .compressor => [.cmpIsolate]
  | .chiller => [.chillerIsolate]
  | .nobody => []

/-- R11: the stale action of a row; on AMBIENT-TEMP it is applied as HOLD. -/
def staleMessages (row : Nat) (x : NodeRow) : List Instr :=
  match x.stale with
  | .hold => []
  | .isolate => isolateMessages x.role
  | .trip => if x.role = .ambientTemp then [] else [.tripCause (.signal row)]

/-- R13: the limit action of a row at a crossing. -/
def limitMessages (row : Nat) (x : NodeRow) : List Instr :=
  match x.limitAction with
  | .none | .note => []
  | .isolate => isolateMessages x.role
  | .trip => [.tripCause (.signal row)]

/-- R16: the edge action of a row on a selected transition; for GAS-DETECT the trip cause is its
own, and ISOLATE is applied as NOTE. -/
def edgeMessages (row : Nat) (x : NodeRow) : List Instr :=
  match x.edgeAction with
  | .note => []
  | .isolate => isolateMessages x.role
  | .trip => if x.role = .gasDetect then [.tripCause .gasDetect] else [.tripCause (.signal row)]

/-- R16. -/
def EdgeSelect.selects : EdgeSelect → Bool → Bool
  | .none, _ => false
  | .rise, level => level
  | .fall, level => !level
  | .both, _ => true

/-- R9: entering BAD or STALE from a quality that takes the stale action sends NOTICE
SIGNAL-QUALITY and applies the action. -/
def loseSignal (row : Nat) (x : NodeRow) (before after : Quality) (s : State) : State :=
  if before.takesStaleAction then
    postAll (staleMessages row x)
      (notice .signalQuality row (u1 x.role.code.1 ++ u1 after.num) s)
  else s

/-- R12, R13: a crossing sends NOTICE SIGNAL-LIMIT and applies the limit action; a return sends the
notice with direction INSIDE; under limit action NONE neither does anything. -/
def limitEvent (row : Nat) (x : NodeRow) (before after : Region) (v : Int) (s : State) : State :=
  if x.limitAction = .none then s
  else if before.crossing after then
    postAll (limitMessages row x)
      (notice .signalLimit row (u1 x.role.code.1 ++ u1 after.num ++ i2 v) s)
  else if before.returning after then
    notice .signalLimit row (u1 x.role.code.1 ++ u1 after.num ++ i2 v) s
  else s

/-- R16: a selected transition sends NOTICE SIGNAL-EDGE and applies the edge action. -/
def edgeEvent (row : Nat) (x : NodeRow) (level : Bool) (s : State) : State :=
  if x.edgeSelect.selects level then
    postAll (edgeMessages row x) (notice .signalEdge row (u1 x.role.code.1 ++ uFlag level) s)
  else s

/-! ## Frames at a record -/

/-- R8, R9: a BAD frame keeps the value, the level and the region, stops the timer, and takes the
stale action; a change of quality is delivered. -/
def badFrame (row : Nat) (x : NodeRow) (s : State) : State :=
  let rec0 := s.record x.role
  let rec1 : SigRec := { rec0 with quality := .bad, timer := none }
  postAll (qualityDelivery x.role rec0.quality rec1)
    (loseSignal row x rec0.quality .bad (setRecord x.role rec1 s))

/-- R8: offset, then the clamp to the role's range. -/
def analogueValue (x : NodeRow) (v : Int) : Int :=
  clampInt (Role.range x.role).1 (Role.range x.role).2 (v + x.offset)

/-- R8: UNCERTAIN if the frame is or if the sum had to be clamped. -/
def analogueQuality (x : NodeRow) (q : Quality) (v : Int) : Quality :=
  if q = .uncertain ∨ analogueValue x v ≠ v + x.offset then .uncertain else .good

/-- R8: the record after a usable SAMPLE. -/
def analogueRecord (x : NodeRow) (q : Quality) (v : Int) (rec : SigRec) : SigRec :=
  { rec with
    value := analogueValue x v
    quality := analogueQuality x q v
    timer := some x.freshness
    region := Region.of x.low x.high (analogueValue x v) }

/-- SAMPLE_ANALOGUE (R8, R12 to R14, R18). A frame whose kind does not suit the role is dropped (R6). Every usable
SAMPLE is delivered as a value arrival, one that repeats the record too (DESIGN CHOICE, assumption log 58). -/
def sampleAnalogue (r : Role) (code : Nat) (v : Int) (s : State) : State :=
  match s.rowOf r with
  | none => s
  | some (row, x) =>
    if r.kind ≠ .analogue then s
    else
      let q := Quality.ofCode code
      if q = .bad then badFrame row x s
      else
        let rec0 := s.record r
        let rec1 := analogueRecord x q v rec0
        let s1 := limitEvent row x rec0.region rec1.region rec1.value (setRecord r rec1 s)
        postAll (valueMessages r rec1 ++ qualityDelivery r rec0.quality rec1) s1

/-- R15: the record after a usable SAMPLE of a digital role. -/
def digitalRecord (x : NodeRow) (q : Quality) (level : Bool) (rec : SigRec) : SigRec :=
  { rec with level := level, quality := q, timer := some x.freshness }

/-- SAMPLE_DIGITAL (R15, R16, R18). -/
def sampleDigital (r : Role) (code : Nat) (v : Int) (s : State) : State :=
  match s.rowOf r with
  | none => s
  | some (row, x) =>
    if r.kind ≠ .digital then s
    else
      let q := Quality.ofCode code
      if q = .bad then badFrame row x s
      else
        let rec0 := s.record r
        let level := decide (v ≠ 0)
        let rec1 := digitalRecord x q level rec0
        let s1 := setRecord r rec1 s
        if rec0.level = level then
          postAll (refreshMessages r rec1 ++ qualityDelivery r rec0.quality rec1) s1
        else
          postAll (transitionMessages r rec1 ++ qualityDelivery r rec0.quality rec1)
            (edgeEvent row x level s1)

/-- COUNT (R17): the count and its quality go to MTR, and the quality to FIL. -/
def countFrame (r : Role) (code n : Nat) (s : State) : State :=
  match s.rowOf r, r with
  | some (row, x), .meter p =>
    let q := Quality.ofCode code
    if q = .bad then badFrame row x s
    else
      let rec0 := s.record r
      let rec1 : SigRec := { rec0 with value := n, quality := q, timer := some x.freshness }
      postAll (.meterCount p n q :: qualityDelivery r rec0.quality rec1)
        (setRecord r rec1 s)
  | _, _ => s

/-! ## Vehicle data (R17) -/

/-- A vehicle field in its range, held as absent otherwise. -/
def natIn (lo hi : Nat) (o : Option Nat) : Option Nat :=
  o.bind fun n => if lo ≤ n ∧ n ≤ hi then some n else none

def intIn (lo hi : Int) (o : Option Int) : Option Int :=
  o.bind fun n => if lo ≤ n ∧ n ≤ hi then some n else none

/-- R17: an unknown fill command is held as HALT. -/
def fillCommandOf : Nat → FillCommand
  | 0 => .run
  | 2 => .abort
  | _ => .halt

/-- R17: the fields held; outside protocol versions 1 to 3 the four data fields are absent. -/
def vehicleFieldsOf (d : VehData) : VehicleFields :=
  let known := decide (1 ≤ d.version ∧ d.version ≤ 3)
  { version := some d.version
    volume := if known then natIn 1 10000 d.volume else none
    pclass := if known then d.classCode.bind PClass.ofNum else none
    pressure := if known then intIn 0 10000 (d.pressure.map Int.ofNat) else none
    temp := if known then intIn (-600) 1000 d.temp else none
    command := some (fillCommandOf d.command) }

/-- A field marked present was held as absent. -/
def heldAbsent {α β : Type} (marked : Option α) (held : Option β) : Bool := marked.isSome && held.isNone

/-- R17: UNCERTAIN if a field marked present was held as absent, or the command was unknown. -/
def vehicleQuality (d : VehData) : Quality :=
  let f := vehicleFieldsOf d
  if heldAbsent d.volume f.volume || heldAbsent d.classCode f.pclass
      || heldAbsent d.pressure f.pressure || heldAbsent d.temp f.temp || decide (2 < d.command) then
    .uncertain
  else .good

/-- VEHDATA (R17): replaces the vehicle fields whole and restarts the timer. -/
def vehDataFrame (r : Role) (d : VehData) (s : State) : State :=
  match s.rowOf r, r with
  | some (_, x), .vehicle p =>
    let rec0 := s.record r
    let rec1 : SigRec :=
      { rec0 with
        vehicle := vehicleFieldsOf d
        quality := vehicleQuality d
        timer := some x.freshness }
    postAll (.filVehdata p rec1 :: qualityDelivery r rec0.quality rec1) (setRecord r rec1 s)
  | _, _ => s

/-- FRESHNESS_EXPIRY (R10): a running timer's expiry makes the record STALE, keeps its value, level
or fields, and applies the stale action. With the timer stopped there is no expiry. -/
def freshnessExpiry (r : Role) (s : State) : State :=
  match s.rowOf r, (s.record r).timer with
  | some (row, x), some _ =>
    let rec0 := s.record r
    let rec1 : SigRec := { rec0 with quality := .stale, timer := none }
    postAll (qualityDelivery r rec0.quality rec1)
      (loseSignal row x rec0.quality .stale (setRecord r rec1 s))
  | _, _ => s

/-! ## Commands -/

def execSampleAnalogue (r : Role) (q : Nat) (v : Int) (s : State) : Outcome :=
  running s (sampleAnalogue r q v)

def execSampleDigital (r : Role) (q : Nat) (v : Int) (s : State) : Outcome :=
  running s (sampleDigital r q v)

def execCount (r : Role) (q n : Nat) (s : State) : Outcome := running s (countFrame r q n)

def execVehData (r : Role) (d : VehData) (s : State) : Outcome := running s (vehDataFrame r d)

def execFreshnessExpiry (r : Role) (s : State) : Outcome := running s (freshnessExpiry r)

end Sys2Proof.Machine
end

