-- ==== Sys2Proof/Machine/Station.lean ====
section
/-! DEFINITION. The station mode controller (12_station_modes_and_the_trip_latch.md, R199 to R206):
modes, wake and descent, the trip latch, and the requests of SMC. -/

namespace Sys2Proof.Machine

open Sys2Proof

/-! ## Descent (R203) -/

/-- No position is in a state from AUTHORISED to VENTING. -/
def State.noFills (s : State) : Bool := s.fil.toList.all (fun c => !c.state.descentSpan)

/-- R203: the descent condition of a mode. -/
def State.descends (s : State) : Bool :=
  match s.smc.mode with
  | .run => s.noFills
  | .quiet => s.noFills && (s.cmp.state == .stopped || !s.cmpFitted)
  | _ => false

/-- R203: a descent timer under the condition; a time of 0 starts none. -/
def descentTimer (holds : Bool) (seconds : Nat) (t : Option Nat) : Option Nat :=
  if !holds then none else if t.isSome then t else if seconds = 0 then none else startSeconds seconds

/-- DESCENT_REPORT (R203): SMC acts on the timer of the present mode. -/
def descent (s : State) : State :=
  match s.smc.mode with
  | .run =>
    updSmc (fun k =>
      { k with idleTimer := descentTimer s.descends s.stationRow.idleTime k.idleTimer }) s
  | .quiet =>
    updSmc (fun k =>
      { k with parkTimer := descentTimer s.descends s.stationRow.parkTime k.parkTimer }) s
  | _ => s

/-! ## Modes (R201) -/

/-- R201: the mode, its timers and the master isolation output. -/
def setMode (m : Mode) (s : State) : State :=
  let s1 := updSmc (fun k => { k with mode := m, idleTimer := none, parkTimer := none }) s
  { s1 with pins := { s1.pins with masterIsolation := m.energises } }

/-- R201: a change of mode, told to every unit in the same event. -/
def changeMode (m : Mode) (s : State) : State :=
  if s.smc.mode = m then s
  else pclModeChange (cmpModeChange s.smc.mode (evalAllAvailability (descent (setMode m s))))

/-- R201: the modes MODE-SET may name, by their places in the table of R201. -/
def namedMode : Nat → Option Mode
  | 1 => some .parked
  | 2 => some .quiet
  | 3 => some .run
  | _ => none

/-- MODE-SET (R201). The OK reply is queued behind what the change of mode queues (DESIGN CHOICE, assumption
log 61). -/
def modeSetRequest (rq : Req) (n : Nat) (s : State) : State :=
  match namedMode n with
  | none => reply rq 16 .range [] s
  | some m =>
    match s.smc.mode with
    | .configuring | .trip => reply rq 16 .state [] s
    | _ => reply rq 16 .ok [] (changeMode m s)

/-! ## Wake (R202) -/

/-- R202: the mode a falling HOLSTER transition wakes the station to. -/
def State.wakeMode (s : State) (p : Pos) : Option Mode :=
  let row := s.posRow p
  if !(s.ctx p).opened || row.pulseWeight == 0 then none
  else
    match s.smc.mode with
    | .parked => if row.wakeEnable then some (if row.required = .c00 then .quiet else .run) else none
    | .quiet => if row.required = .c00 then none else some .run
    | _ => none

/-- SMC_HOLSTER_TRANSITION (R202): its direction is the level that the record as delivered holds. -/
def smcHolster (p : Pos) (s : State) : State :=
  match s.level (.holster p), s.wakeMode p with
  | false, some m => changeMode m s
  | _, _ => s

/-- BANK_LOW (R202). -/
def bankLowReport (s : State) : State :=
  onlyIf (s.smc.mode == .parked && s.stationRow.bankLowWake) (changeMode .quiet) s

/-- IDLE_TIMER_EXPIRY (R203). -/
def idleExpiry (s : State) : State :=
  onlyIf (s.smc.mode == .run && s.smc.idleTimer.isSome) (changeMode .quiet) s

/-- PARK_TIME_EXPIRY (R203). -/
def parkTimeExpiry (s : State) : State :=
  onlyIf (s.smc.mode == .quiet && s.smc.parkTimer.isSome) (changeMode .parked) s

/-! ## The trip latch (R204) -/

/-- R204: what each unit is told at the trip. -/
def tripMessages : List Instr := [.rifTrip, .bkmTrip, .cmpTrip, .pclTrip, .filTrip]

/-- R204, step 5: the data of NOTICE TRIP. -/
def tripData (c : TripCause) (time : Option Nat) : List Byte :=
  u1 c.num ++ optField 1 (c.subject.map u1) ++ optField 4 (time.map u4)

/-- R204: the first cause sets the latch. -/
def setLatch (c : TripCause) (s : State) : State :=
  let s1 := updSmc (fun k => { k with latch := some ⟨c, s.ret.clock⟩ }) s
  let s2 := closeAll { s1 with pins := { s1.pins with masterIsolation := false } }
  notice .trip 0 (tripData c s.ret.clock) (postAll tripMessages (setMode .trip s2))

/-- TRIP_CAUSE (R204): a later cause raises the further-cause count, which stops at 255. -/
def tripOn (c : TripCause) (s : State) : State :=
  if s.latched then updSmc (fun k => { k with further := min 255 (k.further + 1) }) s
  else setLatch c s

/-- TRIP_LOOP_OPEN. -/
def loopOpens (s : State) : State :=
  tripOn .loop { s with pins := { s.pins with loopOpen := true } }

/-- SUPPLY_MONITOR_TRIP (R204, R205): the cause, and then the part held in reset: what was queued or
in flight is lost, and the master isolation output is released. -/
def supplyTrip (s : State) : State :=
  let s1 := tripOn .supply s
  let s2 := updSmc (fun k => { k with inReset := true }) s1
  { s2 with mail := [], pins := { s2.pins with masterIsolation := false } }

/-- TRIP (R204): answered OK in every mode, behind NOTICE TRIP (DESIGN CHOICE, assumption log 61). -/
def tripRequested (rq : Req) (s : State) : State := reply rq 17 .ok [] (tripOn .request s)

/-! ## RESTART, CAUSE-CLEAR and TIME-SET (R205, R206) -/

/-- RESTART (R205): the restart is taken when RING-OUT has sent the reply. -/
def restartRequested (rq : Req) (s : State) : State :=
  kick (updRif (Rif.pushReply ⟨rq.src, 18, rq.tag, Status.num .ok, [], true⟩) s)

/-- CAUSE-CLEAR (R205). -/
def causeClearRequest (rq : Req) (s : State) : State :=
  reply rq 19 .ok []
    (updRet (fun r => { r with flags := ⟨false, false, false, false, false⟩, lastTrip := none }) s)

/-- TIME-SET (R206, R167); a count that does not fit 32 bits cannot come in the request. The notices of a
rollover are queued before the OK reply (DESIGN CHOICE, assumption log 44: R167 gives the rollover no place
beside the reply of a TIME-SET). -/
def timeSetRequest (rq : Req) (t : Nat) (s : State) : State :=
  if 4294967295 < t then reply rq 20 .range [] s
  else reply rq 20 .ok [] (checkDay (updRet (fun r => { r with clock := some t }) s))

/-! ## The required-table set (R200) -/

/-- A table has an active generation of 1 or more. -/
def Copy.committed {α : Type} (c : Copy α) : Bool := decide (1 ≤ c.gen)

/-- A draw sequence of the active bank table names COMPRESSOR. -/
def Tables.namesCompressor (t : Tables) : Bool :=
  (t.bank.active.h35 ++ t.bank.active.h70).contains .compressor

/-- A position row has a required or fallback category other than C00. -/
def PosRow.precooled (r : PosRow) : Bool :=
  r.required != .c00 || (match r.fallback with | some c => c != .c00 | none => false)

/-- Some position row takes the class with a pulse weight other than 0. -/
def Tables.takes (t : Tables) (k : PClass) : Bool :=
  t.position.active.toList.any (fun r => r.pclass == k && r.pulseWeight != 0)

/-- R200. -/
def Tables.complete (t : Tables) : Bool :=
  t.nodeMap.committed && t.station.committed && t.bank.committed && t.position.committed
    && t.tariff.committed
    && (!t.namesCompressor || t.compressor.committed)
    && (!t.position.active.toList.any PosRow.precooled || t.precool.committed)
    && (!t.takes .h35 || t.fillH35.copy.committed)
    && (!t.takes .h70 || t.fillH70.copy.committed)

/-- R200: the commit that completes the set moves CONFIGURING to PARKED. -/
def judgeSet (s : State) : State :=
  onlyIf (s.smc.mode == .configuring && s.tables.complete) (changeMode .parked) s

/-! ## Commands -/

def execModeSet (rq : Req) (n : Nat) (s : State) : Outcome := running s (modeSetRequest rq n)
def execTripRequest (rq : Req) (s : State) : Outcome := running s (tripRequested rq)
def execRestartRequest (rq : Req) (s : State) : Outcome := running s (restartRequested rq)
def execCauseClear (rq : Req) (s : State) : Outcome := running s (causeClearRequest rq)
def execTimeSet (rq : Req) (t : Nat) (s : State) : Outcome := running s (timeSetRequest rq t)

def execSmcHolsterTransition (p : Pos) (x : SigRec) (s : State) : Outcome :=
  running s (seeing (.holster p) x (smcHolster p))

def execBankLow (s : State) : Outcome := running s bankLowReport
def execDescentReport (s : State) : Outcome := running s descent
def execIdleTimerExpiry (s : State) : Outcome := running s idleExpiry
def execParkTimeExpiry (s : State) : Outcome := running s parkTimeExpiry
def execTripCause (c : TripCause) (s : State) : Outcome := running s (tripOn c)
def execTripLoopOpen (s : State) : Outcome := running s loopOpens
def execSupplyMonitorTrip (s : State) : Outcome := running s supplyTrip

end Sys2Proof.Machine
end

