-- ==== Sys2Proof/Machine/Requests.lean ====
section
/-! DEFINITION. The generic table requests (11_the_station_ring.md, R195, R196) with each owner's commit
condition and application (R4, R5, R34, R35, R53, R74, R94, R97, R107, R154, R199). -/

namespace Sys2Proof.Machine

open Sys2Proof

/-! ## Rows of the shadow copies (R195) -/

/-- A row stored in the shadow copy. -/
def Copy.write {α : Type} (c : Copy α) (x : Option α) : Option (Copy α) :=
  x.map (fun y => { c with shadow := y })

/-- R32, R33: rows 0 to 3 are banks, rows 4 and 5 the H35 and H70 draw sequences. -/
def writeBankRow (t : BankTable) (row : Nat) (bs : List Byte) : Option BankTable :=
  match Bank.ofNum (row + 1) with
  | some b => (parseBankRow bs).map (fun r => { t with rows := t.rows.set b r })
  | none =>
    if row = 4 then (parseSequence bs).map (fun es => { t with h35 := es })
    else if row = 5 then (parseSequence bs).map (fun es => { t with h70 := es })
    else none

/-- R72, R73. -/
def writePrecoolRow (t : PrecoolTable) (row : Nat) (bs : List Byte) : Option PrecoolTable :=
  if row = 0 then (parseChillerRow bs).map (fun r => { t with row0 := r })
  else if row = 1 then
    (parseCategories bs).map (fun c => { t with c40 := c.1, c30 := c.2.1, c20 := c.2.2 })
  else none

/-- R106: row 0 for P1 to row 3 for P4. -/
def writePosRow (t : PerPos PosRow) (row : Nat) (bs : List Byte) : Option (PerPos PosRow) :=
  match Pos.ofNum (row + 1) with
  | some p => (parsePosRow bs).map (fun r => t.set p r)
  | none => none

/-- A table of one row, row 0. -/
def onlyRow {α : Type} (row : Nat) (x : Option α) : Option α := if row = 0 then x else none

/-- R1: rows 0 to 63. -/
def writeNodeRow (t : List (Option NodeRow)) (row : Nat) (bs : List Byte) :
    Option (List (Option NodeRow)) :=
  if row < Config.nodeRows then (parseNodeRow bs).map (fun r => t.set row r) else none

/-- A fill table's shadow row. -/
def FillCopy.write (f : FillCopy) (row : Nat) (bs : List Byte) : Option FillCopy :=
  (f.copy.write (parseFillRow f.copy.shadow row bs)).map (fun c => { f with copy := c })

/-- R195: the tables with one shadow row written; `none` is answered RANGE. -/
def Tables.writeRow (t : Tables) (table row : Nat) (bs : List Byte) : Option Tables :=
  match table with
  | 1 => (t.nodeMap.write (writeNodeRow t.nodeMap.shadow row bs)).map (fun c => { t with nodeMap := c })
  | 2 => (t.station.write (onlyRow row (parseStation bs))).map (fun c => { t with station := c })
  | 3 => (t.bank.write (writeBankRow t.bank.shadow row bs)).map (fun c => { t with bank := c })
  | 4 => (t.compressor.write (onlyRow row (parseCmpRow bs))).map (fun c => { t with compressor := c })
  | 5 =>
    (t.precool.write (writePrecoolRow t.precool.shadow row bs)).map (fun c => { t with precool := c })
  | 6 => (t.position.write (writePosRow t.position.shadow row bs)).map (fun c => { t with position := c })
  | 7 => (t.fillH35.write row bs).map (fun c => { t with fillH35 := c })
  | 8 => (t.fillH70.write row bs).map (fun c => { t with fillH70 := c })
  | 9 => (t.tariff.write (parseTariffRow t.tariff.shadow row bs)).map (fun c => { t with tariff := c })
  | _ => none

/-- Tables 1 to 9. -/
def knownTable (table : Nat) : Bool := decide (1 ≤ table ∧ table ≤ 9)

/-- TABLE-WRITE (R195). -/
def tableWriteRequest (rq : Req) (table row : Nat) (bs : List Byte) (s : State) : State :=
  if !knownTable table then reply rq 3 .unknown [] s
  else
    match s.tables.writeRow table row bs with
    | some t => reply rq 3 .ok [] { s with tables := t }
    | none => reply rq 3 .range [] s

/-! ## TABLE-READ (R195) -/

/-- The copy a TABLE-READ names: 0 ACTIVE, 1 SHADOW. -/
def Copy.pick {α : Type} (c : Copy α) (shadow : Bool) : α := if shadow then c.shadow else c.active

def bankRowData (t : BankTable) (row : Nat) : Option (List Byte) :=
  match Bank.ofNum (row + 1) with
  | some b => some (printBankRow (t.rows.get b))
  | none =>
    if row = 4 then some (printSequence t.h35)
    else if row = 5 then some (printSequence t.h70) else none

def precoolRowData (t : PrecoolTable) (row : Nat) : Option (List Byte) :=
  if row = 0 then some (printChillerRow t.row0)
  else if row = 1 then some (printCategories t) else none

/-- R195: the row's data in the copy named; `none` is answered RANGE. -/
def Tables.rowData (t : Tables) (table row : Nat) (sh : Bool) : Option (List Byte) :=
  match table with
  | 1 => (((t.nodeMap.pick sh)[row]?).map printNodeRow)
  | 2 => onlyRow row (some (printStation (t.station.pick sh)))
  | 3 => bankRowData (t.bank.pick sh) row
  | 4 => onlyRow row (some (printCmpRow (t.compressor.pick sh)))
  | 5 => precoolRowData (t.precool.pick sh) row
  | 6 => (Pos.ofNum (row + 1)).map (fun p => printPosRow ((t.position.pick sh).get p))
  | 7 => if row < 98 then some (printFillRow (t.fillH35.copy.pick sh) row) else none
  | 8 => if row < 98 then some (printFillRow (t.fillH70.copy.pick sh) row) else none
  | 9 => if row < 5 then some (printTariffRow (t.tariff.pick sh) row) else none
  | _ => none

/-- The generation of a table's active copy. -/
def Tables.genOf (t : Tables) (table : Nat) : Nat :=
  match table with
  | 1 => t.nodeMap.gen
  | 2 => t.station.gen
  | 3 => t.bank.gen
  | 4 => t.compressor.gen
  | 5 => t.precool.gen
  | 6 => t.position.gen
  | 7 => t.fillH35.copy.gen
  | 8 => t.fillH70.copy.gen
  | _ => t.tariff.gen

/-- TABLE-READ (R195). -/
def tableReadRequest (rq : Req) (table row copy : Nat) (s : State) : State :=
  if !knownTable table then reply rq 2 .unknown [] s
  else if 1 < copy then reply rq 2 .range [] s
  else
    match s.tables.rowData table row (copy == 1) with
    | some d =>
      reply rq 2 .ok (u1 table ++ u1 row ++ u1 copy ++ u2 (s.tables.genOf table) ++ d) s
    | none => reply rq 2 .range [] s

/-! ## TABLE-DISCARD (R195) and the shadows at a restart (R196) -/

/-- The shadow re-copied from the active copy. -/
def Copy.discard {α : Type} (c : Copy α) : Copy α := { c with shadow := c.active }

def FillCopy.discard (f : FillCopy) : FillCopy := { f with copy := f.copy.discard }

def Tables.discard (t : Tables) (table : Nat) : Tables :=
  match table with
  | 1 => { t with nodeMap := t.nodeMap.discard }
  | 2 => { t with station := t.station.discard }
  | 3 => { t with bank := t.bank.discard }
  | 4 => { t with compressor := t.compressor.discard }
  | 5 => { t with precool := t.precool.discard }
  | 6 => { t with position := t.position.discard }
  | 7 => { t with fillH35 := t.fillH35.discard }
  | 8 => { t with fillH70 := t.fillH70.discard }
  | _ => { t with tariff := t.tariff.discard }

/-- TABLE-DISCARD (R195). -/
def tableDiscardRequest (rq : Req) (table : Nat) (s : State) : State :=
  if !knownTable table then reply rq 4 .unknown [] s
  else reply rq 4 .ok [] (updTables (fun t => t.discard table) s)

/-! ## Validation and commit conditions (R196) -/

/-- What stands against a commit: a status with reply data. -/
abbrev Objection := Status × List Byte

/-- A failing row's number in the reply data. -/
def badRow (r : Option Nat) : Option Objection := r.map (fun n => (.table, u1 n))

/-- The first objection of two. -/
def orElse (a b : Option Objection) : Option Objection :=
  match a with
  | some x => some x
  | none => b

/-- A condition that must hold, or else a status. -/
def need (ok : Bool) (st : Status) : Option Objection := if ok then none else some (st, [])

/-- Mode CONFIGURING or PARKED. -/
def State.settled (s : State) : Bool := s.smc.mode == .configuring || s.smc.mode == .parked

/-- A position is in a state from AUTHORISED to HANG-UP. -/
def State.anyBusy (s : State) : Bool := s.fil.toList.any (fun c => c.state.busySpan)

/-- R34: a bank that would become unconfigured has a holder or waiters. -/
def State.bankInUse (s : State) : Bool :=
  Bank.all.any (fun b =>
    (s.bankRow b).configured && !(s.tables.bank.shadow.rows.get b).configured
      && ((s.bank b).state.claimed || !(s.bank b).waiters.isEmpty))

/-- R53: the compressor is running or awaited. -/
def State.compressorInUse (s : State) : Bool := s.cmp.state.runs || !s.cmp.waiters.isEmpty

/-- R196, steps 1 and 2: the first objection to a commit. -/
def State.objection (s : State) (table : Nat) : Option Objection :=
  let t := s.tables
  match table with
  | 1 =>
    orElse ((firstRepeat [] (validRows t.nodeMap.shadow)).map (fun n => (.duplicate, u1 n)))
      (orElse (need s.settled .state) (need (!s.anyBusy) .busy))
  | 3 =>
    orElse (badRow (firstBadBank t.bank.shadow))
      (orElse (need s.settled .state) (need (!s.bankInUse) .busy))
  | 4 =>
    orElse (need t.compressor.shadow.suctionOk .table |>.map (fun _ => (.table, u1 0)))
      (orElse (need s.settled .state) (need (!s.compressorInUse) .busy))
  | 5 => badRow (firstBadPrecool t.precool.shadow)
  | 6 =>
    orElse (badRow (firstBadPosition t.position.shadow))
      (orElse (need s.settled .state) (need (!s.anyBusy) .busy))
  | 7 => orElse (badRow (firstBadFill .h35 t.fillH35.copy.shadow)) (need t.fillH35.older.isNone .busy)
  | 8 => orElse (badRow (firstBadFill .h70 t.fillH70.copy.shadow)) (need t.fillH70.older.isNone .busy)
  | 9 => badRow (if t.tariff.shadow.bandsOk then none else some 0)
  | _ => none

/-! ## Taking a commit (R196, step 3; R97) -/

/-- The shadow becomes the active copy with the next generation. -/
def Copy.commit {α : Type} (c : Copy α) : Copy α := ⟨c.shadow, c.shadow, nextGen c.gen⟩

/-- R97: an active generation that has holders becomes the held older generation. -/
def FillCopy.commit (f : FillCopy) : FillCopy :=
  { copy := f.copy.commit
    holders := 0
    older := if f.holders = 0 then none else some ⟨f.copy.gen, f.copy.active, f.holders⟩ }

def Tables.commit (t : Tables) (table : Nat) : Tables :=
  match table with
  | 1 => { t with nodeMap := t.nodeMap.commit }
  | 2 => { t with station := t.station.commit }
  | 3 => { t with bank := t.bank.commit }
  | 4 => { t with compressor := t.compressor.commit }
  | 5 => { t with precool := t.precool.commit }
  | 6 => { t with position := t.position.commit }
  | 7 => { t with fillH35 := t.fillH35.commit }
  | 8 => { t with fillH70 := t.fillH70.commit }
  | _ => { t with tariff := t.tariff.commit }

/-! ### Node map (R5) -/

/-- R28, R146: every inventory becomes 0 and invalid, and every baseline absent, with the commit. -/
def clearFigures (s : State) : State := forEach Pos.all dropBaseline (forEach Bank.all clearInventory s)

/-- The roles that have a record, and those of `old` that lost theirs. -/
def State.recordRoles (s : State) (old : List (Role × SigRec)) : List Role :=
  (s.sig ++ old.filter (fun x => !s.mapped x.1)).map (·.1)

/-- R5, R18: each block is told of each of its records that it is now ABSENT; the deliveries stand behind
those that are in flight, so that every role's deliveries keep the order SIG took them in (DEDUCED,
assumption log 33). -/
def tellAbsent (old : List (Role × SigRec)) (s : State) : State :=
  postAll ((s.recordRoles old).flatMap (fun r => qualityMessages r (s.record r))) s

/-- R5: the application of a node map commit; R56: a start evaluation in STOPPED. -/
def applyNodeMap (s : State) : State :=
  let s1 := tellAbsent s.sig (clearFigures { s with sig := recordsOf s.nodeRows })
  evalIfStopped (closeAll (updRif (fun r => { r with commands := [] }) s1))

/-! ### Bank table (R28, R35) -/

/-- R35, R42: a bank that a commit configures becomes AVAILABLE and is announced. -/
def configureBank (b : Bank) (s : State) : State :=
  if (s.bank b).state = .unconfigured then announce b (updBank b (fun r => { r with state := .available }) s)
  else s

/-- R35, R28, R48: one bank at a bank table commit; `old` is its row before. The inventory is evaluated and the
inventory at open marked before the isolation (R48), so that a session which the isolation closes is checked with
both. The over-pressure comparison is made for every bank that the new copy configures, one that this commit
configures among them, which is then announced and isolated in the one event (DEDUCED, assumption log 56). -/
def applyBankRow (old : BankTable) (b : Bank) (s : State) : State :=
  let row := s.bankRow b
  if !row.configured then
    clearInventory b (updBank b (fun r => { r with state := .unconfigured, cause := none }) s)
  else
    overPressureCheck b
      (onlyIf ((old.rows.get b).volume != row.volume) (invalidateOpen b) (evalInventory b (configureBank b s)))

/-- R35, and the start evaluation of R56. -/
def applyBank (old : BankTable) (s : State) : State :=
  evalIfStopped (forEach Bank.all (applyBankRow old) s)

/-! ### Precool and tariff (R24, R74, R154) -/

/-- R74, and R24 when B_q changes: BKM takes that as one event of its own. -/
def applyPrecool (old : ChillerRow) (s : State) : State :=
  onlyIf (old.bq != s.bq) (post .bQChange) (pclCommitted old.fitted s)

/-- R154. -/
def applyTariff (old : Tariff) (s : State) : State :=
  onlyIf (old.rollover != s.tariff.rollover) checkDay s

/-- R196: the owner applies the new copy; `old` is the state before the commit. -/
def applyCommit (table : Nat) (old s : State) : State :=
  match table with
  | 1 => applyNodeMap s
  | 3 => applyBank old.tables.bank.active s
  | 4 => cmpCommitted old.cmpFitted s
  | 5 => applyPrecool old.chillerRow s
  | 6 => evalAllAvailability s
  | 9 => applyTariff old.tariff s
  | _ => s

/-- A taken commit: the new copy, its application, and the required-table set (R200). -/
def takeCommit (table : Nat) (s : State) : State :=
  judgeSet (applyCommit table s (updTables (fun t => t.commit table) s))

/-- TABLE-COMMIT (R196). -/
def tableCommitRequest (rq : Req) (table : Nat) (s : State) : State :=
  if !knownTable table then reply rq 5 .unknown [] s
  else
    match s.objection table with
    | some (st, d) => reply rq 5 st d s
    | none =>
      let t := takeCommit table s
      reply rq 5 .ok (u2 (t.tables.genOf table)) t

/-! ## Commands -/

def execTableRead (rq : Req) (table row copy : Nat) (s : State) : Outcome :=
  running s (tableReadRequest rq table row copy)

def execTableWrite (rq : Req) (table row : Nat) (bs : List Byte) (s : State) : Outcome :=
  running s (tableWriteRequest rq table row bs)

def execTableDiscard (rq : Req) (table : Nat) (s : State) : Outcome :=
  running s (tableDiscardRequest rq table)

def execTableCommit (rq : Req) (table : Nat) (s : State) : Outcome :=
  running s (tableCommitRequest rq table)

end Sys2Proof.Machine
end

