-- ==== Sys2Proof/Machine/ReadItem.lean ====
section
/-! DEFINITION. READ-ITEM (R197): the contents of the ten items in the order of their owners' listings
(R7, R36, R44 to R46, R54, R75, R85, R108, R136, R156, R180, R201, R205, R206), encoded by R183. -/

namespace Sys2Proof.Machine

open Sys2Proof

/-! ## Small pieces -/

/-- A timer: time left in ticks, or stopped. -/
def timerField (t : Option Nat) : List Byte := optField 2 (t.map u2)

/-- A descent timer, which may hold up to 655,350 ticks. -/
def longTimerField (t : Option Nat) : List Byte := optField 4 (t.map u4)

/-- A station-clock reading, or UNSET. -/
def clockField (t : Option Nat) : List Byte := optField 4 (t.map u4)

/-- A position as a unit index, or none. -/
def posIndex (p : Option Pos) : List Byte := u1 ((p.map Pos.num).getD 0)

/-- A trip cause with its row or bank (R204). -/
def causeField (c : Option TripCause) : List Byte :=
  optField 1 (c.map (fun x => u1 x.num)) ++ optField 1 ((c.bind TripCause.subject).map u1)

/-- The quality and value of an analogue record. -/
def State.valueField (s : State) (r : Role) : List Byte := u1 (s.quality r).num ++ i2 (s.value r)

/-- The quality and level of a digital record. -/
def State.levelField (s : State) (r : Role) : List Byte := u1 (s.quality r).num ++ uFlag (s.level r)

/-! ## Items 1 to 5 -/

/-- Item 1 (R201). -/
def State.modeItem (s : State) : List Byte :=
  u1 s.smc.mode.num ++ uFlag s.latched ++ causeField (s.smc.latch.map TripInfo.cause)
    ++ u1 s.smc.further ++ clockField (s.smc.latch.bind TripInfo.time)
    ++ longTimerField s.smc.idleTimer ++ longTimerField s.smc.parkTimer

/-- Item 2 (R205). The last trip cause is shown with its row or bank, as item 1 shows the first cause (DESIGN
CHOICE, assumption log 62). -/
def State.flagsItem (s : State) : List Byte :=
  let f := s.ret.flags
  uFlag f.power ++ uFlag f.supplyDip ++ uFlag f.command ++ uFlag f.tripAtRestart
    ++ uFlag f.retainLost ++ causeField s.ret.lastTrip

/-- Item 3 (R197). -/
def Rif.item (r : Rif) : List Byte :=
  u2 r.checkErrors ++ u2 r.formatErrors ++ u2 r.transitOverflows ++ u2 r.requestDiscards
    ++ uFlag r.overrun ++ u1 r.transit.length ++ u1 r.commands.length
    ++ u1 (r.replies.length + r.reserved) ++ u1 r.notices.length

/-- Item 4 (R206). -/
def State.clockItem (s : State) : List Byte := clockField s.ret.clock ++ u4 s.ret.runSeconds

def FillCommand.num : FillCommand → Nat
  | .run => 0
  | .halt => 1
  | .abort => 2

/-- The vehicle fields of a record (R7, R17). -/
def vehicleField (f : VehicleFields) : List Byte :=
  optField 1 (f.version.map u1) ++ optField 2 (f.volume.map u2)
    ++ optField 1 (f.pclass.map (fun k => u1 k.num)) ++ optField 2 (f.pressure.map (fun p => u2 p.toNat))
    ++ optField 2 (f.temp.map i2) ++ optField 1 (f.command.map (fun c => u1 (FillCommand.num c)))

/-- R7: the value, the level or the vehicle fields, by the kind of the role. -/
def recordContents (r : Role) (x : SigRec) : List Byte :=
  match r.kind with
  | .digital => uFlag x.level
  | .vehicle => vehicleField x.vehicle
  | _ => i2 x.value

/-- Item 5 (R7); for an unmapped role row none and quality ABSENT. The region is sent for every kind of role:
R7 holds none for digital, count and vehicle roles, and their records carry INSIDE (DESIGN CHOICE,
assumption log 55). -/
def State.signalItem (s : State) (r : Role) : List Byte :=
  match s.rowOf r with
  | none => optField 1 none ++ u1 Quality.absent.num
  | some x =>
    let rec0 := s.record r
    optField 1 (some (u1 x.1)) ++ u1 rec0.quality.num ++ recordContents r rec0
      ++ u1 rec0.region.num ++ u2 (rec0.timer.getD 0)

/-! ## Item 6: bank summary (R36, R44 to R46) -/

def BankState.num : BankState → Nat
  | .unconfigured => 0
  | .available => 1
  | .claimedPos _ => 2
  | .claimedCmp => 3
  | .isolated => 4

/-- The holder as a unit index. -/
def BankState.holderNum : BankState → Nat
  | .claimedPos p => p.num
  | .claimedCmp => 5
  | _ => 0

def holderNum : Holder → Nat
  | .pos p => p.num
  | .compressor => 5

/-- R44: holder, type (0 DRAW, 1 REFILL), inventory at open with its validity, metered mass (DRAW
only), open time. -/
def sessionBytes (x : Session) : List Byte :=
  u1 (holderNum x.holder) ++ u1 (if x.holder = .compressor then 1 else 0) ++ u4 x.invOpen
    ++ uFlag x.openValid
    ++ optField 4 (if x.holder = .compressor then none else some (u4 x.metered))
    ++ clockField x.openTime

/-- R46: type, the position (none for REFILL), and the outcome, the discrepancy, the tolerance and the gain,
each of which may be absent. -/
def lastBytes (x : LastSession) : List Byte :=
  match x with
  | .draw p o f =>
    u1 0 ++ u1 p.num ++ optField 1 (some (u1 o.num)) ++ optField 4 (f.map (fun y => beInt 4 y.1))
      ++ optField 4 (f.map (fun y => u4 y.2)) ++ optField 4 none
  | .refill g =>
    u1 1 ++ u1 0 ++ optField 1 none ++ optField 4 none ++ optField 4 none ++ optField 4 (g.map (beInt 4))

/-- Item 6. -/
def State.bankItem (s : State) (b : Bank) : List Byte :=
  let r := s.bank b
  u1 r.state.num ++ u1 r.state.holderNum ++ listField 4 1 (r.waiters.map (fun p => u1 p.num))
    ++ s.valueField (.bankPressure b) ++ s.valueField (.bankTemp b) ++ u4 r.inventory
    ++ uFlag r.invValid ++ optField 1 (r.cause.map (fun c => u1 c.num))
    ++ optField 17 (r.session.map sessionBytes) ++ optField 19 (r.last.map lastBytes)

/-! ## Item 7: compressor summary (R54) -/

/-- NOT-FITTED is reported while the active row is unfitted. -/
def State.cmpStateNum (s : State) : Nat := if s.cmpFitted then s.cmp.state.num else 6

/-- Type (0 REFILL, 1 DIRECT) and unit. -/
def destBytes : CmpDest → List Byte
  | .refill b => u1 0 ++ u1 b.num
  | .direct p => u1 1 ++ u1 p.num

/-- The run timer while PRIMING, UNLOADED or LOADED. -/
def State.runTimerField (s : State) : List Byte :=
  optField 4 (s.cmp.startedAt.map (fun _ => u4 s.runTimer))

/-- Item 7. -/
def State.compressorItem (s : State) : List Byte :=
  u1 s.cmpStateNum ++ optField 2 (s.cmp.dest.map destBytes) ++ posIndex (s.cmp.holder.map (·.1))
    ++ clockField (s.cmp.holder.bind (·.2)) ++ listField 4 1 (s.cmp.waiters.map (fun p => u1 p.num))
    ++ listField 12 4 (s.ret.history.map u4) ++ u1 s.youngStarts ++ s.runTimerField
    ++ timerField s.cmp.primeTimer ++ timerField s.cmp.offTimer ++ uFlag s.cmp.supplyLow
    ++ uFlag s.cmp.refillWant ++ optField 1 (s.cmp.held.map (fun r => u1 r.num))
    ++ optField 1 (s.cmp.cause.map (fun c => u1 c.num)) ++ s.valueField .suctionPressure
    ++ s.valueField .dischargePressure ++ s.valueField .dischargeTemp ++ s.levelField .compressorRunning

/-! ## Item 8: chiller summary (R75, R85, R86) -/

def State.chillerStateNum (s : State) : Nat := if s.chillerRow.fitted then s.pcl.state.num else 4

def categoryField (c : Option Category) : List Byte := optField 1 (c.map (fun k => u1 k.rank))

def monitorBytes (m : Monitor) : List Byte :=
  u1 m.phase.num ++ categoryField m.category ++ timerField m.settle ++ timerField m.excursion

/-- Item 8. R86 shows the OUTLET-TEMP values in the summary, and R75 gives them no place in its listing: the
quality and the value of each position stand at the end (DESIGN CHOICE, assumption log 57). -/
def State.chillerItem (s : State) : List Byte :=
  u1 s.chillerStateNum ++ u4 s.pcl.reserve ++ uFlag s.pcl.stabilised ++ timerField s.pcl.stabTimer
    ++ timerField s.pcl.parkTimer ++ optField 1 (s.pcl.cause.map (fun c => u1 c.num))
    ++ s.pcl.demand.toList.flatMap categoryField ++ s.pcl.monitor.toList.flatMap monitorBytes
    ++ s.levelField .chillerFault ++ Pos.all.flatMap (fun p => s.valueField (.outletTemp p))

/-! ## Item 9: position summary (R108, R136, R156) -/

def fillIdBytes (f : FillId) : List Byte :=
  u4 f.txn ++ u1 f.kind.num ++ u4 f.cap ++ u2 f.gen ++ clockField f.authTime

/-- The source of the volume class is VEHICLE 0 or DEFAULT 1 (R100). -/
def selectionBytes (x : Selection) : List Byte :=
  u1 x.volClass ++ u1 (if x.fromVehicle then 0 else 1) ++ u1 x.ambBand ++ u1 x.p0Band ++ u2 x.aprr ++ u2 x.pEnd

def WaitStage.num : WaitStage → Nat
  | .pulse => 0
  | .main => 1

def ResumeStage.num : ResumeStage → Nat
  | .pulse => 0
  | .leakCheck => 1
  | .main => 2

/-- Each timer takes the width of its range (R92, R106, R183); the pulse timer holds at most 100 ticks. -/
def timersBytes (t : PosTimers) : List Byte :=
  timerField t.fill ++ optField 1 (t.pulse.map u1) ++ timerField t.leak ++ timerField t.precool
    ++ timerField t.bankWait ++ timerField t.pause ++ timerField t.vehicle ++ timerField t.mismatch
    ++ timerField t.afterRun ++ timerField t.vent

/-- A count that stops at 255. -/
def countByte (n : Nat) : List Byte := u1 (min n 255)

/-- The session outcomes received, as the counts of BALANCED, MISMATCH and UNCHECKED: R108 gives the list no
largest length (DESIGN CHOICE, assumption log 47). -/
def outcomesBytes (os : List (Bank × DrawOutcome)) : List Byte :=
  [DrawOutcome.balanced, .mismatch, .unchecked].flatMap (fun o => countByte (os.countP (fun x => x.2 == o)))

/-- The awaited outcomes, as a count for each of B1 to B4 (DESIGN CHOICE, assumption log 47). -/
def awaitedBytes (bs : List Bank) : List Byte := Bank.all.flatMap (fun b => countByte (bs.count b))

/-- The items of R108, in its order. -/
def ctxBytes (c : Ctx) : List Byte :=
  u1 c.state.num ++ uFlag c.opened ++ uFlag c.faultMark
    ++ optField 1 (c.faultCause.map (fun f => u1 f.num)) ++ optField 16 (c.fill.map fillIdBytes)
    ++ u1 c.category.rank ++ u1 c.reRates ++ optField 8 (c.selection.map selectionBytes)
    ++ optField 2 (c.p0.map i2) ++ u1 (sourceNum c.source) ++ u1 (sourceNum c.waitOn)
    ++ u1 c.waitStage.num ++ i2 c.anchor ++ u2 c.tau ++ optField 2 (c.target.map i2) ++ u2 c.opening
    ++ uFlag c.halt ++ uFlag c.signal ++ u1 c.resume.num ++ u1 c.link.num ++ u1 c.consistent
    ++ optField 2 (c.soc.map u2) ++ timersBytes c.timers
    ++ outcomesBytes c.outcomes ++ uFlag c.uncertainMark ++ u1 (endReasonNum c.endReason)
    ++ awaitedBytes c.awaited

/-- The meter context (R136). The fill figures are open 0 or closed 1, in the order in which R136 lists the
two (R183). -/
def meterBytes (m : MeterCtx) : List Byte :=
  optField 2 (m.baseline.map u2) ++ uFlag m.fault ++ u1 (if m.isOpen then 0 else 1) ++ u8 m.fill
    ++ m.banks.toList.flatMap u8 ++ u8 m.cmp ++ u8 m.unattr ++ u8 m.afterRun ++ uFlag m.uncertain
    ++ u8 m.outMass ++ uFlag m.outNotice

/-- A field that only one kind of tender has. -/
def kindField (c : TenderCtx) (k : TenderKind) (width n : Nat) : List Byte :=
  optField width (if c.kind = k then some (beBytes width n) else none)

/-- The filled tender context (R156): the account id and the hold are FLEET only, the authorised amount is
CARD only. -/
def tenderBytes (c : TenderCtx) : List Byte :=
  u4 c.txn ++ u1 c.kind.num ++ u4 c.reference ++ u1 c.node ++ kindField c .fleet 2 c.account
    ++ kindField c .card 4 c.authorised ++ u1 c.band ++ u1 c.cls ++ u4 c.price ++ u4 c.cap
    ++ kindField c .fleet 4 c.hold ++ clockField c.start ++ uFlag c.timeUnset

/-- Item 9. -/
def State.positionItem (s : State) (p : Pos) : List Byte :=
  ctxBytes (s.ctx p) ++ meterBytes (s.meter p) ++ optField 39 ((s.bil.get p).map tenderBytes)

/-- Item 10 (R180). -/
def State.totaliserItem (s : State) (p : Pos) : List Byte :=
  let t := s.ret.totaliser.get p
  u1 p.num ++ u8 (t / 1000) ++ u2 (t % 1000)

/-! ## The request (R197) -/

/-- An item that takes no index takes index 0 only. -/
def noIndex (index : Nat) (bs : List Byte) : Option (List Byte) := if index = 0 then some bs else none

/-- R197: the content of an item, none for an index it does not take. -/
def State.item (s : State) (code index unit second : Nat) : Option (List Byte) :=
  match code with
  | 1 => noIndex index s.modeItem
  | 2 => noIndex index s.flagsItem
  | 3 => noIndex index s.rif.item
  | 4 => noIndex index s.clockItem
  | 5 => ((Role.ofCode index unit second).filter (fun r => r.kind.isInput)).map s.signalItem
  | 6 => (Bank.ofNum index).map s.bankItem
  | 7 => noIndex index s.compressorItem
  | 8 => noIndex index s.chillerItem
  | 9 => (Pos.ofNum index).map s.positionItem
  | 10 => (Pos.ofNum index).map s.totaliserItem
  | _ => none

/-- R197: the room of one section. -/
def sectionRoom : Nat := 51

/-- R197: how many sections a content takes. -/
def sectionCount (bs : List Byte) : Nat := max 1 ((bs.length + (sectionRoom - 1)) / sectionRoom)

/-- R197: the reply data of a section. -/
def sectionData (bs : List Byte) (n : Nat) : List Byte :=
  u1 n ++ u1 (sectionCount bs) ++ (bs.drop (n * sectionRoom)).take sectionRoom

/-- R197: a READ-ITEM of ring status clears the notice-overrun flag. -/
def clearOverrun (code : Nat) (s : State) : State :=
  onlyIf (code == 3) (updRif (fun r => { r with overrun := false })) s

/-- READ-ITEM (R197). -/
def readItemRequest (rq : Req) (code index unit second sect : Nat) (s : State) : State :=
  if code = 0 ∨ 10 < code then reply rq 1 .unknown [] s
  else
    match s.item code index unit second with
    | none => reply rq 1 .range [] s
    | some bs =>
      if sectionCount bs ≤ sect then reply rq 1 .range [] s
      else reply rq 1 .ok (sectionData bs sect) (clearOverrun code s)

/-! ## Command -/

def execReadItem (rq : Req) (code index unit second sect : Nat) (s : State) : Outcome :=
  running s (readItemRequest rq code index unit second sect)

end Sys2Proof.Machine
end

