-- ==== Sys2Proof/Machine/RingIn.lean ====
section
/-! DEFINITION. The ring interface's ingress (R187 to R189, R191, R193), the end of a send (R192, R205)
and its part in a trip (R198). -/

namespace Sys2Proof.Machine

open Sys2Proof

/-! ## Requests (R193) -/

/-- The command of a request whose parameters have the length its code requires; the parameters are
encoded by R183, and bytes beyond them are not read. -/
def requestCommand (code : Nat) (rq : Req) (ps : List Byte) : Option Instr :=
  let enough (n : Nat) (i : Instr) : Option Instr := if ps.length < n then none else some i
  let b (off : Nat) : Nat := param ps off 1
  match code with
  | 1 =>
    if b 0 = 5 then enough 5 (.readItem rq 5 (b 1) (b 2) (b 3) (b 4))
    else enough 3 (.readItem rq (b 0) (b 1) 0 0 (b 2))
  | 2 => enough 3 (.tableRead rq (b 0) (b 1) (b 2))
  | 3 => enough 2 (.tableWrite rq (b 0) (b 1) (ps.drop 2))
  | 4 => enough 1 (.tableDiscard rq (b 0))
  | 5 => enough 1 (.tableCommit rq (b 0))
  | 16 => enough 1 (.modeSet rq (b 0))
  | 17 => some (.tripRequest rq)
  | 18 => some (.restartRequest rq)
  | 19 => some (.causeClear rq)
  | 20 => enough 4 (.timeSet rq (param ps 0 4))
  | 32 => enough 1 (.bankIsolate rq (b 0))
  | 33 => enough 1 (.bankReturn rq (b 0))
  | 40 => some (.lockoutClear rq)
  | 48 => enough 1 (.positionOpen rq (b 0))
  | 49 => enough 1 (.positionClose rq (b 0))
  | 50 => enough 1 (.positionStop rq (b 0))
  | 51 => enough 5 (.positionLimit rq (b 0) (param ps 1 4))
  | 64 => enough 7 (.accountSet rq (param ps 0 2) (b 2) (param ps 3 4))
  | 65 => enough 6 (.accountCredit rq (param ps 0 2) (param ps 2 4))
  | 66 => enough 6 (.accountWithdraw rq (param ps 0 2) (param ps 2 4))
  | 67 => enough 2 (.accountBlock rq (param ps 0 2))
  | 68 => enough 2 (.accountUnblock rq (param ps 0 2))
  | 69 => enough 2 (.accountRemove rq (param ps 0 2))
  | 70 => enough 2 (.accountRead rq (param ps 0 2))
  | 80 => some (.txnRead rq)
  | 81 => enough 4 (.txnRelease rq (param ps 0 4))
  | _ => none

/-- R193: the request codes. -/
def knownRequest (code : Nat) : Bool :=
  (1 ≤ code && code ≤ 5) || (16 ≤ code && code ≤ 20) || code == 32 || code == 33 || code == 40
    || (48 ≤ code && code ≤ 51) || (64 ≤ code && code ≤ 70) || code == 80 || code == 81

/-- R193, step 2: the source may make the request. -/
def State.entitled (s : State) (source code : Nat) : Bool :=
  s.tables.station.gen == 0 || source == s.stationRow.supervisor || code == 1 || code == 2

/-- R193: a request that has its reply place. One whose parameters are shorter than its code requires is
answered RANGE by RIF in the arrival event, ahead of requests still in flight to their owners (DESIGN CHOICE,
assumption log 54: R185 names no block that answers it). -/
def serveRequest (f : Frame) (s : State) : State :=
  let code := param f.payload 0 1
  let rq : Req := ⟨f.source, param f.payload 1 1⟩
  if !knownRequest code then reply rq code .unknown [] s
  else if !s.entitled f.source code then reply rq code .denied [] s
  else
    match requestCommand code rq (f.payload.drop 2) with
    | some i => post i s
    | none => reply rq code .range [] s

/-- R191: places of the reply queue taken or reserved. -/
def Rif.placesTaken (r : Rif) : Nat := r.replies.length + r.reserved

/-- R191: a REQUEST reserves a reply place, or is discarded and counted. -/
def takeRequest (f : Frame) (s : State) : State :=
  if s.rif.placesTaken < Config.replyPlaces then
    serveRequest f (updRif (fun r => { r with reserved := r.reserved + 1 }) s)
  else updRif (fun r => { r with requestDiscards := countUp r.requestDiscards }) s

/-! ## Observed frames (R6, R187 step 3) -/

/-- R6: the valid row, not a TENDER-SOURCE row, with the frame's source and channel. -/
def State.observedRole (s : State) (source channel : Nat) : Option Role :=
  (s.nodeRows.find? (fun x =>
    x.2.role.kind != .tenderSource && x.2.source == source && x.2.channel == channel)).map
    (fun x => x.2.role)

/-- The command SIG takes for an observed frame of a role (R184). -/
def observedCommand (r : Role) (f : Frame) : Option Instr :=
  let q := param f.payload 1 1
  match f.kind with
  | 1 =>
    let v := intOf ((f.payload.drop 2).take 4)
    some (if r.kind = .digital then .sampleDigital r q v else .sampleAnalogue r q v)
  | 2 => some (.count r q (param f.payload 2 2))
  | 3 => some (.vehData r (parseVehData f.payload))
  | _ => none

/-- R187, step 3. The role is matched by the node map at the arrival, and SIG takes the frame for that role: a frame
that a node map commit overtakes on its way to SIG is applied to the role matched under the old map, where the
new map still has a row for it (DESIGN CHOICE, assumption log 65: no rule speaks of such a frame). -/
def observe (f : Frame) (s : State) : State :=
  match (s.observedRole f.source (param f.payload 0 1)).bind (fun r => observedCommand r f) with
  | some i => post i s
  | none => s

/-! ## Destination (R187 step 4, R189) -/

/-- R189: the notice for a refused ACTUATE. -/
def refuseActuate (reason : Nat) (f : Frame) (s : State) : State :=
  kick (updRif (Rif.pushNotice (refusedNotice s reason f)) s)

/-- R189: the filter on a foreign ACTUATE. -/
def actuateFilter (f : Frame) (bs : List Byte) (s : State) : State :=
  if s.tripHeld then
    if !formatOk f then s
    else if actuateOpens f.payload then refuseActuate 1 f s
    else forward bs s
  else if formatOk f && (s.actuatorRowOf f.dest (param f.payload 0 1)).isSome then refuseActuate 0 f s
  else forward bs s

/-- The TENDER that a frame of the right length carries (R184). -/
def tenderCommand (f : Frame) (broadcast : Bool) : Instr :=
  .tender f.source broadcast (param f.payload 0 1) (param f.payload 1 1) (param f.payload 2 4)
    (param f.payload 6 2) (param f.payload 8 4)

/-- R187: what the part takes in of a frame addressed to it or broadcast. -/
def takeIn (f : Frame) (broadcast : Bool) (s : State) : State :=
  if !formatOk f then s
  else
    match f.kind with
    | 6 => takeRequest f s
    | 4 => post (tenderCommand f broadcast) s
    | _ => s

/-- R187, step 4. A broadcast frame is taken in first and forwarded after it, so the reply to a broadcast REQUEST
that RIF answers itself (UNKNOWN, DENIED, RANGE) is queued, and with RING-OUT idle sent, before the frame joins
the transit buffer (DESIGN CHOICE, assumption log 64: R187 gives no order between the two). -/
def dispatch (f : Frame) (bs : List Byte) (s : State) : State :=
  if f.dest = s.rif.ownAddress then takeIn f false s
  else if f.kind = 5 then actuateFilter f bs s
  else if f.dest = Config.broadcast then forward bs (takeIn f true s)
  else forward bs s

/-- R183, R187: a frame with a good check that has not travelled the whole ring. -/
def takeFrame (f : Frame) (bs : List Byte) (s : State) : State :=
  if formatOk f then dispatch f bs (observe f s)
  else dispatch f bs (updRif (fun r => { r with formatErrors := countUp r.formatErrors }) s)

/-- FRAME_ARRIVAL (R187). -/
def frameArrival (bs : List Byte) (s : State) : State :=
  match parseFrame bs with
  | none => updRif (fun r => { r with checkErrors := countUp r.checkErrors }) s
  | some f => if f.source = s.rif.ownAddress then s else takeFrame f bs s

/-! ## The end of a send (R192, R205) -/

/-- The lines as the part read them last, for a restart that no outage precedes. -/
def State.lines (s : State) : Lines := ⟨s.pins.straps, s.pins.loopOpen, 0⟩

/-- R205: RING-OUT has sent the OK reply to RESTART: the restart is the next thing taken. -/
def restartDue (s : State) : State := { s with mail := .commandRestart s.lines :: s.mail }

/-- RING_OUT_SEND_DONE (R192). -/
def sendDone (s : State) : State :=
  match s.rif.ringOut with
  | none => s
  | some f => chooseNext (onlyIf f.restart restartDue s)

/-! ## Trip (R190, R198) -/

/-- RIF_TRIP: queued opening commands are held as CLOSE, and the filters act in trip. -/
def rifTrip (s : State) : State :=
  updRif (fun r => { r with tripTaken := true, commands := r.commands.map (heldEntry true) }) s

/-! ## Commands -/

def execFrameArrival (bs : List Byte) (s : State) : Outcome := running s (frameArrival bs)
def execRingOutSendDone (s : State) : Outcome := running s sendDone
def execRifTrip (s : State) : Outcome := running s rifTrip

end Sys2Proof.Machine
end

