-- ==== Sys2Proof/Machine/Restart.lean ====
section
/-! DEFINITION. Restarts (R205, R207): the cause flags, the retained domain, every block's state after a
restart (R19, R50, R71, R89, R99, R135, R152, R198), the interrupted fills (R169, R177), the mode
(R200) and the trip loop (R204). -/

namespace Sys2Proof.Machine

open Sys2Proof

/-! ## The retained domain (R205 to R207) -/

/-- R206: the seconds the crystal counted while the part was down. -/
def Retained.elapse (n : Nat) (r : Retained) : Retained :=
  { r with clock := r.clock.map (fun t => hold32 (t + n)), runSeconds := hold32 (r.runSeconds + n) }

/-- R205, POWER-ON with the domain held: POWER set, every other flag and the last trip cause cleared. -/
def powerFlags (r : Retained) : Retained :=
  { r with flags := ⟨true, false, false, false, false⟩, lastTrip := none }

/-- R207: the retained domain empty, with RETAIN-LOST and POWER. -/
def retainLost : Retained := { Retained.empty with flags := ⟨true, false, false, false, true⟩ }

/-- R205: a restart taken while the latch is set keeps its first cause. -/
def keepTrip (latch : Option TripInfo) (r : Retained) : Retained :=
  match latch with
  | some t => { r with flags := { r.flags with tripAtRestart := true }, lastTrip := some t.cause }
  | none => r

/-- R99, R196: every shadow re-copied; no older generation and no holder. -/
def FillCopy.restart (f : FillCopy) : FillCopy := ⟨f.copy.discard, 0, none⟩

def Tables.restart (t : Tables) : Tables where
  nodeMap := t.nodeMap.discard
  station := t.station.discard
  bank := t.bank.discard
  compressor := t.compressor.discard
  precool := t.precool.discard
  position := t.position.discard
  fillH35 := t.fillH35.restart
  fillH70 := t.fillH70.restart
  tariff := t.tariff.discard

/-! ## Every block after a restart -/

/-- R200: the mode after a restart. -/
def restartMode (t : Tables) : Mode := if t.complete then .parked else .configuring

/-- The blocks as they come up, before any of them acts. -/
def bringUp (t : Tables) (r : Retained) (l : Lines) (s : State) : State where
  tables := t
  ret := r
  rif := Rif.start (240 + l.straps.val)
  sig := recordsOf (validRows t.nodeMap.active)
  bkm := t.bank.active.rows.map (fun b => BankRec.start b.configured)
  bkmBq := t.precool.active.row0.bq
  cmp := .start
  pcl := .start
  fil := .all .start
  bankWaitOrder := []
  mtr := .all .start
  bil := .all none
  smc := ⟨restartMode t, none, 0, none, none, false⟩
  pins := ⟨l.straps, l.loopOpen, (restartMode t).energises⟩
  ticks := 0
  mail := []
  pending := s.pending

/-! ## Interrupted fills (R169, R177) -/

/-- R169: the settlement of a live snapshot. -/
def Snapshot.settlement (x : Snapshot) (p : Pos) : Settlement :=
  ⟨p, x.txn, x.kind, x.reference, x.node, x.account, x.price, x.cap, x.fill / 1000⟩

/-- R177: the INTERRUPTED record of a snapshot. -/
def State.interrupted (s : State) (p : Pos) (x : Snapshot) : TxnRecord :=
  let row := s.posRow p
  let y := x.settlement p
  { txn := x.txn
    pos := p
    pclass := row.pclass
    kind := x.kind
    reference := x.reference
    account := x.account
    start := clockOrZero x.start
    endTime := clockOrZero s.ret.clock
    required := row.required
    final := row.required
    reRates := 0
    link := .none
    fillMass := y.fillG
    billed := y.billed
    afterRun := x.afterRun / 1000
    unattr := x.unattr / 1000
    price := x.price
    amount := y.amount
    reason := none
    interrupted := true
    mismatch := false
    unchecked := true
    timeUnset := x.timeUnset || s.ret.clock.isNone
    uncertain := false }

/-- R169, R177: one position's live snapshot is settled and placed. -/
def settleSnapshot (p : Pos) (s : State) : State :=
  match s.ret.snapshots.get p with
  | none => s
  | some x => placeRecord (s.interrupted p x) (settle (x.settlement p) s)

/-- R169, R177: a hold or a reservation that no live snapshot stands for is removed. -/
def dropStray (s : State) : State :=
  updRet (fun r =>
    { r with
      reserved := .all false
      snapshots := .all none
      accounts := r.accounts.map (fun o => o.map (fun a => { a with holds := [] })) }) s

/-- R169, R177. -/
def settleSnapshots (s : State) : State := dropStray (forEach Pos.all settleSnapshot s)

/-! ## The restart -/

/-- R204: a loop found open when the part starts running. -/
def judgeLoop (s : State) : State := onlyIf s.pins.loopOpen (tripOn .loop) s

/-- A restart with its tables and retained domain: the blocks, the CLOSEs of R19, the aged starts of
R55, the interrupted fills, the day number, and the trip loop. The notices of the interrupted fills and of the
day come before NOTICE TRIP where the loop is found open (DESIGN CHOICE, assumption log 53: R177, R204 and
R205 give no order). -/
def restart (t : Tables) (r : Retained) (l : Lines) (s : State) : State :=
  judgeLoop (checkDay (settleSnapshots (ageHistory (closeAll (bringUp t.restart r l s)))))

/-- POWER_ON (R205, R207). -/
def powerOn (held : Bool) (l : Lines) (s : State) : State :=
  if held then restart s.tables (powerFlags (s.ret.elapse l.downSeconds)) l s
  else restart .dflt retainLost l s

/-- SUPPLY_DIP (R205). -/
def supplyDip (l : Lines) (s : State) : State :=
  let r := keepTrip s.smc.latch (s.ret.elapse l.downSeconds)
  restart s.tables { r with flags := { r.flags with supplyDip := true } } l s

/-- COMMAND_RESTART (R205). -/
def commandRestart (l : Lines) (s : State) : State :=
  let r := keepTrip s.smc.latch (s.ret.elapse l.downSeconds)
  restart s.tables { r with flags := { r.flags with command := true } } l s

/-! ## Commands -/

/-- POWER_ON is taken in reset too: it is what ends it. -/
def execPowerOn (held : Bool) (l : Lines) (s : State) : Outcome := .next (powerOn held l s)

/-- SUPPLY_DIP ends the reset the supply monitor holds. -/
def execSupplyDip (l : Lines) (s : State) : Outcome := .next (supplyDip l s)

def execCommandRestart (l : Lines) (s : State) : Outcome := running s (commandRestart l)

end Sys2Proof.Machine
end

