-- ==== Sys2Proof/Machine/Dispatch.lean ====
section
/-! DEFINITION. One arm per command of spec/opcode_table.json, in the table's order. -/

namespace Sys2Proof.Machine

open Sys2Proof

def exec (i : Instr) (s : State) : Host.Outcome State Fault Refusal :=
  match i with
  | .frameArrival bytes => Sys2Proof.Machine.execFrameArrival bytes s
  | .ringOutSendDone => Sys2Proof.Machine.execRingOutSendDone s
  | .readItem rq item index unit second sect => Sys2Proof.Machine.execReadItem rq item index unit second sect s
  | .tableRead rq table row copy => Sys2Proof.Machine.execTableRead rq table row copy s
  | .tableWrite rq table row data => Sys2Proof.Machine.execTableWrite rq table row data s
  | .tableDiscard rq table => Sys2Proof.Machine.execTableDiscard rq table s
  | .tableCommit rq table => Sys2Proof.Machine.execTableCommit rq table s
  | .modeSet rq mode => Sys2Proof.Machine.execModeSet rq mode s
  | .tripRequest rq => Sys2Proof.Machine.execTripRequest rq s
  | .restartRequest rq => Sys2Proof.Machine.execRestartRequest rq s
  | .causeClear rq => Sys2Proof.Machine.execCauseClear rq s
  | .timeSet rq seconds => Sys2Proof.Machine.execTimeSet rq seconds s
  | .bankIsolate rq bank => Sys2Proof.Machine.execBankIsolate rq bank s
  | .bankReturn rq bank => Sys2Proof.Machine.execBankReturn rq bank s
  | .lockoutClear rq => Sys2Proof.Machine.execLockoutClear rq s
  | .positionOpen rq pos => Sys2Proof.Machine.execPositionOpen rq pos s
  | .positionClose rq pos => Sys2Proof.Machine.execPositionClose rq pos s
  | .positionStop rq pos => Sys2Proof.Machine.execPositionStop rq pos s
  | .positionLimit rq pos cap => Sys2Proof.Machine.execPositionLimit rq pos cap s
  | .accountSet rq id cls allowance => Sys2Proof.Machine.execAccountSet rq id cls allowance s
  | .accountCredit rq id amount => Sys2Proof.Machine.execAccountCredit rq id amount s
  | .accountWithdraw rq id amount => Sys2Proof.Machine.execAccountWithdraw rq id amount s
  | .accountBlock rq id => Sys2Proof.Machine.execAccountBlock rq id s
  | .accountUnblock rq id => Sys2Proof.Machine.execAccountUnblock rq id s
  | .accountRemove rq id => Sys2Proof.Machine.execAccountRemove rq id s
  | .accountRead rq id => Sys2Proof.Machine.execAccountRead rq id s
  | .txnRead rq => Sys2Proof.Machine.execTxnRead rq s
  | .txnRelease rq number => Sys2Proof.Machine.execTxnRelease rq number s
  | .tender source broadcast pos kind reference account amount => Sys2Proof.Machine.execTender source broadcast pos kind reference account amount s
  | .sampleAnalogue role quality value => Sys2Proof.Machine.execSampleAnalogue role quality value s
  | .sampleDigital role quality value => Sys2Proof.Machine.execSampleDigital role quality value s
  | .count role quality count => Sys2Proof.Machine.execCount role quality count s
  | .vehData role data => Sys2Proof.Machine.execVehData role data s
  | .freshnessExpiry role => Sys2Proof.Machine.execFreshnessExpiry role s
  | .bankSignalValue b sg rec => Sys2Proof.Machine.execBankSignalValue b sg rec s
  | .bankSignalQuality b sg rec => Sys2Proof.Machine.execBankSignalQuality b sg rec s
  | .bankIsolateSignal b => Sys2Proof.Machine.execBankIsolateSignal b s
  | .bQChange => Sys2Proof.Machine.execBQChange s
  | .positionClaim p b => Sys2Proof.Machine.execPositionClaim p b s
  | .compressorClaim b => Sys2Proof.Machine.execCompressorClaim b s
  | .bankWithdraw p => Sys2Proof.Machine.execBankWithdraw p s
  | .bankRelease b party => Sys2Proof.Machine.execBankRelease b party s
  | .bankIncrementReport p mg att => Sys2Proof.Machine.execBankIncrementReport p mg att s
  | .bkmTrip => Sys2Proof.Machine.execBkmTrip s
  | .cmpSignalArrival role arr => Sys2Proof.Machine.execCmpSignalArrival role arr s
  | .cmpIsolate => Sys2Proof.Machine.execCmpIsolate s
  | .cmpBankAnnouncement b => Sys2Proof.Machine.execCmpBankAnnouncement b s
  | .outputClaim p => Sys2Proof.Machine.execOutputClaim p s
  | .outputRelease p => Sys2Proof.Machine.execOutputRelease p s
  | .outputWithdraw p => Sys2Proof.Machine.execOutputWithdraw p s
  | .yielded b => Sys2Proof.Machine.execYielded b s
  | .cmpBankLost lost => Sys2Proof.Machine.execCmpBankLost lost s
  | .primeTimerExpiry => Sys2Proof.Machine.execPrimeTimerExpiry s
  | .minimumRunExpiry => Sys2Proof.Machine.execMinimumRunExpiry s
  | .offTimerExpiry => Sys2Proof.Machine.execOffTimerExpiry s
  | .startHistoryAgeing => Sys2Proof.Machine.execStartHistoryAgeing s
  | .cmpTrip => Sys2Proof.Machine.execCmpTrip s
  | .reserveStep => Sys2Proof.Machine.execReserveStep s
  | .coldConsumption p inc => Sys2Proof.Machine.execColdConsumption p inc s
  | .categoryReport p cat entry => Sys2Proof.Machine.execCategoryReport p cat entry s
  | .sourceReport p src => Sys2Proof.Machine.execSourceReport p src s
  | .admissionRequest p cat => Sys2Proof.Machine.execAdmissionRequest p cat s
  | .admissionCancel p => Sys2Proof.Machine.execAdmissionCancel p s
  | .mainEntryReport p => Sys2Proof.Machine.execMainEntryReport p s
  | .mainLeaveReport p => Sys2Proof.Machine.execMainLeaveReport p s
  | .outletTempArrival p arr => Sys2Proof.Machine.execOutletTempArrival p arr s
  | .settleTimerExpiry p => Sys2Proof.Machine.execSettleTimerExpiry p s
  | .excursionTimerExpiry p => Sys2Proof.Machine.execExcursionTimerExpiry p s
  | .stabilisationTimerExpiry => Sys2Proof.Machine.execStabilisationTimerExpiry s
  | .parkTimerExpiry => Sys2Proof.Machine.execParkTimerExpiry s
  | .chillerFaultDelivery arr => Sys2Proof.Machine.execChillerFaultDelivery arr s
  | .chillerIsolate => Sys2Proof.Machine.execChillerIsolate s
  | .pclTrip => Sys2Proof.Machine.execPclTrip s
  | .filHolsterTransition p rec => Sys2Proof.Machine.execFilHolsterTransition p rec s
  | .filCoupledTransition p rec => Sys2Proof.Machine.execFilCoupledTransition p rec s
  | .filNozzlePressure p rec => Sys2Proof.Machine.execFilNozzlePressure p rec s
  | .filBankPressure b arr => Sys2Proof.Machine.execFilBankPressure b arr s
  | .filVehdata p rec => Sys2Proof.Machine.execFilVehdata p rec s
  | .filSignalQuality sg => Sys2Proof.Machine.execFilSignalQuality sg s
  | .positionIsolate p => Sys2Proof.Machine.execPositionIsolate p s
  | .filGranted p src => Sys2Proof.Machine.execFilGranted p src s
  | .filBankAnnouncement b => Sys2Proof.Machine.execFilBankAnnouncement b s
  | .compressorStateReport => Sys2Proof.Machine.execCompressorStateReport s
  | .waitCancelled p src => Sys2Proof.Machine.execWaitCancelled p src s
  | .filLost p src cause => Sys2Proof.Machine.execFilLost p src cause s
  | .sessionOutcome p b o => Sys2Proof.Machine.execSessionOutcome p b o s
  | .admitted p cat => Sys2Proof.Machine.execAdmit p cat s
  | .reRateRequest p cat outlet => Sys2Proof.Machine.execReRateRequest p cat outlet s
  | .meterFaultReport p => Sys2Proof.Machine.execMeterFaultReport p s
  | .unauthorisedFlowReport p => Sys2Proof.Machine.execUnauthorisedFlowReport p s
  | .filMassReport p mass att uncertain => Sys2Proof.Machine.execFilMassReport p mass att uncertain s
  | .fillTimerExpiry p => Sys2Proof.Machine.execFillTimerExpiry p s
  | .pulseTimerExpiry p => Sys2Proof.Machine.execPulseTimerExpiry p s
  | .leakCheckTimerExpiry p => Sys2Proof.Machine.execLeakCheckTimerExpiry p s
  | .precoolWaitTimerExpiry p => Sys2Proof.Machine.execPrecoolWaitTimerExpiry p s
  | .bankWaitTimerExpiry p => Sys2Proof.Machine.execBankWaitTimerExpiry p s
  | .pauseTimerExpiry p => Sys2Proof.Machine.execPauseTimerExpiry p s
  | .vehicleTimerExpiry p => Sys2Proof.Machine.execVehicleTimerExpiry p s
  | .mismatchTimerExpiry p => Sys2Proof.Machine.execMismatchTimerExpiry p s
  | .afterRunTimerExpiry p => Sys2Proof.Machine.execAfterRunTimerExpiry p s
  | .ventTimerExpiry p => Sys2Proof.Machine.execVentTimerExpiry p s
  | .filTrip => Sys2Proof.Machine.execFilTrip s
  | .meterCount p count quality => Sys2Proof.Machine.execMeterCount p count quality s
  | .meterQualityChange p rec => Sys2Proof.Machine.execMeterQualityChange p rec s
  | .loweredCap p cap => Sys2Proof.Machine.execLoweredCap p cap s
  | .cancelled p => Sys2Proof.Machine.execCancelled p s
  | .fillSummary sum => Sys2Proof.Machine.execFillSummary sum s
  | .stationClockAdvance => Sys2Proof.Machine.execStationClockAdvance s
  | .smcHolsterTransition p rec => Sys2Proof.Machine.execSmcHolsterTransition p rec s
  | .bankLow => Sys2Proof.Machine.execBankLow s
  | .descentReport => Sys2Proof.Machine.execDescentReport s
  | .idleTimerExpiry => Sys2Proof.Machine.execIdleTimerExpiry s
  | .parkTimeExpiry => Sys2Proof.Machine.execParkTimeExpiry s
  | .tripCause c => Sys2Proof.Machine.execTripCause c s
  | .tripLoopOpen => Sys2Proof.Machine.execTripLoopOpen s
  | .supplyMonitorTrip => Sys2Proof.Machine.execSupplyMonitorTrip s
  | .rifTrip => Sys2Proof.Machine.execRifTrip s
  | .powerOn held lines => Sys2Proof.Machine.execPowerOn held lines s
  | .supplyDip lines => Sys2Proof.Machine.execSupplyDip lines s
  | .commandRestart lines => Sys2Proof.Machine.execCommandRestart lines s

end Sys2Proof.Machine
end

