-- ==== Sys2Proof/Machine/Idle.lean ====
section
/-! DEFINITION. What the part does while no command waits (DESIGN CHOICE, assumption logs 1 and 4): it
takes the messages in flight between its blocks, oldest first; then the expiries that are due; and
with neither, one 0.1 s tick of the time base passes (00_scope.md, "Time and clocks"). -/

namespace Sys2Proof.Machine

open Sys2Proof

/-! ## Expiries that are due -/

/-- The expiry of one timer, when it is due. -/
def dueAt (t : Option Nat) (i : Instr) : List Instr := if timerDue t then [i] else []

/-- Freshness timers (R10). -/
def State.dueRecords (s : State) : List Instr :=
  s.sig.flatMap (fun x => dueAt x.2.timer (.freshnessExpiry x.1))

/-- The ten timers of a position (R108). -/
def State.duePosition (s : State) (p : Pos) : List Instr :=
  let t := (s.ctx p).timers
  dueAt t.fill (.fillTimerExpiry p) ++ dueAt t.pulse (.pulseTimerExpiry p)
    ++ dueAt t.leak (.leakCheckTimerExpiry p) ++ dueAt t.precool (.precoolWaitTimerExpiry p)
    ++ dueAt t.bankWait (.bankWaitTimerExpiry p) ++ dueAt t.pause (.pauseTimerExpiry p)
    ++ dueAt t.vehicle (.vehicleTimerExpiry p) ++ dueAt t.mismatch (.mismatchTimerExpiry p)
    ++ dueAt t.afterRun (.afterRunTimerExpiry p) ++ dueAt t.vent (.ventTimerExpiry p)

/-- R62: the minimum run has passed in UNLOADED. -/
def State.minRunPassed (s : State) : Bool :=
  s.cmp.state == .unloaded && decide (s.cmpRow.minRun ≤ s.runTimer)

/-- The compressor's timers and the ageing of its starts (R55, R59, R62). -/
def State.dueCompressor (s : State) : List Instr :=
  dueAt s.cmp.primeTimer .primeTimerExpiry ++ dueAt s.cmp.offTimer .offTimerExpiry
    ++ (if s.minRunPassed then [.minimumRunExpiry] else [])
    ++ (if s.ret.history.all (young s.ret.runSeconds) then [] else [.startHistoryAgeing])

/-- The chiller's timers and the monitors' (R75, R85). -/
def State.dueChiller (s : State) : List Instr :=
  dueAt s.pcl.stabTimer .stabilisationTimerExpiry ++ dueAt s.pcl.parkTimer .parkTimerExpiry
    ++ Pos.all.flatMap (fun p =>
      dueAt (s.pcl.monitor.get p).settle (.settleTimerExpiry p)
        ++ dueAt (s.pcl.monitor.get p).excursion (.excursionTimerExpiry p))

/-- SMC's descent timers (R203). -/
def State.dueDescent (s : State) : List Instr :=
  dueAt s.smc.idleTimer .idleTimerExpiry ++ dueAt s.smc.parkTimer .parkTimeExpiry

/-- The expiries that are due, in the order they are taken. -/
def State.due (s : State) : List Instr :=
  s.dueRecords ++ Pos.all.flatMap s.duePosition ++ s.dueCompressor ++ s.dueChiller ++ s.dueDescent

/-! ## One tick of the time base -/

def PosTimers.tick (t : PosTimers) : PosTimers :=
  ⟨tickTimer t.fill, tickTimer t.pulse, tickTimer t.leak, tickTimer t.precool, tickTimer t.bankWait,
   tickTimer t.pause, tickTimer t.vehicle, tickTimer t.mismatch, tickTimer t.afterRun,
   tickTimer t.vent⟩

/-- A position at a tick: its timers, and the ramp clock in MAIN (R105). -/
def Ctx.tick (c : Ctx) : Ctx :=
  { c with timers := c.timers.tick, tau := if c.state = .main then c.tau + 1 else c.tau }

def Monitor.tick (m : Monitor) : Monitor :=
  { m with settle := tickTimer m.settle, excursion := tickTimer m.excursion }

def Pcl.tick (k : Pcl) : Pcl :=
  { k with
    stabTimer := tickTimer k.stabTimer
    parkTimer := tickTimer k.parkTimer
    monitor := k.monitor.map Monitor.tick }

def Cmp.tick (c : Cmp) : Cmp :=
  { c with primeTimer := tickTimer c.primeTimer, offTimer := tickTimer c.offTimer }

def Smc.tick (k : Smc) : Smc :=
  { k with idleTimer := tickTimer k.idleTimer, parkTimer := tickTimer k.parkTimer }

/-- One tick at every timer. -/
def tickTimers (s : State) : State :=
  { s with
    sig := s.sig.map (fun x => (x.1, { x.2 with timer := tickTimer x.2.timer }))
    cmp := s.cmp.tick
    pcl := s.pcl.tick
    fil := s.fil.map Ctx.tick
    smc := s.smc.tick }

/-- One tick: the timers, the phase, and every tenth tick its second: the crystal's counts advance and BIL
judges the day number in the same step (R167, R206), and PCL's reserve step is sent (R81). -/
def tick (s : State) : State :=
  let s1 := { tickTimers s with ticks := (s.ticks + 1) % 10 }
  if s1.ticks = 0 then post .reserveStep (clockSecond s1) else s1

/-- A tick while the supply monitor holds the part in reset: the crystal counts on (R206). -/
def tickInReset (s : State) : State :=
  let s1 := { s with ticks := (s.ticks + 1) % 10 }
  if s1.ticks = 0 then crystalSecond s1 else s1

/-! ## The step without a command -/

/-- The step on an empty command queue. -/
def idle (s : State) : Outcome :=
  if s.smc.inReset then .next (tickInReset s)
  else
    match s.mail with
    | m :: rest => exec m { s with mail := rest }
    | [] =>
      match s.due with
      | i :: _ => exec i s
      | [] => .next (tick s)

end Sys2Proof.Machine
end

