-- ==== Sys2Proof/Safety.lean ====
section
/-! DEFINITION. What counts as a safe state, in the terms the statements use: the laws that the spec's
prose gives for the whole part, and the steps that keep them. -/

namespace Sys2Proof.Machine

open Sys2Proof

/-- R170: records plus reservations never exceed 32. -/
def State.queueLaw (s : State) : Prop :=
  s.ret.records.length + s.reservations ≤ Config.recordPlaces

/-- R201, the last row of its table: the master isolation output is energised in PARKED, QUIET and RUN
and released in CONFIGURING and TRIP, except while the supply monitor holds the part in reset. -/
def State.isolationLaw (s : State) : Prop :=
  s.smc.inReset = false → s.pins.masterIsolation = s.smc.mode.energises

/-- R204: the trip latch is set exactly in mode TRIP. -/
def State.tripModeLaw (s : State) : Prop := s.latched = true ↔ s.smc.mode = .trip

/-- R188, R190, R191: the transit buffer holds at most 8 frames, the reply queue at most 8 places
taken or reserved, the notice queue at most 16 notices, and the command queue at most one entry for
each actuator role. -/
structure State.ringLaw (s : State) : Prop where
  transit : s.rif.transit.length ≤ Config.transitPlaces
  replies : s.rif.placesTaken ≤ Config.replyPlaces
  notices : s.rif.notices.length ≤ Config.noticePlaces
  oneEntry : (s.rif.commands.map CmdEntry.role).Nodup

/-- R189, R190: every entry of the command queue names an actuator role of the active node map, and while the
trip latch is set none of them opens. -/
structure State.tripQueueLaw (s : State) : Prop where
  mapped : ∀ e ∈ s.rif.commands, e.role ∈ s.actuatorRoles
  held : s.tripHeld = true → ∀ e ∈ s.rif.commands, e.opens = false

/-- R80 to R82, R74: the cold reserve lies between 0 and the configured capacity. -/
def State.reserveLaw (s : State) : Prop :=
  s.chillerRow.fitted = true → s.pcl.reserve ≤ s.chillerRow.capacity

/-- R163: for every fleet account, the balance less the sum of its holds is never negative; and the
ids are unique among the held accounts. -/
structure State.fundsLaw (s : State) : Prop where
  covered : ∀ a, some a ∈ s.ret.accounts → a.held ≤ a.balance
  uniqueIds : ((s.ret.accounts.filterMap id).map Account.id).Nodup

/-- R161 to R163, R173: the fill of a tender context is covered. The position's place is reserved; a live
snapshot stands for every context, and for nothing else; a FLEET context's hold is the amount of its cap, and
its account carries that hold and no other for the position; and every hold stands for a FLEET context. -/
structure State.tenderLaw (s : State) : Prop where
  place : ∀ p, (s.bil.get p).isSome → s.ret.reserved.get p = true
  live : ∀ p k, s.bil.get p = some k → ∃ x, s.ret.snapshots.get p = some x
  snapshot : ∀ p x, s.ret.snapshots.get p = some x → ∃ k, s.bil.get p = some k
    ∧ x.kind = k.kind ∧ x.account = k.account ∧ x.price = k.price ∧ x.cap = k.cap
  hold : ∀ p k, s.bil.get p = some k → k.kind = .fleet → k.hold = amountOf k.cap k.price
    ∧ ∃ a, some a ∈ s.ret.accounts ∧ a.id = k.account
      ∧ a.holds.filter (fun h => h.pos = p) = [⟨p, k.hold⟩]
  stray : ∀ a h, some a ∈ s.ret.accounts → h ∈ a.holds → ∃ k, s.bil.get h.pos = some k
    ∧ k.kind = .fleet ∧ k.account = a.id

/-- R128: the context of a position whose fill has just ended: ENDING with its reason and time, the opening
0, no source and no wait, every timer stopped but the after-run timer, and the outcomes it is owed. -/
def State.endedCtx (s : State) (p : Pos) (r : EndReason) (owed : List Bank) : Ctx :=
  { s.ctx p with
    state := .ending
    endReason := some r
    endTime := s.ret.clock
    opening := 0
    source := none
    waitOn := none
    soc := none
    timers := { PosTimers.stopped with afterRun := some (s.posRow p).afterRun }
    awaited := (s.ctx p).awaited ++ owed }

/-- R128: what the end of a fill leaves, at a position whose source is already given up: the ended context,
the position off every wait list, its admission cancelled, PCL told where the fill was in MAIN, and
everything but the ring interface as it was. The fault mark and its cause are the event's own. -/
structure FillEnded (p : Pos) (r : EndReason) (s t : State) : Prop where
  context : t.ctx p = { s.endedCtx p r [] with
    faultMark := (t.ctx p).faultMark
    faultCause := (t.ctx p).faultCause }
  others : ∀ q, q ≠ p → t.ctx q = s.ctx q
  told : t.mail = s.mail ++ (if (s.ctx p).fromMain then [.mainLeaveReport p] else [])
  admission : t.pcl = { s.pcl with pending := s.pcl.pending.set p none }
  lists : t.bkm = (if (s.ctx p).waitOn = none then s.bkm else (leaveBankLists p s).bkm)
  output : t.cmp = (if (s.ctx p).waitOn = none then s.cmp
    else { s.cmp with waiters := s.cmp.waiters.filter (fun q => q != p) })
  rest : t.tables = s.tables ∧ t.ret = s.ret ∧ t.sig = s.sig ∧ t.mtr = s.mtr ∧ t.bil = s.bil
    ∧ t.smc = s.smc ∧ t.pins = s.pins ∧ t.pending = s.pending

/-- The position has given up its source and holds no bank and no output, and its row keeps an after-run
window (R106). -/
structure State.sourceless (s : State) (p : Pos) : Prop where
  source : (s.ctx p).source = none
  noBank : s.heldBank p = none
  noOutput : s.outputHolder ≠ some p
  window : 0 < (s.posRow p).afterRun

/-- R114: a bank is the only entry of the position's draw sequence, is suitable and free, and the
position holds nothing: a bank walk ends with its grant. -/
structure State.onlyBank (s : State) (p : Pos) (b : Bank) : Prop where
  sequence : s.sequence (s.posRow p).pclass = [.bank b]
  suitable : s.suitable p (.bank b) = true
  free : (s.bank b).state = .available
  clear : s.latched = false
  noBank : s.heldBank p = none
  noOutput : s.outputHolder ≠ some p

/-- R44: a position draws from a bank that nobody awaits, in a session whose check will be skipped. -/
structure State.draws (s : State) (p : Pos) (b : Bank) (x : Session) : Prop where
  source : (s.ctx p).source = some (.bank b)
  held : (s.bank b).state = .claimedPos p
  session : (s.bank b).session = some x
  holder : x.holder = .pos p
  skipped : x.openValid = false
  nobody : (s.bank b).waiters = []
  noneOwed : (s.ctx p).awaited = []

/-- Every step keeps a law: from every state that meets it, a next state meets it. -/
def KeptByStep (law : State → Prop) : Prop := ∀ s t, law s → step s = .next t → law t

end Sys2Proof.Machine
end

