-- ==== Sys2Proof/Certificates/Slice0/Obligations.lean ====
section
/-! DEFINITION. The statements for the provers (OBLIGATIONS.json). Each says what a command does, from
which rule of spec/, as an equation on the next state or as the fields of the next state; `s.smc.inReset =
false` says that the supply monitor does not hold the part in reset. -/

section

open Sys2Proof Sys2Proof.Machine

/-! ## The machine -/

/-- A command is taken by `exec`: a step with the command `c` at the front of the queue is `exec c` on
the state with the queue's rest. -/
def Obligations.StepTakesFront : Prop :=
  ∀ (c : Instr) (rest : List Instr) (s : State),
    s.pending = c :: rest → step s = exec c { s with pending := rest }

/-- No command stops the part: every command answers a next state in every state, and leaves the
commands that wait as they are. R198, R205, R206: while the supply monitor holds the part in reset, only
POWER_ON, SUPPLY_DIP and a second of the backup crystal act; every other command changes nothing,
COMMAND_RESTART among them (that the two restarts and the second are taken then is the model's reading,
assumption logs 21 and 37, and that the commands that wait outlive a restart its choice, log 29). -/
def Obligations.EveryCommandAnswers : Prop :=
  (∀ (c : Instr) (s : State), ∃ t, exec c s = .next t ∧ t.pending = s.pending)
  ∧ (∀ (c : Instr) (s : State), s.smc.inReset = true → (∀ h l, c ≠ .powerOn h l) →
    (∀ l, c ≠ .supplyDip l) → c ≠ .stationClockAdvance → exec c s = .next s)

/-- The step on an empty queue (the model's choice, assumption logs 1 and 4): the oldest message in
flight, else the first expiry that is due, else one tick; in reset, the crystal's tick alone. One tick
(00_scope.md, R81, R105, R167, R206; the model's form, assumption log 4): every running timer loses one
tick, the ramp clock of a position in MAIN counts one, and everything else stands; every tenth tick the
second of the backup crystal is taken in the same step and the reserve step is sent. In reset the
crystal alone counts. -/
def Obligations.IdleStep : Prop :=
  (∀ s : State, s.pending = [] →
    (∀ m rest, s.smc.inReset = false → s.mail = m :: rest →
      step s = exec m { s with mail := rest })
    ∧ (∀ i rest, s.smc.inReset = false → s.mail = [] → s.due = i :: rest → step s = exec i s)
    ∧ (s.smc.inReset = false → s.mail = [] → s.due = [] → step s = .next (tick s))
    ∧ (s.smc.inReset = true → step s = .next (tickInReset s)))
  ∧ (∀ s : State,
    let less : Option Nat → Option Nat := Option.map (fun n => n - 1)
    let aged : State :=
      { s with
        ticks := (s.ticks + 1) % 10
        sig := s.sig.map (fun x => (x.1, { x.2 with timer := less x.2.timer }))
        cmp := { s.cmp with primeTimer := less s.cmp.primeTimer, offTimer := less s.cmp.offTimer }
        pcl :=
          { s.pcl with
            stabTimer := less s.pcl.stabTimer
            parkTimer := less s.pcl.parkTimer
            monitor := s.pcl.monitor.map (fun m =>
              { m with settle := less m.settle, excursion := less m.excursion }) }
        fil := s.fil.map (fun c =>
          { c with
            tau := if c.state = .main then c.tau + 1 else c.tau
            timers :=
              ⟨less c.timers.fill, less c.timers.pulse, less c.timers.leak, less c.timers.precool,
               less c.timers.bankWait, less c.timers.pause, less c.timers.vehicle,
               less c.timers.mismatch, less c.timers.afterRun, less c.timers.vent⟩ })
        smc := { s.smc with idleTimer := less s.smc.idleTimer, parkTimer := less s.smc.parkTimer } }
    ((s.ticks + 1) % 10 ≠ 0 → tick s = aged)
    ∧ ((s.ticks + 1) % 10 = 0 → s.smc.inReset = false →
        exec .stationClockAdvance aged = .next (clockSecond aged)
          ∧ tick s = post .reserveStep (clockSecond aged))
    ∧ ((s.ticks + 1) % 10 ≠ 0 → tickInReset s = { s with ticks := (s.ticks + 1) % 10 })
    ∧ ((s.ticks + 1) % 10 = 0 → tickInReset s = crystalSecond { s with ticks := 0 }))

/-- The safe states' laws hold right after reset. R207, R200, R205: what the retained domain holds, and
the mode, after the first power-on. That the reset is the first power-on, with the backup domain not
held, is the model's choice (assumption log 2). -/
def Obligations.ResetLeaves : Prop :=
  (State.reset.queueLaw ∧ State.reset.isolationLaw ∧ State.reset.tripModeLaw ∧ State.reset.ringLaw
    ∧ State.reset.tripQueueLaw ∧ State.reset.reserveLaw ∧ State.reset.fundsLaw ∧ State.reset.tenderLaw)
  ∧ (State.reset.tables = Tables.dflt
    ∧ (∀ n, 1 ≤ n → n ≤ 9 → State.reset.tables.genOf n = 0)
    ∧ State.reset.ret.accounts = List.replicate 16 none ∧ State.reset.ret.heldDay = none
    ∧ State.reset.ret.records = [] ∧ State.reset.reservations = 0
    ∧ (∀ p, State.reset.ret.snapshots.get p = none) ∧ State.reset.ret.txnCounter = 0
    ∧ (∀ p, State.reset.ret.totaliser.get p = 0) ∧ State.reset.ret.history = []
    ∧ State.reset.ret.clock = none ∧ State.reset.ret.runSeconds = 0
    ∧ State.reset.ret.lastTrip = none ∧ State.reset.ret.flags = ⟨true, false, false, false, true⟩
    ∧ State.reset.smc.mode = .configuring ∧ State.reset.latched = false)

/-- R170: records plus reservations never exceed 32, after any step. -/
def Obligations.QueueLawKept : Prop := KeptByStep State.queueLaw

/-- R201, R204: the trip latch is set exactly in mode TRIP, and the master isolation output follows the
mode, after any step. -/
def Obligations.IsolationFollowsTheMode : Prop :=
  KeptByStep (fun s => s.tripModeLaw ∧ s.isolationLaw)

/-- R188, R190, R191: the transit buffer, the reply queue, the notice queue and the command queue keep
their bounds after any step. R189, R190: while the trip latch is set no queued command opens, after any
step. -/
def Obligations.RingLawsKept : Prop :=
  (KeptByStep State.ringLaw)
  ∧ (KeptByStep State.tripQueueLaw)

/-- R81, R82, R74: the cold reserve of a fitted chiller stays within its capacity, after any step. -/
def Obligations.ReserveWithinCapacity : Prop := KeptByStep State.reserveLaw

/-- R133, R161 to R163, R169: no command takes an account's balance below its holds, and every tender
context stays covered: its place reserved, its snapshot live with its figures, its hold the amount of
its cap, and that hold on its account. The law holds for every command, a lowered cap, a fill summary
and the restarts among them, where a LIFTED position has no tender context (R156) and a lowered cap is
not above the present one (R133). -/
def Obligations.FundsStayCovered : Prop :=
  ∀ (c : Instr) (s t : State), s.fundsLaw → s.tenderLaw →
    (∀ p, (s.ctx p).state = .lifted → s.bil.get p = none) →
    (∀ p n k, c = .loweredCap p n → s.bil.get p = some k → n ≤ k.cap) →
    exec c s = .next t → t.fundsLaw ∧ t.tenderLaw

/-! ## Arithmetic -/

/-- R20, R21, R22: the density of every pressure and temperature, at every admissible B_q. -/
def Obligations.DensityLaw : Prop :=
  ∀ (bq : Nat) (p c : Int), bq ≤ 4000 →
    let pc := (clampInt 0 10000 p).toNat
    let t := (clampInt (-600) 1000 c + 2732).toNat
    (pc ≤ 10000 ∧ 2132 ≤ t ∧ t ≤ 3732)
      ∧ (densityD bq p c = 100 * t + bq * pc / 100 ∧ bq * pc ≤ 40000000)
      ∧ (213200 ≤ densityD bq p c ∧ densityD bq p c ≤ 773200)
      ∧ (densityD 0 p (-600) = 213200 ∧ densityD 4000 10000 1000 = 773200)
      ∧ (density bq p c = 2424800 * pc / densityD bq p c ∧ 2424800 * pc ≤ 24248000000)
      ∧ (density bq p c ≤ 113733 ∧ density 0 10000 (-600) = 113733)
      ∧ density bq 0 c = 0
      ∧ (6 ≤ density bq 1 c ∧ density bq 1 c ≤ 11)

/-- 02_density_and_inventory_arithmetic.md, "Behaviour at the limits": the computed density does not
fall as the pressure rises, and does not rise as the temperature rises. R25, R29, R30: the inventory of
a bank lies in 0 to 2,274,660 g; the reference density is above zero; the state of charge lies in 0 to
1200 and is 0 at pressure 0. -/
def Obligations.DensityAndInventory : Prop :=
  ((∀ (bq : Nat) (p q c : Int), bq ≤ 4000 → p ≤ q → density bq p c ≤ density bq q c)
  ∧ ∀ (bq : Nat) (p c d : Int), bq ≤ 4000 → c ≤ d → density bq p d ≤ density bq p c)
  ∧ ((∀ (bq v : Nat) (p c : Int), bq ≤ 4000 → v ≤ 20000 →
    inventoryOf bq v p c = density bq p c * v / 1000 ∧ inventoryOf bq v p c ≤ 2274660)
  ∧ (∀ (bq : Nat) (k : PClass), bq ≤ 4000 → 19819 ≤ refDensity bq k)
  ∧ ∀ (bq : Nat) (k : PClass) (p c : Int), bq ≤ 4000 →
    stateOfCharge bq k p c = min 1200 (density bq p c * 1000 / refDensity bq k)
      ∧ stateOfCharge bq k 0 c = 0)

/-- R96: with edges in ascending order, the band of a value is 0 below the first edge, and otherwise the
number of the last edge at or below the value. -/
def Obligations.BandOfValue : Prop :=
  ∀ (es : List Int) (v : Int) (k : Nat), es.Pairwise (· < ·) →
    (bandOf es v = k ↔
      k ≤ es.length ∧ (∀ i, i < k → ∀ e, es[i]? = some e → e ≤ v)
        ∧ (∀ e, es[k]? = some e → v < e))

/-- R160: the amount of a mass at a price, and the one function behind the hold at acceptance, the hold
at a lowered cap and the amount of a settlement. -/
def Obligations.AmountOfMass : Prop :=
  (∀ g price : Nat, amountOf g price = (g * price + 50000) / 100000)
  ∧ (∀ g price : Nat, g ≤ 200000 → price ≤ 9999999 → g * price ≤ 1999999800000)
  ∧ (∀ price : Nat, amountOf 0 price = 0)
  ∧ (∀ g h price : Nat, g ≤ h → amountOf g price ≤ amountOf h price)
  ∧ amountOf 5123 134900 = 6911
  ∧ (∀ (s : State) (t : TenderIn) (n : Nat), t.kind = .fleet →
      (s.tenderContext t n).hold = amountOf (s.tenderCap t) (s.tenderPrice t))
  ∧ (∀ (p : Pos) (cap : Nat) (k : TenderCtx) (s : State), s.bil.get p = some k → k.kind = .fleet →
      ((lowerTenderCap p cap s).bil.get p).map TenderCtx.hold = some (amountOf cap k.price))
  ∧ ∀ x : Settlement, x.amount = amountOf (min x.fillG x.cap) x.price

/-- R158, R162: a cap is a figure that its amount cannot carry past its bound: a card's amount stays
within the authorised amount, a fleet hold within the available funds and its mass within the allowance
left; and what a settlement bills stays within the amount of the cap. -/
def Obligations.CapsWithinBounds : Prop :=
  (∀ most amount price : Nat, 0 < price →
    cardCap most amount price ≤ most ∧ amountOf (cardCap most amount price) price ≤ amount)
  ∧ (∀ (most price : Nat) (a : Account), 0 < price →
    fleetCap most price a ≤ most ∧ fleetCap most price a ≤ a.allowance - a.used
      ∧ amountOf (fleetCap most price a) price ≤ a.balance - a.held)
  ∧ ∀ x : Settlement, x.billed ≤ x.fillG ∧ x.billed ≤ x.cap ∧ x.amount ≤ amountOf x.cap x.price

/-- R182: the bytes of a frame, with its check, are read back as the frame. -/
def Obligations.FrameRoundTrip : Prop :=
  ∀ f : Frame, f.dest ≤ 255 → f.source ≤ 255 → f.kind ≤ 255 → f.payload.length ≤ 56 →
    parseFrame f.bytes = some f

/-- R183, R195: a table row in its ranges is read back from the bytes TABLE-READ gives as it was: a node
map row and an empty one, the station row, a bank row, a draw sequence, the compressor row, the chiller
row, the categories, a position row, the edges, the parameters and the cells of a fill table, and the
bands and the prices of the tariff. An unconfigured bank row and an unfitted compressor row come back as
the empty row (R32, R52). -/
def Obligations.RowRoundTrip : Prop :=
  (∀ r : NodeRow, inRanges nodeFields
      [1, r.source, r.channel, r.role.code.1, r.role.code.2.1, r.role.code.2.2, r.offset, r.freshness,
       r.stale.num, r.low, r.high, r.limitAction.num, r.edgeSelect.num, r.edgeAction.num] = true →
    r.suits = true → parseNodeRow (printNodeRow (some r)) = some (some r))
  ∧ (∀ r : StationRow, inRanges stationFields
      [r.supervisor, r.mbFloor, r.mbTolerance, r.mbTrip, r.rateCapH35, r.rateCapH70, r.idleTime,
       r.parkTime, flagNat r.bankLowWake] = true → parseStation (printStation r) = some r)
  ∧ (∀ r : BankRow, r.configured = true →
      inRanges bankFields [1, r.volume, r.rated, r.floor, r.refillStart, r.fillTo] = true →
      parseBankRow (printBankRow r) = some r)
  ∧ (∀ es : List Source, es.Nodup → parseSequence (printSequence es) = some es)
  ∧ (∀ r : CmpRow, r.fitted = true → r.refillOrder.Nodup →
      inRanges (cmpFields.take 8 ++ [⟨1, 1000⟩])
        [1, r.primeTime, r.minRun, r.minOff, r.startsLimit, r.suctionMin, r.hysteresis, r.dischargeMax,
         r.runSpeed] = true → parseCmpRow (printCmpRow r) = some r)
  ∧ (∀ r : ChillerRow, inRanges chillerFields
      [flagNat r.fitted, r.capacity, r.recovery, r.loss, r.cp, r.bq, r.readyOn, r.readyOff, r.stabilise,
       r.parkDelay, r.settle, r.excursion] = true → parseChillerRow (printChillerRow r) = some r)
  ∧ (∀ t : PrecoolTable, inRanges categoryFields
      [t.c40.target, t.c40.bound, t.c40.threshold, t.c30.target, t.c30.bound, t.c30.threshold,
       t.c20.target, t.c20.bound, t.c20.threshold] = true →
      parseCategories (printCategories t) = some (t.c40, t.c30, t.c20))
  ∧ parseNodeRow (printNodeRow none) = some none
  ∧ (∀ r : BankRow, r.configured = false →
      parseBankRow (printBankRow r) = some ⟨false, 0, 0, 0, 0, 0⟩)
  ∧ (∀ r : CmpRow, r.fitted = false → r.refillOrder.length ≤ 4 →
      parseCmpRow (printCmpRow r) = some ⟨false, 0, 0, 0, 0, 0, 0, 0, [], 0⟩)
  ∧ (∀ t u : FillTable, t.volEdges.length = 3 → t.ambEdges.length = 5 →
      inRanges edgeFields (t.volEdges ++ t.ambEdges ++ t.p0Edges) = true →
      parseFillRow u 0 (printFillRow t 0) =
        some { u with volEdges := t.volEdges, ambEdges := t.ambEdges, p0Edges := t.p0Edges })
  ∧ (∀ t u : FillTable, inRanges paramFields t.params.ints = true →
      parseFillRow u 1 (printFillRow t 1) = some { u with params := t.params })
  ∧ (∀ (t u : FillTable) (n : Nat) (c : List Cell), n < 96 → t.cells[n]? = some c →
      inRanges cellFields (c.flatMap (fun x => [(x.aprr : Int), (x.pEnd : Int)])) = true →
      parseFillRow u (n + 2) (printFillRow t (n + 2)) = some { u with cells := u.cells.set n c })
  ∧ (∀ t u : Tariff, t.bands.length = 8 →
      inRanges tariffFields (t.bands.map Int.ofNat ++ [(t.rollover : Int), (t.minCap : Int)]) = true →
      parseTariffRow u 0 (printTariffRow t 0) =
        some { u with bands := t.bands, rollover := t.rollover, minCap := t.minCap })
  ∧ (∀ (t u : Tariff) (n : Nat) (c : List Nat), n < 4 → t.prices[n]? = some c →
      inRanges priceFields (c.map Int.ofNat) = true →
      parseTariffRow u (n + 1) (printTariffRow t (n + 1)) = some { u with prices := u.prices.set n c })
  ∧ ∀ r : PosRow, inRanges posFields
      [r.pclass.num, r.required.rank, categoryNum r.fallback, r.volClass, flagNat r.vehicleComm,
       flagNat r.autoReRate, r.maxFill, r.pulseWeight, r.maxDelta, flagNat r.wakeEnable, r.afterRun,
       r.ventTarget, r.ventLimit] = true → parsePosRow (printPosRow r) = some r

/-! ## The station ring -/

/-- R187, R188, R197: what an arriving frame does by its class: a check error is counted and the frame
discarded; a frame with the part's own source is discarded; a format error is counted; an observed frame
goes to SIG first, whatever its destination; a TENDER to the part goes to BIL, and one for all too,
which is also forwarded; any other frame for another node or for all is forwarded, and any other one for
the part is removed. REQUEST and ACTUATE have statements of their own. R189: the filter on a foreign
ACTUATE. In trip an opening command is refused with reason TRIPPED, a malformed one is dropped, a close
is forwarded. Out of trip a command to a role of the node map is refused with reason OWNED, and any
other is forwarded. -/
def Obligations.FrameArrival : Prop :=
  (∀ (bs : List Byte) (s : State), s.smc.inReset = false →
    (parseFrame bs = none → exec (.frameArrival bs) s =
      .next (updRif (fun r => { r with checkErrors := countUp r.checkErrors }) s))
    ∧ ∀ f, parseFrame bs = some f →
      let onward (u : State) : State := if f.dest = s.rif.ownAddress then u else forward bs u
      (f.source = s.rif.ownAddress → exec (.frameArrival bs) s = .next s)
      ∧ (f.source ≠ s.rif.ownAddress → f.dest = s.rif.ownAddress ∨ f.kind ≠ 5 → formatOk f = false →
        exec (.frameArrival bs) s = .next (onward
          (updRif (fun r => { r with formatErrors := countUp r.formatErrors }) s)))
      ∧ (∀ r i, f.source ≠ s.rif.ownAddress → f.kind = 1 ∨ f.kind = 2 ∨ f.kind = 3 →
        formatOk f = true → s.observedRole f.source (param f.payload 0 1) = some r →
        observedCommand r f = some i →
        exec (.frameArrival bs) s = .next (onward (post i s)))
      ∧ (f.source ≠ s.rif.ownAddress → f.kind = 1 ∨ f.kind = 2 ∨ f.kind = 3 → formatOk f = true →
        s.observedRole f.source (param f.payload 0 1) = none →
        exec (.frameArrival bs) s = .next (onward s))
      ∧ (f.source ≠ s.rif.ownAddress → formatOk f = true → f.kind = 0 ∨ 7 ≤ f.kind →
        exec (.frameArrival bs) s = .next (onward s))
      ∧ (f.source ≠ s.rif.ownAddress → f.dest ≠ s.rif.ownAddress → f.dest ≠ 255 → formatOk f = true →
        f.kind = 4 ∨ f.kind = 6 → exec (.frameArrival bs) s = .next (forward bs s))
      ∧ (f.source ≠ s.rif.ownAddress → f.dest = s.rif.ownAddress → f.kind = 5 → formatOk f = true →
        exec (.frameArrival bs) s = .next s)
      ∧ (f.source ≠ s.rif.ownAddress → f.dest = s.rif.ownAddress ∨ f.dest = 255 → f.kind = 4 →
        formatOk f = true →
        exec (.frameArrival bs) s = .next (onward (post (.tender f.source (f.dest != s.rif.ownAddress)
          (param f.payload 0 1) (param f.payload 1 1) (param f.payload 2 4) (param f.payload 6 2)
          (param f.payload 8 4)) s))))
  ∧ (∀ (bs : List Byte) (f : Frame) (s : State), s.smc.inReset = false → parseFrame bs = some f →
    f.source ≠ s.rif.ownAddress → f.dest ≠ s.rif.ownAddress → f.kind = 5 →
    let trip := s.latched || s.rif.tripTaken
    let bad := updRif (fun r => { r with formatErrors := countUp r.formatErrors }) s
    let row := s.actuatorRowOf f.dest (param f.payload 0 1)
    let refused (reason : Nat) := notice .actuateRefused (row.getD 255)
      (u1 reason ++ u1 f.source ++ u1 f.dest ++ f.payload) s
    (trip = true → formatOk f = false → exec (.frameArrival bs) s = .next bad)
    ∧ (trip = true → formatOk f = true →
      param f.payload 1 1 ≠ 0 → (param f.payload 1 1 = 2 → 0 < param f.payload 2 2) →
      exec (.frameArrival bs) s = .next (refused 1))
    ∧ (trip = true → formatOk f = true →
      param f.payload 1 1 = 0 ∨ param f.payload 1 1 = 2 ∧ param f.payload 2 2 = 0 →
      exec (.frameArrival bs) s = .next (forward bs s))
    ∧ (trip = false → formatOk f = true → row.isSome → exec (.frameArrival bs) s = .next (refused 0))
    ∧ (trip = false → formatOk f = true → row = none → exec (.frameArrival bs) s = .next (forward bs s))
    ∧ (trip = false → formatOk f = false → exec (.frameArrival bs) s = .next (forward bs bad)))

/-- R187, R191, R193, R185: a REQUEST to the part, or for all, which is also forwarded: with every reply
place taken it is counted and discarded; otherwise it takes a place, and an unknown code is answered
UNKNOWN, a source that may not make it is answered DENIED, parameters too short are answered RANGE, and
any other goes to its owner. (That RIF answers the too short ones itself in this event, ahead of
requests in flight to their owners, and that bytes beyond the parameters are ignored, are the model's
choices, assumption logs 54 and 11.) -/
def Obligations.RequestTaken : Prop :=
  ∀ (bs : List Byte) (f : Frame) (s : State), s.smc.inReset = false → parseFrame bs = some f →
    f.source ≠ s.rif.ownAddress → f.dest = s.rif.ownAddress ∨ f.dest = 255 → f.kind = 6 →
    formatOk f = true →
    let code := param f.payload 0 1
    let rq : Req := ⟨f.source, param f.payload 1 1⟩
    let held := updRif (fun r => { r with reserved := r.reserved + 1 }) s
    let may := s.tables.station.gen = 0 ∨ f.source = s.stationRow.supervisor ∨ code = 1 ∨ code = 2
    let room : Prop := s.rif.replies.length + s.rif.reserved < 8
    let gives (u : State) : Prop := exec (.frameArrival bs) s =
      .next (if f.dest = s.rif.ownAddress then u else forward bs u)
    (¬ room → gives (updRif (fun r => { r with requestDiscards := countUp r.requestDiscards }) s))
    ∧ (room → knownRequest code = false → gives (reply rq code .unknown [] held))
    ∧ (room → knownRequest code = true → ¬ may → gives (reply rq code .denied [] held))
    ∧ (room → knownRequest code = true → may → requestCommand code rq (f.payload.drop 2) = none →
      gives (reply rq code .range [] held))
    ∧ ∀ i, room → knownRequest code = true → may → requestCommand code rq (f.payload.drop 2) = some i →
      gives (post i held)

/-- R192, R205: the end of a send, and the next frame RING-OUT sends: the oldest command entry; else the
head transit frame, unless eight have gone while a reply or a notice waits; else the head reply; else
the head notice; else none. A command entry whose role has no row forms no frame, and a transit frame
refused in trip is dropped with its notice; the choice goes on without them. At the run count of eight a
reply or a notice goes before the transit frame at the head is looked at, one that egress would refuse
among them (the model's choice against a worked sequence of the chapter, assumption log 46). The reply
to RESTART sent, the restart is the next thing taken (its place at the head of the mail, with the lines
as last read and no time down, is the model's choice: assumption logs 12 and 22). -/
def Obligations.RingOutSends : Prop :=
  ∀ (f : OutFrame) (s : State), s.smc.inReset = false → s.rif.ringOut = some f →
    (∀ e es n x, f.restart = false → s.rif.commands = e :: es → s.rowOf e.role = some (n, x) →
      exec .ringOutSendDone s = .next (updRif (fun r =>
        { r with
          commands := es
          ringOut := some ⟨(Frame.mk x.source r.ownAddress 5
            (u1 x.channel ++ u1 e.command.num ++ u2 e.value)).bytes, false⟩ }) s))
    ∧ (∀ e es, f.restart = false → s.rif.commands = e :: es → s.rowOf e.role = none →
      exec .ringOutSendDone s = exec .ringOutSendDone (updRif (fun r => { r with commands := es }) s))
    ∧ (∀ t ts g, f.restart = false → s.rif.commands = [] → s.rif.transit = t :: ts →
      s.transitRefused t = some g → formatOk g = true →
      s.rif.runCount ≠ 8 ∨ (s.rif.replies = [] ∧ s.rif.notices = []) →
      exec .ringOutSendDone s = exec .ringOutSendDone (updRif (fun r => Rif.pushNotice
        ⟨s.supervisor, 21, (s.actuatorRowOf g.dest (param g.payload 0 1)).getD 255,
          u1 1 ++ u1 g.source ++ u1 g.dest ++ g.payload⟩ { r with transit := ts }) s))
    ∧ (∀ t ts, f.restart = false → s.rif.commands = [] → s.rif.transit = t :: ts →
      s.transitRefused t = none →
      s.rif.runCount ≠ 8 ∨ (s.rif.replies = [] ∧ s.rif.notices = []) →
      exec .ringOutSendDone s = .next (updRif (fun r =>
        { r with
          transit := ts
          ringOut := some ⟨t, false⟩
          runCount := if r.replies = [] ∧ r.notices = [] then 0 else r.runCount + 1 }) s))
    ∧ (∀ y ys, f.restart = false → s.rif.commands = [] → s.rif.transit = [] ∨ s.rif.runCount = 8 →
      s.rif.replies = y :: ys →
      exec .ringOutSendDone s = .next (updRif (fun r =>
        { r with
          replies := ys
          runCount := 0
          ringOut := some ⟨(Frame.mk y.dest r.ownAddress 7
            (u1 y.code ++ u1 y.tag ++ u1 y.status ++ y.data)).bytes, y.restart⟩ }) s))
    ∧ (∀ n ns, f.restart = false → s.rif.commands = [] → s.rif.transit = [] ∨ s.rif.runCount = 8 →
      s.rif.replies = [] → s.rif.notices = n :: ns →
      exec .ringOutSendDone s = .next (updRif (fun r =>
        { r with
          notices := ns
          runCount := 0
          ringOut := some ⟨(Frame.mk n.dest r.ownAddress 8
            (u1 n.code ++ u1 n.subject ++ n.data)).bytes, false⟩ }) s))
    ∧ (f.restart = false → s.rif.commands = [] → s.rif.transit = [] → s.rif.replies = [] →
      s.rif.notices = [] →
      exec .ringOutSendDone s = .next (updRif (fun r => { r with ringOut := none }) s))
    ∧ (f.restart = true → ∃ t, exec .ringOutSendDone s = .next t
        ∧ t.mail = .commandRestart ⟨s.pins.straps, s.pins.loopOpen, 0⟩ :: s.mail)

/-- R190: a command queued for a role: the role has exactly one entry, with that command; the other
entries keep their order; an entry that newly opens stands at the tail, and any other keeps its role's
place. While the trip latch is set an opening command is held as CLOSE. R191, R188: a notice joins the
tail, and in a full queue the oldest goes and the flag is set; a reply fills a reserved place; a
forwarded frame joins the transit buffer, or is counted when it is full. R198, R190: RIF_TRIP: every
queued opening command is held as CLOSE, and the filters act in trip. -/
def Obligations.RingQueues : Prop :=
  (∀ (e : CmdEntry) (q : List CmdEntry), (q.map CmdEntry.role).Nodup →
    (enqueue e q).filter (fun x => x.role = e.role) = [e]
    ∧ (enqueue e q).filter (fun x => x.role ≠ e.role) = q.filter (fun x => x.role ≠ e.role)
    ∧ ((∀ x ∈ q, x.role ≠ e.role) → enqueue e q = q ++ [e])
    ∧ (∀ x ∈ q, x.role = e.role → e.opens = true → x.command = .close →
        (enqueue e q).getLast? = some e)
    ∧ (∀ x ∈ q, x.role = e.role → e.opens = false ∨ x.command ≠ .close →
        (enqueue e q).map CmdEntry.role = q.map CmdEntry.role)
    ∧ (e.opens = true → heldEntry true e = ⟨e.role, .close, 0⟩)
    ∧ ∀ trip, (trip = true → (heldEntry trip e).opens = false) ∧ (heldEntry trip e).role = e.role)
  ∧ ((∀ (n : Notice) (r : Rif), r.notices.length < 16 →
    Rif.pushNotice n r = { r with notices := r.notices ++ [n] })
  ∧ (∀ (n : Notice) (r : Rif), 16 ≤ r.notices.length →
    Rif.pushNotice n r = { r with notices := r.notices.drop 1 ++ [n], overrun := true })
  ∧ (∀ (y : Reply) (r : Rif), 0 < r.reserved →
    Rif.pushReply y r = { r with reserved := r.reserved - 1, replies := r.replies ++ [y] })
  ∧ (∀ (bs : List Byte) (s : State), s.rif.ringOut ≠ none → s.rif.transit.length < 8 →
    forward bs s = updRif (fun r => { r with transit := r.transit ++ [bs] }) s)
  ∧ (∀ (bs : List Byte) (s : State), 8 ≤ s.rif.transit.length →
    forward bs s = updRif (fun r => { r with transitOverflows := countUp r.transitOverflows }) s)
  ∧ ∀ (k : NoticeKind) (n : Nat) (bs : List Byte) (s : State), s.rif.ringOut ≠ none →
    notice k n bs s = updRif (Rif.pushNotice
      ⟨if s.tables.station.gen = 0 then 255 else s.stationRow.supervisor, k.code, n, bs⟩) s)
  ∧ (∀ s : State, s.smc.inReset = false →
    exec .rifTrip s = .next (updRif (fun r =>
      { r with tripTaken := true, commands := r.commands.map (heldEntry true) }) s)
    ∧ ∀ e ∈ s.rif.commands.map (heldEntry true), e.opens = false)

/-! ## Signals -/

/-- R8, R12, R13, R14, R18: a usable SAMPLE at an analogue role: the value with its offset, clamped to
the role's range; UNCERTAIN if the frame is or if the clamp moved it; the timer restarted; the limit
region; NOTICE SIGNAL-LIMIT and the limit action at a crossing, the notice alone at a return; and the
deliveries, the limit action first (a value arrival before the change of quality of the same frame is
the model's reading, assumption log 6, and the delivery of a repeated value its choice, log 58). -/
def Obligations.AnalogueSample : Prop :=
  ∀ (r : Role) (code : Nat) (v : Int) (row : Nat) (x : NodeRow) (s : State),
    s.smc.inReset = false → r.kind = .analogue → s.rowOf r = some (row, x) → code ≤ 1 →
    let value := max r.range.1 (min r.range.2 (v + x.offset))
    let q : Quality := if code = 1 ∨ value ≠ v + x.offset then .uncertain else .good
    let region : Region := if x.high < value then .high else if value < x.low then .low else .inside
    let old := s.record r
    let now : SigRec := { old with value := value, quality := q, timer := some x.freshness, region := region }
    let held := setRecord r now s
    let told := notice .signalLimit row (u1 r.code.1 ++ u1 region.num ++ i2 value) held
    let out := valueMessages r now ++ (if old.quality = q then [] else qualityMessages r now)
    (x.limitAction = .none ∨ region = old.region →
      exec (.sampleAnalogue r code v) s = .next (postAll out held))
    ∧ (x.limitAction ≠ .none → region ≠ old.region → region ≠ .inside →
      exec (.sampleAnalogue r code v) s = .next (postAll (limitMessages row x ++ out) told))
    ∧ (x.limitAction ≠ .none → region ≠ old.region → region = .inside →
      exec (.sampleAnalogue r code v) s = .next (postAll out told))

/-- R15, R16, R18: a usable SAMPLE at a digital role: the level is whether the value is not 0; an equal
level is a refresh, a new one a transition, with NOTICE SIGNAL-EDGE and the edge action where the row
selects it. The level goes before a change of quality of the same frame (the model's reading, assumption
log 6). R17: a usable COUNT gives MTR the record with the count, and MTR and FIL a change of quality
after it; a VEHDATA replaces the vehicle fields whole, with a field out of its range held as absent and
an unknown fill command held as HALT (the order of the deliveries: assumption log 6). -/
def Obligations.DigitalCountAndVehicle : Prop :=
  (∀ (r : Role) (code : Nat) (v : Int) (row : Nat) (x : NodeRow) (s : State),
    s.smc.inReset = false → r.kind = .digital → s.rowOf r = some (row, x) → code ≤ 1 →
    let level : Bool := v != 0
    let q : Quality := if code = 1 then .uncertain else .good
    let old := s.record r
    let now : SigRec := { old with level := level, quality := q, timer := some x.freshness }
    let held := setRecord r now s
    let change := if old.quality = q then [] else qualityMessages r now
    (old.level = level → exec (.sampleDigital r code v) s =
      .next (postAll (refreshMessages r now ++ change) held))
    ∧ (old.level ≠ level → x.edgeSelect.selects level = false → exec (.sampleDigital r code v) s =
      .next (postAll (transitionMessages r now ++ change) held))
    ∧ (old.level ≠ level → x.edgeSelect.selects level = true → exec (.sampleDigital r code v) s =
      .next (postAll (edgeMessages row x ++ (transitionMessages r now ++ change))
        (notice .signalEdge row (u1 r.code.1 ++ uFlag level) held))))
  ∧ ((∀ (p : Pos) (code n row : Nat) (x : NodeRow) (s : State), s.smc.inReset = false →
    s.rowOf (.meter p) = some (row, x) → code ≤ 1 →
    let q : Quality := if code = 1 then .uncertain else .good
    let old := s.record (.meter p)
    let now : SigRec := { old with value := n, quality := q, timer := some x.freshness }
    exec (.count (.meter p) code n) s =
      .next (postAll (.meterCount p n q ::
          (if old.quality = q then []
            else [.meterQualityChange p now, .filSignalQuality ⟨p, .meter p, now⟩]))
        (setRecord (.meter p) now s)))
  ∧ ∀ (p : Pos) (d : VehData) (row : Nat) (x : NodeRow) (s : State), s.smc.inReset = false →
    s.rowOf (.vehicle p) = some (row, x) →
    let now (f : VehicleFields) (q : Quality) : SigRec :=
      { s.record (.vehicle p) with vehicle := f, quality := q, timer := some x.freshness }
    ∃ f q, exec (.vehData (.vehicle p) d) s =
        .next (postAll (.filVehdata p (now f q) ::
            (if (s.record (.vehicle p)).quality = q then []
              else [.filSignalQuality ⟨p, .vehicle p, now f q⟩]))
          (setRecord (.vehicle p) (now f q) s))
      ∧ f.version = some d.version
      ∧ (d.version < 1 ∨ 3 < d.version →
          f.volume = none ∧ f.pclass = none ∧ f.pressure = none ∧ f.temp = none)
      ∧ (1 ≤ d.version → d.version ≤ 3 →
          f.volume = d.volume.filter (fun n => 1 ≤ n ∧ n ≤ 10000)
            ∧ f.pclass = d.classCode.bind (fun n => if n = 0 then some .h35 else if n = 1 then some .h70 else none)
            ∧ f.pressure = (d.pressure.filter (fun n => n ≤ 10000)).map Int.ofNat
            ∧ f.temp = d.temp.filter (fun n => -600 ≤ n ∧ n ≤ 1000))
      ∧ f.command = some (if d.command = 0 then .run else if d.command = 2 then .abort else .halt)
      ∧ (q = .uncertain ↔ 2 < d.command ∨ (d.volume.isSome ∧ f.volume = none)
          ∨ (d.classCode.isSome ∧ f.pclass = none) ∨ (d.pressure.isSome ∧ f.pressure = none)
          ∨ (d.temp.isSome ∧ f.temp = none))
      ∧ (q = .uncertain ∨ q = .good))

/-- R9, R10, R11: a frame of quality BAD, and the expiry of a freshness timer: the record keeps its
value, level, fields and region and stops its timer; entering from ABSENT, GOOD or UNCERTAIN it sends
NOTICE SIGNAL-QUALITY and gives the stale action to the unit of the role before the change of quality is
delivered; from BAD or STALE it does neither. R2, R11, R13, R16: who is told of an arrival, for each
role and each kind of arrival; and what the stale action, the limit action and the edge action of a row
give. A TRIP names the row, but for GAS-DETECT, whose edge is a cause of its own. R18: a delivery is
judged by the record it carries, as it stood when SIG took the arrival: what the record of that role
holds by then makes no difference to the block, and the delivery changes no record. That the other
records are read as they stand is the model's reading (assumption log 39). -/
def Obligations.SignalLost : Prop :=
  (∀ (r : Role) (row : Nat) (x : NodeRow) (s : State), s.smc.inReset = false →
    s.rowOf r = some (row, x) →
    let old := s.record r
    let gone (q : Quality) : SigRec := { old with quality := q, timer := none }
    let lost (q : Quality) := setRecord r (gone q) s
    let told (q : Quality) := notice .signalQuality row (u1 r.code.1 ++ u1 q.num) (lost q)
    let fresh : Prop := old.quality = .absent ∨ old.quality = .good ∨ old.quality = .uncertain
    let bad (c : Instr) : Prop :=
      (fresh → exec c s = .next (postAll (staleMessages row x ++ qualityMessages r (gone .bad)) (told .bad)))
      ∧ (old.quality = .bad → exec c s = .next (lost .bad))
      ∧ (old.quality = .stale → exec c s = .next (postAll (qualityMessages r (gone .bad)) (lost .bad)))
    (∀ code v, r.kind = .analogue → 2 ≤ code → bad (.sampleAnalogue r code v))
    ∧ (∀ code v, r.kind = .digital → 2 ≤ code → bad (.sampleDigital r code v))
    ∧ (∀ p code n, r = .meter p → 2 ≤ code → bad (.count r code n))
    ∧ (∀ n, old.timer = some n → fresh → exec (.freshnessExpiry r) s =
        .next (postAll (staleMessages row x ++ qualityMessages r (gone .stale)) (told .stale)))
    ∧ (old.timer = none → exec (.freshnessExpiry r) s = .next s))
  ∧ (∀ (p : Pos) (b : Bank) (x : SigRec),
    (valueMessages (.nozzlePressure p) x = [.filNozzlePressure p x]
      ∧ valueMessages (.outletTemp p) x = [.outletTempArrival p (.value x)]
      ∧ valueMessages (.bankPressure b) x = [.bankSignalValue b .pressure x,
          .cmpSignalArrival (.bankPressure b) (.value x), .filBankPressure b (.value x)]
      ∧ valueMessages (.bankTemp b) x = [.bankSignalValue b .temp x]
      ∧ (∀ r ∈ [Role.suctionPressure, .dischargePressure, .dischargeTemp],
          valueMessages r x = [.cmpSignalArrival r (.value x)])
      ∧ valueMessages .ambientTemp x = [])
    ∧ ((∀ r ∈ [Role.nozzlePressure p, .holster p, .coupled p, .vehicle p],
          qualityMessages r x = [.filSignalQuality ⟨p, r, x⟩])
      ∧ qualityMessages (.outletTemp p) x =
          [.filSignalQuality ⟨p, .outletTemp p, x⟩, .outletTempArrival p (.quality x)]
      ∧ qualityMessages (.meter p) x = [.meterQualityChange p x, .filSignalQuality ⟨p, .meter p, x⟩]
      ∧ qualityMessages (.bankPressure b) x = [.bankSignalQuality b .pressure x,
          .cmpSignalArrival (.bankPressure b) (.quality x), .filBankPressure b (.quality x)]
      ∧ qualityMessages (.bankTemp b) x = [.bankSignalQuality b .temp x]
      ∧ (∀ r ∈ [Role.suctionPressure, .dischargePressure, .dischargeTemp, .compressorRunning],
          qualityMessages r x = [.cmpSignalArrival r (.quality x)])
      ∧ qualityMessages .chillerFault x = [.chillerFaultDelivery (.quality x)]
      ∧ qualityMessages .ambientTemp x = [] ∧ qualityMessages .gasDetect x = [])
    ∧ (transitionMessages (.holster p) x = [.filHolsterTransition p x, .smcHolsterTransition p x]
      ∧ transitionMessages (.coupled p) x = [.filCoupledTransition p x]
      ∧ transitionMessages .compressorRunning x = [.cmpSignalArrival .compressorRunning (.transition x)]
      ∧ transitionMessages .chillerFault x = [.chillerFaultDelivery (.transition x)]
      ∧ transitionMessages .gasDetect x = [])
    ∧ (refreshMessages .compressorRunning x = [.cmpSignalArrival .compressorRunning (.refresh x)]
      ∧ refreshMessages .chillerFault x = [.chillerFaultDelivery (.refresh x)]
      ∧ ∀ r ∈ [Role.holster p, .coupled p, .gasDetect], refreshMessages r x = [])
    ∧ ∀ (row : Nat) (y : NodeRow) (up : Bool),
      let trip : List Instr := [.tripCause (.signal row)]
      let given (r : Role) (m : List Instr) : Prop :=
        (y.stale = .isolate → staleMessages row { y with role := r } = m)
        ∧ (y.limitAction = .isolate → limitMessages row { y with role := r } = m)
        ∧ (y.edgeAction = .isolate → edgeMessages row { y with role := r } = m)
      (∀ r ∈ [Role.nozzlePressure p, .outletTemp p, .meter p, .holster p, .coupled p],
        given r [.positionIsolate p])
      ∧ (∀ r ∈ [Role.bankPressure b, .bankTemp b], given r [.bankIsolateSignal b])
      ∧ (∀ r ∈ [Role.suctionPressure, .dischargePressure, .dischargeTemp, .compressorRunning],
          given r [.cmpIsolate])
      ∧ given .chillerFault [.chillerIsolate] ∧ given .ambientTemp [] ∧ given .gasDetect []
      ∧ (y.stale = .hold → staleMessages row y = [])
      ∧ (y.limitAction = .none ∨ y.limitAction = .note → limitMessages row y = [])
      ∧ (y.edgeAction = .note → edgeMessages row y = [])
      ∧ (y.stale = .trip → y.role ≠ .ambientTemp → staleMessages row y = trip)
      ∧ (y.stale = .trip → y.role = .ambientTemp → staleMessages row y = [])
      ∧ (y.limitAction = .trip → limitMessages row y = trip)
      ∧ (y.edgeAction = .trip → y.role ≠ .gasDetect → edgeMessages row y = trip)
      ∧ (y.edgeAction = .trip → y.role = .gasDetect → edgeMessages row y = [.tripCause .gasDetect])
      ∧ (y.edgeSelect.selects up = true ↔
          y.edgeSelect = .both ∨ y.edgeSelect = .rise ∧ up = true ∨ y.edgeSelect = .fall ∧ up = false))
  ∧ (∀ (x y : SigRec) (a : Arrival) (n : Nat) (p : Pos) (b : Bank) (g : BankSignal) (q : Role) (s : State),
    let same (r : Role) (c : Instr) : Prop :=
      ∃ t, exec c s = .next t ∧ t.sig = s.sig
        ∧ exec c (setRecord r y s) = .next { t with sig := (setRecord r y s).sig }
    same (g.role b) (.bankSignalValue b g x) ∧ same (g.role b) (.bankSignalQuality b g x)
    ∧ same q (.cmpSignalArrival q a) ∧ same (.outletTemp p) (.outletTempArrival p a)
    ∧ same .chillerFault (.chillerFaultDelivery a)
    ∧ same (.holster p) (.filHolsterTransition p x) ∧ same (.coupled p) (.filCoupledTransition p x)
    ∧ same (.nozzlePressure p) (.filNozzlePressure p x) ∧ same (.bankPressure b) (.filBankPressure b a)
    ∧ same (.vehicle p) (.filVehdata p x) ∧ same q (.filSignalQuality ⟨p, q, x⟩)
    ∧ same (.meter p) (.meterCount p n x.quality) ∧ same (.meter p) (.meterQualityChange p x)
    ∧ same (.holster p) (.smcHolsterTransition p x))

/-! ## Storage banks -/

/-- R37, R38, R39, R40, R44: a claim by a position: REFUSED while the trip latch is set, while it holds
another bank, and on an isolated or unconfigured bank; GRANTED on an available one, with a DRAW session
opened from the inventory; GRANTED on a bank that the compressor fills, which yields it with its gain;
WAITING on a bank that another position holds. Where the answer to a claim taken as a command of its own
goes is the model's choice (assumption log 8). R40, R44: WITHDRAW takes the position off the wait lists
and leaves a holding as it is; an increment attributed to a session joins the DRAW session the position
holds on that bank, and no other: none where the bank has no session, and none where its session is the
compressor's or another position's. -/
def Obligations.PositionClaim : Prop :=
  (∀ (p : Pos) (b : Bank) (s : State), s.smc.inReset = false →
    let off := leaveBankLists p s
    let draw : Session := ⟨.pos p, (s.bank b).inventory, (s.bank b).invValid, 0, s.ret.clock⟩
    (s.latched = true → exec (.positionClaim p b) s = .next s)
    ∧ (∀ c, s.heldBank p = some c → c ≠ b → exec (.positionClaim p b) s = .next s)
    ∧ ((s.bank b).state = .isolated ∨ (s.bank b).state = .unconfigured ∨
        (s.bank b).state = .claimedPos p → exec (.positionClaim p b) s = .next s)
    ∧ (s.latched = false → s.heldBank p = none → (s.bank b).state = .available →
        exec (.positionClaim p b) s = .next (post (.filGranted p (.bank b))
          (updBank b (fun r => { r with state := .claimedPos p, session := some draw }) off)))
    ∧ (∀ y, s.latched = false → s.heldBank p = none → (s.bank b).state = .claimedCmp →
        (s.bank b).session = some y → y.holder = .compressor →
        ∃ t, exec (.positionClaim p b) s = .next t
          ∧ t.mail = s.mail ++ [.yielded b, .filGranted p (.bank b)]
          ∧ t.rif = (close (.bankValve b .compressor) s).rif
          ∧ (t.bank b).state = .claimedPos p ∧ (t.bank b).session = some draw
          ∧ (t.bank b).last = some (.refill
              (if y.openValid ∧ (s.bank b).invValid then some (((s.bank b).inventory : Int) - y.invOpen)
               else none))
          ∧ (∀ c, c ≠ b → t.bank c = off.bank c)
          ∧ t.cmp = s.cmp ∧ t.fil = s.fil ∧ t.ret = s.ret)
    ∧ (∀ q, s.latched = false → s.heldBank p = none → (s.bank b).state = .claimedPos q → q ≠ p →
        ¬ (s.bank b).waiters.contains p → exec (.positionClaim p b) s =
          .next (updBank b (fun r => { r with waiters := r.waiters ++ [p] }) off))
    ∧ (∀ q, s.latched = false → s.heldBank p = none → (s.bank b).state = .claimedPos q → q ≠ p →
        (s.bank b).waiters.contains p → exec (.positionClaim p b) s = .next s))
  ∧ ((∀ (p : Pos) (s : State), s.smc.inReset = false →
    (s.onBankList p = true → exec (.bankWithdraw p) s = .next (leaveBankLists p s))
    ∧ (s.onBankList p = false → exec (.bankWithdraw p) s = .next s)
    ∧ ∀ c, p ∉ ((leaveBankLists p s).bank c).waiters)
  ∧ ∀ (p : Pos) (mg : Nat) (s : State), s.smc.inReset = false →
    (∀ b x, (s.bank b).session = some x → x.holder = .pos p → x.metered + mg < 2 ^ 32 →
      exec (.bankIncrementReport p mg (.session b)) s =
        .next (updBank b (fun r => { r with session := some { x with metered := x.metered + mg } }) s))
    ∧ (∀ a, (∀ b, a ≠ .session b) → exec (.bankIncrementReport p mg a) s = .next s)
    ∧ (∀ b, (s.bank b).session = none → exec (.bankIncrementReport p mg (.session b)) s = .next s)
    ∧ (∀ b x, (s.bank b).session = some x → x.holder ≠ .pos p →
      exec (.bankIncrementReport p mg (.session b)) s = .next s))

/-- R43: a claim by the compressor is GRANTED when the bank is AVAILABLE and the trip latch is clear:
the bank becomes CLAIMED-COMPRESSOR and a REFILL session opens. In every other case it is REFUSED, no
wait list is joined and the record is unchanged. That the answer goes to the event that claimed, so that
nothing tells CMP of a claim taken as a command of its own, is the model's choice (assumption log 8). -/
def Obligations.CompressorClaim : Prop :=
  ∀ (b : Bank) (s : State), s.smc.inReset = false →
    ((s.bank b).state = .available → s.latched = false →
      (claimForCompressor b s).1 = .granted
        ∧ exec (.compressorClaim b) s = .next (updBank b (fun r =>
          { r with
            state := .claimedCmp
            session := some ⟨.compressor, r.inventory, r.invValid, 0, s.ret.clock⟩ }) s))
    ∧ ((s.bank b).state ≠ .available ∨ s.latched = true →
      (claimForCompressor b s).1 = .refused ∧ exec (.compressorClaim b) s = .next s)

/-- R41, R42, R44 to R46: a release by the position that holds the bank: the draw closes with its
mass-balance outcome (BALANCED within the tolerance, MISMATCH outside it or above the trip figure,
UNCHECKED when a figure is invalid), a mismatch is noticed, one above the trip figure gives the trip
cause, FIL is told the outcome and the valve is commanded closed; then the bank passes to the head of
its wait list, GRANTED with a DRAW session of its own and off every list, or becomes AVAILABLE and is
announced when nobody waits. A release by any other party is ignored. R41, R42, R46: a release by the
compressor, which fills a bank that nobody awaits (a claim by a position takes such a bank at once,
R39): the refill closes with its gain, the valve is commanded closed, and the bank becomes AVAILABLE and
is announced. -/
def Obligations.BankRelease : Prop :=
  (∀ (p : Pos) (b : Bank) (s : State), s.smc.inReset = false →
    (∀ h, (s.bank b).state ≠ .ofHolder h → exec (.bankRelease b h) s = .next s)
    ∧ ∀ x : Session, (s.bank b).state = .claimedPos p → (s.bank b).session = some x →
      x.holder = .pos p →
      let inv := (s.bank b).inventory
      let m := x.metered / 1000
      let d : Int := ((x.invOpen : Int) - inv) - m
      let tol := max s.stationRow.mbFloor (m * s.stationRow.mbTolerance / 1000)
      let trip : Int := s.stationRow.mbTrip
      let shut (o : DrawOutcome) (fig : Option (Int × Nat)) :=
        updBank b (fun r => { r with session := none, last := some (.draw p o fig) }) s
      let passed (t : State) : State :=
        match (s.bank b).waiters with
        | [] => postAll [.filBankAnnouncement b, .cmpBankAnnouncement b]
            (updBank b (fun r => { r with state := .available }) t)
        | q :: _ => post (.filGranted q (.bank b)) (updBank b (fun r =>
            { r with
              state := .claimedPos q
              session := some ⟨.pos q, inv, (s.bank b).invValid, 0, s.ret.clock⟩ })
            { t with bkm := t.bkm.map (fun r => { r with waiters := r.waiters.filter (fun w => w ≠ q) }) })
      let done (o : DrawOutcome) (t : State) :=
        passed (close (.bankValve b (.pos p)) (post (.sessionOutcome p b o) t))
      let told := notice .massMismatch b.num
        (u1 p.num ++ u4 x.invOpen ++ u4 inv ++ u4 m ++ beInt 4 d ++ u4 tol)
        (shut .mismatch (some (d, tol)))
      (x.openValid = false ∨ (s.bank b).invValid = false →
        exec (.bankRelease b (.pos p)) s = .next (done .unchecked (shut .unchecked none)))
      ∧ (x.openValid = true → (s.bank b).invValid = true → -(tol : Int) ≤ d → d ≤ tol → d ≤ trip →
        exec (.bankRelease b (.pos p)) s = .next (done .balanced (shut .balanced (some (d, tol)))))
      ∧ (x.openValid = true → (s.bank b).invValid = true → d < -(tol : Int) ∨ tol < d → d ≤ trip →
        exec (.bankRelease b (.pos p)) s = .next (done .mismatch told))
      ∧ (x.openValid = true → (s.bank b).invValid = true → trip < d →
        exec (.bankRelease b (.pos p)) s =
          .next (done .mismatch (post (.tripCause (.massBalance b)) told))))
  ∧ (∀ (b : Bank) (x : Session) (s : State), s.smc.inReset = false →
    (s.bank b).state = .claimedCmp → (s.bank b).session = some x → x.holder = .compressor →
    (s.bank b).waiters = [] →
    let gain : Option Int := if x.openValid ∧ (s.bank b).invValid
      then some (((s.bank b).inventory : Int) - x.invOpen) else none
    exec (.bankRelease b .compressor) s = .next
      (postAll [.filBankAnnouncement b, .cmpBankAnnouncement b]
        (updBank b (fun r => { r with state := .available, session := none, last := some (.refill gain) })
          (close (.bankValve b .compressor) s))))

/-- R47, R49: ISOLATE of a bank that nobody holds or awaits, from a signal or by the request; it is left
as it is when it is already isolated, and ignored on an unconfigured one, where the request is answered
STATE. R47, R45: isolation of a bank that is held: the session closes, a DRAW session with its check
from the inventory as BKM holds it (with SIG's stale action too, where a worked sequence of the chapter
has it close UNCHECKED: the model's choice, assumption log 49); the holder, a position or the
compressor, is told LOST with the cause, every waiter is told in list order, the five valves are
commanded closed, and the bank is ISOLATED with an empty list and a notice of the cause and the held
pressure. R48, R47: a usable pressure value above the rated maximum isolates the bank, free or held,
after its inventory is evaluated: evaluated from the new pressure when the temperature is usable, else
kept and marked invalid. A session that is open closes with that inventory, and the notice carries the
new pressure. R49, R42: BANK-RETURN of an isolated bank whose two records are GOOD with the pressure at
or below the rated maximum makes it AVAILABLE and announces it; any other is answered STATE. -/
def Obligations.BankIsolation : Prop :=
  (∀ (b : Bank) (rq : Req) (s : State), s.smc.inReset = false →
    let shut := close (.bankValve b .compressor) (close (.bankValve b (.pos .p4))
      (close (.bankValve b (.pos .p3)) (close (.bankValve b (.pos .p2))
        (close (.bankValve b (.pos .p1)) s))))
    let out (c : IsoCause) := notice .bankIsolated b.num
      (u1 c.num ++ u2 (s.value (.bankPressure b)).toNat)
      (updBank b (fun r => { r with state := .isolated, cause := some c }) shut)
    ((s.bank b).state = .available → (s.bank b).waiters = [] → (s.bank b).session = none →
      exec (.bankIsolateSignal b) s = .next (out .signal)
        ∧ exec (.bankIsolate rq b.num) s = .next (reply rq 32 .ok [] (out .request)))
    ∧ ((s.bank b).state = .isolated →
      exec (.bankIsolateSignal b) s = .next s
        ∧ exec (.bankIsolate rq b.num) s = .next (reply rq 32 .ok [] s))
    ∧ ((s.bank b).state = .unconfigured →
      exec (.bankIsolateSignal b) s = .next s
        ∧ exec (.bankIsolate rq b.num) s = .next (reply rq 32 .state [] s))
    ∧ ∀ n, n = 0 ∨ 5 ≤ n → exec (.bankIsolate rq n) s = .next (reply rq 32 .range [] s))
  ∧ (∀ (b : Bank) (x : Session) (s : State), s.smc.inReset = false → (s.bank b).session = some x →
    let shut := close (.bankValve b .compressor) (close (.bankValve b (.pos .p4))
      (close (.bankValve b (.pos .p3)) (close (.bankValve b (.pos .p2))
        (close (.bankValve b (.pos .p1)) s))))
    let isolated (before : List Instr) (last : LastSession) : Prop :=
      ∃ t, exec (.bankIsolateSignal b) s = .next t
        ∧ t.mail = s.mail ++ before ++ (s.bank b).waiters.map (fun q => .waitCancelled q (.bank b))
        ∧ t.bank b = { s.bank b with
            state := .isolated, cause := some .signal, waiters := [], session := none
            last := some last }
        ∧ (∀ c, c ≠ b → t.bank c = s.bank c) ∧ t.ret = s.ret ∧ t.fil = s.fil ∧ t.sig = s.sig
        ∧ t.rif = (notice .bankIsolated b.num
            (u1 IsoCause.signal.num ++ u2 (s.value (.bankPressure b)).toNat) shut).rif
    let both := x.openValid && (s.bank b).invValid
    let d : Int := ((x.invOpen : Int) - (s.bank b).inventory) - (x.metered / 1000 : Nat)
    let tol := max s.stationRow.mbFloor (x.metered / 1000 * s.stationRow.mbTolerance / 1000)
    (∀ p, (s.bank b).state = .claimedPos p → x.holder = .pos p → both = false → isolated
      [.sessionOutcome p b .unchecked, .filLost p (.bank b) (.isolated .signal)] (.draw p .unchecked none))
    ∧ (∀ p, (s.bank b).state = .claimedPos p → x.holder = .pos p → both = true →
      -(tol : Int) ≤ d → d ≤ tol → d ≤ s.stationRow.mbTrip → isolated
      [.sessionOutcome p b .balanced, .filLost p (.bank b) (.isolated .signal)]
      (.draw p .balanced (some (d, tol))))
    ∧ ((s.bank b).state = .claimedCmp → x.holder = .compressor →
      isolated [.cmpBankLost ⟨b, .isolated .signal⟩]
        (.refill (if both then some (((s.bank b).inventory : Int) - x.invOpen) else none))))
  ∧ (∀ (b : Bank) (x : SigRec) (s : State), s.smc.inReset = false → x.quality.usable = true →
    ((s.bankRow b).rated : Int) < x.value →
    let read := s.usable (.bankTemp b)
    let inv := if read then density s.bkmBq x.value (s.value (.bankTemp b)) * (s.bankRow b).volume / 1000
      else (s.bank b).inventory
    let shut := close (.bankValve b .compressor) (close (.bankValve b (.pos .p4))
      (close (.bankValve b (.pos .p3)) (close (.bankValve b (.pos .p2))
        (close (.bankValve b (.pos .p1)) s))))
    let isolated (before : List Instr) (last : Option LastSession) : Prop :=
      ∃ t, exec (.bankSignalValue b .pressure x) s = .next t
        ∧ t.mail = s.mail ++ before ++ (s.bank b).waiters.map (fun q => .waitCancelled q (.bank b))
        ∧ t.bank b = { s.bank b with
            state := .isolated, cause := some .overpressure, inventory := inv, invValid := read
            waiters := [], session := none, last := last }
        ∧ (∀ c, c ≠ b → t.bank c = s.bank c) ∧ t.sig = s.sig ∧ t.ret = s.ret
        ∧ t.rif = (notice .bankIsolated b.num
            (u1 IsoCause.overpressure.num ++ u2 x.value.toNat) shut).rif
    ((s.bank b).state = .available → (s.bank b).session = none → isolated [] (s.bank b).last)
    ∧ (∀ p y, (s.bank b).state = .claimedPos p → (s.bank b).session = some y → y.holder = .pos p →
        y.openValid = false ∨ read = false → isolated
        [.sessionOutcome p b .unchecked, .filLost p (.bank b) (.isolated .overpressure)]
        (some (.draw p .unchecked none)))
    ∧ (∀ y, (s.bank b).state = .claimedCmp → (s.bank b).session = some y → y.holder = .compressor →
        isolated [.cmpBankLost ⟨b, .isolated .overpressure⟩]
          (some (.refill (if y.openValid ∧ read then some ((inv : Int) - y.invOpen) else none)))))
  ∧ (∀ (b : Bank) (rq : Req) (s : State), s.smc.inReset = false →
    let may := (s.bank b).state = .isolated ∧ s.quality (.bankPressure b) = .good
      ∧ s.quality (.bankTemp b) = .good ∧ s.value (.bankPressure b) ≤ (s.bankRow b).rated
    (may → exec (.bankReturn rq b.num) s = .next (reply rq 33 .ok []
      (postAll [.filBankAnnouncement b, .cmpBankAnnouncement b]
        (updBank b (fun r => { r with state := .available, cause := none }) s))))
    ∧ (¬ may → exec (.bankReturn rq b.num) s = .next (reply rq 33 .state [] s))
    ∧ ∀ n, n = 0 ∨ 5 ≤ n → exec (.bankReturn rq n) s = .next (reply rq 33 .range [] s))

/-- R24, R26, R27: the inventory at a value arrival and at a change of quality, by the record delivered:
evaluated when both records are usable, with the B_q that BKM has taken; kept and marked invalid when
they are not; set to 0 when the record is ABSENT. B_Q_CHANGE takes the active B_q, evaluates a valid
inventory afresh with it, and marks the inventory at open of the open sessions invalid. -/
def Obligations.InventoryEvents : Prop :=
  ∀ (b : Bank) (s : State), s.smc.inReset = false →
    let figure (bq : Nat) (u : State) :=
      density bq (u.value (.bankPressure b)) (u.value (.bankTemp b)) * (s.bankRow b).volume / 1000
    let evaluated (n : Nat) := updBank b (fun r => { r with inventory := n, invValid := true }) s
    let kept := updBank b (fun r => { r with invValid := false }) s
    (∀ (g : BankSignal) (x : SigRec),
      let u := withRecord (g.role b) x s
      let both := u.usable (.bankPressure b) && u.usable (.bankTemp b)
      ((s.bank b).state ≠ .unconfigured → both = true →
        g = .temp ∨ x.value ≤ ((s.bankRow b).rated : Int) →
        exec (.bankSignalValue b g x) s = .next (evaluated (figure s.bkmBq u)))
      ∧ ((s.bank b).state ≠ .unconfigured → both = false →
        g = .temp ∨ x.quality.usable = false ∨ x.value ≤ ((s.bankRow b).rated : Int) →
        exec (.bankSignalValue b g x) s = .next kept)
      ∧ ((s.bank b).state = .unconfigured → exec (.bankSignalValue b g x) s = .next s)
      ∧ (x.quality = .bad ∨ x.quality = .stale → exec (.bankSignalQuality b g x) s = .next kept)
      ∧ (x.quality = .absent → exec (.bankSignalQuality b g x) s =
          .next (updBank b (fun r => { r with inventory := 0, invValid := false }) s))
      ∧ ((s.bank b).state ≠ .unconfigured → x.quality = .good ∨ x.quality = .uncertain → both = true →
        exec (.bankSignalQuality b g x) s = .next (evaluated (figure s.bkmBq u)))
      ∧ ((s.bank b).state ≠ .unconfigured → x.quality = .good ∨ x.quality = .uncertain → both = false →
        exec (.bankSignalQuality b g x) s = .next kept))
    ∧ ∃ t, exec .bQChange s = .next t
        ∧ t.bank b = { s.bank b with
            inventory := if (s.bank b).invValid then figure s.bq s else (s.bank b).inventory
            session := (s.bank b).session.map (fun y => { y with openValid := false }) }
        ∧ t.bkmBq = s.bq ∧ t.mail = s.mail ∧ t.ret = s.ret ∧ t.sig = s.sig ∧ t.rif = s.rif

/-- R51, R42: BKM_TRIP: every claim is lost, each holder told LOST with cause TRIP; then every list is
emptied and every waiter told; then the banks that had a holder are announced. No bank keeps a holder or
a session, a bank that had a holder is AVAILABLE, and ISOLATED and UNCONFIGURED banks keep their states.
(That the banks are taken in the order B1 to B4 is the model's choice, assumption log 32.) -/
def Obligations.BanksAtTrip : Prop :=
  ∀ s : State, s.smc.inReset = false →
    let lost := Bank.all.filter (fun b => (s.bank b).state.claimed)
    ∃ t, exec .bkmTrip s = .next t
      ∧ t.mail = (forEach lost tripClaim s).mail
          ++ Bank.all.flatMap (fun b => (s.bank b).waiters.map (fun p => .waitCancelled p (.bank b)))
          ++ lost.flatMap (fun b => [.filBankAnnouncement b, .cmpBankAnnouncement b])
      ∧ ∀ b, (t.bank b).waiters = []
        ∧ ((s.bank b).state.claimed = true → (t.bank b).state = .available ∧ (t.bank b).session = none)
        ∧ ((s.bank b).state.claimed = false → (t.bank b).state = (s.bank b).state)
        ∧ (∀ p, (s.bank b).state = .claimedPos p →
            .filLost p (.bank b) .trip ∈ (forEach lost tripClaim s).mail)
        ∧ ((s.bank b).state = .claimedCmp → .cmpBankLost ⟨b, .trip⟩ ∈ (forEach lost tripClaim s).mail)
        ∧ (t.bank b).inventory = (s.bank b).inventory

/-! ## The compressor -/

/-- R55 to R58: a start evaluation in STOPPED, made at an arrival of a signal of R56, by the record
delivered (a transition or a refresh of COMPRESSOR-RUNNING among them: assumption log 40), and at a bank
announcement. With a want and every condition met, the start is taken: PRIMING, the start in the history
without its aged entries, the prime timer, the supply-low flag and the held episode cleared, the drive
SET to the run speed, and the change of state reported. R56, R57: a start evaluation in STOPPED that
takes no start. With a want and a start permitted, the first condition that fails gives the reason,
SUPPLY, SIGNAL or START-LIMIT: it opens a held episode with NOTICE COMPRESSOR-HELD, and in an open one
it is kept as the latest reason with no notice. (That the first of several failing conditions is
carried, and that SUPPLY carries no suction value while the record is unusable, with its optional
fields, are the model's, assumption logs 51 and 10.) With no want, or a start not permitted, the episode
ends; a refill want that arises in PARKED is reported BANK-LOW. R56, R60: what a refill want and a
refill candidate are: a bank of the refill order that is configured, has a compressor valve in the node
map, is AVAILABLE with nobody waiting, and has a usable pressure below its refill-start figure, or for a
candidate its fill-to figure. -/
def Obligations.CompressorStart : Prop :=
  (∀ s : State, s.smc.inReset = false →
    s.cmp.state = .stopped → s.cmpRow.fitted = true → s.smc.mode = .quiet ∨ s.smc.mode = .run →
    s.latched = false →
    let starts (c : Instr) (u : State) : Prop :=
      s.cmp.waiters ≠ [] ∨ u.refillWanted = true → u.usable .suctionPressure = true →
      (s.cmpRow.suctionMin + (if s.cmp.supplyLow then s.cmpRow.hysteresis else 0) : Nat)
        ≤ u.value .suctionPressure →
      u.usable .dischargeTemp = true → u.value .dischargeTemp ≤ s.cmpRow.dischargeMax →
      u.usable .compressorRunning = true → u.level .compressorRunning = false →
      s.ret.history.countP (fun e => s.ret.runSeconds < e + 3600) < s.cmpRow.startsLimit →
      ∃ t, exec c s = .next t
        ∧ t.cmp = { s.cmp with
            state := .priming, startedAt := some s.ret.runSeconds
            primeTimer := some (10 * s.cmpRow.primeTime), supplyLow := false, held := none
            refillWant := u.refillWanted }
        ∧ t.ret = { s.ret with history :=
            s.ret.history.filter (fun e => s.ret.runSeconds < e + 3600) ++ [s.ret.runSeconds] }
        ∧ t.rif = (actuate .compressorDrive .set s.cmpRow.runSpeed s).rif
        ∧ t.mail = s.mail ++ [.descentReport, .compressorStateReport]
        ∧ t.bkm = s.bkm ∧ t.fil = s.fil ∧ t.pcl = s.pcl ∧ t.smc = s.smc ∧ t.sig = s.sig
    (∀ b, starts (.cmpBankAnnouncement b) s)
    ∧ (∀ a, starts (.cmpSignalArrival .suctionPressure a) (withRecord .suctionPressure a.record s))
    ∧ (∀ a, starts (.cmpSignalArrival .dischargeTemp a) (withRecord .dischargeTemp a.record s))
    ∧ (∀ a, starts (.cmpSignalArrival .compressorRunning a) (withRecord .compressorRunning a.record s))
    ∧ ∀ b a, starts (.cmpSignalArrival (.bankPressure b) a) (withRecord (.bankPressure b) a.record s))
  ∧ (∀ s : State, s.smc.inReset = false → s.cmp.state = .stopped →
    let takesNone (c : Instr) (u : State) : Prop :=
      let seen (r : Option HeldReason) (t : State) : State :=
        updCmp (fun k => { k with refillWant := u.refillWanted, held := r }) t
      let wants : Prop := s.cmp.waiters ≠ [] ∨ u.refillWanted = true
      let may : Prop :=
        s.cmpRow.fitted = true ∧ (s.smc.mode = .quiet ∨ s.smc.mode = .run) ∧ s.latched = false
      let need := s.cmpRow.suctionMin + (if s.cmp.supplyLow then s.cmpRow.hysteresis else 0)
      let supply : Prop := u.usable .suctionPressure = false ∨ u.value .suctionPressure < (need : Nat)
      let signal : Prop := u.usable .dischargeTemp = false ∨ s.cmpRow.dischargeMax < u.value .dischargeTemp
        ∨ u.usable .compressorRunning = false ∨ u.level .compressorRunning = true
      let want := if s.cmp.waiters = [] then 1 else if u.refillWanted then 2 else 0
      let refused (r : HeldReason) (data : List Byte) : Prop :=
        (s.cmp.held = none → exec c s = .next (seen (some r) (notice .compressorHeld 0 data s)))
          ∧ (s.cmp.held ≠ none → exec c s = .next (seen (some r) s))
      (∀ v : Nat, wants → may → u.usable .suctionPressure = true → u.value .suctionPressure = v → v < need →
        refused .supply
          (u1 0 ++ u1 want ++ optField 2 none ++ optField 2 (some (u2 v)) ++ optField 2 (some (u2 need))))
      ∧ (wants → may → u.usable .suctionPressure = false → refused .supply
          (u1 0 ++ u1 want ++ optField 2 none ++ optField 2 none ++ optField 2 (some (u2 need))))
      ∧ (wants → may → ¬ supply → signal → refused .signal
          (u1 1 ++ u1 want ++ optField 2 none ++ optField 2 none ++ optField 2 none))
      ∧ (∀ e : Nat, wants → may → ¬ supply → ¬ signal →
        s.cmpRow.startsLimit ≤ s.ret.history.countP (fun n => s.ret.runSeconds < n + 3600) →
        s.ret.history.find? (fun n => s.ret.runSeconds < n + 3600) = some e →
        refused .startLimit (u1 2 ++ u1 want ++ optField 2 (some (u2 (e + 3600 - s.ret.runSeconds)))
          ++ optField 2 none ++ optField 2 none))
      ∧ (¬ wants ∨ ¬ may → s.smc.mode ≠ .parked ∨ s.cmp.refillWant = true ∨ u.refillWanted = false →
        exec c s = .next (seen none s))
      ∧ (s.smc.mode = .parked → s.cmp.refillWant = false → u.refillWanted = true →
        exec c s = .next (seen none (post .bankLow s)))
    (∀ b, takesNone (.cmpBankAnnouncement b) s)
    ∧ (∀ a, takesNone (.cmpSignalArrival .suctionPressure a) (withRecord .suctionPressure a.record s))
    ∧ (∀ a, takesNone (.cmpSignalArrival .dischargeTemp a) (withRecord .dischargeTemp a.record s))
    ∧ (∀ a, takesNone (.cmpSignalArrival .compressorRunning a) (withRecord .compressorRunning a.record s))
    ∧ ∀ b a, takesNone (.cmpSignalArrival (.bankPressure b) a) (withRecord (.bankPressure b) a.record s))
  ∧ (∀ s : State,
    let below (b : Bank) (n : Nat) : Bool :=
      decide ((s.bankRow b).configured = true ∧ s.mapped (.bankValve b .compressor) = true
        ∧ (s.bank b).state = .available ∧ (s.bank b).waiters = []
        ∧ s.usable (.bankPressure b) = true ∧ s.value (.bankPressure b) < n)
    s.refillWanted = s.cmpRow.refillOrder.any (fun b => below b (s.bankRow b).refillStart)
      ∧ s.refillCandidates = s.cmpRow.refillOrder.filter (fun b => below b (s.bankRow b).fillTo))

/-- R55, R62, R67: the expiry of the off timer leaves COOLDOWN for STOPPED, and runs out in LOCKOUT
without changing the state; the ageing of the history removes the starts that are 3600 run-seconds old,
and a removal in STOPPED is followed by a start evaluation. R59, R60: priming completes at
COMPRESSOR-RUNNING 1 with a usable quality, and the target choice takes the first refill candidate that
BKM grants: LOADED, a REFILL session, the bank's valve opened. In UNLOADED an arrival of a bank's
pressure, a value or a change of quality, makes a target choice too. R60, R61, R62: the expiry of the
minimum run with nothing to fill and nobody waiting stops the compressor: the drive closed, the run and
prime timers stopped, COOLDOWN with the off timer (that the expiry taken as a command of its own is one
whatever the run timer reads is the model's choice, assumption log 7). The end of a refill by YIELDED or
by the loss of its bank, with nobody waiting for the output, takes the next candidate; with none the
compressor stays UNLOADED, or stops when its minimum run has passed. Either of them naming another bank
changes nothing. R59, R60, R64: priming that completes with positions waiting for the output grants it to
the head of their list: LOADED (DIRECT), GRANTED sent before the reports of the two state changes (the
model's reading, assumption log 66). -/
def Obligations.CompressorRun : Prop :=
  (∀ s : State, s.smc.inReset = false →
    (s.cmp.offTimer = none → exec .offTimerExpiry s = .next s)
    ∧ (s.cmp.offTimer ≠ none → s.cmp.state = .lockout →
      exec .offTimerExpiry s = .next (updCmp (fun k => { k with offTimer := none }) s))
    ∧ (s.cmp.offTimer ≠ none → s.cmp.state = .cooldown → s.cmp.waiters = [] → s.refillWanted = false →
      exec .offTimerExpiry s = .next (postAll [.descentReport, .compressorStateReport]
        (updCmp (fun k =>
          { k with state := .stopped, offTimer := none, refillWant := false, held := none }) s)))
    ∧ ((∀ e ∈ s.ret.history, s.ret.runSeconds < e + 3600) → exec .startHistoryAgeing s = .next s)
    ∧ (s.cmp.state ≠ .stopped → exec .startHistoryAgeing s = .next (updRet (fun r =>
        { r with history := r.history.filter (fun e => r.runSeconds < e + 3600) }) s))
    ∧ ((∃ e ∈ s.ret.history, e + 3600 ≤ s.ret.runSeconds) → s.cmp.state = .stopped →
      s.cmp.waiters = [] → s.refillWanted = false →
      exec .startHistoryAgeing s = .next (updCmp (fun k => { k with refillWant := false, held := none })
        (updRet (fun r => { r with history := r.history.filter (fun e => r.runSeconds < e + 3600) }) s))))
  ∧ (∀ (b : Bank) (bs : List Bank) (x : SigRec) (s : State), s.smc.inReset = false → s.cmp.waiters = [] →
    s.latched = false → s.smc.mode = .quiet ∨ s.smc.mode = .run →
    let fills (c : Instr) (reports : List Instr) (k : Cmp) : Prop :=
      ∃ t, exec c s = .next t ∧ t.cmp = { k with state := .loaded, dest := some (.refill b) }
        ∧ t.bank b = { s.bank b with
            state := .claimedCmp
            session := some ⟨.compressor, (s.bank b).inventory, (s.bank b).invValid, 0, s.ret.clock⟩ }
        ∧ (∀ c, c ≠ b → t.bank c = s.bank c)
        ∧ t.rif = (actuate (.bankValve b .compressor) .open 1000 s).rif
        ∧ t.mail = s.mail ++ reports ++ [.descentReport, .compressorStateReport]
        ∧ t.ret = s.ret ∧ t.fil = s.fil ∧ t.sig = s.sig
    (s.cmp.state = .priming → x.quality.usable = true → x.level = true → s.refillCandidates = b :: bs →
      fills (.cmpSignalArrival .compressorRunning (.transition x)) [.descentReport, .compressorStateReport]
        { s.cmp with holder := none, primeTimer := none })
    ∧ ∀ (a : Arrival) (d : Bank), s.cmp.state = .unloaded → a = .value x ∨ a = .quality x →
      (withRecord (.bankPressure d) x s).refillCandidates = b :: bs →
      fills (.cmpSignalArrival (.bankPressure d) a) [] s.cmp)
  ∧ (∀ s : State, s.smc.inReset = false →
    let stopped : Cmp := { s.cmp with
      state := .cooldown, dest := none, holder := none, startedAt := none, primeTimer := none
      offTimer := some (10 * s.cmpRow.minOff) }
    let stops (c : Instr) (reports : List Instr) (k : Cmp) : Prop := ∃ t, exec c s = .next t
      ∧ t.cmp = k ∧ t.rif = (close .compressorDrive s).rif
      ∧ t.mail = s.mail ++ reports ++ [.descentReport, .compressorStateReport] ∧ t.bkm = s.bkm
      ∧ t.ret = s.ret ∧ t.fil = s.fil
    (s.cmp.state = .unloaded → s.cmp.waiters = [] → s.refillCandidates = [] → 0 < s.cmpRow.minOff →
      stops .minimumRunExpiry [] { stopped with dest := s.cmp.dest, holder := s.cmp.holder })
    ∧ (s.cmp.state ≠ .unloaded → exec .minimumRunExpiry s = .next s)
    ∧ (∀ b, s.cmp.state = .loaded → s.cmp.dest = some (.refill b) → s.cmp.waiters = [] →
        ∀ i k, i = .yielded b ∨ i = .cmpBankLost ⟨b, k⟩ →
        let idle := { s.cmp with state := .unloaded, dest := none, holder := none, primeTimer := none }
        (∀ c cs, s.refillCandidates = c :: cs → s.latched = false → s.smc.mode = .quiet ∨ s.smc.mode = .run →
          ∃ t, exec i s = .next t
            ∧ t.cmp = { idle with state := .loaded, dest := some (.refill c) }
            ∧ t.bank c = { s.bank c with
                state := .claimedCmp
                session := some ⟨.compressor, (s.bank c).inventory, (s.bank c).invValid, 0, s.ret.clock⟩ }
            ∧ (∀ d, d ≠ c → t.bank d = s.bank d)
            ∧ t.rif = (actuate (.bankValve c .compressor) .open 1000 s).rif
            ∧ t.mail = s.mail ++ [.descentReport, .compressorStateReport, .descentReport,
                .compressorStateReport]
            ∧ t.ret = s.ret ∧ t.fil = s.fil)
        ∧ (s.refillCandidates = [] → s.runTimer < s.cmpRow.minRun →
          exec i s = .next (postAll [.descentReport, .compressorStateReport] (updCmp (fun _ => idle) s)))
        ∧ (s.refillCandidates = [] → s.cmpRow.minRun ≤ s.runTimer → 0 < s.cmpRow.minOff →
          stops i [.descentReport, .compressorStateReport] stopped))
    ∧ ∀ b k, s.refillBank ≠ some b →
        exec (.yielded b) s = .next s ∧ exec (.cmpBankLost ⟨b, k⟩) s = .next s)
  ∧ (∀ (q : Pos) (qs : List Pos) (x : SigRec) (a : Arrival) (s : State), s.smc.inReset = false →
    s.latched = false → s.cmp.state = .priming → s.cmp.waiters = q :: qs →
    x.quality.usable = true → x.level = true → a = .transition x ∨ a = .refresh x ∨ a = .quality x →
    exec (.cmpSignalArrival .compressorRunning a) s = .next (postAll [.filGranted q .compressor,
        .descentReport, .compressorStateReport, .descentReport, .compressorStateReport]
      (updCmp (fun k =>
        { k with
          state := .loaded, holder := some (q, s.ret.clock), dest := some (.direct q)
          waiters := k.waiters.filter (fun r => r ≠ q), primeTimer := none }) s)))

/-- R63, R64: a claim on the output: REFUSED while the compressor is unfitted or in LOCKOUT, the latch
is set, or the position holds the output or a bank; GRANTED in UNLOADED, and in a refill, which ends;
WAITING in PRIMING, in COOLDOWN and while the output feeds another position, and in STOPPED, where the
start evaluation of an announcement follows. Where the answer to a claim taken as a command of its own
goes is the model's choice (assumption log 8). R64, R65, R60: a release by the output's holder gives it
to the head of the wait list; with nobody waiting and nothing to fill the compressor stays UNLOADED
until its minimum run; a release by any other is ignored; WITHDRAW takes the position off the wait list
and leaves a holding (where its answer goes: assumption log 8). GRANTED is sent before what the event
sends besides (the model's reading, assumption log 66). -/
def Obligations.CompressorOutput : Prop :=
  (∀ (p : Pos) (s : State), s.smc.inReset = false →
    let held := updCmp (fun k =>
      { k with
        state := .loaded, holder := some (p, s.ret.clock), dest := some (.direct p)
        waiters := k.waiters.filter (fun q => q ≠ p) }) s
    let joined := if s.cmp.waiters.contains p then s
      else updCmp (fun k => { k with waiters := k.waiters ++ [p] }) s
    let free := s.cmpRow.fitted = true ∧ s.latched = false ∧ s.outputHolder ≠ some p
      ∧ s.heldBank p = none
    (¬ free ∨ s.cmp.state = .lockout → exec (.outputClaim p) s = .next s)
    ∧ (free → s.cmp.state = .unloaded → exec (.outputClaim p) s = .next
        (postAll [.filGranted p .compressor, .descentReport, .compressorStateReport] held))
    ∧ (∀ b x, free → s.cmp.state = .loaded → s.cmp.dest = some (.refill b) →
        (s.bank b).state = .claimedCmp → (s.bank b).session = some x → x.holder = .compressor →
        (s.bank b).waiters = [] →
        ∃ t, exec (.outputClaim p) s = .next t ∧ t.cmp = held.cmp
          ∧ t.mail = s.mail ++ [.filGranted p .compressor, .filBankAnnouncement b, .cmpBankAnnouncement b]
          ∧ (t.bank b).state = .available ∧ (t.bank b).session = none
          ∧ t.rif = (close (.bankValve b .compressor) s).rif)
    ∧ (∀ q, free → s.cmp.state = .priming ∨ s.cmp.state = .cooldown
          ∨ (s.cmp.state = .loaded ∧ s.cmp.dest = some (.direct q)) →
        exec (.outputClaim p) s = .next joined)
    ∧ (∀ b, free → s.cmp.state = .stopped →
        ∃ t, exec (.outputClaim p) s = .next t ∧ exec (.cmpBankAnnouncement b) joined = .next t))
  ∧ (∀ (p : Pos) (s : State), s.smc.inReset = false →
    (s.outputHolder ≠ some p → exec (.outputRelease p) s = .next s)
    ∧ (∀ q qs, s.outputHolder = some p → s.cmp.state = .loaded → s.latched = false →
        s.cmp.waiters = q :: qs →
        exec (.outputRelease p) s = .next (postAll [.filGranted q .compressor, .descentReport,
            .compressorStateReport, .descentReport, .compressorStateReport]
          (updCmp (fun k =>
            { k with
              state := .loaded, holder := some (q, s.ret.clock), dest := some (.direct q)
              waiters := k.waiters.filter (fun r => r ≠ q), primeTimer := none }) s)))
    ∧ (s.outputHolder = some p → s.cmp.state = .loaded → s.cmp.waiters = [] → s.refillCandidates = [] →
        s.runTimer < s.cmpRow.minRun →
        exec (.outputRelease p) s = .next (postAll [.descentReport, .compressorStateReport]
          (updCmp (fun k =>
            { k with state := .unloaded, holder := none, dest := none, primeTimer := none }) s)))
    ∧ exec (.outputWithdraw p) s =
        .next (updCmp (fun k => { k with waiters := k.waiters.filter (fun q => q ≠ p) }) s))

/-- R66: the stops of a running compressor: for low supply at a suction pressure below the minimum or a
lost SUCTION-PRESSURE record, and for a DISCHARGE-TEMP or COMPRESSOR-RUNNING record lost under HOLD. The
refill's bank is released, the output's holder told LOST, one CLOSE queued for the drive, NOTICE
SUPPLY-LOW sent with the supply-low flag set, or NOTICE COMPRESSOR-STOPPED, and the off timer starts in
COOLDOWN; the positions that wait stay. A value equal to the minimum does not stop it. R67, R70: the
locking events: the prime timer's expiry in PRIMING, a discharge temperature above the maximum while
running, COMPRESSOR-RUNNING falling in UNLOADED or LOADED, ISOLATE and the trip. LOCKOUT with the cause,
a refill's bank released, the output's holder told LOST and every waiter told, the drive closed, the off
timer started and NOTICE COMPRESSOR-LOCKOUT. In LOCKOUT nothing changes. (That an unfitted compressor is
no exception is the model's reading, assumption log 25.) R68: LOCKOUT-CLEAR: answered STATE out of
LOCKOUT, while the trip latch is set or while a fault condition remains; otherwise the cause is cleared
and LOCKOUT is left for COOLDOWN while the off timer runs, and for STOPPED, with its start evaluation,
when it has run out. -/
def Obligations.CompressorStops : Prop :=
  (∀ (x : SigRec) (s : State), s.smc.inReset = false →
    s.cmp.state = .priming ∨ s.cmp.state = .unloaded ∨ s.cmp.state = .loaded → 0 < s.cmpRow.minOff →
    let value : Option (List Byte) := if x.quality.usable then some (u2 x.value.toNat) else none
    let stops (c : Instr) (cause : LostCause) (told : State → State) (low : Bool) : Prop :=
      let down : Cmp := { s.cmp with
        state := .cooldown, dest := none, holder := none, startedAt := none, primeTimer := none
        offTimer := some (10 * s.cmpRow.minOff), supplyLow := low || s.cmp.supplyLow }
      let reports : List Instr := [.descentReport, .compressorStateReport]
      (s.refillBank = none → ∃ t, exec c s = .next t ∧ t.cmp = down
        ∧ t.rif = (told (close .compressorDrive s)).rif
        ∧ t.mail = s.mail
            ++ (match s.outputHolder with
                | some p => [.filLost p .compressor cause]
                | none => []) ++ reports
        ∧ t.bkm = s.bkm ∧ t.ret = s.ret ∧ t.fil = s.fil)
      ∧ ∀ b y, s.refillBank = some b → s.cmp.holder = none → (s.bank b).state = .claimedCmp →
        (s.bank b).session = some y → y.holder = .compressor → (s.bank b).waiters = [] →
        ∃ t, exec c s = .next t ∧ t.cmp = down
          ∧ t.rif = (told (close .compressorDrive (close (.bankValve b .compressor) s))).rif
          ∧ t.mail = s.mail ++ [.filBankAnnouncement b, .cmpBankAnnouncement b] ++ reports
          ∧ (t.bank b).state = .available ∧ (t.bank b).session = none
    let supplyLow := notice .supplyLow 0 (u1 x.quality.num ++ optField 2 value)
    let lost (r : Role) := notice .compressorStopped 0 (u1 r.code.1 ++ u1 x.quality.num)
    (x.quality.usable = true → x.value < s.cmpRow.suctionMin →
      stops (.cmpSignalArrival .suctionPressure (.value x)) .supply supplyLow true)
    ∧ (x.quality.usable = false →
      stops (.cmpSignalArrival .suctionPressure (.quality x)) .supply supplyLow true)
    ∧ (x.quality = .bad ∨ x.quality = .stale → s.underHold .dischargeTemp = true →
      stops (.cmpSignalArrival .dischargeTemp (.quality x)) .signal (lost .dischargeTemp) false)
    ∧ (x.quality = .bad ∨ x.quality = .stale → s.underHold .compressorRunning = true →
      stops (.cmpSignalArrival .compressorRunning (.quality x)) .signal (lost .compressorRunning) false)
    ∧ (s.cmpRow.suctionMin ≤ x.value →
        exec (.cmpSignalArrival .suctionPressure (.value x)) s = .next s))
  ∧ (∀ s : State, s.smc.inReset = false →
    let locks (c : Instr) (cause : LockCause) (temp : Option Int) : Prop :=
      let down : Cmp := { s.cmp with
        state := .lockout, dest := none, holder := none, waiters := [], startedAt := none
        primeTimer := none, offTimer := some (10 * s.cmpRow.minOff), cause := some cause, held := none }
      let told := s.cmp.waiters.map (fun p => Instr.waitCancelled p .compressor)
        ++ [.descentReport, .compressorStateReport]
      let sent := notice .compressorLockout 0 (u1 cause.num ++ optField 2 (temp.map i2))
      (s.refillBank = none → ∃ t, exec c s = .next t ∧ t.cmp = down
        ∧ t.mail = s.mail
            ++ (match s.outputHolder with
                | some p => [.filLost p .compressor (.lockout cause)]
                | none => [])
            ++ told
        ∧ t.rif = (sent (close .compressorDrive s)).rif
        ∧ t.bkm = s.bkm ∧ t.ret = s.ret ∧ t.fil = s.fil)
      ∧ ∀ b y, s.refillBank = some b → s.cmp.holder = none → (s.bank b).state = .claimedCmp →
        (s.bank b).session = some y → y.holder = .compressor → (s.bank b).waiters = [] →
        ∃ t, exec c s = .next t ∧ t.cmp = down
          ∧ t.mail = s.mail ++ [.filBankAnnouncement b, .cmpBankAnnouncement b] ++ told
          ∧ t.rif = (sent (close .compressorDrive (close (.bankValve b .compressor) s))).rif
          ∧ (t.bank b).state = .available ∧ (t.bank b).session = none
    (s.cmp.state ≠ .lockout → locks .cmpIsolate .signal none ∧ locks .cmpTrip .trip none)
    ∧ (s.cmp.state = .priming → s.cmp.primeTimer ≠ none → locks .primeTimerExpiry .prime none)
    ∧ (∀ x : SigRec, s.cmp.state = .priming ∨ s.cmp.state = .unloaded ∨ s.cmp.state = .loaded →
        s.cmpRow.dischargeMax < x.value →
        locks (.cmpSignalArrival .dischargeTemp (.value x)) .overheat (some x.value))
    ∧ (∀ x : SigRec, s.cmp.state = .unloaded ∨ s.cmp.state = .loaded → x.level = false →
        locks (.cmpSignalArrival .compressorRunning (.transition x)) .feedback none)
    ∧ (s.cmp.state = .lockout → exec .cmpIsolate s = .next s ∧ exec .cmpTrip s = .next s)
    ∧ (s.cmp.state ≠ .priming ∨ s.cmp.primeTimer = none → exec .primeTimerExpiry s = .next s))
  ∧ (∀ (rq : Req) (s : State), s.smc.inReset = false →
    let fault := s.usable .suctionPressure = false ∨ s.usable .dischargeTemp = false
      ∨ s.usable .compressorRunning = false
      ∨ (s.mapped .dischargePressure = true ∧ s.usable .dischargePressure = false)
      ∨ (s.record .suctionPressure).region ≠ .inside ∨ (s.record .dischargePressure).region ≠ .inside
      ∨ (s.record .dischargeTemp).region ≠ .inside
      ∨ (s.cmpRow.dischargeMax : Int) < s.value .dischargeTemp
      ∨ s.level .compressorRunning = true
    (s.cmp.state ≠ .lockout ∨ s.latched = true ∨ fault →
      exec (.lockoutClear rq) s = .next (reply rq 40 .state [] s))
    ∧ (s.cmp.state = .lockout → s.latched = false → ¬ fault → s.cmp.offTimer ≠ none →
      exec (.lockoutClear rq) s = .next (reply rq 40 .ok []
        (postAll [.descentReport, .compressorStateReport]
          (updCmp (fun k => { k with state := .cooldown, cause := none }) s))))
    ∧ (s.cmp.state = .lockout → s.latched = false → ¬ fault → s.cmp.offTimer = none →
      s.cmp.waiters = [] → s.refillWanted = false →
      exec (.lockoutClear rq) s = .next (reply rq 40 .ok []
        (postAll [.descentReport, .compressorStateReport] (updCmp (fun k =>
          { k with state := .stopped, cause := none, refillWant := false, held := none }) s)))))

/-! ## Precooling -/

/-- R79, R81, R82: the reserve after a second's step, and after an increment at a position that
precools, by the temperature of its source: BANK-TEMP of the bank, DISCHARGE-TEMP for the compressor,
else AMBIENT-TEMP, else +50.0 °C: clamped to 0 to the capacity, never below 0; in PULLDOWN a reserve at
the ready-on figure makes the chiller READY, and in READY one below the ready-off figure takes it back
to PULLDOWN. An increment at a position with no demand consumes no cold. R84: a reserve step and a
consumption with a request pending do what they do with none, and then answer it: ADMIT when the
conditions are met by then, and otherwise it stays pending. -/
def Obligations.ColdReserve : Prop :=
  (∀ s : State, s.smc.inReset = false → (∀ p, s.pcl.pending.get p = none) →
    let r := s.chillerRow
    let ambient : Int := if s.usable .ambientTemp = true then s.value .ambientTemp else 500
    let temp (p : Pos) : Int :=
      match s.pcl.source.get p with
      | some (.bank b) => if s.usable (.bankTemp b) = true then s.value (.bankTemp b) else ambient
      | some .compressor => if s.usable .dischargeTemp = true then s.value .dischargeTemp else ambient
      | none => ambient
    let settled (n : Nat) : State := updPcl (fun k =>
      if k.state = .pulldown ∧ r.readyOn ≤ n then
        { k with
          reserve := n, state := .ready, stabilised := r.stabilise == 0
          stabTimer := if r.stabilise = 0 then none else some (10 * r.stabilise) }
      else if k.state = .ready ∧ n < r.readyOff then
        { k with reserve := n, state := .pulldown, stabilised := false, stabTimer := none }
      else { k with reserve := n }) s
    (r.fitted = false → exec .reserveStep s = .next s)
    ∧ (r.fitted = true → exec .reserveStep s = .next (settled (max 0 (min (r.capacity : Int)
        (s.pcl.reserve + (if s.pcl.state = .pulldown ∨ s.pcl.state = .ready then r.recovery else 0)
          - r.loss))).toNat))
    ∧ (∀ p mg a c x, s.pcl.demand.get p = some c → s.categoryRow c = some x →
      exec (.coldConsumption p ⟨mg, a⟩) s = .next (settled (s.pcl.reserve - mg * r.cp
        * ((clampInt (-600) 1000 (temp p) + 2732).toNat - (x.target + 2732).toNat) / 100000)))
    ∧ (∀ p mg a, s.pcl.demand.get p = none → exec (.coldConsumption p ⟨mg, a⟩) s = .next s))
  ∧ (∀ (p : Pos) (c : Category) (x : CategoryRow) (s : State), s.smc.inReset = false →
    s.categoryRow c = some x → s.pcl.pending.get p = some c → (∀ q, q ≠ p → s.pcl.pending.get q = none) →
    let free : State := { s with pcl := { s.pcl with pending := .all none } }
    let answers (i : Instr) : Prop := ∃ t, exec i free = .next t
      ∧ (s.chillerRow.fitted = true → t.pcl.state = .ready → t.pcl.stabilised = true →
          x.threshold ≤ t.pcl.reserve → s.latched = false →
          s.mapped .chillerFault = false ∨ s.usable .chillerFault = true →
          exec i s = .next (post (.admitted p c) t))
      ∧ (s.chillerRow.fitted = false ∨ t.pcl.state ≠ .ready ∨ t.pcl.stabilised = false
            ∨ t.pcl.reserve < x.threshold ∨ s.latched = true
            ∨ (s.mapped .chillerFault = true ∧ s.usable .chillerFault = false) →
          exec i s = .next { t with pcl := { t.pcl with pending := s.pcl.pending } })
    answers .reserveStep
      ∧ ∀ q mg a d y, s.pcl.demand.get q = some d → s.categoryRow d = some y →
        answers (.coldConsumption q ⟨mg, a⟩))

/-- R76, R77, R78, R82, R84, R85: the category of a fill at its authorisation gives the demand and drops
the source; a demand starts a parked chiller when none is in fault; the end of the fill, or a category
of C00, drops the demand, the pending request and the monitor, and a running chiller that is no longer
needed starts its park timer, or parks at once with a delay of 0; a source is held as reported. R84: an
admission is ADMIT with the chiller READY, stabilised and the threshold met, the latch clear and the
fault contact usable where it is mapped; C00 is always ADMIT; any other is pending until it is met or
cancelled (where the answer to a request taken as a command of its own goes: assumption log 8). R84: a
pending request is admitted when the chiller becomes able to meet it, once: the message goes to FIL and
the request is no longer pending. -/
def Obligations.AdmissionAndDemand : Prop :=
  (∀ (p : Pos) (s : State), s.smc.inReset = false → (∀ q, s.pcl.pending.get q = none) →
    let needed : Bool := !s.latched
      && (s.smc.mode == .run || Pos.all.any (fun q => q != p && (s.pcl.demand.get q).isSome))
    let dropped (f : Pcl → Pcl) := updPcl (fun k => f
      { k with
        demand := k.demand.set p none, pending := k.pending.set p none
        monitor := k.monitor.set p ⟨.idle, none, none, none⟩ })
    let delay := s.chillerRow.parkDelay
    (∀ c, c ≠ .c00 → s.chillerRow.fitted = true → s.latched = false → s.pcl.state = .parked →
      s.pcl.reserve < s.chillerRow.readyOn → (s.pcl.monitor.get p).phase = .idle →
      exec (.categoryReport p (some c) true) s = .next (updPcl (fun k =>
        { k with
          demand := k.demand.set p (some c), source := k.source.set p none, state := .pulldown
          stabilised := false, stabTimer := none }) (openFull .chillerDrive s)))
    ∧ (∀ c, c = none ∨ c = some .c00 →
      (s.chillerRow.fitted = false ∨ s.pcl.state = .fault ∨ (s.pcl.state = .parked ∧ needed = false) →
        exec (.categoryReport p c false) s = .next (dropped id s))
      ∧ (s.chillerRow.fitted = true → s.pcl.state = .pulldown ∨ s.pcl.state = .ready →
        (needed = true → exec (.categoryReport p c false) s =
          .next (dropped (fun k => { k with parkTimer := none }) s))
        ∧ (needed = false → s.pcl.parkTimer = none → 0 < delay → exec (.categoryReport p c false) s =
          .next (dropped (fun k => { k with parkTimer := some (10 * delay) }) s))
        ∧ (needed = false → s.pcl.parkTimer ≠ none → exec (.categoryReport p c false) s =
          .next (dropped id s))
        ∧ (needed = false → s.pcl.parkTimer = none → delay = 0 → exec (.categoryReport p c false) s =
          .next (dropped (fun k =>
            { k with state := .parked, stabilised := false, stabTimer := none, parkTimer := none })
            (close .chillerDrive s)))))
    ∧ ∀ x, exec (.sourceReport p x) s =
        .next (updPcl (fun k => { k with source := k.source.set p (some x) }) s))
  ∧ (∀ (p : Pos) (s : State), s.smc.inReset = false →
    let set (o : Option Category) := updPcl (fun k => { k with pending := k.pending.set p o }) s
    let may (x : CategoryRow) : Prop :=
      s.chillerRow.fitted = true ∧ s.pcl.state = .ready ∧ s.pcl.stabilised = true
        ∧ x.threshold ≤ s.pcl.reserve ∧ s.latched = false
        ∧ (s.mapped .chillerFault = true → s.usable .chillerFault = true)
    exec (.admissionRequest p .c00) s = .next (post (.admitted p .c00) (set none))
    ∧ (∀ c x, s.categoryRow c = some x → may x →
        exec (.admissionRequest p c) s = .next (post (.admitted p c) (set none)))
    ∧ (∀ c x, s.categoryRow c = some x → ¬ may x →
        exec (.admissionRequest p c) s = .next (set (some c)))
    ∧ exec (.admissionCancel p) s = .next (set none))
  ∧ (∀ (p : Pos) (c : Category) (x : CategoryRow) (s : State), s.smc.inReset = false →
    s.categoryRow c = some x → s.pcl.pending.get p = some c → (∀ q, q ≠ p → s.pcl.pending.get q = none) →
    s.chillerRow.fitted = true → s.pcl.state = .ready → s.pcl.stabTimer ≠ none →
    x.threshold ≤ s.pcl.reserve → s.latched = false → s.mapped .chillerFault = false →
    exec .stabilisationTimerExpiry s = .next (post (.admitted p c) (updPcl (fun k =>
      { k with stabilised := true, stabTimer := none, pending := k.pending.set p none }) s)))

/-- R85, R86, R87: the category monitor: SETTLING at entry into MAIN (ARMED with a settling time of 0),
ARMED at the settling timer's expiry, the excursion timer started by an outlet value above the bound and
stopped by one at or below it and by a record that is no longer usable, and a re-rate asked at its
expiry; IDLE on leaving MAIN (with no category: the model's choice, assumption log 41). -/
def Obligations.CategoryMonitor : Prop :=
  ∀ (p : Pos) (s : State), s.smc.inReset = false →
    let set (m : Monitor) := updPcl (fun k => { k with monitor := k.monitor.set p m }) s
    let m := s.pcl.monitor.get p
    (∀ c, s.pcl.demand.get p = some c → 0 < s.chillerRow.settle → exec (.mainEntryReport p) s =
      .next (set ⟨.settling, some c, some (10 * s.chillerRow.settle), none⟩))
    ∧ (∀ c, s.pcl.demand.get p = some c → s.chillerRow.settle = 0 → exec (.mainEntryReport p) s =
      .next (set ⟨.armed, some c, none, none⟩))
    ∧ exec (.mainLeaveReport p) s = .next (set ⟨.idle, none, none, none⟩)
    ∧ (m.phase = .settling → m.settle ≠ none → exec (.settleTimerExpiry p) s =
      .next (set { m with phase := .armed, settle := none, excursion := none }))
    ∧ (m.settle = none → exec (.settleTimerExpiry p) s = .next s)
    ∧ (∀ (r : SigRec) c x, m.phase = .armed → m.category = some c → s.categoryRow c = some x →
      (x.bound < r.value → m.excursion = none → exec (.outletTempArrival p (.value r)) s =
        .next (set { m with excursion := some (10 * s.chillerRow.excursion) }))
      ∧ (x.bound < r.value → m.excursion ≠ none → exec (.outletTempArrival p (.value r)) s = .next s)
      ∧ (r.value ≤ x.bound → exec (.outletTempArrival p (.value r)) s =
        .next (set { m with excursion := none })))
    ∧ (∀ r : SigRec, m.phase ≠ .armed → exec (.outletTempArrival p (.value r)) s = .next s)
    ∧ (∀ r : SigRec, r.quality.usable = false → exec (.outletTempArrival p (.quality r)) s =
      .next (set { m with excursion := none }))
    ∧ (∀ r : SigRec, r.quality.usable = true → exec (.outletTempArrival p (.quality r)) s = .next s)
    ∧ (∀ c n, m.phase = .armed → m.category = some c → m.excursion = some n →
      exec (.excursionTimerExpiry p) s = .next (post (.reRateRequest p c (s.value (.outletTemp p)))
        (set { m with phase := .asked, excursion := none })))
    ∧ (m.excursion = none → exec (.excursionTimerExpiry p) s = .next s)

/-- R78, R79, R80, R84, R88: the chiller's timers, its fault contact by the record delivered, ISOLATE
and the trip. -/
def Obligations.ChillerEvents : Prop :=
  ∀ s : State, s.smc.inReset = false → (∀ q, s.pcl.pending.get q = none) →
    let fault (n : Nat) (c : ChillerCause) := notice .chillerFault 0 (u1 n ++ u4 s.pcl.reserve)
      (updPcl (fun k =>
        { k with
          state := .fault, cause := some c, stabilised := false, stabTimer := none
          parkTimer := none }) (close .chillerDrive s))
    let parked (t : State) := updPcl (fun k =>
      { k with state := .parked, stabilised := false, stabTimer := none, parkTimer := none }) t
    let up := s.pcl.state = .pulldown ∨ s.pcl.state = .ready
    (s.pcl.stabTimer ≠ none → exec .stabilisationTimerExpiry s =
      .next (updPcl (fun k => { k with stabilised := true, stabTimer := none }) s))
    ∧ (s.pcl.stabTimer = none → exec .stabilisationTimerExpiry s = .next s)
    ∧ (s.pcl.parkTimer ≠ none → exec .parkTimerExpiry s = .next (parked (close .chillerDrive s)))
    ∧ (s.pcl.parkTimer = none → exec .parkTimerExpiry s = .next s)
    ∧ (s.chillerRow.fitted = true → s.pcl.state ≠ .fault → exec .chillerIsolate s = .next (fault 1 .signal))
    ∧ (s.chillerRow.fitted = false ∨ s.pcl.state = .fault → exec .chillerIsolate s = .next s)
    ∧ (∀ a : Arrival, let x := a.record
      (x.quality.usable = true → x.level = true → s.chillerRow.fitted = true → s.pcl.state ≠ .fault →
        exec (.chillerFaultDelivery a) s = .next (fault 0 .level))
      ∧ (x.quality.usable = true → x.level = true → s.chillerRow.fitted = false ∨ s.pcl.state = .fault →
        exec (.chillerFaultDelivery a) s = .next s)
      ∧ (x.quality.usable = true → x.level = false → s.pcl.state = .fault → s.chillerRow.fitted = true →
        s.smc.mode ≠ .run → (∀ p, s.pcl.demand.get p = none) →
        exec (.chillerFaultDelivery a) s = .next (updPcl (fun k =>
          { k with state := .parked, cause := none, stabilised := false, stabTimer := none }) s))
      ∧ (x.quality.usable = false ∨ (x.level = false ∧ s.pcl.state ≠ .fault) →
        exec (.chillerFaultDelivery a) s = .next s))
    ∧ (up → exec .pclTrip s = .next (parked s))
    ∧ (¬ up → exec .pclTrip s = .next s)

/-! ## Fuelling positions -/

/-- R110, R112, R130: the holster and the coupling outside a running fill: IDLE and LIFTED follow the
nozzle; a nozzle put back in AUTHORISED cancels the fill, with BIL and PCL told and the generation
released; one put back in HANG-UP frees the position. R113, R114, R116: coupling in AUTHORISED enters
PULSE: with no signal lost and the one bank of the draw sequence free, the bank is drawn from, the
dispense valve opens, the control valve goes to 100 and the fill and pulse timers start; with a signal
lost under HOLD the position pauses first. -/
def Obligations.FillStarts : Prop :=
  (∀ (p : Pos) (x : SigRec) (s : State), s.smc.inReset = false →
    let moved (st : PState) (t : State) :=
      { updCtx p (fun c => { c with state := st }) t with
        bankWaitOrder := t.bankWaitOrder.filter (fun q => q != p) }
    let home : PState := if s.available p then .idle else .closed
    (x.level = false → (s.ctx p).state = .idle →
        exec (.filHolsterTransition p x) s = .next (moved .lifted s))
    ∧ (x.level = true → (s.ctx p).state = .lifted →
        exec (.filHolsterTransition p x) s = .next (moved .idle s))
    ∧ (∀ f, x.level = true → (s.ctx p).state = .authorised → (s.ctx p).fill = some f →
        exec (.filHolsterTransition p x) s = .next
          (post .descentReport (moved home (updCtx p (fun c => { c with fill := none })
            (updMeter p (fun m => { m with isOpen := false })
              (releaseGen (s.posRow p).pclass f.gen
                (postAll [.cancelled p, .categoryReport p none false] s)))))))
    ∧ (x.level = true → (s.ctx p).state = .hangUp → (s.ctx p).faultMark = false →
        exec (.filHolsterTransition p x) s = .next (moved home s))
    ∧ ((s.ctx p).state = .closed → exec (.filHolsterTransition p x) s = .next s)
    ∧ ((s.ctx p).state = .idle ∨ (s.ctx p).state = .lifted →
        exec (.filCoupledTransition p x) s = .next s))
  ∧ (∀ (p : Pos) (x : SigRec) (s : State), s.smc.inReset = false → (s.ctx p).state = .authorised →
    x.level = true →
    (∀ b, s.onlyBank p b → (withRecord (.coupled p) x s).signalLost p = false →
      ∃ t, exec (.filCoupledTransition p x) s = .next t
        ∧ (t.ctx p).state = .pulse ∧ (t.ctx p).source = some (.bank b)
        ∧ (t.ctx p).opening = 100 ∧ (t.ctx p).halt = false ∧ (t.ctx p).signal = false
        ∧ (t.ctx p).link = (if (s.posRow p).vehicleComm ∧ s.mapped (.vehicle p) then .pending else .none)
        ∧ (t.ctx p).timers.fill = some (10 * (s.params p).maxFillTime)
        ∧ (t.ctx p).timers.pulse = some (10 * (s.params p).pulseTime)
        ∧ (t.bank b).state = .claimedPos p
        ∧ t.mail = s.mail ++ [.sourceReport p (.bank b)]
        ∧ t.rif = (actuate (.controlValve p) .set 100 (actuate (.dispenseValve p) .open 1000
            (actuate (.bankValve b (.pos p)) .open 1000 s))).rif
        ∧ (∀ q, q ≠ p → t.ctx q = s.ctx q) ∧ t.ret = s.ret ∧ t.mtr = s.mtr)
    ∧ ((withRecord (.coupled p) x s).signalLost p = true → (s.ctx p).halt = false →
      (s.ctx p).signal = false →
      ∃ t, exec (.filCoupledTransition p x) s = .next t
        ∧ (t.ctx p).state = .paused ∧ (t.ctx p).resume = .pulse ∧ (t.ctx p).signal = true
        ∧ (t.ctx p).timers.fill = some (10 * (s.params p).maxFillTime)
        ∧ (t.ctx p).timers.pause = some (10 * (s.params p).pauseLimit)
        ∧ (∀ q, q ≠ p → t.ctx q = s.ctx q) ∧ t.mail = s.mail ∧ t.bkm = s.bkm ∧ t.rif = s.rif))

/-- R113, R115, R122, R127, R128: the timers that end a fill: TIME-LIMIT, BANKS-EXHAUSTED, and
SIGNAL-LOST or PAUSE-TIMEOUT by the causes present. A timer that is stopped has no expiry. R127, R128,
R131, R133, R139, R143, R145: the events that end a fill: the nozzle put back or uncoupled while running
(DISCONNECTED), POSITION-STOP (SUPERVISOR-STOP), the mass reaching the cap (MASS-CAP), and, with the
fault mark and its cause, ISOLATE (SIGNAL-LOST), the meter fault, flow in AUTHORISED (METER-FAULT) and a
nozzle pressure at the class ceiling (OVERPRESSURE). R128, R41, R64: the end of a fill that holds a
source. The bank that is drawn from has its valve commanded closed and is released, its outcome noted as
awaited; an output is released at the compressor, which stays UNLOADED when nobody waits and nothing is
to be filled; and the rest is as at an end without a source. -/
def Obligations.FillEnds : Prop :=
  (∀ (p : Pos) (s : State), s.smc.inReset = false →
    let shut := close (.controlValve p) (close (.dispenseValve p) s)
    let ends (c : Instr) (r : EndReason) : Prop := ∃ t, exec c s = .next t ∧ FillEnded p r s t
      ∧ t.rif = shut.rif ∧ (t.ctx p).faultMark = (s.ctx p).faultMark
      ∧ (t.ctx p).faultCause = (s.ctx p).faultCause
    ((s.ctx p).state.endable = true → s.sourceless p → (s.ctx p).timers.fill ≠ none →
        ends (.fillTimerExpiry p) .timeLimit)
    ∧ ((s.ctx p).state.endable = true → s.sourceless p → (s.ctx p).timers.bankWait ≠ none →
        ends (.bankWaitTimerExpiry p) .banksExhausted)
    ∧ ((s.ctx p).state.endable = true → s.sourceless p → (s.ctx p).timers.pause ≠ none →
        (s.ctx p).signal = true → ends (.pauseTimerExpiry p) .signalLost)
    ∧ ((s.ctx p).state.endable = true → s.sourceless p → (s.ctx p).timers.pause ≠ none →
        (s.ctx p).signal = false → ends (.pauseTimerExpiry p) .pauseTimeout)
    ∧ ((s.ctx p).timers.fill = none → exec (.fillTimerExpiry p) s = .next s)
    ∧ ((s.ctx p).timers.bankWait = none → exec (.bankWaitTimerExpiry p) s = .next s)
    ∧ ((s.ctx p).timers.pause = none → exec (.pauseTimerExpiry p) s = .next s))
  ∧ (∀ (p : Pos) (rq : Req) (x : SigRec) (s : State), s.smc.inReset = false →
    (s.ctx p).faultMark = false →
    s.sourceless p →
    let shut := close (.controlValve p) (close (.dispenseValve p) s)
    let ends (c : Instr) (r : EndReason) (f : Option FaultCause) (u : State) : Prop :=
      ∃ t, exec c s = .next t ∧ FillEnded p r s t ∧ t.rif = u.rif
        ∧ (t.ctx p).faultMark = f.isSome ∧ (f.isSome → (t.ctx p).faultCause = f)
    ((s.ctx p).state.running = true →
      (x.level = true → ends (.filHolsterTransition p x) .disconnected none shut)
      ∧ (x.level = false → ends (.filCoupledTransition p x) .disconnected none shut)
      ∧ (∀ f m a, (s.ctx p).fill = some f → f.cap * 1000 ≤ m →
          ends (.filMassReport p m a false) .massCap none shut))
    ∧ ((s.ctx p).state.endable = true →
      ends (.positionStop rq p.num) .supervisorStop none (reply rq 50 .ok [] shut)
      ∧ ends (.positionIsolate p) .signalLost (some .isolate) shut
      ∧ ends (.meterFaultReport p) .meterFault (some .meter) shut
      ∧ ((Config.ceiling (s.posRow p).pclass : Int) ≤ x.value →
          ends (.filNozzlePressure p x) .overpressure (some .ceiling) shut))
    ∧ ((s.ctx p).state = .authorised →
      ends (.unauthorisedFlowReport p) .meterFault (some .flow) shut))
  ∧ (∀ (p : Pos) (x : SigRec) (s : State), s.smc.inReset = false → 0 < (s.posRow p).afterRun →
    (s.ctx p).waitOn = none →
    let shut := close (.controlValve p) (close (.dispenseValve p) s)
    let told : List Instr := if (s.ctx p).fromMain then [.mainLeaveReport p] else []
    let ends (c : Instr) (r : EndReason) (f : Option FaultCause) (owed : List Bank) (mail : List Instr)
        (rif : Rif) (bkm : PerBank BankRec) (cmp : Cmp) : Prop :=
      ∃ t, exec c s = .next t
        ∧ t.ctx p = { s.endedCtx p r owed with
            faultMark := (s.ctx p).faultMark || f.isSome
            faultCause := if (s.ctx p).faultMark || f.isNone then (s.ctx p).faultCause else f }
        ∧ (∀ q, q ≠ p → t.ctx q = s.ctx q) ∧ t.mail = s.mail ++ mail ++ told ∧ t.rif = rif
        ∧ t.bkm = bkm ∧ t.cmp = cmp ∧ t.pcl = { s.pcl with pending := s.pcl.pending.set p none }
        ∧ t.ret = s.ret ∧ t.mtr = s.mtr ∧ t.bil = s.bil ∧ t.sig = s.sig ∧ t.tables = s.tables
    let all (owed : List Bank) (mail : List Instr) (rif : Rif) (bkm : PerBank BankRec) (cmp : Cmp) : Prop :=
      ((s.ctx p).state.endable = true → (s.ctx p).timers.fill ≠ none →
        ends (.fillTimerExpiry p) .timeLimit none owed mail rif bkm cmp)
      ∧ ((s.ctx p).state.endable = true →
        ends (.meterFaultReport p) .meterFault (some .meter) owed mail rif bkm cmp)
      ∧ ((s.ctx p).state.running = true → x.level = true →
        ends (.filHolsterTransition p x) .disconnected none owed mail rif bkm cmp)
      ∧ ((s.ctx p).state.running = true → x.level = false →
        ends (.filCoupledTransition p x) .disconnected none owed mail rif bkm cmp)
    (∀ b y, (s.ctx p).source = some (.bank b) → (s.bank b).state = .claimedPos p →
      (s.bank b).session = some y → y.holder = .pos p → y.openValid = false → (s.bank b).waiters = [] →
      all [b] [.sessionOutcome p b .unchecked, .filBankAnnouncement b, .cmpBankAnnouncement b]
        (close (.bankValve b (.pos p)) (close (.bankValve b (.pos p)) shut)).rif
        (s.bkm.set b { s.bank b with
          state := .available, session := none, last := some (.draw p .unchecked none) })
        s.cmp)
    ∧ ((s.ctx p).source = some .compressor → s.outputHolder = some p → s.cmp.state = .loaded →
      s.cmp.waiters = [] → s.refillCandidates = [] → s.runTimer < s.cmpRow.minRun →
      all [] [.descentReport, .compressorStateReport] shut.rif s.bkm
        { s.cmp with state := .unloaded, dest := none, holder := none, primeTimer := none }))

/-- R143, R145, R133, R144: the same events where they end no fill: a mass below the cap, only marking
an uncertain count; flow reported in a running state (a reading of the model's, assumption log 20);
POSITION-STOP with no fill to end. R131, R139, R145: a fault cause outside a fill: FAULT at once from
CLOSED, IDLE and LIFTED, with both valves commanded closed and NOTICE POSITION-FAULT; the mark alone in
ENDING, VENTING and HANG-UP, the first cause kept (a reading of the model's, assumption log 34); nothing
in FAULT. -/
def Obligations.OutsideAFill : Prop :=
  (∀ (p : Pos) (rq : Req) (s : State), s.smc.inReset = false →
    (∀ f m a, (s.ctx p).fill = some f → m < f.cap * 1000 →
      exec (.filMassReport p m a false) s = .next s)
    ∧ (∀ f m a, (s.ctx p).state.running = true → (s.ctx p).fill = some f → m < f.cap * 1000 →
      exec (.filMassReport p m a true) s =
        .next (updMeter p (fun k => { k with uncertain := true }) s))
    ∧ ((s.ctx p).state.running = true → exec (.unauthorisedFlowReport p) s = .next s)
    ∧ ((s.ctx p).state.endable = false →
      exec (.positionStop rq p.num) s = .next (reply rq 50 .state [] s))
    ∧ ∀ n, n = 0 ∨ 5 ≤ n → exec (.positionStop rq n) s = .next (reply rq 50 .range [] s))
  ∧ (∀ (p : Pos) (s : State), s.smc.inReset = false →
    let faults (c : Instr) (f : FaultCause) (n : Nat) : Prop :=
      ((s.ctx p).state = .closed ∨ (s.ctx p).state = .idle ∨ (s.ctx p).state = .lifted →
        exec c s = .next (notice .positionFault p.num (u1 n)
          { updCtx p (fun k => { k with state := .fault, faultCause := some f })
              (close (.controlValve p) (close (.dispenseValve p) s)) with
            bankWaitOrder := s.bankWaitOrder.filter (fun q => q != p) }))
      ∧ ((s.ctx p).state = .ending ∨ (s.ctx p).state = .venting ∨ (s.ctx p).state = .hangUp →
        exec c s = .next (updCtx p (fun k =>
          { k with
            faultMark := true
            faultCause := if k.faultMark then k.faultCause else some f }) s))
      ∧ ((s.ctx p).state = .fault → exec c s = .next s)
    faults (.positionIsolate p) .isolate 0 ∧ faults (.meterFaultReport p) .meter 1
      ∧ faults (.unauthorisedFlowReport p) .flow 2)

/-- R128, R129, R130, R131: the end of ENDING: the after-run timer expired and no outcome awaited,
whichever comes last: the expiry, the outcome awaited, or a LOST that names its bank. BIL gets the
summary with MTR's figures, PCL the end of the demand. The position vents with its vent timer when the
nozzle pressure is above the target; when it is not, or while the latch is set, the venting is over:
FAULT where the fault mark is set (in trip once the nozzle is back), and otherwise HANG-UP, which a
nozzle already back ends at once. While an outcome is awaited the expiry only stops the timer. The
summary carries a PENDING link as NONE (R124), and MTR's figures, whose grams keep the sum of the
milligrams (R148). R128: a session outcome is collected while a fill is in progress, clears a note of
its bank and sets the fill's mark; with no fill in progress it is dropped. R127, R130, R131: VENTING: a
nozzle pressure at or below the target closes the vent valve, and the position hangs up, which a nozzle
already back ends at once, or enters FAULT where the mark is set; above it, it goes on; a value at or
above the class ceiling sets the mark first, so that one which is also at the target gives FAULT (the
model's reading, assumption log 18); the vent timer's expiry is a VENT fault, code 4 (assumption log
13), with the vent valve left as it is. In HANG-UP with the mark set, the nozzle put back gives FAULT.
-/
def Obligations.EndingAndVenting : Prop :=
  (∀ (p : Pos) (s : State), s.smc.inReset = false → (s.ctx p).state = .ending →
    let vents : Prop := s.latched = false ∧ (s.posRow p).ventTarget < s.nozzle p
    let faults : Prop := (s.ctx p).faultMark = true ∧ (s.latched = false ∨ s.level (.holster p) = true)
    let cause : Nat := (((s.ctx p).faultCause).map FaultCause.num).getD 0
    let leaves (i : Instr) (sum : FillId → FillSummary) : Prop :=
      ∀ f, (s.ctx p).fill = some f → ∃ t, exec i s = .next t
        ∧ (t.ctx p).fill = none ∧ (t.ctx p).faultMark = (s.ctx p).faultMark
        ∧ (t.meter p) = { s.meter p with isOpen := false }
        ∧ (∀ q, q ≠ p → t.ctx q = s.ctx q) ∧ t.ret = s.ret ∧ t.bil = s.bil
        ∧ (let told := s.mail ++ [.categoryReport p none false, .fillSummary (sum f)]
          (vents → (t.ctx p).state = .venting ∧ t.mail = told
            ∧ t.rif = (actuate (.ventValve p) .open 1000 s).rif
            ∧ (t.ctx p).timers.vent = some (10 * (s.posRow p).ventLimit))
          ∧ (¬ vents → t.mail = told ++ [.descentReport]
            ∧ (faults → (t.ctx p).state = .fault ∧ t.rif = (notice .positionFault p.num (u1 cause)
                (close (.controlValve p) (close (.dispenseValve p) s))).rif)
            ∧ (¬ faults → t.rif = s.rif ∧ (t.ctx p).state = if s.level (.holster p) = false then .hangUp
                else if s.available p then .idle else .closed)))
    ((s.ctx p).awaited = [] → (s.ctx p).timers.afterRun ≠ none →
      leaves (.afterRunTimerExpiry p) (s.summary p))
    ∧ (∀ b o, (s.ctx p).awaited.erase b = [] → (s.ctx p).timers.afterRun = none →
      leaves (.sessionOutcome p b o) (fun f =>
        { s.summary p f with
          mismatch := (s.ctx p).mismatchMark || o == .mismatch
          unchecked := (s.ctx p).uncheckedMark || o == .unchecked }))
    ∧ (∀ b c, (s.ctx p).awaited.erase b = [] → (s.ctx p).timers.afterRun = none →
      (s.ctx p).source ≠ some (.bank b) → leaves (.filLost p (.bank b) c) (s.summary p))
    ∧ (∀ f, (s.summary p f).link = (if (s.ctx p).link = .pending then .none else (s.ctx p).link)
      ∧ (s.summary p f).reason = (s.ctx p).endReason ∧ (s.summary p f).endTime = (s.ctx p).endTime
      ∧ let m := (s.summary p f).masses
        m = ⟨(s.meter p).fill, (s.meter p).banks, (s.meter p).cmp, (s.meter p).unattr, (s.meter p).afterRun,
            (s.meter p).uncertain⟩
          ∧ (m.afterRun + m.unattr ≤ m.fill → m.fillG = m.drawnG + m.afterRunG + m.unattrG))
    ∧ ((s.ctx p).awaited ≠ [] → (s.ctx p).timers.afterRun ≠ none → exec (.afterRunTimerExpiry p) s =
      .next (updCtx p (fun c => { c with timers := { c.timers with afterRun := none } }) s)))
  ∧ (∀ (p : Pos) (b : Bank) (s : State), s.smc.inReset = false →
    ((s.ctx p).state.inProgress = true →
      (s.ctx p).state ≠ .ending ∨ (s.ctx p).timers.afterRun ≠ none ∨ (s.ctx p).awaited.erase b ≠ [] →
      exec (.sessionOutcome p b .balanced) s =
          .next (updCtx p (fun c =>
            { c with awaited := c.awaited.erase b, outcomes := c.outcomes ++ [(b, .balanced)] }) s)
        ∧ exec (.sessionOutcome p b .mismatch) s =
          .next (updCtx p (fun c =>
            { c with
              awaited := c.awaited.erase b, mismatchMark := true
              outcomes := c.outcomes ++ [(b, .mismatch)] }) s)
        ∧ exec (.sessionOutcome p b .unchecked) s =
          .next (updCtx p (fun c =>
            { c with
              awaited := c.awaited.erase b, uncheckedMark := true
              outcomes := c.outcomes ++ [(b, .unchecked)] }) s))
    ∧ ((s.ctx p).state.inProgress = false → ∀ o, exec (.sessionOutcome p b o) s = .next s))
  ∧ (∀ (p : Pos) (x : SigRec) (s : State), s.smc.inReset = false →
    let target : Int := (s.posRow p).ventTarget
    let ceiling : Int := Config.ceiling (s.posRow p).pclass
    let fault (n : Nat) (u : State) : State :=
      notice .positionFault p.num (u1 n) (close (.controlValve p) (close (.dispenseValve p) u))
    let faulted (n : Nat) (u t : State) : Prop :=
      (t.ctx p).state = .fault ∧ (t.ctx p).timers.vent = none
        ∧ t.mail = s.mail ++ [.descentReport] ∧ (∀ q, q ≠ p → t.ctx q = s.ctx q)
        ∧ t.rif = (fault n u).rif
    let held : Nat := (((s.ctx p).faultCause).map FaultCause.num).getD 0
    ((s.ctx p).state = .venting →
      (x.value ≤ target → x.value < ceiling → (s.ctx p).faultMark = false →
        exec (.filNozzlePressure p x) s = .next (post .descentReport
          { updCtx p (fun c =>
              { c with
                state := if s.level (.holster p) = false then .hangUp
                  else if s.available p then .idle else .closed
                timers := { c.timers with vent := none } }) (close (.ventValve p) s) with
            bankWaitOrder := s.bankWaitOrder.filter (fun q => q != p) }))
      ∧ (target < x.value → x.value < ceiling ∨ (s.ctx p).faultMark = true →
        exec (.filNozzlePressure p x) s = .next s)
      ∧ (target < x.value → ceiling ≤ x.value → (s.ctx p).faultMark = false →
        exec (.filNozzlePressure p x) s =
          .next (updCtx p (fun c => { c with faultMark := true, faultCause := some .ceiling }) s))
      ∧ (x.value ≤ target → ceiling ≤ x.value → (s.ctx p).faultMark = false →
        ∃ t, exec (.filNozzlePressure p x) s = .next t ∧ faulted 3 (close (.ventValve p) s) t
          ∧ (t.ctx p).faultCause = some .ceiling)
      ∧ (x.value ≤ target → (s.ctx p).faultMark = true →
        ∃ t, exec (.filNozzlePressure p x) s = .next t ∧ faulted held (close (.ventValve p) s) t
          ∧ (t.ctx p).faultCause = (s.ctx p).faultCause)
      ∧ ((s.ctx p).timers.vent ≠ none → ∃ t, exec (.ventTimerExpiry p) s = .next t ∧ faulted 4 s t
          ∧ (t.ctx p).faultCause = some .vent))
    ∧ ((s.ctx p).state = .hangUp → (s.ctx p).faultMark = true → x.level = true →
      ∃ t, exec (.filHolsterTransition p x) s = .next t ∧ (t.ctx p).state = .fault
        ∧ (t.ctx p).faultCause = (s.ctx p).faultCause ∧ t.rif = (fault held s).rif ∧ t.mail = s.mail
        ∧ (∀ q, q ≠ p → t.ctx q = s.ctx q)))

/-- R116, R117: the end of the pulse: the valves closed, the bank released and its outcome awaited, the
starting pressure held; below the minimum the fill ends START-PRESSURE, at the class cap
COMPLETE-PRESSURE, and otherwise the leak check starts from that pressure. R117, R118, R119, R100, R101,
R124: the end of the leak check: a fall above the limit ends the fill LEAK; otherwise a PENDING link
becomes NONE and the lookup gives the ramp rate and the end pressure; a rate of 0 ends it NOT-PERMITTED;
with C00, or a category that PCL admits, the position goes on to MAIN with the one bank that is free; a
category that PCL cannot take waits in PRECOOL-WAIT with its timer. -/
def Obligations.PulseAndLeakCheck : Prop :=
  (∀ (p : Pos) (b : Bank) (x : Session) (s : State), s.smc.inReset = false →
    (s.ctx p).state = .pulse → (s.ctx p).timers.pulse ≠ none → s.draws p b x →
    (s.ctx p).halt = false → (s.ctx p).signal = false → (s.ctx p).waitOn = none →
    0 < (s.posRow p).afterRun →
    ∃ t, exec (.pulseTimerExpiry p) s = .next t
      ∧ (t.ctx p).p0 = some (s.nozzle p) ∧ (t.ctx p).source = none ∧ (t.ctx p).opening = 0
      ∧ (t.ctx p).awaited = [b] ∧ (t.ctx p).timers.pulse = none
      ∧ (t.bank b).state = .available
      ∧ t.mail = s.mail ++ [.sessionOutcome p b .unchecked, .filBankAnnouncement b,
          .cmpBankAnnouncement b]
      ∧ (∀ q, q ≠ p → t.ctx q = s.ctx q)
      ∧ (s.nozzle p < (s.params p).minStart →
          (t.ctx p).state = .ending ∧ (t.ctx p).endReason = some .startPressure)
      ∧ ((s.params p).minStart ≤ s.nozzle p → Config.pEndCap (s.posRow p).pclass ≤ s.nozzle p →
          (t.ctx p).state = .ending ∧ (t.ctx p).endReason = some .completePressure)
      ∧ ((s.params p).minStart ≤ s.nozzle p → s.nozzle p < Config.pEndCap (s.posRow p).pclass →
          (t.ctx p).state = .leakCheck ∧ (t.ctx p).leakRef = s.nozzle p
            ∧ (t.ctx p).timers.leak = some (10 * (s.params p).leakTime)
            ∧ t.rif = (close (.bankValve b (.pos p)) (close (.controlValve p)
                (close (.dispenseValve p) s))).rif))
  ∧ (∀ (p : Pos) (s : State), s.smc.inReset = false → (s.ctx p).state = .leakCheck →
    (s.ctx p).timers.leak ≠ none → s.sourceless p → (s.ctx p).link = .none ∨ (s.ctx p).link = .pending →
    let k := s.latchedTable p
    let vol := (s.posRow p).volClass
    let amb := match s.usableValue .ambientTemp with
      | some v => bandOf k.ambEdges v
      | none => 5
    let band := bandOf k.p0Edges (((s.ctx p).p0).getD 0)
    let cell := k.cell vol (s.ctx p).category amb band
    let rate := min cell.aprr (s.rateCap (s.posRow p).pclass)
    let pEnd := min cell.pEnd k.params.nonCommCap
    let looked (t : State) : Prop := (t.ctx p).link = .none
      ∧ (t.ctx p).selection = some ⟨vol, false, amb, band, rate, pEnd⟩
      ∧ (t.ctx p).uncertainMark = ((s.ctx p).uncertainMark || s.quality .ambientTemp != .good)
    (s.nozzle p + k.params.leakLimit < (s.ctx p).leakRef →
      ∃ t, exec (.leakCheckTimerExpiry p) s = .next t ∧ FillEnded p .leak s t)
    ∧ ((s.ctx p).leakRef ≤ s.nozzle p + k.params.leakLimit → rate = 0 →
      ∃ t, exec (.leakCheckTimerExpiry p) s = .next t ∧ (t.ctx p).state = .ending
        ∧ (t.ctx p).endReason = some .notPermitted ∧ looked t)
    ∧ (∀ b, (s.ctx p).leakRef ≤ s.nozzle p + k.params.leakLimit → 0 < rate →
      (s.ctx p).category = .c00 ∨ s.admissible (s.ctx p).category = true → (s.ctx p).halt = false →
      (s.ctx p).signal = false → (s.ctx p).reAnchor = true → s.onlyBank p b →
      ∃ t, exec (.leakCheckTimerExpiry p) s = .next t ∧ (t.ctx p).state = .main ∧ looked t
        ∧ (t.ctx p).source = some (.bank b) ∧ (t.ctx p).anchor = s.nozzle p ∧ (t.ctx p).tau = 0
        ∧ (t.bank b).state = .claimedPos p
        ∧ t.mail = s.mail ++ [.sourceReport p (.bank b), .mainEntryReport p]
        ∧ (∀ q, q ≠ p → t.ctx q = s.ctx q))
    ∧ ((s.ctx p).leakRef ≤ s.nozzle p + k.params.leakLimit → 0 < rate →
      (s.ctx p).category ≠ .c00 → s.admissible (s.ctx p).category = false → 0 < k.params.precoolWait →
      ∃ t, exec (.leakCheckTimerExpiry p) s = .next t ∧ (t.ctx p).state = .precoolWait ∧ looked t
        ∧ (t.ctx p).timers.precool = some (10 * k.params.precoolWait)
        ∧ t.pcl = { s.pcl with pending := s.pcl.pending.set p (some (s.ctx p).category) }
        ∧ t.mail = s.mail ∧ t.rif = s.rif ∧ (∀ q, q ≠ p → t.ctx q = s.ctx q)))

/-- R118, R102: the expiry of the precool wait: without a fallback the fill ends PRECOOL-UNAVAILABLE;
with one that has not been used, the fallback's category and values are taken, PCL is told, and a
fallback that PCL cannot take either waits again, once. R118, R119: ADMIT for the category waited for in
PRECOOL-WAIT goes on to MAIN, drawing from the one bank that is free with the ramp anchored at the
nozzle pressure; any other is ignored. R103, R104: a request to re-rate: ignored out of MAIN or for
another category; with automatic re-rate clear the fill ends PRECOOL-LOST; otherwise the categories
warmer than the present one are gone through, from the coldest whose bound meets the outlet value (C00
has none) up to C00, and the first whose rate is not 0 is taken, with its values, the ramp anchored
afresh, PCL told and NOTICE RE-RATED; a nozzle pressure at its end pressure ends the fill
COMPLETE-PRESSURE; with none found it ends PRECOOL-LOST. -/
def Obligations.PrecoolAndReRate : Prop :=
  (∀ (p : Pos) (s : State), s.smc.inReset = false → (s.ctx p).state = .precoolWait →
    (s.ctx p).timers.precool ≠ none → s.sourceless p → (s.ctx p).category ≠ .c00 →
    ((s.posRow p).fallback = none ∨ (s.ctx p).fellBack = true →
      ∃ t, exec (.precoolWaitTimerExpiry p) s = .next t ∧ FillEnded p .precoolUnavailable s t)
    ∧ ∀ c x y, (s.posRow p).fallback = some c → (s.ctx p).fellBack = false →
      (s.ctx p).selection = some x → y = s.lookupAt p x c → c ≠ .c00 →
      (y.aprr = 0 → ∃ t, exec (.precoolWaitTimerExpiry p) s = .next t
        ∧ FillEnded p .notPermitted s t)
      ∧ (0 < y.aprr → s.admissible c = false → (s.ctx p).halt = false → s.signalLost p = false →
        0 < (s.params p).precoolWait →
        ∃ t, exec (.precoolWaitTimerExpiry p) s = .next t ∧ (t.ctx p).state = .precoolWait
          ∧ (t.ctx p).category = c ∧ (t.ctx p).selection = some y ∧ (t.ctx p).fellBack = true
          ∧ (t.ctx p).timers.precool = some (10 * (s.params p).precoolWait)
          ∧ t.pcl.pending.get p = some c
          ∧ t.mail = s.mail ++ [.categoryReport p (some c) false] ∧ t.rif = s.rif))
  ∧ (∀ (p : Pos) (c : Category) (s : State), s.smc.inReset = false →
    ((s.ctx p).state ≠ .precoolWait ∨ (s.ctx p).category ≠ c →
      exec (.admitted p c) s = .next s)
    ∧ (∀ b, (s.ctx p).state = .precoolWait → (s.ctx p).category = c → (s.ctx p).halt = false →
      (s.ctx p).signal = false → (s.ctx p).reAnchor = true → s.onlyBank p b →
      ∃ t, exec (.admitted p c) s = .next t
        ∧ t.ctx p = { s.ctx p with
            state := .main, source := some (.bank b), waitOn := none, anchor := s.nozzle p, tau := 0
            reAnchor := false
            timers := { (s.ctx p).timers with precool := none, bankWait := none } }
        ∧ (t.bank b).state = .claimedPos p
        ∧ t.mail = s.mail ++ [.sourceReport p (.bank b), .mainEntryReport p]
        ∧ t.rif = (actuate (.controlValve p) .set (s.ctx p).opening
            (actuate (.dispenseValve p) .open 1000
              (actuate (.bankValve b (.pos p)) .open 1000 s))).rif
        ∧ (∀ q, q ≠ p → t.ctx q = s.ctx q)))
  ∧ (∀ (p : Pos) (c : Category) (v : Int) (s : State), s.smc.inReset = false →
    let t4 := s.tables.precool.active
    let exceeds (k : Category) : Bool := match k with
      | .c40 => decide (t4.c40.bound < v)
      | .c30 => decide (t4.c30.bound < v)
      | .c20 => decide (t4.c20.bound < v)
      | .c00 => false
    let warmer : List Category := match c with
      | .c40 => [.c30, .c20, .c00]
      | .c30 => [.c20, .c00]
      | .c20 => [.c00]
      | .c00 => []
    let rank (k : Category) : Nat := match k with
      | .c40 => 0
      | .c30 => 1
      | .c20 => 2
      | .c00 => 3
    ((s.ctx p).state ≠ .main ∨ (s.ctx p).category ≠ c → exec (.reRateRequest p c v) s = .next s)
    ∧ ((s.ctx p).state = .main → (s.ctx p).category = c → (s.posRow p).autoReRate = false →
      s.sourceless p →
      ∃ t, exec (.reRateRequest p c v) s = .next t ∧ FillEnded p .precoolLost s t)
    ∧ ∀ x, (s.ctx p).state = .main → (s.ctx p).category = c → (s.posRow p).autoReRate = true →
      (s.ctx p).selection = some x →
      let found := (warmer.dropWhile exceeds).filter (fun k => (s.lookupAt p x k).aprr != 0)
      (found = [] → s.sourceless p →
        ∃ t, exec (.reRateRequest p c v) s = .next t ∧ FillEnded p .precoolLost s t)
      ∧ ∀ k ks y, found = k :: ks → y = s.lookupAt p x k →
        let sent := (notice .reRated p.num
          (u1 (rank c) ++ u1 (rank k) ++ i2 v ++ u2 y.aprr ++ u2 y.pEnd) s).rif
        (s.nozzle p < y.pEnd → (s.ctx p).halt = false → s.signalLost p = false →
          ∃ t, exec (.reRateRequest p c v) s = .next t
            ∧ t.ctx p = { s.ctx p with
                category := k, reRates := (s.ctx p).reRates + 1, selection := some y
                anchor := s.nozzle p, tau := 0, reAnchor := false, signal := false
                timers := { (s.ctx p).timers with pause := none } }
            ∧ t.mail = s.mail ++ [.categoryReport p (some k) false] ∧ t.rif = sent
            ∧ (∀ q, q ≠ p → t.ctx q = s.ctx q))
        ∧ (y.pEnd ≤ s.nozzle p → s.sourceless p →
          ∃ t, exec (.reRateRequest p c v) s = .next t ∧ (t.ctx p).state = .ending
            ∧ (t.ctx p).endReason = some .completePressure ∧ (t.ctx p).category = k
            ∧ (t.ctx p).reRates = (s.ctx p).reRates + 1
            ∧ t.mail = s.mail ++ [.categoryReport p (some k) false, .mainLeaveReport p]))

/-- R126, R127, R31, R17: a VEHDATA arrival in a running state, by the record delivered: the link, the
state of charge, the fill command, and then the ends: a tank temperature at the limit OVERTEMP, an ABORT
VEHICLE-STOP, a state of charge at the limit on an established link COMPLETE-SOC. With no end met the
command's HALT pauses the stage in progress (its order after the ends is the model's reading, assumption
log 19). Out of a running state nothing is done. R124, R125, R126, R31: the vehicle link, at a VEHDATA
whose fill command is RUN, in any running state but PAUSED: the second consistent arrival in a row
establishes a pending link with its timeout; an inconsistent one starts the count again, and drops an
established link with NOTICE LINK-DROPPED and the end pressure lowered to the non-communicating cap; so
do the expiries of the vehicle and the mismatch timers. A drop that leaves the nozzle pressure at the
end pressure ends the fill COMPLETE-PRESSURE. The latest SOC is computed in every link state. R125: the
mismatch timer while the link is ESTABLISHED, judged at a VEHDATA and at a nozzle pressure from the tank
and the nozzle pressure then held: a difference above the tolerance starts it when it is stopped, and
one at or below the tolerance stops it. With the link not ESTABLISHED a nozzle pressure judges nothing.
R126, R123: the fill command RUN in PAUSED removes HALT: with no signal lost the position resumes its
stage, MAIN with its source and its ramp anchored afresh, the leak check from a new reference, or the
pulse by a walk, here with one bank to draw from; with a signal still lost it stays PAUSED and its pause
timer runs on. -/
def Obligations.VehicleData : Prop :=
  (∀ (p : Pos) (x : SigRec) (s : State), s.smc.inReset = false →
    let f := x.vehicle
    let limit := (s.params p).tankTempMax
    let kind := (s.posRow p).pclass
    let ordered : State := updCtx p (fun c =>
      { c with
        signal := s.signalLost p
        halt := if f.command = some .halt then true else if f.command = some .run then false else c.halt }) s
    let ends (r : EndReason) : Prop := ∃ t, exec (.filVehdata p x) s = .next t ∧ FillEnded p r ordered t
      ∧ t.rif = (close (.controlValve p) (close (.dispenseValve p) s)).rif
      ∧ (t.ctx p).faultMark = (s.ctx p).faultMark ∧ (t.ctx p).faultCause = (s.ctx p).faultCause
    ((s.ctx p).state.running = false → exec (.filVehdata p x) s = .next s)
    ∧ (∀ v : Int, (s.ctx p).state.running = true → s.sourceless p → (s.ctx p).link = .none →
      f.temp = some v → limit ≤ v → ends .overtemp)
    ∧ ((s.ctx p).state.running = true → s.sourceless p → (s.ctx p).link = .none →
      (∀ u : Int, f.temp = some u → u < limit) → f.command = some .abort → ends .vehicleStop)
    ∧ (∀ pr te : Int, (s.ctx p).state.running = true → s.sourceless p → (s.ctx p).link = .established →
      f.volume.isSome → f.pclass = some kind → f.pressure = some pr → f.temp = some te → te < limit →
      f.command ≠ some .abort → (s.params p).socLimit ≤ stateOfCharge s.bq kind pr te → ends .completeSoc)
    ∧ (∀ pr te : Int, (s.ctx p).state = .leakCheck → (s.ctx p).link = .none → (s.ctx p).halt = false →
      (s.ctx p).signal = false → s.signalLost p = false → f.pressure = some pr → f.temp = some te →
      te < limit → f.command = some .halt →
      ∃ t, exec (.filVehdata p x) s = .next t ∧ (t.ctx p).state = .paused
        ∧ (t.ctx p).resume = .leakCheck ∧ (t.ctx p).halt = true
        ∧ (t.ctx p).soc = some (stateOfCharge s.bq kind pr te)
        ∧ (t.ctx p).timers.pause = some (10 * (s.params p).pauseLimit)
        ∧ (t.ctx p).timers.leak = none ∧ t.mail = s.mail ∧ t.rif = s.rif))
  ∧ (∀ (p : Pos) (x : SigRec) (s : State), s.smc.inReset = false →
    let f := x.vehicle
    let kind := (s.posRow p).pclass
    let good : Bool := f.volume.isSome && f.pressure.isSome && f.temp.isSome && f.pclass == some kind
    let hot : Bool := f.temp.any (fun te => decide (((s.params p).tankTempMax : Int) ≤ te))
    let charge : Option Nat := f.pressure.bind (fun pr => f.temp.map (fun te =>
      stateOfCharge s.bq kind pr te))
    let loose (c : Ctx) : Ctx := { c with
      link := .dropped
      selection := c.selection.map (fun y => { y with pEnd := min y.pEnd (s.params p).nonCommCap })
      timers := { c.timers with vehicle := none, mismatch := none } }
    let dropped (cause : Nat) := notice .linkDropped p.num (u1 cause) (updCtx p loose s)
    let limit : Nat := match (s.ctx p).selection with
      | some y => min y.pEnd (s.params p).nonCommCap
      | none => (s.params p).nonCommCap
    let quiet : Prop := (s.ctx p).state.running = true ∧ (s.ctx p).state ≠ .paused
      ∧ (s.ctx p).halt = false ∧ (s.ctx p).signal = false ∧ s.signalLost p = false
      ∧ f.command = some .run ∧ hot = false
    (quiet → (s.ctx p).link = .pending → good = false →
      ∃ t, exec (.filVehdata p x) s = .next t ∧ t.mail = s.mail ∧ t.rif = s.rif
        ∧ t.ctx p = { s.ctx p with
            consistent := 0, soc := charge, timers := { (s.ctx p).timers with pause := none } })
    ∧ (quiet → (s.ctx p).link = .pending → (s.ctx p).consistent = 0 → good = true →
      ∃ t, exec (.filVehdata p x) s = .next t ∧ t.mail = s.mail ∧ t.rif = s.rif
        ∧ t.ctx p = { s.ctx p with
            consistent := 1, soc := charge, timers := { (s.ctx p).timers with pause := none } })
    ∧ (quiet → (s.ctx p).link = .pending → (s.ctx p).consistent = 1 → good = true →
      charge.any (fun n => decide ((s.params p).socLimit ≤ n)) = false →
      ∃ t, exec (.filVehdata p x) s = .next t ∧ (t.ctx p).link = .established
        ∧ (t.ctx p).timers.vehicle = some (s.params p).vehTimeout ∧ (t.ctx p).state = (s.ctx p).state
        ∧ (t.ctx p).soc = charge ∧ t.mail = s.mail ∧ t.rif = s.rif)
    ∧ (quiet → (s.ctx p).link = .established → good = false → s.nozzle p < limit →
      ∃ t, exec (.filVehdata p x) s = .next t
        ∧ t.ctx p = { loose (s.ctx p) with
            soc := charge, timers := { (loose (s.ctx p)).timers with pause := none } }
        ∧ t.rif = (notice .linkDropped p.num (u1 0) s).rif ∧ t.mail = s.mail
        ∧ (∀ q, q ≠ p → t.ctx q = s.ctx q))
    ∧ (quiet → s.sourceless p → (s.ctx p).link = .established → good = false → limit ≤ s.nozzle p →
      ∃ t, exec (.filVehdata p x) s = .next t ∧ FillEnded p .completePressure (updCtx p loose s) t)
    ∧ (quiet → (s.ctx p).link = .none ∨ (s.ctx p).link = .dropped →
      exec (.filVehdata p x) s = .next (updCtx p (fun c =>
        { c with soc := charge, timers := { c.timers with pause := none } }) s))
    ∧ ((s.ctx p).timers.vehicle ≠ none → s.nozzle p < limit →
      exec (.vehicleTimerExpiry p) s = .next (dropped 1))
    ∧ ((s.ctx p).timers.mismatch ≠ none → s.nozzle p < limit →
      exec (.mismatchTimerExpiry p) s = .next (dropped 2))
    ∧ ((s.ctx p).state.endable = true → s.sourceless p → limit ≤ s.nozzle p →
      ((s.ctx p).timers.vehicle ≠ none → ∃ t, exec (.vehicleTimerExpiry p) s = .next t
        ∧ FillEnded p .completePressure (updCtx p loose s) t)
      ∧ ((s.ctx p).timers.mismatch ≠ none → ∃ t, exec (.mismatchTimerExpiry p) s = .next t
        ∧ FillEnded p .completePressure (updCtx p loose s) t))
    ∧ ((s.ctx p).timers.vehicle = none → exec (.vehicleTimerExpiry p) s = .next s)
    ∧ ((s.ctx p).timers.mismatch = none → exec (.mismatchTimerExpiry p) s = .next s))
  ∧ (∀ (p : Pos) (x : SigRec) (tank : Int) (s : State), s.smc.inReset = false →
    let f := x.vehicle
    let k := s.params p
    let timer (tank nozzle : Int) : Option Nat :=
      if (tank - nozzle).natAbs ≤ k.mismatchTol then none
      else if (s.ctx p).timers.mismatch = none then some (10 * k.mismatchTime)
      else (s.ctx p).timers.mismatch
    let below : Prop := x.value < Config.ceiling (s.posRow p).pclass
    ((s.ctx p).state.running = true → (s.ctx p).state ≠ .main → (s.ctx p).link = .established →
      (s.record (.vehicle p)).vehicle.pressure = some tank → below →
      exec (.filNozzlePressure p x) s =
        .next (updTimers p (fun t => { t with mismatch := timer tank x.value }) s))
    ∧ (∀ y, (s.ctx p).state = .main → (s.ctx p).source = some .compressor → (s.ctx p).selection = some y →
      (s.ctx p).link = .established → (s.record (.vehicle p)).vehicle.pressure = some tank → below →
      x.value < y.pEnd →
      x.value ≤ Machine.rampTarget (s.ctx p).anchor y.aprr (s.ctx p).tau y.pEnd + k.abortBand →
      ∃ t, exec (.filNozzlePressure p x) s = .next t
        ∧ (t.ctx p).timers = { (s.ctx p).timers with mismatch := timer tank x.value })
    ∧ ((s.ctx p).state.running = true → (s.ctx p).state ≠ .main → (s.ctx p).link ≠ .established → below →
      exec (.filNozzlePressure p x) s = .next s)
    ∧ (∀ te : Int, (s.ctx p).state = .leakCheck → (s.ctx p).halt = false → (s.ctx p).signal = false →
      s.signalLost p = false → (s.ctx p).link = .established → f.volume.isSome →
      f.pclass = some (s.posRow p).pclass → f.pressure = some tank → f.temp = some te →
      te < k.tankTempMax → f.command = some .run →
      stateOfCharge s.bq (s.posRow p).pclass tank te < k.socLimit →
      ∃ t, exec (.filVehdata p x) s = .next t ∧ t.mail = s.mail ∧ t.rif = s.rif
        ∧ t.ctx p = { s.ctx p with
            soc := some (stateOfCharge s.bq (s.posRow p).pclass tank te)
            timers := { (s.ctx p).timers with
              mismatch := timer tank (s.nozzle p), vehicle := some k.vehTimeout, pause := none } }))
  ∧ (∀ (p : Pos) (x : SigRec) (s : State), s.smc.inReset = false → (s.ctx p).state = .paused →
    (s.ctx p).halt = true → (s.ctx p).link = .none → x.vehicle.command = some .run →
    x.vehicle.temp.any (fun te => decide (((s.params p).tankTempMax : Int) ≤ te)) = false →
    let charge : Option Nat := x.vehicle.pressure.bind (fun pr => x.vehicle.temp.map (fun te =>
      stateOfCharge s.bq (s.posRow p).pclass pr te))
    let c := s.ctx p
    let k := s.params p
    (s.signalLost p = false → c.resume = .main → c.source = some .compressor →
      ∃ t, exec (.filVehdata p x) s = .next t
        ∧ t.ctx p = { c with
            state := .main, halt := false, signal := false, soc := charge, anchor := s.nozzle p, tau := 0
            reAnchor := false, timers := { c.timers with pause := none } }
        ∧ t.mail = s.mail ++ [.mainEntryReport p]
        ∧ t.rif = (actuate (.controlValve p) .set c.opening
            (actuate (.dispenseValve p) .open 1000 s)).rif)
    ∧ (s.signalLost p = false → c.resume = .leakCheck →
      ∃ t, exec (.filVehdata p x) s = .next t
        ∧ t.ctx p = { c with
            state := .leakCheck, halt := false, signal := false, soc := charge, leakRef := s.nozzle p
            timers := { c.timers with pause := none, leak := some (10 * k.leakTime) } }
        ∧ t.mail = s.mail ∧ t.rif = s.rif)
    ∧ (∀ b, s.signalLost p = false → c.resume = .pulse → s.onlyBank p b →
      ∃ t, exec (.filVehdata p x) s = .next t
        ∧ t.ctx p = { c with
            state := .pulse, halt := false, signal := false, soc := charge, source := some (.bank b)
            waitOn := none, opening := 100
            timers := { c.timers with pause := none, bankWait := none, pulse := some (10 * k.pulseTime) } }
        ∧ (t.bank b).state = .claimedPos p ∧ t.mail = s.mail ++ [.sourceReport p (.bank b)]
        ∧ t.rif = (actuate (.controlValve p) .set 100 (actuate (.dispenseValve p) .open 1000
            (actuate (.bankValve b (.pos p)) .open 1000 s))).rif)
    ∧ (s.signalLost p = true →
      exec (.filVehdata p x) s = .next (updCtx p (fun c =>
        { c with halt := false, signal := true, soc := charge }) s)))

/-- R105, R121, R127: a nozzle pressure in MAIN, below the class ceiling, drawing from no bank: at the
end pressure the fill ends COMPLETE-PRESSURE; above the target by more than the abort band it ends
RAMP-EXCEEDED; above the upper band the control opening goes down by 100, below the lower band up by
100, and within the bands, at 0 and at 1000 it stands. R120: a bank pressure at the position that draws
from the bank in MAIN: with enough difference to the nozzle and above the floor nothing changes; with
too little, or at a record that is no longer usable, the bank is released and the one other bank of the
sequence is drawn from, the position staying in MAIN; at any other position nothing changes. R122, R123:
the causes of a pause, judged with the record delivered: a signal lost under HOLD pauses a fill in MAIN,
with its valves closed and its pause timer started; its return resumes MAIN with the source that is
held, the ramp anchored afresh; out of a running state nothing is done. -/
def Obligations.MainPhase : Prop :=
  (∀ (p : Pos) (r : SigRec) (x : Selection) (s : State), s.smc.inReset = false → (s.ctx p).state = .main →
    (s.ctx p).selection = some x → (s.ctx p).link = .none →
    r.value < Config.ceiling (s.posRow p).pclass →
    let v := r.value
    let k := s.params p
    let target : Int := min ((s.ctx p).anchor + (x.aprr * (s.ctx p).tau / 600 : Nat)) x.pEnd
    let aimed := updCtx p (fun c => { c with target := some target }) s
    let turned (n : Nat) := actuate (.controlValve p) .set n
      (updCtx p (fun c => { c with target := some target, opening := n }) s)
    (s.sourceless p → x.pEnd ≤ v →
      ∃ t, exec (.filNozzlePressure p r) s = .next t ∧ FillEnded p .completePressure s t)
    ∧ (s.sourceless p → v < x.pEnd → target + k.abortBand < v →
      ∃ t, exec (.filNozzlePressure p r) s = .next t ∧ (t.ctx p).state = .ending
        ∧ (t.ctx p).endReason = some .rampExceeded)
    ∧ ((s.ctx p).source = some .compressor → v < x.pEnd → v ≤ target + k.abortBand →
      target + k.upperBand < v → 100 ≤ (s.ctx p).opening →
      exec (.filNozzlePressure p r) s = .next (turned ((s.ctx p).opening - 100)))
    ∧ ((s.ctx p).source = some .compressor → v < x.pEnd → v ≤ target + k.abortBand →
      v ≤ target + k.upperBand → v < target - k.lowerBand → (s.ctx p).opening ≤ 900 →
      exec (.filNozzlePressure p r) s = .next (turned ((s.ctx p).opening + 100)))
    ∧ ((s.ctx p).source = some .compressor → v < x.pEnd → v ≤ target + k.abortBand →
      target - k.lowerBand ≤ v → v ≤ target + k.upperBand →
      exec (.filNozzlePressure p r) s = .next aimed)
    ∧ ((s.ctx p).source = some .compressor → v < x.pEnd → v ≤ target + k.abortBand →
      (target + k.upperBand < v ∧ (s.ctx p).opening = 0)
        ∨ (v ≤ target + k.upperBand ∧ v < target - k.lowerBand ∧ 1000 ≤ (s.ctx p).opening) →
      exec (.filNozzlePressure p r) s = .next aimed))
  ∧ (∀ (p : Pos) (c : Bank) (r : SigRec) (s : State), s.smc.inReset = false →
    (∀ q, q ≠ p → (s.ctx q).state ≠ .main) → (s.ctx p).state = .main →
    let low : Prop := r.value ≤ (s.bankRow c).floor ∨ r.value < s.nozzle p + (s.params p).switchDiff
    ((s.ctx p).source = some (.bank c) → ¬ low → exec (.filBankPressure c (.value r)) s = .next s)
    ∧ ((s.ctx p).source = some (.bank c) → r.quality.usable = true →
      exec (.filBankPressure c (.quality r)) s = .next s)
    ∧ (∀ a, (s.ctx p).source ≠ some (.bank c) → exec (.filBankPressure c a) s = .next s)
    ∧ ∀ b y a, s.draws p c y → b ≠ c → s.latched = false → (s.ctx p).waitOn = none →
      s.sequence (s.posRow p).pclass = [.bank b] → s.suitable p (.bank b) = true →
      (s.bank b).state = .available → (∀ d, d ≠ c → (s.bank d).state ≠ .claimedPos p) →
      s.outputHolder ≠ some p →
      (a = .quality r ∧ r.quality.usable = false) ∨ (a = .value r ∧ low) →
      ∃ t, exec (.filBankPressure c a) s = .next t
        ∧ (t.ctx p).state = .main ∧ (t.ctx p).source = some (.bank b) ∧ (t.ctx p).awaited = [c]
        ∧ (t.bank c).state = .available ∧ (t.bank b).state = .claimedPos p
        ∧ t.mail = s.mail ++ [.sessionOutcome p c .unchecked, .filBankAnnouncement c,
            .cmpBankAnnouncement c, .sourceReport p (.bank b)]
        ∧ t.rif = (actuate (.bankValve b (.pos p)) .open 1000 (close (.bankValve c (.pos p)) s)).rif
        ∧ (∀ q, q ≠ p → t.ctx q = s.ctx q) ∧ t.sig = s.sig)
  ∧ (∀ (p : Pos) (r : Role) (x : SigRec) (s : State), s.smc.inReset = false →
    let u := withRecord r x s
    ((s.ctx p).state.running = false → exec (.filSignalQuality ⟨p, r, x⟩) s = .next s)
    ∧ ((s.ctx p).state = .main → (s.ctx p).source = some .compressor → (s.ctx p).halt = false →
      (s.ctx p).signal = false → u.signalLost p = true →
      ∃ t, exec (.filSignalQuality ⟨p, r, x⟩) s = .next t
        ∧ t.ctx p = { s.ctx p with
            state := .paused, resume := .main, signal := true
            timers := { (s.ctx p).timers with pause := some (10 * (s.params p).pauseLimit) } }
        ∧ t.mail = s.mail ++ [.mainLeaveReport p]
        ∧ t.rif = (close (.controlValve p) (close (.dispenseValve p) s)).rif
        ∧ (∀ q, q ≠ p → t.ctx q = s.ctx q) ∧ t.cmp = s.cmp ∧ t.bkm = s.bkm)
    ∧ ((s.ctx p).state = .paused → (s.ctx p).resume = .main →
      (s.ctx p).source = some .compressor → (s.ctx p).halt = false → u.signalLost p = false →
      ∃ t, exec (.filSignalQuality ⟨p, r, x⟩) s = .next t
        ∧ t.ctx p = { s.ctx p with
            state := .main, signal := false, anchor := u.nozzle p, tau := 0, reAnchor := false
            timers := { (s.ctx p).timers with pause := none } }
        ∧ t.mail = s.mail ++ [.mainEntryReport p]
        ∧ t.rif = (actuate (.controlValve p) .set (s.ctx p).opening
            (actuate (.dispenseValve p) .open 1000 s)).rif
        ∧ (∀ q, q ≠ p → t.ctx q = s.ctx q)))

/-- R115, R116: a grant: in BANK-WAIT the entry waited on becomes the source and the recorded stage
begins: MAIN with a bank, and the pulse or MAIN with the compressor output; the source already held starts nothing more (a reading of the model's, assumption log
17); a bank the position does not want is released. R115, R120, R134: a bank announced, a change of the
compressor's state, a wait cancelled, and a LOST of the entry waited on (the model's reading, assumption
log 35): the position in BANK-WAIT walks afresh and draws from the one bank that is free; with nothing
left that suits, the fill ends BANKS-EXHAUSTED; a position that waits for something else, or not at all,
stands. R116, R120, R128, R134: a LOST: in MAIN the source is none and the one bank that is free is
drawn from; in ENDING the note of the bank is cleared; while the latch is set the source alone goes. -/
def Obligations.SourceGrants : Prop :=
  (∀ (p : Pos) (s : State), s.smc.inReset = false →
    (∀ b, (s.ctx p).state = .bankWait → (s.ctx p).waitOn = some (.bank b) →
      (s.ctx p).waitStage = .main → (s.ctx p).halt = false → (s.ctx p).signal = false →
      (s.ctx p).reAnchor = false →
      ∃ t, exec (.filGranted p (.bank b)) s = .next t
        ∧ t.ctx p = { s.ctx p with
            state := .main, source := some (.bank b), waitOn := none
            timers := { (s.ctx p).timers with bankWait := none } }
        ∧ t.mail = s.mail ++ [.sourceReport p (.bank b), .mainEntryReport p]
        ∧ t.rif = (actuate (.controlValve p) .set (s.ctx p).opening
            (actuate (.dispenseValve p) .open 1000
              (actuate (.bankValve b (.pos p)) .open 1000 s))).rif
        ∧ (∀ q, q ≠ p → t.ctx q = s.ctx q))
    ∧ ((s.ctx p).state = .bankWait → (s.ctx p).waitOn = some .compressor →
      (s.ctx p).halt = false → (s.ctx p).signal = false →
      let goes (c : Ctx) (more : List Instr) (u : State) : Prop :=
        ∃ t, exec (.filGranted p .compressor) s = .next t
          ∧ t.ctx p = { c with source := some .compressor, waitOn := none }
          ∧ t.mail = s.mail ++ .sourceReport p .compressor :: more
          ∧ t.rif = u.rif ∧ t.cmp = s.cmp ∧ t.bkm = s.bkm
          ∧ t.bankWaitOrder = s.bankWaitOrder.filter (fun q => q ≠ p) ∧ (∀ q, q ≠ p → t.ctx q = s.ctx q)
      ((s.ctx p).waitStage = .main → (s.ctx p).reAnchor = false → goes
        { s.ctx p with state := .main, timers := { (s.ctx p).timers with bankWait := none } }
        [.mainEntryReport p]
        (actuate (.controlValve p) .set (s.ctx p).opening (actuate (.dispenseValve p) .open 1000 s)))
      ∧ ((s.ctx p).waitStage = .pulse → goes
        { s.ctx p with
          state := .pulse, opening := 100
          timers := { (s.ctx p).timers with
            bankWait := none, pulse := some (10 * (s.params p).pulseTime) } }
        [] (actuate (.controlValve p) .set 100 (actuate (.dispenseValve p) .open 1000 s))))
    ∧ (∀ x, (s.ctx p).state ≠ .bankWait → (s.ctx p).source = some x →
      exec (.filGranted p x) s = .next s)
    ∧ (∀ b y, (s.ctx p).state = .idle → (s.ctx p).source = none → (s.bank b).state = .claimedPos p →
      (s.bank b).session = some y → y.holder = .pos p → y.openValid = false →
      (s.bank b).waiters = [] →
      ∃ t, exec (.filGranted p (.bank b)) s = .next t ∧ (t.bank b).state = .available
        ∧ t.mail = s.mail ++ [.sessionOutcome p b .unchecked, .filBankAnnouncement b,
            .cmpBankAnnouncement b]
        ∧ t.fil = s.fil ∧ t.rif = (close (.bankValve b (.pos p)) s).rif))
  ∧ (∀ (p : Pos) (k : LostCause) (s : State), s.smc.inReset = false →
    let draws (c : Instr) (b : Bank) : Prop := ∃ t, exec c s = .next t
      ∧ (t.ctx p).state = .pulse ∧ (t.ctx p).source = some (.bank b) ∧ (t.ctx p).waitOn = none
      ∧ (t.ctx p).timers.bankWait = none
      ∧ (t.ctx p).timers.pulse = some (10 * (s.params p).pulseTime)
      ∧ (t.bank b).state = .claimedPos p ∧ t.mail = s.mail ++ [.sourceReport p (.bank b)]
      ∧ t.bankWaitOrder = [] ∧ (∀ q, q ≠ p → t.ctx q = s.ctx q)
    let empty (c : Instr) : Prop := ∃ t, exec c s = .next t ∧ (t.ctx p).state = .ending
      ∧ (t.ctx p).endReason = some .banksExhausted
    let waits : Prop := (s.ctx p).state = .bankWait ∧ s.bankWaitOrder = [p] ∧ (s.ctx p).source = none
      ∧ (s.ctx p).awaited = []
    (waits → (s.ctx p).waitStage = .pulse → (s.ctx p).halt = false → (s.ctx p).signal = false →
      ∀ b, s.onlyBank p b →
      (∀ d, draws (.filBankAnnouncement d) b) ∧ draws .compressorStateReport b
        ∧ ∀ x, (s.ctx p).waitOn = some x → draws (.waitCancelled p x) b ∧ draws (.filLost p x k) b)
    ∧ (waits → s.sourceless p → s.latched = false → s.sequence (s.posRow p).pclass = [] →
      (∀ d, empty (.filBankAnnouncement d)) ∧ empty .compressorStateReport
        ∧ ∀ x, (s.ctx p).waitOn = some x → empty (.waitCancelled p x) ∧ empty (.filLost p x k))
    ∧ (s.bankWaitOrder = [] → (∀ d, exec (.filBankAnnouncement d) s = .next s)
        ∧ exec .compressorStateReport s = .next s)
    ∧ (∀ x, (s.ctx p).state ≠ .bankWait ∨ (s.ctx p).waitOn ≠ some x →
      exec (.waitCancelled p x) s = .next s)
    ∧ (∀ x, waits → (s.ctx p).waitOn ≠ some x → exec (.filLost p x k) s = .next s))
  ∧ (∀ (p : Pos) (k : LostCause) (s : State), s.smc.inReset = false →
    (∀ b x, (s.ctx p).state = .main → (s.ctx p).source = some x → x ≠ .bank b → s.onlyBank p b →
      (∀ d, x = .bank d → (s.ctx p).awaited.count d = 0) →
      ∃ t, exec (.filLost p x k) s = .next t
        ∧ (t.ctx p).state = .main ∧ (t.ctx p).source = some (.bank b)
        ∧ (t.bank b).state = .claimedPos p ∧ t.mail = s.mail ++ [.sourceReport p (.bank b)]
        ∧ t.rif = (actuate (.bankValve b (.pos p)) .open 1000 s).rif
        ∧ (∀ q, q ≠ p → t.ctx q = s.ctx q))
    ∧ (∀ x, (s.ctx p).state = .main → (s.ctx p).source = some x → s.latched = true →
      (∀ d, x = .bank d → (s.ctx p).awaited.count d = 0) →
      exec (.filLost p x k) s = .next (updCtx p (fun c => { c with source := none }) s))
    ∧ (∀ b, (s.ctx p).state = .ending → (s.ctx p).source = none →
      (s.ctx p).timers.afterRun ≠ none → exec (.filLost p (.bank b) k) s =
        .next (updCtx p (fun c => { c with awaited := c.awaited.erase b }) s)))

/-- R109, R132: POSITION-OPEN and POSITION-CLOSE: the flag and the availability that follows it, by the
nozzle; a fill in progress goes on; out of FAULT only when every signal is GOOD, the nozzle is up and
nothing is coupled. R133: POSITION-LIMIT: a cap from 1 to 200,000 g below the present cap is taken, BIL
told, and a running fill that has already reached it ends MASS-CAP; a cap out of that range is answered
RANGE, and with no fill to limit STATE. -/
def Obligations.PositionRequests : Prop :=
  (∀ (p : Pos) (rq : Req) (s : State), s.smc.inReset = false →
    let moved (o : Bool) (st : PState) (t : State) :=
      { updCtx p (fun c => { c with opened := o, state := st }) t with
        bankWaitOrder := t.bankWaitOrder.filter (fun q => q != p) }
    let offered : Prop := (s.posRow p).pulseWeight ≠ 0
      ∧ (s.smc.mode = .run ∨ (s.smc.mode = .quiet ∧ (s.posRow p).required = .c00))
    ((s.ctx p).state = .closed → offered → exec (.positionOpen rq p.num) s =
      .next (moved true (if s.level (.holster p) then .idle else .lifted) (reply rq 48 .ok [] s)))
    ∧ ((s.ctx p).state = .closed → ¬ offered → exec (.positionOpen rq p.num) s =
      .next (updCtx p (fun c => { c with opened := true }) (reply rq 48 .ok [] s)))
    ∧ ((s.ctx p).state = .idle ∨ (s.ctx p).state = .lifted → exec (.positionClose rq p.num) s =
      .next (moved false .closed (reply rq 49 .ok [] s)))
    ∧ ((s.ctx p).state.busySpan = true →
      exec (.positionOpen rq p.num) s =
          .next (updCtx p (fun c => { c with opened := true }) (reply rq 48 .ok [] s))
        ∧ exec (.positionClose rq p.num) s =
          .next (updCtx p (fun c => { c with opened := false }) (reply rq 49 .ok [] s)))
    ∧ ((s.ctx p).state = .idle ∨ (s.ctx p).state = .lifted → offered →
      exec (.positionOpen rq p.num) s =
        .next (updCtx p (fun c => { c with opened := true }) (reply rq 48 .ok [] s)))
    ∧ ((s.ctx p).state = .idle ∨ (s.ctx p).state = .lifted → ¬ offered →
      exec (.positionOpen rq p.num) s = .next (moved true .closed (reply rq 48 .ok [] s)))
    ∧ ((s.ctx p).state = .closed ∨ (s.ctx p).state = .fault → exec (.positionClose rq p.num) s =
      .next (updCtx p (fun c => { c with opened := false }) (reply rq 49 .ok [] s)))
    ∧ ((s.ctx p).state = .fault → s.quality (.nozzlePressure p) ≠ .good
        ∨ s.quality (.holster p) ≠ .good ∨ s.quality (.coupled p) ≠ .good
        ∨ s.quality (.meter p) ≠ .good
        ∨ (s.mapped (.outletTemp p) = true ∧ s.quality (.outletTemp p) ≠ .good)
        ∨ s.level (.holster p) = false ∨ s.level (.coupled p) = true →
      exec (.positionOpen rq p.num) s = .next (reply rq 48 .state [] s))
    ∧ ((s.ctx p).state = .fault → s.quality (.nozzlePressure p) = .good →
      s.quality (.holster p) = .good → s.quality (.coupled p) = .good → s.quality (.meter p) = .good →
      s.mapped (.outletTemp p) = false ∨ s.quality (.outletTemp p) = .good →
      s.level (.holster p) = true → s.level (.coupled p) = false →
      ∃ t, exec (.positionOpen rq p.num) s = .next t
        ∧ t.ctx p = { s.ctx p with
            opened := true, faultMark := false, faultCause := none
            state := if offered then .idle else .closed }
        ∧ t.meter p = { s.meter p with fault := false, outMass := 0, outNotice := false }
        ∧ t.rif = (close (.ventValve p) (reply rq 48 .ok [] s)).rif)
    ∧ ∀ n, n = 0 ∨ 5 ≤ n → exec (.positionOpen rq n) s = .next (reply rq 48 .range [] s)
        ∧ exec (.positionClose rq n) s = .next (reply rq 49 .range [] s))
  ∧ (∀ (p : Pos) (rq : Req) (n : Nat) (s : State), s.smc.inReset = false →
    let lowered (f : FillId) := post (.loweredCap p n)
      (updCtx p (fun c => { c with fill := some { f with cap := n } }) (reply rq 51 .ok [] s))
    (∀ f, (s.ctx p).state.endable = true → (s.ctx p).fill = some f → 1 ≤ n → n ≤ 200000 → n < f.cap →
      (s.ctx p).state = .authorised ∨ (s.meter p).fill / 1000 < n →
      exec (.positionLimit rq p.num n) s = .next (lowered f))
    ∧ (∀ f, (s.ctx p).state.running = true → (s.ctx p).fill = some f → 1 ≤ n → n ≤ 200000 →
      n < f.cap → n ≤ (s.meter p).fill / 1000 → s.sourceless p →
      ∃ t, exec (.positionLimit rq p.num n) s = .next t ∧ FillEnded p .massCap (lowered f) t)
    ∧ (∀ f, (s.ctx p).state.endable = true → (s.ctx p).fill = some f →
      n = 0 ∨ 200000 < n ∨ f.cap ≤ n →
      exec (.positionLimit rq p.num n) s = .next (reply rq 51 .range [] s))
    ∧ ((s.ctx p).state.endable = false ∨ (s.ctx p).fill = none →
      exec (.positionLimit rq p.num n) s = .next (reply rq 51 .state [] s))
    ∧ ∀ m, m = 0 ∨ 5 ≤ m → exec (.positionLimit rq m n) s = .next (reply rq 51 .range [] s))

/-- R134: FIL_TRIP at every position: a fill ends TRIPPED, an offered position is CLOSED, a position
that vents ends its venting and hangs up (its vent valve is closed by SMC's CLOSE, not by FIL), and the
others stand. -/
def Obligations.PositionsAtTrip : Prop :=
  ∀ s : State, s.smc.inReset = false → ∃ t, exec .filTrip s = .next t ∧ ∀ p,
    ((s.ctx p).state.endable = true → 0 < (s.posRow p).afterRun →
      (t.ctx p).state = .ending ∧ (t.ctx p).endReason = some .tripped ∧ (t.ctx p).source = none
        ∧ (t.ctx p).endTime = s.ret.clock)
    ∧ ((s.ctx p).state = .idle ∨ (s.ctx p).state = .lifted →
      t.ctx p = { s.ctx p with state := .closed })
    ∧ ((s.ctx p).state = .venting → (s.ctx p).faultMark = false → s.level (.holster p) = false →
      t.ctx p = { s.ctx p with
        state := .hangUp, timers := { (s.ctx p).timers with vent := none } })
    ∧ ((s.ctx p).state = .closed ∨ (s.ctx p).state = .ending ∨ (s.ctx p).state = .hangUp
        ∨ (s.ctx p).state = .fault → t.ctx p = s.ctx p)

/-! ## Metering -/

/-- R137, R138, R140: a count with no baseline only becomes it; a delta above the maximum is a meter
fault that adds nothing, at pulse weight 0 too (the model's choice, assumption log 42); a delta of 0 and
a position of pulse weight 0 add nothing; a record ABSENT drops the baseline, and any other change of
quality changes nothing. R137, R140 to R144, R149, R150: an accepted increment of a fill, its delta
taken modulo 65536: the fill mass and exactly one attributed figure take it (the bank's or the
compressor's in PULSE and MAIN, the after-run's in ENDING, unattributed elsewhere), the totaliser takes
it, the live snapshot takes the three figures, and BKM, PCL and FIL are told, with the attribution (in
that order by the model's choice, assumption log 32). R145: an increment outside a fill joins the
out-of-fill mass and the totaliser, is reported to FIL, and sends NOTICE UNAUTHORISED-FLOW once. -/
def Obligations.Metering : Prop :=
  (∀ (p : Pos) (n : Nat) (q : Quality) (x : SigRec) (s : State), s.smc.inReset = false →
    let based := updMeter p (fun m => { m with baseline := some n }) s
    ((s.meter p).baseline = none → exec (.meterCount p n q) s = .next based)
    ∧ (∀ b, (s.meter p).baseline = some b → (s.posRow p).maxDelta < (n + 65536 - b) % 65536 →
      exec (.meterCount p n q) s = .next (post (.meterFaultReport p) (notice .meterFault p.num
        (u2 b ++ u2 n ++ u2 ((n + 65536 - b) % 65536))
        (updMeter p (fun m => { m with baseline := some n, fault := true }) s))))
    ∧ ((s.meter p).baseline = some n → exec (.meterCount p n q) s = .next s)
    ∧ (∀ b, (s.meter p).baseline = some b → (s.posRow p).pulseWeight = 0 →
      (n + 65536 - b) % 65536 ≤ (s.posRow p).maxDelta → exec (.meterCount p n q) s = .next based)
    ∧ (x.quality = .absent → exec (.meterQualityChange p x) s =
        .next (updMeter p (fun m => { m with baseline := none }) s))
    ∧ (x.quality ≠ .absent → exec (.meterQualityChange p x) s = .next s))
  ∧ (∀ (p : Pos) (b n : Nat) (q : Quality) (s : State), s.smc.inReset = false →
    let u : Bool := q == .uncertain
    let d := (n + 65536 - b) % 65536
    let mg := d * (s.posRow p).pulseWeight
    let m := s.meter p
    m.baseline = some b → d ≤ (s.posRow p).maxDelta → 0 < mg →
    m.fill + mg < 2 ^ 64 → m.cmp + mg < 2 ^ 64 → m.unattr + mg < 2 ^ 64 → m.afterRun + mg < 2 ^ 64 →
    (∀ c, m.banks.get c + mg < 2 ^ 64) → s.ret.totaliser.get p + mg < 2 ^ 64 →
    let placed (a : Attribution) (k : MeterCtx) : Prop :=
      ∃ t, exec (.meterCount p n q) s = .next t
        ∧ t.meter p = { k with
            baseline := some n, fill := m.fill + mg, uncertain := m.uncertain || u }
        ∧ t.ret = { s.ret with
            totaliser := s.ret.totaliser.set p (s.ret.totaliser.get p + mg)
            snapshots := s.ret.snapshots.set p ((s.ret.snapshots.get p).map (fun x =>
              { x with fill := m.fill + mg, afterRun := k.afterRun, unattr := k.unattr })) }
        ∧ t.mail = s.mail ++ [.bankIncrementReport p mg a, .coldConsumption p ⟨mg, a⟩,
            .filMassReport p (m.fill + mg) a u]
        ∧ t.rif = s.rif ∧ t.fil = s.fil ∧ (∀ q, q ≠ p → t.meter q = s.meter q)
    (∀ c, (s.ctx p).state = .pulse ∨ (s.ctx p).state = .main → (s.ctx p).source = some (.bank c) →
        placed (.session c) { m with banks := m.banks.set c (m.banks.get c + mg) })
    ∧ ((s.ctx p).state = .pulse ∨ (s.ctx p).state = .main → (s.ctx p).source = some .compressor →
        placed .compressor { m with cmp := m.cmp + mg })
    ∧ ((s.ctx p).state = .leakCheck ∨ (s.ctx p).state = .precoolWait ∨ (s.ctx p).state = .bankWait
          ∨ (s.ctx p).state = .paused ∨ ((s.ctx p).state = .main ∧ (s.ctx p).source = none) →
        placed .unattributed { m with unattr := m.unattr + mg })
    ∧ ((s.ctx p).state = .ending → placed .afterRun { m with afterRun := m.afterRun + mg }))
  ∧ (∀ (p : Pos) (b n : Nat) (q : Quality) (s : State), s.smc.inReset = false →
    let d := (n + 65536 - b) % 65536
    let mg := d * (s.posRow p).pulseWeight
    let m := s.meter p
    m.baseline = some b → d ≤ (s.posRow p).maxDelta → 0 < mg → m.outMass + mg < 2 ^ 64 →
    s.ret.totaliser.get p + mg < 2 ^ 64 →
    (s.ctx p).state.collecting = false →
    ∃ t, exec (.meterCount p n q) s = .next t
      ∧ t.meter p = { m with baseline := some n, outMass := m.outMass + mg, outNotice := true }
      ∧ t.ret = { s.ret with
          totaliser := s.ret.totaliser.set p (s.ret.totaliser.get p + mg) }
      ∧ t.mail = s.mail ++ [.bankIncrementReport p mg .outOfFill, .coldConsumption p ⟨mg, .outOfFill⟩,
          .unauthorisedFlowReport p]
      ∧ t.rif = (if m.outNotice then s else notice .unauthorisedFlow p.num
          (u4 mg ++ u1 (s.ctx p).state.num ++ u2 n) s).rif
      ∧ t.fil = s.fil)

/-! ## Tenders, settlement and accounts -/

/-- R157: a TENDER is rejected for the first check it fails, with its reference, and nothing else; a
broadcast one is dropped. R111, R147, R156, R158, R159, R171 to R173: an accepted TENDER, with nothing
coupled yet: the next transaction number, the place reserved, the hold of a fleet account, the tender
context and the snapshot, the position AUTHORISED with its fill identity, MTR's figures opened, and
NOTICE TENDER-ACCEPTED. -/
def Obligations.TenderTaken : Prop :=
  (∀ (p : Pos) (src ref id amount : Nat) (s : State), s.smc.inReset = false →
    let rejects (kind n : Nat) : Prop :=
      exec (.tender src false p.num kind ref id amount) s =
        .next (noticeTo src .tenderRejected p.num (u1 n ++ u4 ref) s)
    let owns : Prop := (s.rowOf (.tenderSource p)).map (fun x => x.2.source) = some src
    let ready : Prop := owns ∧ s.latched = false ∧ (s.ctx p).state = .lifted
    (∀ pos kind, exec (.tender src true pos kind ref id amount) s = .next s)
    ∧ (∀ pos kind, pos = 0 ∨ 5 ≤ pos ∨ 2 ≤ kind →
      exec (.tender src false pos kind ref id amount) s =
        .next (noticeTo src .tenderRejected pos (u1 0 ++ u4 ref) s))
    ∧ (∀ kind, kind ≤ 1 → ¬ owns → rejects kind 1)
    ∧ (∀ kind, kind ≤ 1 → owns → s.latched = true → rejects kind 2)
    ∧ (∀ kind, kind ≤ 1 → owns → s.latched = false → (s.ctx p).state ≠ .lifted → rejects kind 3)
    ∧ (ready → s.account id = none → rejects 1 4)
    ∧ (∀ a, ready → s.account id = some a → a.blocked = true → rejects 1 5)
    ∧ (∀ a, ready → s.account id = some a → a.blocked = false →
        fleetCap (s.posRow p).maxFill (s.tariff.price a.cls (s.tariff.band s.ret.clock)) a
          < s.tariff.minCap → rejects 1 6)
    ∧ (ready → cardCap (s.posRow p).maxFill amount (s.tariff.price 0 (s.tariff.band s.ret.clock))
          < s.tariff.minCap → rejects 0 6)
    ∧ (ready → s.tariff.minCap ≤ cardCap (s.posRow p).maxFill amount
          (s.tariff.price 0 (s.tariff.band s.ret.clock)) →
        32 ≤ s.ret.records.length + s.reservations → rejects 0 7))
  ∧ (∀ (p : Pos) (src ref id amount n : Nat) (x : NodeRow) (s : State), s.smc.inReset = false →
    s.rowOf (.tenderSource p) = some (n, x) → x.source = src → s.latched = false →
    (s.ctx p).state = .lifted → s.ret.records.length + s.reservations < 32 →
    s.level (.coupled p) = false →
    let txn := if s.ret.txnCounter < 4294967295 then s.ret.txnCounter + 1 else 1
    let band := s.tariff.band s.ret.clock
    let most := (s.posRow p).maxFill
    let gen := (s.tables.fill (s.posRow p).pclass).copy.gen
    let taken (k : TenderKind) (c : TenderCtx) (t : State) : Prop :=
      t.bil = s.bil.set p (some c)
        ∧ t.ret.txnCounter = txn ∧ t.ret.reserved = s.ret.reserved.set p true
        ∧ t.ret.records = s.ret.records
        ∧ t.ret.snapshots = s.ret.snapshots.set p (some ⟨txn, k, ref, src, c.account, c.price,
            s.ret.clock, s.ret.clock.isNone, c.cap, 0, 0, 0⟩)
        ∧ (t.ctx p).state = .authorised
        ∧ (t.ctx p).fill = some ⟨txn, k, c.cap, gen, s.ret.clock⟩
        ∧ (t.ctx p).category = (s.posRow p).required
        ∧ t.meter p = { s.meter p with
            isOpen := true, fill := 0, banks := .all 0, cmp := 0, unattr := 0, afterRun := 0
            uncertain := false }
        ∧ t.mail = s.mail ++ [.categoryReport p (some (s.posRow p).required) true, .descentReport]
        ∧ t.rif = (noticeTo src .tenderAccepted p.num (u4 txn ++ u4 ref ++ u4 c.price ++ u4 c.cap
            ++ optField 4 (if k = .fleet then some (u4 c.hold) else none)) s).rif
        ∧ (∀ q, q ≠ p → t.ctx q = s.ctx q)
    (let price := s.tariff.price 0 band
     let cap := cardCap most amount price
     s.tariff.minCap ≤ cap → ∃ t, exec (.tender src false p.num 0 ref id amount) s = .next t
      ∧ taken .card ⟨txn, .card, ref, src, 0, amount, band, 0, price, cap, 0, s.ret.clock,
          s.ret.clock.isNone⟩ t
      ∧ t.ret.accounts = s.ret.accounts)
    ∧ ∀ a, s.account id = some a → a.blocked = false →
      let price := s.tariff.price a.cls band
      let cap := fleetCap most price a
      s.tariff.minCap ≤ cap → ∃ t, exec (.tender src false p.num 1 ref id amount) s = .next t
        ∧ taken .fleet ⟨txn, .fleet, ref, src, id, 0, band, a.cls, price, cap, amountOf cap price,
            s.ret.clock, s.ret.clock.isNone⟩ t
        ∧ t.ret.accounts = s.ret.accounts.map (Option.map (fun k =>
            if k.id = id then { k with holds := k.holds ++ [⟨p, amountOf cap price⟩] } else k)))

/-- R161, R171: a lowered cap replaces the cap of the context and of the snapshot and, for FLEET, the
hold by its amount; a cancellation releases the place and, for FLEET, the hold, with no debit, and for
CARD tells the terminal with the cancelled flag; both empty-handed where there is no tender. R162, R174
to R176: a fill summary: the billed mass is the smaller of the fill mass and the cap, the amount that
mass at the latched price; a FLEET account is debited and its hold released, a CARD terminal told; the
record takes the place of the reservation with NOTICE RECORD-READY, and the context is emptied. -/
def Obligations.TenderSettled : Prop :=
  (∀ (p : Pos) (s : State), s.smc.inReset = false →
    (∀ n, s.bil.get p = none → exec (.loweredCap p n) s = .next s ∧ exec (.cancelled p) s = .next s)
    ∧ ∀ c, s.bil.get p = some c →
      (∀ n, c.kind = .card → exec (.loweredCap p n) s = .next (updRet (fun r =>
          { r with snapshots := r.snapshots.set p ((r.snapshots.get p).map (fun x => { x with cap := n })) })
        { s with bil := s.bil.set p (some { c with cap := n }) }))
      ∧ (∀ n, c.kind = .fleet → exec (.loweredCap p n) s = .next (updRet (fun r =>
          { r with
            snapshots := r.snapshots.set p ((r.snapshots.get p).map (fun x => { x with cap := n }))
            accounts := r.accounts.map (Option.map (fun a =>
              if a.id = c.account then
                { a with holds := a.holds.map (fun h =>
                  if h.pos = p then { h with amount := amountOf n c.price } else h) }
              else a)) })
        { s with bil := s.bil.set p (some { c with cap := n, hold := amountOf n c.price }) }))
      ∧ (c.kind = .card → exec (.cancelled p) s = .next
          { noticeTo c.node .fillEnd p.num (u4 c.txn ++ u4 c.reference ++ u4 0 ++ u4 0 ++ u1 1)
              (updRet (fun r =>
                { r with reserved := r.reserved.set p false, snapshots := r.snapshots.set p none }) s) with
            bil := s.bil.set p none })
      ∧ (c.kind = .fleet → exec (.cancelled p) s = .next
          { updRet (fun r =>
              { r with
                reserved := r.reserved.set p false
                snapshots := r.snapshots.set p none
                accounts := r.accounts.map (Option.map (fun a =>
                  if a.id = c.account then { a with holds := a.holds.filter (fun h => h.pos != p) }
                  else a)) }) s with
            bil := s.bil.set p none }))
  ∧ (∀ (x : FillSummary) (s : State), s.smc.inReset = false →
    (s.bil.get x.pos = none → exec (.fillSummary x) s = .next s)
    ∧ ∀ c, s.bil.get x.pos = some c → s.ret.reserved.get x.pos = true →
      let g := x.masses.fill / 1000
      let billed := min g c.cap
      let amount := (billed * c.price + 50000) / 100000
      let record : TxnRecord :=
        { txn := c.txn, pos := x.pos, pclass := x.pclass, kind := c.kind, reference := c.reference
          account := c.account, start := c.start.getD 0, endTime := x.endTime.getD 0
          required := x.required, final := x.final, reRates := x.reRates, link := x.link
          fillMass := g, billed := billed, afterRun := x.masses.afterRun / 1000
          unattr := x.masses.unattr / 1000, price := c.price, amount := amount, reason := x.reason
          interrupted := false, mismatch := x.mismatch, unchecked := x.unchecked
          timeUnset := c.timeUnset || x.endTime.isNone || s.ret.clock.isNone
          uncertain := x.uncertain || x.masses.uncertain }
      let held : Retained :=
        { s.ret with
          records := s.ret.records ++ [record]
          reserved := s.ret.reserved.set x.pos false
          snapshots := s.ret.snapshots.set x.pos none }
      ∃ t, exec (.fillSummary x) s = .next t
        ∧ t.bil = s.bil.set x.pos none ∧ t.mail = s.mail ∧ t.fil = s.fil
        ∧ t.tables = s.tables.setFill x.pclass ((s.tables.fill x.pclass).release x.gen)
        ∧ (c.kind = .card → t.ret = held
            ∧ t.rif = (notice .recordReady x.pos.num (u4 c.txn ++ u1 held.records.length
                ++ u1 (State.reservations { s with ret := held }))
              (noticeTo c.node .fillEnd x.pos.num
                (u4 c.txn ++ u4 c.reference ++ u4 billed ++ u4 amount ++ u1 0) s)).rif)
        ∧ (c.kind = .fleet → (∀ n ∈ (s.ret.accounts.filterMap id).map Account.used, n + billed < 2 ^ 32) →
            t.ret = { held with accounts := s.ret.accounts.map (Option.map (fun a =>
              if a.id = c.account then
                { a with
                  balance := a.balance - amount
                  used := a.used + billed
                  holds := a.holds.filter (fun h => h.pos != x.pos) }
              else a)) }))

/-- R163 to R166: the account requests. An id of 0 is answered RANGE and an id that no account holds
NOT-FOUND, before the amount is judged (assumption log 26); a credit or a withdrawal moves the balance
within its bounds, a withdrawal only within the balance less the holds; block and unblock set the state;
a removal needs no holds and no balance; a read gives every item. R164: ACCOUNT-SET: a class above 3 or
an allowance above 1,000,000 g is answered RANGE; an account without holds takes both and keeps the
rest; one with holds is answered STATE; an id not held opens an account with balance 0 in the lowest
ABSENT slot, or is answered FULL. -/
def Obligations.AccountRequests : Prop :=
  (∀ (rq : Req) (id : Nat) (s : State), s.smc.inReset = false →
    let with' (f : Account → Account) := updRet (fun r =>
      { r with accounts := r.accounts.map (Option.map (fun a => if a.id = id then f a else a)) }) s
    let all (code : Nat) (st : Status) (p : Prop) : Prop := p →
      (code = 65 → ∀ n, exec (.accountCredit rq id n) s = .next (reply rq 65 st [] s))
      ∧ (code = 66 → ∀ n, exec (.accountWithdraw rq id n) s = .next (reply rq 66 st [] s))
      ∧ (code = 67 → exec (.accountBlock rq id) s = .next (reply rq 67 st [] s))
      ∧ (code = 68 → exec (.accountUnblock rq id) s = .next (reply rq 68 st [] s))
      ∧ (code = 69 → exec (.accountRemove rq id) s = .next (reply rq 69 st [] s))
      ∧ (code = 70 → exec (.accountRead rq id) s = .next (reply rq 70 st [] s))
    (∀ code, all code .range (id = 0))
    ∧ (∀ code, all code .notFound (id ≠ 0 ∧ s.account id = none))
    ∧ ∀ a, id ≠ 0 → s.account id = some a →
      (∀ n, 1 ≤ n → n ≤ 2000000000 → a.balance + n ≤ 2000000000 →
        exec (.accountCredit rq id n) s = .next (reply rq 65 .ok (u4 (a.balance + n))
          (with' (fun k => { k with balance := k.balance + n }))))
      ∧ (∀ n, n = 0 ∨ 2000000000 < n ∨ 2000000000 < a.balance + n →
        exec (.accountCredit rq id n) s = .next (reply rq 65 .range [] s))
      ∧ (∀ n, 1 ≤ n → n ≤ 2000000000 → n ≤ a.balance - (a.holds.map Hold.amount).sum →
        exec (.accountWithdraw rq id n) s = .next (reply rq 66 .ok (u4 (a.balance - n))
          (with' (fun k => { k with balance := k.balance - n }))))
      ∧ (∀ n, 1 ≤ n → n ≤ 2000000000 → a.balance - (a.holds.map Hold.amount).sum < n →
        exec (.accountWithdraw rq id n) s = .next (reply rq 66 .funds [] s))
      ∧ (∀ n, n = 0 ∨ 2000000000 < n →
        exec (.accountWithdraw rq id n) s = .next (reply rq 66 .range [] s))
      ∧ exec (.accountBlock rq id) s =
          .next (reply rq 67 .ok [] (with' (fun k => { k with blocked := true })))
      ∧ exec (.accountUnblock rq id) s =
          .next (reply rq 68 .ok [] (with' (fun k => { k with blocked := false })))
      ∧ (a.holds = [] → a.balance = 0 → exec (.accountRemove rq id) s =
          .next (reply rq 69 .ok [] (updRet (fun r =>
            { r with accounts := r.accounts.map (fun o =>
                o.bind (fun k => if k.id = id then none else some k)) }) s)))
      ∧ (a.holds ≠ [] ∨ a.balance ≠ 0 →
          exec (.accountRemove rq id) s = .next (reply rq 69 .state [] s))
      ∧ exec (.accountRead rq id) s = .next (reply rq 70 .ok
          (u2 a.id ++ uFlag a.blocked ++ u1 a.cls ++ u4 a.balance
            ++ listField 4 5 (a.holds.map (fun h => u1 h.pos.num ++ u4 h.amount))
            ++ u4 a.allowance ++ u4 a.used) s))
  ∧ (∀ (rq : Req) (id cls al : Nat) (s : State), s.smc.inReset = false →
    (id = 0 ∨ 3 < cls ∨ 1000000 < al →
      exec (.accountSet rq id cls al) s = .next (reply rq 64 .range [] s))
    ∧ (id ≠ 0 → cls ≤ 3 → al ≤ 1000000 →
      (∀ a, s.account id = some a → a.holds = [] → exec (.accountSet rq id cls al) s =
        .next (reply rq 64 .ok [] (updRet (fun r =>
          { r with accounts := r.accounts.map (Option.map (fun k =>
              if k.id = id then { k with cls := cls, allowance := al } else k)) }) s)))
      ∧ (∀ a, s.account id = some a → a.holds ≠ [] →
        exec (.accountSet rq id cls al) s = .next (reply rq 64 .state [] s))
      ∧ (∀ before after, s.account id = none → s.ret.accounts = before ++ none :: after →
        none ∉ before → exec (.accountSet rq id cls al) s =
        .next (reply rq 64 .ok [] (updRet (fun r =>
          { r with accounts := before ++ some ⟨id, false, cls, 0, [], al, 0⟩ :: after }) s)))
      ∧ (s.account id = none → none ∉ s.ret.accounts →
        exec (.accountSet rq id cls al) s = .next (reply rq 64 .full [] s))))

/-- R178, R179, R186: TXN-READ answers the oldest record with the counts, or NOT-FOUND with the
reservations; TXN-RELEASE of the oldest record's number removes it, of another is answered NOT-OLDEST
with the oldest number, and of an empty queue NOT-FOUND. The reply carries the record as R186 lays it
out; a gram figure that does not fit its four bytes is a free value (the model's choice, assumption log
3). -/
def Obligations.TransactionRequests : Prop :=
  ∀ (rq : Req) (n : Nat) (s : State), s.smc.inReset = false →
    let grams (g : Nat) : List Byte := u4 (if g < 2 ^ 32 then g else (Config.overflow32 g).toNat)
    (s.ret.records = [] →
      exec (.txnRead rq) s = .next (reply rq 80 .notFound (u1 s.reservations) s)
        ∧ exec (.txnRelease rq n) s = .next (reply rq 81 .notFound [] s))
    ∧ ∀ r rs, s.ret.records = r :: rs →
      exec (.txnRead rq) s = .next (reply rq 80 .ok
        (u1 (rs.length + 1) ++ u1 s.reservations ++ (u4 r.txn ++ u1 r.pos.num ++ u1 r.pclass.num
          ++ u1 r.kind.num ++ u4 r.reference ++ u2 r.account ++ u4 r.start ++ u4 r.endTime
          ++ u1 r.required.rank ++ u1 r.final.rank ++ u1 r.reRates ++ u1 r.link.outcomeNum
          ++ grams r.fillMass ++ grams r.billed ++ grams r.afterRun ++ grams r.unattr ++ u4 r.price ++ u4 r.amount
          ++ u1 (match r.reason with | some e => e.num | none => 0)
          ++ u1 (flagNat r.interrupted + 2 * flagNat r.mismatch + 4 * flagNat r.unchecked
            + 8 * flagNat r.timeUnset + 16 * flagNat r.uncertain))) s)
      ∧ (r.txn = n → exec (.txnRelease rq n) s = .next (reply rq 81 .ok
          (u1 rs.length ++ u1 s.reservations) (updRet (fun k => { k with records := rs }) s)))
      ∧ (r.txn ≠ n → exec (.txnRelease rq n) s = .next (reply rq 81 .notOldest (u4 r.txn) s))

/-- R167, R206: a second of the backup crystal: both counts go up by one, the station clock only when it
is set; BIL takes a rollover when the day number it gives differs from the held one: used today is 0 in
every account and NOTICE DAY-ROLLOVER carries the day. In reset the counts alone advance (that one
command carries both counts and is taken in reset is the model's reading, assumption log 21). TIME-SET
sets the clock, with the same judgement, its notice before its reply (log 44). -/
def Obligations.ClockAdvances : Prop :=
  ∀ (rq : Req) (n : Nat) (s : State), s.ret.runSeconds + 1 < 2 ^ 32 →
    let day (t : Nat) : Int := ((t : Int) - s.tariff.rollover * 60) / 86400
    let rolled (d : Int) (u : State) := notice .dayRollover 0 (beInt 4 d) (updRet (fun r =>
      { r with
        heldDay := some d, accounts := r.accounts.map (Option.map (fun a => { a with used := 0 })) }) u)
    let second (c : Option Nat) :=
      updRet (fun r => { r with clock := c, runSeconds := r.runSeconds + 1 }) s
    let stamped := updRet (fun r => { r with clock := some n }) s
    (s.ret.clock = none → exec .stationClockAdvance s = .next (second none))
    ∧ (∀ t, s.ret.clock = some t → t + 1 < 2 ^ 32 → s.smc.inReset = true →
        exec .stationClockAdvance s = .next (second (some (t + 1))))
    ∧ (∀ t, s.ret.clock = some t → t + 1 < 2 ^ 32 → s.ret.heldDay = some (day (t + 1)) →
        exec .stationClockAdvance s = .next (second (some (t + 1))))
    ∧ (∀ t, s.ret.clock = some t → t + 1 < 2 ^ 32 → s.smc.inReset = false →
        s.ret.heldDay ≠ some (day (t + 1)) →
        exec .stationClockAdvance s = .next (rolled (day (t + 1)) (second (some (t + 1)))))
    ∧ (s.smc.inReset = false → n < 2 ^ 32 → s.ret.heldDay = some (day n) →
        exec (.timeSet rq n) s = .next (reply rq 20 .ok [] stamped))
    ∧ (s.smc.inReset = false → n < 2 ^ 32 → s.ret.heldDay ≠ some (day n) →
        exec (.timeSet rq n) s = .next (reply rq 20 .ok [] (rolled (day n) stamped)))

/-! ## The station mode controller -/

/-- R109, R201, R202, R203: every way the mode changes: MODE-SET, a nozzle lifted, BANK-LOW, and the
expiry of the idle and the park timers. The mode becomes the one named, its descent timer starts when
its condition already holds, the master isolation output is energised, and every position is offered or
withdrawn by the new mode, the lifted nozzle's level being the one its delivery carries. (That MODE-SET
names PARKED 1, QUIET 2 and RUN 3 is the model's reading, assumption log 31, and that its reply goes
behind what the change queues its choice, log 61.) R69, R61, R60, R56, R76 to R78: a change of mode at
the compressor and the chiller. Between QUIET and RUN nothing changes at the compressor, nor in any
change while it primes, cools down, is locked out or feeds a position. Otherwise STOPPED makes a start
evaluation: to PARKED the episode ends and a refill want that arises is reported BANK-LOW, and from
PARKED it is the evaluation of an announcement. UNLOADED makes a target choice, and a refill ends at
PARKED with its bank released and a target choice: the head of the output's wait list, else a candidate
in an active mode, else the stop once the minimum run has passed. GRANTED to a waiter is sent before the
reports of the event's state changes (the model's reading, assumption log 66). A parked chiller starts when its run
condition is present, a running one stops or starts its park timer, and parks at a delay of 0. -/
def Obligations.ModeChanges : Prop :=
  (∀ (p : Pos) (rq : Req) (x : SigRec) (s : State), s.smc.inReset = false →
    let fills : Bool := Pos.all.any (fun q => (s.ctx q).state.descentSpan)
    let becomes (c : Instr) (m : Mode) (u : State) : Prop := ∃ t, exec c s = .next t
      ∧ t.smc = { s.smc with
          mode := m
          idleTimer := if m = .run ∧ ¬ fills ∧ s.stationRow.idleTime ≠ 0
            then some (10 * s.stationRow.idleTime) else none
          parkTimer := if m = .quiet ∧ ¬ fills ∧ (s.cmp.state = .stopped ∨ s.cmpRow.fitted = false)
              ∧ s.stationRow.parkTime ≠ 0
            then some (10 * s.stationRow.parkTime) else none }
      ∧ t.pins = { s.pins with masterIsolation := true }
      ∧ ∀ q,
        let offered : Prop := (s.ctx q).opened = true ∧ (s.posRow q).pulseWeight ≠ 0
          ∧ (m = .run ∨ (m = .quiet ∧ (s.posRow q).required = .c00))
        ((s.ctx q).state = .closed → offered → t.ctx q = { s.ctx q with
            state := if u.level (.holster q) then .idle else .lifted })
        ∧ ((s.ctx q).state = .idle ∨ (s.ctx q).state = .lifted → ¬ offered →
            t.ctx q = { s.ctx q with state := .closed })
        ∧ ((s.ctx q).state = .closed → ¬ offered → t.ctx q = s.ctx q)
        ∧ ((s.ctx q).state = .idle ∨ (s.ctx q).state = .lifted → offered → t.ctx q = s.ctx q)
        ∧ ((s.ctx q).state.busySpan = true ∨ (s.ctx q).state = .fault → t.ctx q = s.ctx q)
    let live : Prop := x.level = false ∧ (s.ctx p).opened = true ∧ (s.posRow p).pulseWeight ≠ 0
    let seen := withRecord (.holster p) x s
    (∀ m n, (n = 1 ∧ m = Mode.parked) ∨ (n = 2 ∧ m = .quiet) ∨ (n = 3 ∧ m = .run) →
      s.smc.mode = .parked ∨ s.smc.mode = .quiet ∨ s.smc.mode = .run → s.smc.mode ≠ m →
      becomes (.modeSet rq n) m s)
    ∧ (live → s.smc.mode = .parked → (s.posRow p).wakeEnable = true → (s.posRow p).required = .c00 →
        becomes (.smcHolsterTransition p x) .quiet seen)
    ∧ (live → s.smc.mode = .parked → (s.posRow p).wakeEnable = true → (s.posRow p).required ≠ .c00 →
        becomes (.smcHolsterTransition p x) .run seen)
    ∧ (live → s.smc.mode = .quiet → (s.posRow p).required ≠ .c00 →
        becomes (.smcHolsterTransition p x) .run seen)
    ∧ (s.smc.mode = .parked → s.stationRow.bankLowWake = true → becomes .bankLow .quiet s)
    ∧ (s.smc.mode = .run → s.smc.idleTimer ≠ none → becomes .idleTimerExpiry .quiet s)
    ∧ (s.smc.mode = .quiet → s.smc.parkTimer ≠ none → becomes .parkTimeExpiry .parked s))
  ∧ (∀ (p : Pos) (rq : Req) (x : SigRec) (s : State), s.smc.inReset = false → s.latched = false →
    (∀ q, s.pcl.pending.get q = none) →
    let reports : List Instr := [.descentReport, .compressorStateReport]
    let effects (c : Instr) (m : Mode) : Prop :=
      let old := s.smc.mode
      let sent (u : State) : State := match c with
        | .modeSet r _ => reply r 16 .ok [] u
        | _ => u
      let crosses : Prop := old = .parked ∨ m = .parked
      let same : Prop := ∃ t, exec c s = .next t ∧ t.cmp = s.cmp ∧ t.bkm = s.bkm ∧ t.mail = s.mail
      let down : Cmp := { s.cmp with
        state := .cooldown, startedAt := none, primeTimer := none
        offTimer := some (10 * s.cmpRow.minOff) }
      let present : Prop := s.chillerRow.fitted = true
        ∧ (m = .run ∨ ∃ q, (s.pcl.demand.get q).isSome = true)
      let runs : Prop := s.chillerRow.fitted = true ∧ (s.pcl.state = .pulldown ∨ s.pcl.state = .ready)
      let pclIs (k : Pcl) : Prop := ∃ t, exec c s = .next t ∧ t.pcl = k
      let driven (e : CmdEntry) : Prop := s.mapped .chillerDrive = true → s.rif.ringOut ≠ none →
        s.rif.tripTaken = false → ∃ t, exec c s = .next t ∧ e ∈ t.rif.commands
      (¬ crosses → same)
      ∧ (s.cmp.state = .priming ∨ s.cmp.state = .cooldown ∨ s.cmp.state = .lockout → same)
      ∧ (∀ q, s.cmp.state = .loaded → s.cmp.dest = some (.direct q) → same)
      ∧ (s.cmp.state = .stopped → m = .parked → ∃ t, exec c s = .next t
          ∧ t.cmp = { s.cmp with refillWant := s.refillWanted, held := none } ∧ t.bkm = s.bkm
          ∧ t.mail = s.mail ++ (if s.refillWanted = true ∧ s.cmp.refillWant = false then [.bankLow] else []))
      ∧ (∀ b, s.cmp.state = .stopped → old = .parked →
          ∃ t v, exec c s = .next t
            ∧ exec (.cmpBankAnnouncement b) { s with smc := { s.smc with mode := m } } = .next v
            ∧ t.cmp = v.cmp ∧ t.ret = v.ret ∧ t.bkm = v.bkm ∧ t.mail = v.mail)
      ∧ (∀ q qs, crosses → s.cmp.state = .unloaded → s.cmp.waiters = q :: qs → ∃ t, exec c s = .next t
          ∧ t.cmp = { s.cmp with
              state := .loaded, holder := some (q, s.ret.clock), dest := some (.direct q)
              waiters := (q :: qs).filter (fun r => r ≠ q) }
          ∧ t.mail = s.mail ++ .filGranted q .compressor :: reports)
      ∧ (∀ b bs, old = .parked → s.cmp.state = .unloaded → s.cmp.waiters = [] →
          s.refillCandidates = b :: bs → ∃ t, exec c s = .next t
          ∧ t.cmp = { s.cmp with state := .loaded, dest := some (.refill b) }
          ∧ t.bank b = { s.bank b with
              state := .claimedCmp
              session := some ⟨.compressor, (s.bank b).inventory, (s.bank b).invValid, 0, s.ret.clock⟩ }
          ∧ t.mail = s.mail ++ reports)
      ∧ (crosses → s.cmp.state = .unloaded → s.cmp.waiters = [] → m = .parked ∨ s.refillCandidates = [] →
          (s.runTimer < s.cmpRow.minRun → same)
          ∧ (s.cmpRow.minRun ≤ s.runTimer → 0 < s.cmpRow.minOff → ∃ t, exec c s = .next t
              ∧ t.cmp = down ∧ t.mail = s.mail ++ reports
              ∧ (s.pcl.state = .fault → t.rif = (sent (close .compressorDrive s)).rif)))
      ∧ (∀ b y, m = .parked → s.cmp.state = .loaded → s.cmp.dest = some (.refill b) →
          (s.bank b).state = .claimedCmp → (s.bank b).session = some y → y.holder = .compressor →
          (s.bank b).waiters = [] →
          let ended (k : Cmp) (sent : List Instr) : Prop := ∃ t, exec c s = .next t ∧ t.cmp = k
            ∧ (t.bank b).state = .available ∧ (t.bank b).session = none
            ∧ t.mail = s.mail ++ [.filBankAnnouncement b, .cmpBankAnnouncement b] ++ sent
          (s.cmp.waiters = [] → s.runTimer < s.cmpRow.minRun → ended
            { s.cmp with state := .unloaded, dest := none, holder := none, primeTimer := none } reports)
          ∧ (s.cmp.waiters = [] → s.cmpRow.minRun ≤ s.runTimer → 0 < s.cmpRow.minOff → ended
            { down with dest := none, holder := none } (reports ++ reports))
          ∧ ∀ q qs, s.cmp.waiters = q :: qs → ended
            { s.cmp with
              state := .loaded, holder := some (q, s.ret.clock), dest := some (.direct q)
              waiters := (q :: qs).filter (fun r => r ≠ q), primeTimer := none }
            (.filGranted q .compressor :: reports ++ reports))
      ∧ (s.chillerRow.fitted = false ∨ s.pcl.state = .fault → pclIs s.pcl)
      ∧ (s.pcl.state = .parked → ¬ present → pclIs s.pcl)
      ∧ (s.pcl.state = .parked → present →
          pclIs (if s.chillerRow.readyOn ≤ s.pcl.reserve then
            { s.pcl with
              state := .ready, stabilised := s.chillerRow.stabilise == 0
              stabTimer := if s.chillerRow.stabilise = 0 then none else some (10 * s.chillerRow.stabilise) }
            else { s.pcl with state := .pulldown, stabilised := false, stabTimer := none })
          ∧ driven ⟨.chillerDrive, .open, 1000⟩)
      ∧ (runs → present → pclIs { s.pcl with parkTimer := none })
      ∧ (runs → ¬ present → s.pcl.parkTimer ≠ none → pclIs s.pcl)
      ∧ (runs → ¬ present → s.pcl.parkTimer = none → 0 < s.chillerRow.parkDelay →
          pclIs { s.pcl with parkTimer := some (10 * s.chillerRow.parkDelay) })
      ∧ (runs → ¬ present → s.pcl.parkTimer = none → s.chillerRow.parkDelay = 0 →
          pclIs { s.pcl with state := .parked, stabilised := false, stabTimer := none, parkTimer := none }
          ∧ driven ⟨.chillerDrive, .close, 0⟩)
    let live : Prop := x.level = false ∧ (s.ctx p).opened = true ∧ (s.posRow p).pulseWeight ≠ 0
    (∀ m n, (n = 1 ∧ m = Mode.parked) ∨ (n = 2 ∧ m = .quiet) ∨ (n = 3 ∧ m = .run) →
      s.smc.mode = .parked ∨ s.smc.mode = .quiet ∨ s.smc.mode = .run → s.smc.mode ≠ m →
      effects (.modeSet rq n) m)
    ∧ (live → s.smc.mode = .parked → (s.posRow p).wakeEnable = true → (s.posRow p).required = .c00 →
        effects (.smcHolsterTransition p x) .quiet)
    ∧ (live → s.smc.mode = .parked → (s.posRow p).wakeEnable = true → (s.posRow p).required ≠ .c00 →
        effects (.smcHolsterTransition p x) .run)
    ∧ (live → s.smc.mode = .quiet → (s.posRow p).required ≠ .c00 →
        effects (.smcHolsterTransition p x) .run)
    ∧ (s.smc.mode = .parked → s.stationRow.bankLowWake = true → effects .bankLow .quiet)
    ∧ (s.smc.mode = .run → s.smc.idleTimer ≠ none → effects .idleTimerExpiry .quiet)
    ∧ (s.smc.mode = .quiet → s.smc.parkTimer ≠ none → effects .parkTimeExpiry .parked))

/-- R201, R202, R203: the same commands where they change no mode: MODE-SET of another value than 1 to 3
is answered RANGE in every mode (that 1 to 3 are PARKED, QUIET and RUN, and the value judged before the
mode, is the model's reading, assumption log 31), in CONFIGURING and TRIP STATE, of the present mode OK
with no timer restarted; a nozzle put back, a nozzle lifted in RUN, at a position not in service or
whose row wakes nothing, a BANK-LOW out of PARKED or with the wake clear, and an expiry of a stopped
timer change nothing. R203: a report of a position or of the compressor: the descent timer of the
present mode starts when its condition holds and it is stopped, keeps running when it runs, and stops
when the condition fails; a time of 0 starts none. -/
def Obligations.ModeKept : Prop :=
  (∀ (p : Pos) (rq : Req) (x : SigRec) (s : State), s.smc.inReset = false →
    (∀ n, n = 0 ∨ 4 ≤ n → exec (.modeSet rq n) s = .next (reply rq 16 .range [] s))
    ∧ (∀ n, 1 ≤ n → n ≤ 3 → s.smc.mode = .configuring ∨ s.smc.mode = .trip →
      exec (.modeSet rq n) s = .next (reply rq 16 .state [] s))
    ∧ (∀ n, (n = 1 ∧ s.smc.mode = .parked) ∨ (n = 2 ∧ s.smc.mode = .quiet) ∨ (n = 3 ∧ s.smc.mode = .run) →
      exec (.modeSet rq n) s = .next (reply rq 16 .ok [] s))
    ∧ (x.level = true → exec (.smcHolsterTransition p x) s = .next s)
    ∧ (s.smc.mode = .run ∨ s.smc.mode = .configuring ∨ s.smc.mode = .trip →
      exec (.smcHolsterTransition p x) s = .next s)
    ∧ ((s.ctx p).opened = false ∨ (s.posRow p).pulseWeight = 0
        ∨ (s.smc.mode = .parked ∧ (s.posRow p).wakeEnable = false)
        ∨ (s.smc.mode = .quiet ∧ (s.posRow p).required = .c00) →
      exec (.smcHolsterTransition p x) s = .next s)
    ∧ (s.smc.mode ≠ .parked ∨ s.stationRow.bankLowWake = false → exec .bankLow s = .next s)
    ∧ (s.smc.idleTimer = none → exec .idleTimerExpiry s = .next s)
    ∧ (s.smc.parkTimer = none → exec .parkTimeExpiry s = .next s))
  ∧ (∀ s : State, s.smc.inReset = false →
    let quietNow : Prop := (∀ q, (s.ctx q).state.descentSpan = false)
    let off : Prop := s.cmp.state = .stopped ∨ s.cmpRow.fitted = false
    let idle (t : Option Nat) := updSmc (fun k => { k with idleTimer := t }) s
    let park (t : Option Nat) := updSmc (fun k => { k with parkTimer := t }) s
    (s.smc.mode = .run → quietNow → s.smc.idleTimer = none → 0 < s.stationRow.idleTime →
      exec .descentReport s = .next (idle (some (10 * s.stationRow.idleTime))))
    ∧ (s.smc.mode = .run → quietNow → s.smc.idleTimer = none → s.stationRow.idleTime = 0 →
      exec .descentReport s = .next s)
    ∧ (∀ n, s.smc.mode = .run → quietNow → s.smc.idleTimer = some n →
      exec .descentReport s = .next s)
    ∧ (s.smc.mode = .run → ¬ quietNow → exec .descentReport s = .next (idle none))
    ∧ (s.smc.mode = .quiet → quietNow → off → s.smc.parkTimer = none → 0 < s.stationRow.parkTime →
      exec .descentReport s = .next (park (some (10 * s.stationRow.parkTime))))
    ∧ (s.smc.mode = .quiet → ¬ quietNow ∨ ¬ off → exec .descentReport s = .next (park none))
    ∧ (s.smc.mode = .configuring ∨ s.smc.mode = .parked ∨ s.smc.mode = .trip →
      exec .descentReport s = .next s))

/-- R204, R205: the first trip cause sets the latch with the cause and the time, releases the master
isolation output, queues CLOSE for every actuator role, makes the mode TRIP with both descent timers
stopped, tells every unit (in the order of assumption log 32), and sends NOTICE TRIP with the row or
bank and the time as optional fields, the time absent while the clock reads UNSET (the model's reading,
log 10); a later one only raises the further-cause count, which stops at 255. TRIP is answered OK,
behind the notice (log 61). SUPPLY, the latch set before or not, ends with the part held in reset, the
master isolation output released, no message in flight left and the commands that wait kept (the model's
choice, logs 37 and 29). R205: RESTART is answered OK, and the restart waits for that reply to be sent;
CAUSE-CLEAR clears every flag and the last trip cause. -/
def Obligations.TripLatch : Prop :=
  (∀ (rq : Req) (s : State), s.smc.inReset = false →
    let opened := { s with pins := { s.pins with loopOpen := true } }
    let tripped (u : State) (c : TripCause) (t : State) : Prop :=
      t.smc = { s.smc with
          mode := .trip, latch := some ⟨c, s.ret.clock⟩, idleTimer := none, parkTimer := none }
        ∧ t.pins = { u.pins with masterIsolation := false }
        ∧ t.mail = s.mail ++ [.rifTrip, .bkmTrip, .cmpTrip, .pclTrip, .filTrip]
        ∧ t.ret = s.ret ∧ t.fil = s.fil ∧ t.bkm = s.bkm ∧ t.cmp = s.cmp ∧ t.pcl = s.pcl
        ∧ t.tables = s.tables ∧ t.sig = s.sig
    let told (c : TripCause) := notice .trip 0
      (u1 c.num ++ optField 1 (c.subject.map u1) ++ optField 4 (s.ret.clock.map u4))
      (closeAll (updSmc (fun k => { k with latch := some ⟨c, s.ret.clock⟩ }) s))
    let counted (u : State) := updSmc (fun k => { k with further := min 255 (k.further + 1) }) u
    (s.latched = false →
      (∀ c, ∃ t, exec (.tripCause c) s = .next t ∧ tripped s c t ∧ t.rif = (told c).rif)
      ∧ (∃ t, exec .tripLoopOpen s = .next t ∧ tripped opened .loop t ∧ t.rif = (told .loop).rif)
      ∧ (∃ t, exec (.tripRequest rq) s = .next (reply rq 17 .ok [] t) ∧ tripped s .request t
          ∧ t.rif = (told .request).rif)
      ∧ ∃ t, exec .supplyMonitorTrip s = .next t
          ∧ t.smc = { s.smc with
              mode := .trip, latch := some ⟨.supply, s.ret.clock⟩, idleTimer := none
              parkTimer := none, inReset := true }
          ∧ t.pins = { s.pins with masterIsolation := false } ∧ t.mail = [] ∧ t.ret = s.ret
          ∧ t.pending = s.pending)
    ∧ (s.latched = true →
      (∀ c, exec (.tripCause c) s = .next (counted s))
      ∧ exec .tripLoopOpen s = .next (counted opened)
      ∧ exec (.tripRequest rq) s = .next (reply rq 17 .ok [] (counted s))
      ∧ exec .supplyMonitorTrip s = .next { s with
          smc := { s.smc with further := min 255 (s.smc.further + 1), inReset := true }
          pins := { s.pins with masterIsolation := false }
          mail := [] }))
  ∧ (∀ (rq : Req) (s : State), s.smc.inReset = false →
    (0 < s.rif.reserved → s.rif.ringOut ≠ none →
      exec (.restartRequest rq) s = .next (updRif (fun r =>
        { r with
          reserved := r.reserved - 1
          replies := r.replies ++ [⟨rq.src, 18, rq.tag, 0, [], true⟩] }) s))
    ∧ exec (.causeClear rq) s = .next (reply rq 19 .ok [] (updRet (fun r =>
        { r with flags := ⟨false, false, false, false, false⟩, lastTrip := none }) s)))

/-! ## The tables and the items -/

/-- R195: TABLE-WRITE: a table outside 1 to 9 is answered UNKNOWN; a row number or data that are not a
row's are answered RANGE; otherwise the shadow row is replaced, and no active copy and no other table
changes. R196, R200, R5: TABLE-COMMIT: an objection is answered and changes nothing; a commit makes the
shadow the active copy with the next generation, and its reply carries that. A node map commit brings
its records afresh, tells each block that its records are ABSENT behind what is in flight, and drops
inventories and baselines at once (assumption log 33); a precool commit with another B_q has BKM take
that as an event of its own (R24); the commit that completes the required set leaves CONFIGURING for
PARKED. R4, R5, R34, R53, R74, R94, R97, R107, R154: what stands against a commit of each table, in
order: the first row of the shadow that fails its check, DUPLICATE or TABLE with its number; STATE out
of CONFIGURING and PARKED for tables 1, 3, 4 and 6; BUSY for a position in a state from AUTHORISED to
HANG-UP (1, 6), a bank to be unconfigured that is held or awaited (3), a compressor that runs or is
awaited (4), an older generation that is still held (7, 8). With none of these the commit is taken. R5,
R28, R35, R53, R74, R97, R107, R154: what a commit that is taken brings, where it does not also move the
mode: table 1 the command queue with one CLOSE for each actuator role (their order: assumption log 48);
table 3 each bank unconfigured, AVAILABLE and announced, kept with its inventory evaluated, or isolated
for its pressure with its session closed on that inventory (a newly configured one among them:
assumption log 56); table 4 the compressor made unfitted or fitted, or its start evaluation; table 5 the
chiller made unfitted or fitted, or its reserve and thresholds; table 6 no position offered; tables 7
and 8 the older generation while it has holders; table 9 the day number of the new rollover minute. -/
def Obligations.TableChanges : Prop :=
  (∀ (rq : Req) (row : Nat) (bs : List Byte) (s : State), s.smc.inReset = false →
    let ok (f : Tables → Tables) := reply rq 3 .ok [] (updTables f s)
    let range := reply rq 3 .range [] s
    (∀ n, n = 0 ∨ 10 ≤ n → exec (.tableWrite rq n row bs) s = .next (reply rq 3 .unknown [] s))
    ∧ (∀ r, row < 64 → parseNodeRow bs = some r → exec (.tableWrite rq 1 row bs) s =
      .next (ok fun t => { t with nodeMap := { t.nodeMap with shadow := t.nodeMap.shadow.set row r } }))
    ∧ (64 ≤ row ∨ parseNodeRow bs = none → exec (.tableWrite rq 1 row bs) s = .next range)
    ∧ (∀ r, parseStation bs = some r → exec (.tableWrite rq 2 0 bs) s =
      .next (ok fun t => { t with station := { t.station with shadow := r } }))
    ∧ (row ≠ 0 ∨ parseStation bs = none → exec (.tableWrite rq 2 row bs) s = .next range)
    ∧ (∀ b r, row + 1 = Bank.num b → parseBankRow bs = some r → exec (.tableWrite rq 3 row bs) s =
      .next (ok fun t => { t with bank := { t.bank with
        shadow := { t.bank.shadow with rows := t.bank.shadow.rows.set b r } } }))
    ∧ (∀ es, parseSequence bs = some es →
      exec (.tableWrite rq 3 4 bs) s =
          .next (ok fun t => { t with bank := { t.bank with shadow := { t.bank.shadow with h35 := es } } })
        ∧ exec (.tableWrite rq 3 5 bs) s =
          .next (ok fun t => { t with bank := { t.bank with shadow := { t.bank.shadow with h70 := es } } }))
    ∧ (6 ≤ row → exec (.tableWrite rq 3 row bs) s = .next range)
    ∧ (∀ r, parseCmpRow bs = some r → exec (.tableWrite rq 4 0 bs) s =
      .next (ok fun t => { t with compressor := { t.compressor with shadow := r } }))
    ∧ (∀ r, parseChillerRow bs = some r → exec (.tableWrite rq 5 0 bs) s =
      .next (ok fun t => { t with precool := { t.precool with
        shadow := { t.precool.shadow with row0 := r } } }))
    ∧ (∀ a b c, parseCategories bs = some (a, b, c) → exec (.tableWrite rq 5 1 bs) s =
      .next (ok fun t => { t with precool := { t.precool with
        shadow := { t.precool.shadow with c40 := a, c30 := b, c20 := c } } }))
    ∧ (∀ p r, row + 1 = Pos.num p → parsePosRow bs = some r → exec (.tableWrite rq 6 row bs) s =
      .next (ok fun t => { t with position := { t.position with shadow := t.position.shadow.set p r } }))
    ∧ (∀ r, parseFillRow s.tables.fillH35.copy.shadow row bs = some r →
      exec (.tableWrite rq 7 row bs) s = .next (ok fun t => { t with
        fillH35 := { t.fillH35 with copy := { t.fillH35.copy with shadow := r } } }))
    ∧ (∀ r, parseFillRow s.tables.fillH70.copy.shadow row bs = some r →
      exec (.tableWrite rq 8 row bs) s = .next (ok fun t => { t with
        fillH70 := { t.fillH70 with copy := { t.fillH70.copy with shadow := r } } }))
    ∧ (∀ r, parseTariffRow s.tables.tariff.shadow row bs = some r →
      exec (.tableWrite rq 9 row bs) s =
        .next (ok fun t => { t with tariff := { t.tariff with shadow := r } }))
    ∧ (row ≤ 3 → parseBankRow bs = none → exec (.tableWrite rq 3 row bs) s = .next range)
    ∧ (row = 4 ∨ row = 5 → parseSequence bs = none → exec (.tableWrite rq 3 row bs) s = .next range)
    ∧ (row ≠ 0 ∨ parseCmpRow bs = none → exec (.tableWrite rq 4 row bs) s = .next range)
    ∧ (2 ≤ row ∨ (row = 0 ∧ parseChillerRow bs = none) ∨ (row = 1 ∧ parseCategories bs = none) →
      exec (.tableWrite rq 5 row bs) s = .next range)
    ∧ (4 ≤ row ∨ parsePosRow bs = none → exec (.tableWrite rq 6 row bs) s = .next range)
    ∧ (98 ≤ row ∨ parseFillRow s.tables.fillH35.copy.shadow row bs = none →
      exec (.tableWrite rq 7 row bs) s = .next range)
    ∧ (98 ≤ row ∨ parseFillRow s.tables.fillH70.copy.shadow row bs = none →
      exec (.tableWrite rq 8 row bs) s = .next range)
    ∧ (5 ≤ row ∨ parseTariffRow s.tables.tariff.shadow row bs = none →
      exec (.tableWrite rq 9 row bs) s = .next range))
  ∧ (∀ (rq : Req) (s : State), s.smc.inReset = false →
    let next (g : Nat) := if g < 65535 then g + 1 else 1
    (∀ n, n = 0 ∨ 10 ≤ n → exec (.tableCommit rq n) s = .next (reply rq 5 .unknown [] s))
    ∧ (∀ n st d, 1 ≤ n → n ≤ 9 → s.objection n = some (st, d) →
      exec (.tableCommit rq n) s = .next (reply rq 5 st d s))
    ∧ (∀ n, 1 ≤ n → n ≤ 9 → s.objection n = none → ∃ t, exec (.tableCommit rq n) s = .next t
        ∧ t.tables = s.tables.commit n ∧ t.tables.genOf n = next (s.tables.genOf n)
        ∧ (0 < s.rif.reserved → s.rif.ringOut ≠ none →
            t.rif.replies = s.rif.replies ++ [⟨rq.src, 5, rq.tag, 0, u2 (next (s.tables.genOf n)), false⟩]))
    ∧ (s.smc.mode ≠ .configuring → exec (.tableCommit rq 2) s =
      .next (reply rq 5 .ok (u2 (next s.tables.station.gen)) (updTables (fun t =>
        { t with station := ⟨t.station.shadow, t.station.shadow, next t.station.gen⟩ }) s)))
    ∧ (s.smc.mode = .configuring → (s.tables.commit 2).complete = true → ∃ t,
      exec (.tableCommit rq 2) s = .next t ∧ t.smc.mode = .parked
        ∧ t.pins.masterIsolation = true ∧ t.tables = s.tables.commit 2)
    ∧ (s.objection 1 = none → ∃ t, exec (.tableCommit rq 1) s = .next t
        ∧ t.tables.nodeMap =
            ⟨s.tables.nodeMap.shadow, s.tables.nodeMap.shadow, next s.tables.nodeMap.gen⟩
        ∧ t.sig = recordsOf (validRows s.tables.nodeMap.shadow)
        ∧ (s.mail <+: t.mail)
        ∧ (∀ z ∈ t.sig, ∀ m ∈ qualityMessages z.1 (t.record z.1), m ∈ t.mail)
        ∧ (∀ r, t.quality r = .absent) ∧ (∀ b, (t.bank b).invValid = false ∧ (t.bank b).inventory = 0)
        ∧ ∀ p, (t.meter p).baseline = none)
    ∧ (s.objection 5 = none → ∃ t, exec (.tableCommit rq 5) s = .next t
        ∧ t.tables.precool = ⟨s.tables.precool.shadow, s.tables.precool.shadow, next s.tables.precool.gen⟩
        ∧ t.bkmBq = s.bkmBq ∧ t.bkm = s.bkm
        ∧ (s.tables.precool.shadow.row0.bq ≠ s.tables.precool.active.row0.bq → .bQChange ∈ t.mail)))
  ∧ (∀ (rq : Req) (s : State), s.smc.inReset = false →
    let refuses (n : Nat) (st : Status) (d : List Byte) : Prop :=
      exec (.tableCommit rq n) s = .next (reply rq 5 st d s)
    let at' : Prop := s.smc.mode = .configuring ∨ s.smc.mode = .parked
    let map := s.tables.nodeMap.shadow
    let clash (a b : NodeRow) : Bool := decide (a.role = b.role ∨ (a.role.kind ≠ .tenderSource
      ∧ b.role.kind ≠ .tenderSource ∧ a.source = b.source ∧ a.channel = b.channel))
    let repeats (n : Nat) : Bool := map[n]?.any (fun x => x.any (fun a =>
      (map.take n).any (fun o => o.any (clash a))))
    let single : Prop := ∀ n, n < map.length → repeats n = false
    let bank := s.tables.bank.shadow.rows
    let badBank (b : Bank) : Prop := (bank.get b).configured = true
      ∧ ¬ ((bank.get b).floor < (bank.get b).refillStart ∧ (bank.get b).refillStart < (bank.get b).fillTo
          ∧ (bank.get b).fillTo ≤ (bank.get b).rated)
    let inUse (b : Bank) : Prop := (s.bankRow b).configured = true ∧ (bank.get b).configured = false
      ∧ ((s.bank b).waiters ≠ [] ∨ ((s.bank b).state ≠ .available ∧ (s.bank b).state ≠ .isolated
          ∧ (s.bank b).state ≠ .unconfigured))
    let cmp := s.tables.compressor.shadow
    let running : Prop := s.cmp.state = .priming ∨ s.cmp.state = .unloaded ∨ s.cmp.state = .loaded
    let cold := s.tables.precool.shadow
    let row0 : Prop := cold.row0.readyOff < cold.row0.readyOn ∧ cold.row0.readyOn ≤ cold.row0.capacity
    let row1 : Prop := cold.c40.bound < cold.c30.bound ∧ cold.c30.bound < cold.c20.bound
      ∧ ∀ c ∈ [cold.c40, cold.c30, cold.c20], c.target < c.bound ∧ c.threshold ≤ cold.row0.capacity
    let pos := s.tables.position.shadow
    let badPos (p : Pos) : Prop := ((pos.get p).fallback.any (fun c => c.rank ≤ (pos.get p).required.rank)) = true
    let fill (n : Nat) (k : PClass) (cap : Nat) : Prop :=
      let f := s.tables.fill k
      let u := f.copy.shadow
      let edges : Prop := u.volEdges.Pairwise (· < ·) ∧ u.ambEdges.Pairwise (· < ·) ∧ u.p0Edges.Pairwise (· < ·)
      let figures : Prop := u.params.nonCommCap ≤ cap ∧ u.params.upperBand < u.params.abortBand
      let high (i : Nat) : Bool := (u.cells[i]?).any (fun cs => cs.any (fun c => decide (cap < c.pEnd)))
      let cells : Prop := ∀ i, i < u.cells.length → high i = false
      (¬ edges → refuses n .table (u1 0))
      ∧ (edges → ¬ figures → refuses n .table (u1 1))
      ∧ (∀ i, edges → figures → high i = true → (∀ j, j < i → high j = false) →
          refuses n .table (u1 (i + 2)))
      ∧ (edges → figures → cells → f.older ≠ none → refuses n .busy [])
      ∧ (edges → figures → cells → f.older = none → s.objection n = none)
    let bands := s.tables.tariff.shadow.bands
    let inOrder : Prop := bands.head? = some 0 ∧ bands.Pairwise (· < ·)
    ((∀ n, repeats n = true → (∀ m, m < n → repeats m = false) → refuses 1 .duplicate (u1 n))
      ∧ (single → ¬ at' → refuses 1 .state [])
      ∧ (∀ q, single → at' → (s.ctx q).state.busySpan = true → refuses 1 .busy [])
      ∧ (single → at' → (∀ q, (s.ctx q).state.busySpan = false) → s.objection 1 = none))
    ∧ s.objection 2 = none
    ∧ ((∀ b, badBank b → (∀ d : Bank, d.num < b.num → ¬ badBank d) → refuses 3 .table (u1 (b.num - 1)))
      ∧ ((∀ d, ¬ badBank d) → ¬ at' → refuses 3 .state [])
      ∧ (∀ b, (∀ d, ¬ badBank d) → at' → inUse b → refuses 3 .busy [])
      ∧ ((∀ d, ¬ badBank d) → at' → (∀ d, ¬ inUse d) → s.objection 3 = none))
    ∧ ((10000 < cmp.suctionMin + cmp.hysteresis → refuses 4 .table (u1 0))
      ∧ (cmp.suctionMin + cmp.hysteresis ≤ 10000 → ¬ at' → refuses 4 .state [])
      ∧ (cmp.suctionMin + cmp.hysteresis ≤ 10000 → at' → running ∨ s.cmp.waiters ≠ [] → refuses 4 .busy [])
      ∧ (cmp.suctionMin + cmp.hysteresis ≤ 10000 → at' → ¬ running → s.cmp.waiters = [] →
          s.objection 4 = none))
    ∧ ((cold.row0.fitted = true → ¬ row0 → refuses 5 .table (u1 0))
      ∧ (cold.row0.fitted = true → row0 → ¬ row1 → refuses 5 .table (u1 1))
      ∧ (cold.row0.fitted = false ∨ (row0 ∧ row1) → s.objection 5 = none))
    ∧ ((∀ p, badPos p → (∀ q : Pos, q.num < p.num → ¬ badPos q) → refuses 6 .table (u1 (p.num - 1)))
      ∧ ((∀ q, ¬ badPos q) → ¬ at' → refuses 6 .state [])
      ∧ (∀ p, (∀ q, ¬ badPos q) → at' → (s.ctx p).state.busySpan = true → refuses 6 .busy [])
      ∧ ((∀ q, ¬ badPos q) → at' → (∀ q, (s.ctx q).state.busySpan = false) → s.objection 6 = none))
    ∧ fill 7 .h35 3850
    ∧ fill 8 .h70 7700
    ∧ ((¬ inOrder → refuses 9 .table (u1 0)) ∧ (inOrder → s.objection 9 = none)))
  ∧ (∀ (rq : Req) (s : State), s.smc.inReset = false →
    let next (g : Nat) := if g < 65535 then g + 1 else 1
    let takes (n : Nat) : Prop := s.objection n = none
      ∧ (s.smc.mode ≠ .configuring ∨ (s.tables.commit n).complete = false)
    let entry (r : Role) (c : ActCommand) (v : Nat) (t : State) : Prop :=
      s.rif.ringOut ≠ none → s.mapped r = true → s.tripHeld = false → ⟨r, c, v⟩ ∈ t.rif.commands
    let evaluated (t : State) : Cmp := if s.cmp.state = .stopped
      then { s.cmp with refillWant := t.refillWanted, held := none } else s.cmp
    let was := s.chillerRow
    let cold := s.tables.precool.shadow.row0
    let present : Prop := s.latched = false
      ∧ (s.smc.mode = .run ∨ ∃ q, (s.pcl.demand.get q).isSome = true)
    let parked : Pcl := { s.pcl with
      state := .parked, stabilised := false, stabTimer := none, parkTimer := none, reserve := 0
      cause := none }
    let kept : Pcl :=
      let n := min s.pcl.reserve cold.capacity
      if s.pcl.state = .pulldown ∧ cold.readyOn ≤ n then
        { s.pcl with
          reserve := n, state := .ready, stabilised := cold.stabilise == 0
          stabTimer := if cold.stabilise = 0 then none else some (10 * cold.stabilise) }
      else if s.pcl.state = .ready ∧ n < cold.readyOff then
        { s.pcl with reserve := n, state := .pulldown, stabilised := false, stabTimer := none }
      else { s.pcl with reserve := n }
    let contact : Prop := s.usable .chillerFault = true ∧ s.level .chillerFault = true
    let pclIs (f : Pcl) : Prop := ∃ t, exec (.tableCommit rq 5) s = .next t ∧ t.pcl = f
    let older (k : PClass) : Option OlderGen :=
      let f := s.tables.fill k
      if f.holders = 0 then none else some ⟨f.copy.gen, f.copy.active, f.holders⟩
    (takes 1 → s.rif.ringOut ≠ none → ∃ t, (exec (.tableCommit rq 1) s = .next t ∧ t.rif.commands =
      (((validRows s.tables.nodeMap.shadow).map (fun x => x.2.role)).filter (fun r => r.kind = .actuator)).map
        (fun r => ⟨r, .close, 0⟩)))
    ∧ (takes 3 → ∃ t, (exec (.tableCommit rq 3) s = .next t ∧ t.cmp = evaluated t ∧ ∀ b : Bank,
        let r := s.tables.bank.shadow.rows.get b
        let both := s.usable (.bankPressure b) && s.usable (.bankTemp b)
        let figure := if both then
            density s.bkmBq (s.value (.bankPressure b)) (s.value (.bankTemp b)) * r.volume / 1000
          else (s.bank b).inventory
        let above : Prop := s.usable (.bankPressure b) = true ∧ (r.rated : Int) < s.value (.bankPressure b)
        let marked (y : Session) : Session :=
          { y with openValid := y.openValid && r.volume == (s.bankRow b).volume }
        let checked (y : Session) := drawOutcome s.stationRow y figure both
        (r.configured = false → t.bank b =
          { s.bank b with state := .unconfigured, cause := none, inventory := 0, invValid := false })
        ∧ (r.configured = true → (s.bank b).state = .unconfigured →
            .filBankAnnouncement b ∈ t.mail ∧ .cmpBankAnnouncement b ∈ t.mail)
        ∧ (r.configured = true → (s.bank b).state = .isolated ∨ ¬ above →
            t.bank b = { s.bank b with
              state := if (s.bank b).state = .unconfigured then .available else (s.bank b).state
              inventory := figure, invValid := both
              session := if r.volume = (s.bankRow b).volume then (s.bank b).session
                else (s.bank b).session.map (fun x => { x with openValid := false }) })
        ∧ (r.configured = true → (s.bank b).state ≠ .isolated → above →
            (t.bank b).state = .isolated ∧ (t.bank b).cause = some .overpressure
              ∧ (t.bank b).waiters = [] ∧ (t.bank b).session = none
              ∧ (t.bank b).inventory = figure ∧ (t.bank b).invValid = both
              ∧ (t.bank b).last = (match (s.bank b).session.map marked with
                  | none => (s.bank b).last
                  | some y => match y.holder with
                    | .pos p => some (.draw p (checked y).1 (checked y).2)
                    | .compressor => some (.refill (refillGain y figure both)))
              ∧ ((s.bank b).session.map marked).all (fun y => match y.holder with
                  | .pos p => decide (.sessionOutcome p b (checked y).1 ∈ t.mail)
                  | .compressor => true) = true
              ∧ (∀ p, (s.bank b).state = .claimedPos p →
                  .filLost p (.bank b) (.isolated .overpressure) ∈ t.mail)
              ∧ ((s.bank b).state = .claimedCmp → .cmpBankLost ⟨b, .isolated .overpressure⟩ ∈ t.mail)
              ∧ ∀ p ∈ (s.bank b).waiters, .waitCancelled p (.bank b) ∈ t.mail)))
    ∧ (takes 4 →
        let cleared (t : State) : Cmp := { s.cmp with
          state := .stopped, cause := none, waiters := [], held := none, startedAt := none
          primeTimer := none, offTimer := none, refillWant := t.refillWanted }
        let told (t : State) : Prop := .descentReport ∈ t.mail ∧ .compressorStateReport ∈ t.mail
        (s.cmpRow.fitted = true → s.tables.compressor.shadow.fitted = false →
          ∃ t, (exec (.tableCommit rq 4) s = .next t ∧ t.cmp = { cleared t with supplyLow := false } ∧ told t
            ∧ entry .compressorDrive .close 0 t))
        ∧ (s.cmpRow.fitted = false → s.tables.compressor.shadow.fitted = true →
            ∃ t, (exec (.tableCommit rq 4) s = .next t ∧ t.cmp = cleared t ∧ told t
              ∧ (s.rif.ringOut ≠ none → t.rif.commands = s.rif.commands)
              ∧ t.rif = (reply rq 5 .ok (u2 (next s.tables.compressor.gen)) s).rif))
        ∧ (s.cmpRow.fitted = s.tables.compressor.shadow.fitted →
            ∃ t, (exec (.tableCommit rq 4) s = .next t ∧ t.cmp = evaluated t ∧ t.ret = s.ret)))
    ∧ (takes 5 → (∀ q, s.pcl.pending.get q = none) →
        (was.fitted = false → cold.fitted = false → pclIs s.pcl)
        ∧ (was.fitted = true → cold.fitted = false →
            ∃ t, (exec (.tableCommit rq 5) s = .next t ∧ t.pcl = parked ∧ entry .chillerDrive .close 0 t))
        ∧ (was.fitted = false → cold.fitted = true → contact →
            pclIs { parked with state := .fault, cause := some .level })
        ∧ (was.fitted = false → cold.fitted = true → ¬ contact → ¬ present → pclIs parked)
        ∧ (was.fitted = false → cold.fitted = true → ¬ contact → present →
            ∃ t, (exec (.tableCommit rq 5) s = .next t ∧ t.pcl = { parked with state := .pulldown }
              ∧ entry .chillerDrive .open 1000 t))
        ∧ (was.fitted = true → cold.fitted = true → s.pcl.state = .fault ∨ (s.pcl.state = .parked ∧ ¬ present) →
            pclIs { s.pcl with reserve := min s.pcl.reserve cold.capacity })
        ∧ (was.fitted = true → cold.fitted = true → s.pcl.state = .pulldown ∨ s.pcl.state = .ready →
            (present → pclIs { kept with parkTimer := none })
            ∧ (¬ present → s.pcl.parkTimer ≠ none → pclIs kept)
            ∧ (¬ present → s.pcl.parkTimer = none → 0 < cold.parkDelay →
                pclIs { kept with parkTimer := some (10 * cold.parkDelay) })
            ∧ (¬ present → s.pcl.parkTimer = none → cold.parkDelay = 0 →
                pclIs { parked with reserve := kept.reserve, cause := s.pcl.cause })))
    ∧ (takes 5 → ∀ (p : Pos) (c : Category) (x : CategoryRow),
        s.tables.precool.shadow.category c = some x → s.pcl.pending.get p = some c → cold.fitted = true →
        was.fitted = true → s.pcl.state = .ready → s.pcl.stabilised = true → present →
        cold.readyOff ≤ min s.pcl.reserve cold.capacity →
        let sure : Prop := s.mapped .chillerFault = false ∨ s.usable .chillerFault = true
        (sure → x.threshold ≤ min s.pcl.reserve cold.capacity →
            ∃ t, (exec (.tableCommit rq 5) s = .next t ∧ .admitted p c ∈ t.mail ∧ t.pcl.pending.get p = none))
        ∧ (¬ sure ∨ min s.pcl.reserve cold.capacity < x.threshold →
            ∃ t, (exec (.tableCommit rq 5) s = .next t ∧ t.pcl.pending.get p = some c)))
    ∧ (takes 6 → ∃ t, (exec (.tableCommit rq 6) s = .next t ∧ ∀ q : Pos, t.ctx q = { s.ctx q with
        state := if (s.ctx q).state = .idle ∨ (s.ctx q).state = .lifted then .closed else (s.ctx q).state }))
    ∧ (takes 7 → exec (.tableCommit rq 7) s = .next (reply rq 5 .ok (u2 (next s.tables.fillH35.copy.gen))
        (updTables (fun t => { t with fillH35 :=
          ⟨⟨t.fillH35.copy.shadow, t.fillH35.copy.shadow, next t.fillH35.copy.gen⟩, 0, older .h35⟩ }) s)))
    ∧ (takes 8 → exec (.tableCommit rq 8) s = .next (reply rq 5 .ok (u2 (next s.tables.fillH70.copy.gen))
        (updTables (fun t => { t with fillH70 :=
          ⟨⟨t.fillH70.copy.shadow, t.fillH70.copy.shadow, next t.fillH70.copy.gen⟩, 0, older .h70⟩ }) s)))
    ∧ (takes 9 →
        let base := updTables (fun t =>
          { t with tariff := ⟨t.tariff.shadow, t.tariff.shadow, next t.tariff.gen⟩ }) s
        let ok (u : State) := reply rq 5 .ok (u2 (next s.tables.tariff.gen)) u
        let minute := s.tables.tariff.shadow.rollover
        (s.tariff.rollover = minute ∨ s.ret.clock = none → exec (.tableCommit rq 9) s = .next (ok base))
        ∧ ∀ n : Nat, s.ret.clock = some n → s.tariff.rollover ≠ minute →
          let d : Int := ((n : Int) - minute * 60) / 86400
          (s.ret.heldDay = some d → exec (.tableCommit rq 9) s = .next (ok base))
          ∧ (s.ret.heldDay ≠ some d → exec (.tableCommit rq 9) s = .next (ok (notice .dayRollover 0 (beInt 4 d)
              (updRet (fun r =>
                { r with
                  heldDay := some d
                  accounts := r.accounts.map (Option.map (fun a => { a with used := 0 })) }) base))))))

/-- R195: TABLE-READ answers the row of the copy named with the table, the row, the copy and the
generation, and changes nothing; a row the table does not have is answered RANGE; TABLE-DISCARD copies
the active copy over the shadow, in any mode. R197, R180, R206: READ-ITEM: an item code outside 1 to 10
is answered UNKNOWN, an index or a section the item does not have RANGE; the clocks are answered as they
stand, and a totaliser in grams and the milligrams left over, with its position (the layouts are the
model's, assumption log 13); reading the ring status clears the notice-overrun flag, and nothing else
changes. R197, R7, R36, R44, R46, R54, R75, R85, R108, R86, R136, R156, R201, R205: the contents of the
items, in the order of their owners' listings, sent in sections of 51 bytes (the layout is the model's,
assumption logs 13, 47, 50, 55, 57 and 62). Reading the ring status clears the notice-overrun flag. -/
def Obligations.ReadRequests : Prop :=
  (∀ (rq : Req) (row copy : Nat) (s : State), s.smc.inReset = false →
    let ok (n : Nat) (gen : Nat) (d : List Byte) :=
      reply rq 2 .ok (u1 n ++ u1 row ++ u1 copy ++ u2 gen ++ d) s
    let gone (f : Tables → Tables) := reply rq 4 .ok [] (updTables f s)
    (∀ n, n = 0 ∨ 10 ≤ n → exec (.tableRead rq n row copy) s = .next (reply rq 2 .unknown [] s)
      ∧ exec (.tableDiscard rq n) s = .next (reply rq 4 .unknown [] s))
    ∧ (∀ n, 1 ≤ n → n ≤ 9 → 2 ≤ copy →
      exec (.tableRead rq n row copy) s = .next (reply rq 2 .range [] s))
    ∧ (copy ≤ 1 →
      let own {α : Type} (c : Copy α) : α := if copy = 0 then c.active else c.shadow
      let reads (n gen : Nat) (d : List Byte) : Prop :=
        exec (.tableRead rq n row copy) s = .next (ok n gen d)
      let none' (n : Nat) : Prop := exec (.tableRead rq n row copy) s = .next (reply rq 2 .range [] s)
      let k := s.tables
      (∀ r, (own k.nodeMap)[row]? = some r → reads 1 k.nodeMap.gen (printNodeRow r))
      ∧ ((own k.nodeMap).length ≤ row → none' 1)
      ∧ (row = 0 → reads 2 k.station.gen (printStation (own k.station)))
      ∧ (∀ b, row + 1 = Bank.num b → reads 3 k.bank.gen (printBankRow ((own k.bank).rows.get b)))
      ∧ (row = 4 → reads 3 k.bank.gen (printSequence (own k.bank).h35))
      ∧ (row = 5 → reads 3 k.bank.gen (printSequence (own k.bank).h70))
      ∧ (row = 0 → reads 4 k.compressor.gen (printCmpRow (own k.compressor)))
      ∧ (row = 0 → reads 5 k.precool.gen (printChillerRow (own k.precool).row0))
      ∧ (row = 1 → reads 5 k.precool.gen (printCategories (own k.precool)))
      ∧ (∀ p, row + 1 = Pos.num p → reads 6 k.position.gen (printPosRow ((own k.position).get p)))
      ∧ (row < 98 → reads 7 k.fillH35.copy.gen (printFillRow (own k.fillH35.copy) row)
          ∧ reads 8 k.fillH70.copy.gen (printFillRow (own k.fillH70.copy) row))
      ∧ (row < 5 → reads 9 k.tariff.gen (printTariffRow (own k.tariff) row))
      ∧ (1 ≤ row → none' 2 ∧ none' 4) ∧ (6 ≤ row → none' 3) ∧ (2 ≤ row → none' 5)
      ∧ (4 ≤ row → none' 6) ∧ (98 ≤ row → none' 7 ∧ none' 8) ∧ (5 ≤ row → none' 9))
    ∧ exec (.tableDiscard rq 1) s =
      .next (gone fun t => { t with nodeMap := { t.nodeMap with shadow := t.nodeMap.active } })
    ∧ exec (.tableDiscard rq 2) s =
      .next (gone fun t => { t with station := { t.station with shadow := t.station.active } })
    ∧ exec (.tableDiscard rq 3) s =
      .next (gone fun t => { t with bank := { t.bank with shadow := t.bank.active } })
    ∧ exec (.tableDiscard rq 4) s =
      .next (gone fun t => { t with compressor := { t.compressor with shadow := t.compressor.active } })
    ∧ exec (.tableDiscard rq 5) s =
      .next (gone fun t => { t with precool := { t.precool with shadow := t.precool.active } })
    ∧ exec (.tableDiscard rq 9) s =
      .next (gone fun t => { t with tariff := { t.tariff with shadow := t.tariff.active } })
    ∧ exec (.tableDiscard rq 7) s = .next (gone fun t => { t with
        fillH35 := { t.fillH35 with copy := { t.fillH35.copy with shadow := t.fillH35.copy.active } } })
    ∧ exec (.tableDiscard rq 6) s =
      .next (gone fun t => { t with position := { t.position with shadow := t.position.active } })
    ∧ exec (.tableDiscard rq 8) s = .next (gone fun t => { t with
        fillH70 := { t.fillH70 with copy := { t.fillH70.copy with shadow := t.fillH70.copy.active } } }))
  ∧ (∀ (rq : Req) (index unit second sect : Nat) (s : State), s.smc.inReset = false →
    (∀ n, n = 0 ∨ 11 ≤ n →
      exec (.readItem rq n index unit second sect) s = .next (reply rq 1 .unknown [] s))
    ∧ (∀ n, n ≠ 0 → n ≤ 10 → s.item n index unit second = none →
      exec (.readItem rq n index unit second sect) s = .next (reply rq 1 .range [] s))
    ∧ (∀ p, index = Pos.num p → sect = 0 → exec (.readItem rq 10 index unit second sect) s =
      .next (reply rq 1 .ok (u1 0 ++ u1 1 ++ (u1 p.num ++ u8 (s.ret.totaliser.get p / 1000)
        ++ u2 (s.ret.totaliser.get p % 1000))) s))
    ∧ (∀ p, index = Pos.num p → 1 ≤ sect → exec (.readItem rq 10 index unit second sect) s =
      .next (reply rq 1 .range [] s))
    ∧ (index = 0 → sect = 0 → exec (.readItem rq 4 index unit second sect) s =
      .next (reply rq 1 .ok
        (u1 0 ++ u1 1 ++ (optField 4 (s.ret.clock.map u4) ++ u4 s.ret.runSeconds)) s))
    ∧ (index = 0 → sect = 0 → ∃ d, exec (.readItem rq 3 index unit second sect) s =
      .next (reply rq 1 .ok d (updRif (fun r => { r with overrun := false }) s))))
  ∧ (∀ (rq : Req) (index unit second sect : Nat) (s : State), s.smc.inReset = false →
    let sends (n : Nat) (bs : List Byte) : Prop :=
      let count := max 1 ((bs.length + 50) / 51)
      let after := if n = 3 then updRif (fun r => { r with overrun := false }) s else s
      exec (.readItem rq n index unit second sect) s = .next (if sect < count
        then reply rq 1 .ok (u1 sect ++ u1 count ++ (bs.drop (51 * sect)).take 51) after
        else reply rq 1 .range [] s)
    let timer (t : Option Nat) : List Byte := optField 2 (t.map u2)
    let clock (t : Option Nat) : List Byte := optField 4 (t.map u4)
    let category (c : Option Category) : List Byte := optField 1 (c.map (fun k => u1 k.rank))
    let cause (c : Option TripCause) : List Byte :=
      optField 1 (c.map (fun x => u1 x.num)) ++ optField 1 ((c.bind TripCause.subject).map u1)
    let value (r : Role) : List Byte := u1 (s.quality r).num ++ i2 (s.value r)
    let level (r : Role) : List Byte := u1 (s.quality r).num ++ uFlag (s.level r)
    let m := s.smc
    let f := s.ret.flags
    let r := s.rif
    (index = 0 → sends 1 (u1 m.mode.num ++ uFlag s.latched ++ cause (m.latch.map TripInfo.cause)
      ++ u1 m.further ++ clock (m.latch.bind TripInfo.time) ++ clock m.idleTimer ++ clock m.parkTimer))
    ∧ (index = 0 → sends 2 (uFlag f.power ++ uFlag f.supplyDip ++ uFlag f.command ++ uFlag f.tripAtRestart
      ++ uFlag f.retainLost ++ cause s.ret.lastTrip))
    ∧ (index = 0 → sends 3 (u2 r.checkErrors ++ u2 r.formatErrors ++ u2 r.transitOverflows
      ++ u2 r.requestDiscards ++ uFlag r.overrun ++ u1 r.transit.length ++ u1 r.commands.length
      ++ u1 (r.replies.length + r.reserved) ++ u1 r.notices.length))
    ∧ (∀ (o : Role) (row : Nat) (x : NodeRow), (index, unit, second) = o.code → s.rowOf o = some (row, x) →
        let y := s.record o
        let v := y.vehicle
        let item (bs : List Byte) : Prop := sends 5 (u1 1 ++ u1 row ++ u1 y.quality.num ++ bs
          ++ u1 y.region.num ++ u2 (y.timer.getD 0))
        (o.kind = .analogue ∨ o.kind = .count → item (i2 y.value))
        ∧ (o.kind = .digital → item (uFlag y.level))
        ∧ (o.kind = .vehicle → item (optField 1 (v.version.map u1) ++ optField 2 (v.volume.map u2)
            ++ optField 1 (v.pclass.map (fun k => u1 k.num))
            ++ optField 2 (v.pressure.map (fun p => u2 p.toNat)) ++ optField 2 (v.temp.map i2)
            ++ optField 1 (v.command.map (fun c => u1 (Machine.FillCommand.num c))))))
    ∧ (∀ o : Role, (index, unit, second) = o.code →
        (o.kind.isInput = true → s.rowOf o = none → sends 5 (u1 0 ++ u1 0 ++ u1 0))
        ∧ (o.kind.isInput = false →
            exec (.readItem rq 5 index unit second sect) s = .next (reply rq 1 .range [] s)))
    ∧ (∀ b : Bank, index = b.num →
        let k := s.bank b
        let figures (l : LastSession) : List Byte := match l with
          | .draw p o y => u1 0 ++ u1 p.num ++ (u1 1 ++ u1 o.num)
              ++ optField 4 (y.map (fun z => beInt 4 z.1)) ++ optField 4 (y.map (fun z => u4 z.2))
              ++ optField 4 none
          | .refill g => u1 1 ++ u1 0 ++ optField 1 none ++ optField 4 none ++ optField 4 none
              ++ optField 4 (g.map (beInt 4))
        let opened (y : Session) : List Byte := match y.holder with
          | .pos p => u1 p.num ++ u1 0 ++ u4 y.invOpen ++ uFlag y.openValid ++ (u1 1 ++ u4 y.metered)
              ++ clock y.openTime
          | .compressor => u1 5 ++ u1 1 ++ u4 y.invOpen ++ uFlag y.openValid ++ optField 4 none
              ++ clock y.openTime
        let state : List Byte := match k.state with
          | .unconfigured => u1 0 ++ u1 0
          | .available => u1 1 ++ u1 0
          | .claimedPos p => u1 2 ++ u1 p.num
          | .claimedCmp => u1 3 ++ u1 5
          | .isolated => u1 4 ++ u1 0
        sends 6 (state ++ listField 4 1 (k.waiters.map (fun p => u1 p.num)) ++ value (.bankPressure b)
          ++ value (.bankTemp b) ++ u4 k.inventory ++ uFlag k.invValid
          ++ optField 1 (k.cause.map (fun c => u1 c.num)) ++ optField 17 (k.session.map opened)
          ++ optField 19 (k.last.map figures)))
    ∧ (index = 0 →
        let k := s.cmp
        let dest (d : CmpDest) : List Byte := match d with
          | .refill b => u1 0 ++ u1 b.num
          | .direct p => u1 1 ++ u1 p.num
        sends 7 (u1 (if s.cmpRow.fitted then k.state.num else 6) ++ optField 2 (k.dest.map dest)
          ++ u1 ((k.holder.map (fun h => h.1.num)).getD 0) ++ clock (k.holder.bind (·.2))
          ++ listField 4 1 (k.waiters.map (fun p => u1 p.num)) ++ listField 12 4 (s.ret.history.map u4)
          ++ u1 (s.ret.history.countP (fun e => s.ret.runSeconds < e + 3600))
          ++ clock (k.startedAt.map (fun n => s.ret.runSeconds - n)) ++ timer k.primeTimer
          ++ timer k.offTimer ++ uFlag k.supplyLow ++ uFlag k.refillWant
          ++ optField 1 (k.held.map (fun h => u1 h.num)) ++ optField 1 (k.cause.map (fun c => u1 c.num))
          ++ value .suctionPressure ++ value .dischargePressure ++ value .dischargeTemp
          ++ level .compressorRunning))
    ∧ (index = 0 →
        let k := s.pcl
        let monitor (p : Pos) : List Byte :=
          let y := k.monitor.get p
          u1 y.phase.num ++ category y.category ++ timer y.settle ++ timer y.excursion
        sends 8 (u1 (if s.chillerRow.fitted then k.state.num else 4) ++ u4 k.reserve ++ uFlag k.stabilised
          ++ timer k.stabTimer ++ timer k.parkTimer ++ optField 1 (k.cause.map (fun c => u1 c.num))
          ++ Pos.all.flatMap (fun p => category (k.demand.get p)) ++ Pos.all.flatMap monitor
          ++ level .chillerFault ++ Pos.all.flatMap (fun p => value (.outletTemp p))))
    ∧ (∀ p : Pos, index = p.num →
        let c := s.ctx p
        let t := c.timers
        let g := s.meter p
        let least (n : Nat) : List Byte := u1 (min n 255)
        let outcome (o : DrawOutcome) : List Byte := least (c.outcomes.countP (fun x => x.2 = o))
        let only (y : TenderCtx) (k : TenderKind) (width n : Nat) : List Byte :=
          optField width (if y.kind = k then some (beBytes width n) else none)
        sends 9 (u1 c.state.num ++ uFlag c.opened ++ uFlag c.faultMark
          ++ optField 1 (c.faultCause.map (fun y => u1 y.num))
          ++ optField 16 (c.fill.map (fun y => u4 y.txn ++ u1 y.kind.num ++ u4 y.cap ++ u2 y.gen
              ++ clock y.authTime))
          ++ u1 c.category.rank ++ u1 c.reRates
          ++ optField 8 (c.selection.map (fun y => u1 y.volClass ++ u1 (if y.fromVehicle then 0 else 1)
              ++ u1 y.ambBand ++ u1 y.p0Band ++ u2 y.aprr ++ u2 y.pEnd))
          ++ optField 2 (c.p0.map i2) ++ u1 (sourceNum c.source) ++ u1 (sourceNum c.waitOn)
          ++ u1 c.waitStage.num ++ i2 c.anchor ++ u2 c.tau ++ optField 2 (c.target.map i2) ++ u2 c.opening
          ++ uFlag c.halt ++ uFlag c.signal ++ u1 c.resume.num ++ u1 c.link.num ++ u1 c.consistent
          ++ optField 2 (c.soc.map u2) ++ timer t.fill ++ optField 1 (t.pulse.map u1) ++ timer t.leak
          ++ timer t.precool ++ timer t.bankWait ++ timer t.pause ++ timer t.vehicle ++ timer t.mismatch
          ++ timer t.afterRun ++ timer t.vent ++ outcome .balanced ++ outcome .mismatch
          ++ outcome .unchecked ++ uFlag c.uncertainMark ++ u1 (endReasonNum c.endReason)
          ++ Bank.all.flatMap (fun b => least (c.awaited.count b))
          ++ optField 2 (g.baseline.map u2) ++ uFlag g.fault ++ u1 (if g.isOpen then 0 else 1) ++ u8 g.fill
          ++ Bank.all.flatMap (fun b => u8 (g.banks.get b)) ++ u8 g.cmp ++ u8 g.unattr ++ u8 g.afterRun
          ++ uFlag g.uncertain ++ u8 g.outMass ++ uFlag g.outNotice
          ++ optField 39 ((s.bil.get p).map (fun y => u4 y.txn ++ u1 y.kind.num ++ u4 y.reference
              ++ u1 y.node ++ only y .fleet 2 y.account ++ only y .card 4 y.authorised ++ u1 y.band
              ++ u1 y.cls ++ u4 y.price ++ u4 y.cap ++ only y .fleet 4 y.hold ++ clock y.start
              ++ uFlag y.timeUnset)))))

/-! ## Restarts -/

/-- R5, R19, R200, R205, R206, R207: a restart with no fill interrupted, no clock set and the trip loop
closed. Power held: the tables keep their active copies with the shadows copied from them and POWER
alone is set; power lost: everything retained is empty, with RETAIN-LOST. A supply dip and a command add
their flag, and keep the first cause of a trip (what a restart carries, and a dip with a clear latch,
are the model's reading, logs 12 and 37). Every block comes up as at its start (the values the rules do
not give: log 24), with no message in flight and the commands that wait kept (the model's choice, log
29), the mode is judged afresh, and CLOSE is queued for every actuator role (their order: log 48). R169,
R206, R55: a restart with the station clock set: both counts gain the seconds the part was down, the
starts that have aged by then are gone, and where the day number differs from the held one the rollover
is taken: NOTICE DAY-ROLLOVER after the CLOSEs, every used figure 0. R204, R205: a restart that finds
the trip loop open trips at once: mode TRIP with cause LOOP, the master isolation output released, every
unit told, and NOTICE TRIP after the CLOSEs and after what the restart sends itself (the model's order,
assumption log 53). R169, R177: the fill that a restart interrupts is settled from its snapshot and
recorded INTERRUPTED and UNCHECKED in the place reserved for it; its hold is released with the amount
debited; no hold, no reservation and no snapshot is left; and NOTICE RECORD-READY goes after the CLOSEs.
R169, R162, R177: the CARD fill that a restart interrupts: its record as for FLEET with account 0 and no
account debited, and NOTICE FILL-END to the terminal and NOTICE RECORD-READY, in that order, after the
CLOSEs; so too with the loop open, before NOTICE TRIP (the model's order, assumption log 53). POWER-ON and
SUPPLY-DIP are taken alike in reset and out of it; a COMMAND restart out of it alone (the model's reading,
assumption log 37). -/
def Obligations.Restarts : Prop :=
  (∀ (l : Lines) (s : State), l.loopOpen = false → s.ret.clock = none →
    (∀ p, s.ret.snapshots.get p = none) → s.ret.history = [] → s.ret.runSeconds + l.downSeconds < 2 ^ 32 →
    let up (c : Instr) (tb : Tables) (flags : CauseFlags) (trip : Option TripCause)
        (seconds : Nat) : Prop :=
      let mode : Mode := if tb.complete then .parked else .configuring
      ∃ t, exec c s = .next t
        ∧ t.tables = tb ∧ t.ret.flags = flags ∧ t.ret.lastTrip = trip
        ∧ t.ret.clock = none ∧ t.ret.runSeconds = seconds ∧ t.bkmBq = tb.precool.active.row0.bq
        ∧ t.smc = ⟨mode, none, 0, none, none, false⟩
        ∧ t.pins = ⟨l.straps, false, mode.energises⟩
        ∧ t.sig = recordsOf (validRows tb.nodeMap.active)
        ∧ t.fil = .all .start ∧ t.mtr = .all .start ∧ t.bil = .all none ∧ t.cmp = .start
        ∧ t.pcl = .start ∧ t.mail = [] ∧ t.bankWaitOrder = [] ∧ t.pending = s.pending
        ∧ (∀ b, t.bank b = BankRec.start (tb.bank.active.rows.get b).configured)
        ∧ t.reservations = 0
        ∧ t.rif = (closeAll { s with
            tables := tb, rif := Rif.start (240 + l.straps.val)
            smc := ⟨mode, none, 0, none, none, false⟩ }).rif
    let kept := { s.ret.flags with tripAtRestart := s.ret.flags.tripAtRestart || s.latched }
    let last := match s.smc.latch with
      | some x => some x.cause
      | none => s.ret.lastTrip
    up (.powerOn true l) s.tables.restart ⟨true, false, false, false, false⟩ none
        (s.ret.runSeconds + l.downSeconds)
    ∧ up (.powerOn false l) Tables.dflt ⟨true, false, false, false, true⟩ none 0
    ∧ up (.supplyDip l) s.tables.restart { kept with supplyDip := true } last
        (s.ret.runSeconds + l.downSeconds)
    ∧ (s.smc.inReset = false →
        up (.commandRestart l) s.tables.restart { kept with command := true } last
          (s.ret.runSeconds + l.downSeconds)))
  ∧ (∀ (n : Nat) (c : Instr) (l : Lines) (s : State), l.loopOpen = false →
    c = .powerOn true l ∨ c = .supplyDip l ∨ (c = .commandRestart l ∧ s.smc.inReset = false) →
    s.ret.clock = some n →
    (∀ p, s.ret.snapshots.get p = none) → s.ret.runSeconds + l.downSeconds < 2 ^ 32 →
    n + l.downSeconds < 2 ^ 32 →
    let tb := s.tables.restart
    let now := s.ret.runSeconds + l.downSeconds
    let day : Int := (((n + l.downSeconds : Nat) : Int) - tb.tariff.active.rollover * 60) / 86400
    let shut : State := closeAll { s with
      tables := tb, rif := Rif.start (240 + l.straps.val)
      smc := ⟨if tb.complete then .parked else .configuring, none, 0, none, none, false⟩ }
    ∃ t, exec c s = .next t ∧ t.ret.clock = some (n + l.downSeconds) ∧ t.ret.runSeconds = now
      ∧ t.ret.history = s.ret.history.filter (fun e => now < e + 3600) ∧ t.ret.heldDay = some day
      ∧ (s.ret.heldDay = some day → t.rif = shut.rif
          ∧ t.ret.accounts = s.ret.accounts.map (Option.map (fun a => { a with holds := [] })))
      ∧ (s.ret.heldDay ≠ some day → t.rif = (notice .dayRollover 0 (beInt 4 day) shut).rif
          ∧ t.ret.accounts = s.ret.accounts.map (Option.map (fun a => { a with holds := [], used := 0 }))))
  ∧ (∀ (l : Lines) (s : State), l.loopOpen = true → s.ret.clock = none →
    (∀ p, s.ret.snapshots.get p = none) →
    let up (c : Instr) (tb : Tables) : Prop :=
      let set : Smc := ⟨if tb.complete then .parked else .configuring, some ⟨.loop, none⟩, 0, none, none, false⟩
      let shut : State := closeAll { s with
        tables := tb, rif := Rif.start (240 + l.straps.val), smc := { set with latch := none } }
      ∃ t, exec c s = .next t ∧ t.smc = { set with mode := .trip } ∧ t.pins = ⟨l.straps, true, false⟩
        ∧ t.mail = [.rifTrip, .bkmTrip, .cmpTrip, .pclTrip, .filTrip]
        ∧ t.rif = (notice .trip 0 (u1 TripCause.loop.num ++ optField 1 none ++ optField 4 none)
            (closeAll { shut with smc := set })).rif
    up (.powerOn true l) s.tables.restart ∧ up (.powerOn false l) Tables.dflt
      ∧ up (.supplyDip l) s.tables.restart
      ∧ (s.smc.inReset = false → up (.commandRestart l) s.tables.restart))
  ∧ (∀ (p : Pos) (x : Snapshot) (c : Instr) (l : Lines) (s : State), s.ret.snapshots.get p = some x →
    (∀ q, q ≠ p → s.ret.snapshots.get q = none) → s.ret.reserved.get p = true →
    c = .powerOn true l ∨ c = .supplyDip l ∨ (c = .commandRestart l ∧ s.smc.inReset = false) →
    l.loopOpen = false → s.ret.clock = none → x.kind = .fleet →
    (∀ n ∈ (s.ret.accounts.filterMap id).map Account.used, n + 200000 < 2 ^ 32) → x.cap ≤ 200000 →
    let row := s.tables.position.active.get p
    let billed := min (x.fill / 1000) x.cap
    let amount := (billed * x.price + 50000) / 100000
    ∃ t, exec c s = .next t
      ∧ t.ret.records = s.ret.records ++ [
        { txn := x.txn, pos := p, pclass := row.pclass, kind := .fleet, reference := x.reference
          account := x.account, start := x.start.getD 0, endTime := 0, required := row.required
          final := row.required, reRates := 0, link := .none, fillMass := x.fill / 1000
          billed := billed, afterRun := x.afterRun / 1000, unattr := x.unattr / 1000, price := x.price
          amount := amount, reason := none, interrupted := true, mismatch := false, unchecked := true
          timeUnset := true, uncertain := false }]
      ∧ t.ret.accounts = s.ret.accounts.map (Option.map (fun a =>
          if a.id = x.account then
            { a with balance := a.balance - amount, used := a.used + billed, holds := [] }
          else { a with holds := [] }))
      ∧ t.reservations = 0 ∧ (∀ q, t.ret.snapshots.get q = none)
      ∧ t.rif = (notice .recordReady p.num
          (u4 x.txn ++ u1 (s.ret.records.length + 1) ++ u1 (s.reservations - 1)) (closeAll { s with
            tables := s.tables.restart, rif := Rif.start (240 + l.straps.val)
            smc := ⟨if s.tables.restart.complete then .parked else .configuring, none, 0, none, none,
              false⟩ })).rif)
  ∧ (∀ (p : Pos) (x : Snapshot) (c : Instr) (l : Lines) (s : State), s.ret.snapshots.get p = some x →
    (∀ q, q ≠ p → s.ret.snapshots.get q = none) → s.ret.reserved.get p = true → s.ret.clock = none →
    x.kind = .card →
    c = .powerOn true l ∨ c = .supplyDip l ∨ (c = .commandRestart l ∧ s.smc.inReset = false) →
    let tb := s.tables.restart
    let row := tb.position.active.get p
    let billed := min (x.fill / 1000) x.cap
    let amount := (billed * x.price + 50000) / 100000
    let on : Smc := ⟨if tb.complete then .parked else .configuring, none, 0, none, none, false⟩
    let told : State := notice .recordReady p.num
      (u4 x.txn ++ u1 (s.ret.records.length + 1) ++ u1 (s.reservations - 1))
      (noticeTo x.node .fillEnd p.num (u4 x.txn ++ u4 x.reference ++ u4 billed ++ u4 amount ++ uFlag false)
        (closeAll { s with tables := tb, rif := Rif.start (240 + l.straps.val), smc := on }))
    ∃ t, exec c s = .next t
      ∧ t.ret.records = s.ret.records ++ [
        { txn := x.txn, pos := p, pclass := row.pclass, kind := .card, reference := x.reference
          account := x.account, start := x.start.getD 0, endTime := 0, required := row.required
          final := row.required, reRates := 0, link := .none, fillMass := x.fill / 1000
          billed := billed, afterRun := x.afterRun / 1000, unattr := x.unattr / 1000, price := x.price
          amount := amount, reason := none, interrupted := true, mismatch := false, unchecked := true
          timeUnset := true, uncertain := false }]
      ∧ t.ret.accounts = s.ret.accounts.map (Option.map (fun a => { a with holds := [] }))
      ∧ t.reservations = 0 ∧ (∀ q, t.ret.snapshots.get q = none)
      ∧ (l.loopOpen = false → t.rif = told.rif ∧ t.mail = [])
      ∧ (l.loopOpen = true → t.smc.mode = .trip
          ∧ t.rif = (notice .trip 0 (u1 TripCause.loop.num ++ optField 1 none ++ optField 4 none)
            (closeAll { told with smc := { on with latch := some ⟨.loop, none⟩ } })).rif))

end
end

