-- ==== Sys2Proof/Laws/State.lean ====
section
/-! SUPPORT. One lemma per field per update of State, and the readers over per-position and per-bank
data, so that no later proof unfolds a record update. -/

namespace Sys2Proof.Machine

open Sys2Proof

/-! ## Per-position and per-bank data -/
@[simp] theorem PerPos.get_set_same {α : Type} (v : PerPos α) (p : Pos) (x : α) : (v.set p x).get p = x := by
  cases p <;> rfl

theorem PerPos.get_set_ne {α : Type} (v : PerPos α) {p q : Pos} (x : α) (h : q ≠ p) :
    (v.set p x).get q = v.get q := by
  cases p <;> cases q <;> first | rfl | exact absurd rfl h
@[simp] theorem PerPos.get_all {α : Type} (x : α) (p : Pos) : (PerPos.all x).get p = x := by cases p <;> rfl
@[simp] theorem PerPos.get_map {α β : Type} (f : α → β) (v : PerPos α) (p : Pos) :
    (v.map f).get p = f (v.get p) := by cases p <;> rfl
@[simp] theorem PerPos.set_set {α : Type} (v : PerPos α) (p : Pos) (x y : α) :
    (v.set p x).set p y = v.set p y := by cases p <;> rfl
@[simp] theorem PerPos.set_get {α : Type} (v : PerPos α) (p : Pos) : v.set p (v.get p) = v := by
  cases p <;> rfl
@[simp] theorem PerBank.get_set_same {α : Type} (v : PerBank α) (b : Bank) (x : α) : (v.set b x).get b = x := by
  cases b <;> rfl

theorem PerBank.get_set_ne {α : Type} (v : PerBank α) {b c : Bank} (x : α) (h : c ≠ b) :
    (v.set b x).get c = v.get c := by
  cases b <;> cases c <;> first | rfl | exact absurd rfl h
@[simp] theorem PerBank.get_all {α : Type} (x : α) (b : Bank) : (PerBank.all x).get b = x := by cases b <;> rfl
@[simp] theorem PerBank.get_map {α β : Type} (f : α → β) (v : PerBank α) (b : Bank) :
    (v.map f).get b = f (v.get b) := by cases b <;> rfl
@[simp] theorem PerBank.set_set {α : Type} (v : PerBank α) (b : Bank) (x y : α) :
    (v.set b x).set b y = v.set b y := by cases b <;> rfl
@[simp] theorem PerBank.set_get {α : Type} (v : PerBank α) (b : Bank) : v.set b (v.get b) = v := by
  cases b <;> rfl

/-! ## `post` -/
@[simp] theorem post_tables (m : Instr) (s : State) : (post m s).tables = s.tables := rfl
@[simp] theorem post_ret (m : Instr) (s : State) : (post m s).ret = s.ret := rfl
@[simp] theorem post_rif (m : Instr) (s : State) : (post m s).rif = s.rif := rfl
@[simp] theorem post_sig (m : Instr) (s : State) : (post m s).sig = s.sig := rfl
@[simp] theorem post_bkm (m : Instr) (s : State) : (post m s).bkm = s.bkm := rfl
@[simp] theorem post_bkmBq (m : Instr) (s : State) : (post m s).bkmBq = s.bkmBq := rfl
@[simp] theorem post_cmp (m : Instr) (s : State) : (post m s).cmp = s.cmp := rfl
@[simp] theorem post_pcl (m : Instr) (s : State) : (post m s).pcl = s.pcl := rfl
@[simp] theorem post_fil (m : Instr) (s : State) : (post m s).fil = s.fil := rfl
@[simp] theorem post_bankWaitOrder (m : Instr) (s : State) : (post m s).bankWaitOrder = s.bankWaitOrder := rfl
@[simp] theorem post_mtr (m : Instr) (s : State) : (post m s).mtr = s.mtr := rfl
@[simp] theorem post_bil (m : Instr) (s : State) : (post m s).bil = s.bil := rfl
@[simp] theorem post_smc (m : Instr) (s : State) : (post m s).smc = s.smc := rfl
@[simp] theorem post_pins (m : Instr) (s : State) : (post m s).pins = s.pins := rfl
@[simp] theorem post_ticks (m : Instr) (s : State) : (post m s).ticks = s.ticks := rfl
@[simp] theorem post_mail (m : Instr) (s : State) : (post m s).mail = s.mail ++ [m] := rfl
@[simp] theorem post_pending (m : Instr) (s : State) : (post m s).pending = s.pending := rfl

/-! ## `postAll` -/
@[simp] theorem postAll_tables (ms : List Instr) (s : State) : (postAll ms s).tables = s.tables := rfl
@[simp] theorem postAll_ret (ms : List Instr) (s : State) : (postAll ms s).ret = s.ret := rfl
@[simp] theorem postAll_rif (ms : List Instr) (s : State) : (postAll ms s).rif = s.rif := rfl
@[simp] theorem postAll_sig (ms : List Instr) (s : State) : (postAll ms s).sig = s.sig := rfl
@[simp] theorem postAll_bkm (ms : List Instr) (s : State) : (postAll ms s).bkm = s.bkm := rfl
@[simp] theorem postAll_bkmBq (ms : List Instr) (s : State) : (postAll ms s).bkmBq = s.bkmBq := rfl
@[simp] theorem postAll_cmp (ms : List Instr) (s : State) : (postAll ms s).cmp = s.cmp := rfl
@[simp] theorem postAll_pcl (ms : List Instr) (s : State) : (postAll ms s).pcl = s.pcl := rfl
@[simp] theorem postAll_fil (ms : List Instr) (s : State) : (postAll ms s).fil = s.fil := rfl
@[simp] theorem postAll_bankWaitOrder (ms : List Instr) (s : State) :
    (postAll ms s).bankWaitOrder = s.bankWaitOrder := rfl
@[simp] theorem postAll_mtr (ms : List Instr) (s : State) : (postAll ms s).mtr = s.mtr := rfl
@[simp] theorem postAll_bil (ms : List Instr) (s : State) : (postAll ms s).bil = s.bil := rfl
@[simp] theorem postAll_smc (ms : List Instr) (s : State) : (postAll ms s).smc = s.smc := rfl
@[simp] theorem postAll_pins (ms : List Instr) (s : State) : (postAll ms s).pins = s.pins := rfl
@[simp] theorem postAll_ticks (ms : List Instr) (s : State) : (postAll ms s).ticks = s.ticks := rfl
@[simp] theorem postAll_mail (ms : List Instr) (s : State) : (postAll ms s).mail = s.mail ++ ms := rfl
@[simp] theorem postAll_pending (ms : List Instr) (s : State) : (postAll ms s).pending = s.pending := rfl

/-! ## `setRecord` -/
@[simp] theorem setRecord_tables (r : Role) (x : SigRec) (s : State) :
    (setRecord r x s).tables = s.tables := rfl
@[simp] theorem setRecord_ret (r : Role) (x : SigRec) (s : State) : (setRecord r x s).ret = s.ret := rfl
@[simp] theorem setRecord_rif (r : Role) (x : SigRec) (s : State) : (setRecord r x s).rif = s.rif := rfl
@[simp] theorem setRecord_sig (r : Role) (x : SigRec) (s : State) :
    (setRecord r x s).sig = s.sig.map (fun y => if y.1 == r then (r, x) else y) := rfl
@[simp] theorem setRecord_bkm (r : Role) (x : SigRec) (s : State) : (setRecord r x s).bkm = s.bkm := rfl
@[simp] theorem setRecord_bkmBq (r : Role) (x : SigRec) (s : State) : (setRecord r x s).bkmBq = s.bkmBq := rfl
@[simp] theorem setRecord_cmp (r : Role) (x : SigRec) (s : State) : (setRecord r x s).cmp = s.cmp := rfl
@[simp] theorem setRecord_pcl (r : Role) (x : SigRec) (s : State) : (setRecord r x s).pcl = s.pcl := rfl
@[simp] theorem setRecord_fil (r : Role) (x : SigRec) (s : State) : (setRecord r x s).fil = s.fil := rfl
@[simp] theorem setRecord_bankWaitOrder (r : Role) (x : SigRec) (s : State) :
    (setRecord r x s).bankWaitOrder = s.bankWaitOrder := rfl
@[simp] theorem setRecord_mtr (r : Role) (x : SigRec) (s : State) : (setRecord r x s).mtr = s.mtr := rfl
@[simp] theorem setRecord_bil (r : Role) (x : SigRec) (s : State) : (setRecord r x s).bil = s.bil := rfl
@[simp] theorem setRecord_smc (r : Role) (x : SigRec) (s : State) : (setRecord r x s).smc = s.smc := rfl
@[simp] theorem setRecord_pins (r : Role) (x : SigRec) (s : State) : (setRecord r x s).pins = s.pins := rfl
@[simp] theorem setRecord_ticks (r : Role) (x : SigRec) (s : State) : (setRecord r x s).ticks = s.ticks := rfl
@[simp] theorem setRecord_mail (r : Role) (x : SigRec) (s : State) : (setRecord r x s).mail = s.mail := rfl
@[simp] theorem setRecord_pending (r : Role) (x : SigRec) (s : State) :
    (setRecord r x s).pending = s.pending := rfl

/-! ## `withRecord` and `seeing` -/
@[simp] theorem withRecord_tables (r : Role) (x : SigRec) (s : State) :
    (withRecord r x s).tables = s.tables := rfl
@[simp] theorem withRecord_ret (r : Role) (x : SigRec) (s : State) :
    (withRecord r x s).ret = s.ret := rfl
@[simp] theorem withRecord_rif (r : Role) (x : SigRec) (s : State) :
    (withRecord r x s).rif = s.rif := rfl
@[simp] theorem withRecord_bkm (r : Role) (x : SigRec) (s : State) :
    (withRecord r x s).bkm = s.bkm := rfl
@[simp] theorem withRecord_bkmBq (r : Role) (x : SigRec) (s : State) :
    (withRecord r x s).bkmBq = s.bkmBq := rfl
@[simp] theorem withRecord_cmp (r : Role) (x : SigRec) (s : State) :
    (withRecord r x s).cmp = s.cmp := rfl
@[simp] theorem withRecord_pcl (r : Role) (x : SigRec) (s : State) :
    (withRecord r x s).pcl = s.pcl := rfl
@[simp] theorem withRecord_fil (r : Role) (x : SigRec) (s : State) :
    (withRecord r x s).fil = s.fil := rfl
@[simp] theorem withRecord_bankWaitOrder (r : Role) (x : SigRec) (s : State) :
    (withRecord r x s).bankWaitOrder = s.bankWaitOrder := rfl
@[simp] theorem withRecord_mtr (r : Role) (x : SigRec) (s : State) :
    (withRecord r x s).mtr = s.mtr := rfl
@[simp] theorem withRecord_bil (r : Role) (x : SigRec) (s : State) :
    (withRecord r x s).bil = s.bil := rfl
@[simp] theorem withRecord_smc (r : Role) (x : SigRec) (s : State) :
    (withRecord r x s).smc = s.smc := rfl
@[simp] theorem withRecord_pins (r : Role) (x : SigRec) (s : State) :
    (withRecord r x s).pins = s.pins := rfl
@[simp] theorem withRecord_ticks (r : Role) (x : SigRec) (s : State) :
    (withRecord r x s).ticks = s.ticks := rfl
@[simp] theorem withRecord_mail (r : Role) (x : SigRec) (s : State) :
    (withRecord r x s).mail = s.mail := rfl
@[simp] theorem withRecord_pending (r : Role) (x : SigRec) (s : State) :
    (withRecord r x s).pending = s.pending := rfl
@[simp] theorem withRecord_sig (r : Role) (x : SigRec) (s : State) :
    (withRecord r x s).sig = (r, x) :: s.sig.filter (fun y => y.1 != r) := rfl
@[simp] theorem withRecord_record_same (r : Role) (x : SigRec) (s : State) :
    (withRecord r x s).record r = x := by
  simp [State.record, withRecord]
theorem withRecord_record_ne {r q : Role} (x : SigRec) (s : State) (h : q ≠ r) :
    (withRecord r x s).record q = s.record q := by
  have other (l : List (Role × SigRec)) :
      (l.filter (fun y => y.1 != r)).find? (fun y => y.1 == q) = l.find? (fun y => y.1 == q) := by
    induction l with
    | nil => rfl
    | cons y l ih =>
      by_cases e : y.1 = r
      · simp [e, ih, Ne.symm h]
      · by_cases e2 : y.1 = q <;> simp [e, e2, ih, h]
  simp [State.record, withRecord, other, Ne.symm h]
/-- What the record of the role delivered holds by then makes no difference to what the block finds. -/
theorem withRecord_setRecord (r : Role) (x y : SigRec) (s : State) :
    withRecord r x (setRecord r y s) = withRecord r x s := by
  have others (l : List (Role × SigRec)) :
      (l.map (fun z => if z.1 == r then (r, y) else z)).filter (fun z => z.1 != r)
        = l.filter (fun z => z.1 != r) := by
    induction l with
    | nil => rfl
    | cons z l ih => by_cases e : z.1 = r <;> simp_all
  simp only [withRecord, setRecord, others]
@[simp] theorem seeing_tables (r : Role) (x : SigRec) (f : State → State) (s : State) :
    (seeing r x f s).tables = (f (withRecord r x s)).tables := rfl
@[simp] theorem seeing_ret (r : Role) (x : SigRec) (f : State → State) (s : State) :
    (seeing r x f s).ret = (f (withRecord r x s)).ret := rfl
@[simp] theorem seeing_rif (r : Role) (x : SigRec) (f : State → State) (s : State) :
    (seeing r x f s).rif = (f (withRecord r x s)).rif := rfl
@[simp] theorem seeing_bkm (r : Role) (x : SigRec) (f : State → State) (s : State) :
    (seeing r x f s).bkm = (f (withRecord r x s)).bkm := rfl
@[simp] theorem seeing_bkmBq (r : Role) (x : SigRec) (f : State → State) (s : State) :
    (seeing r x f s).bkmBq = (f (withRecord r x s)).bkmBq := rfl
@[simp] theorem seeing_cmp (r : Role) (x : SigRec) (f : State → State) (s : State) :
    (seeing r x f s).cmp = (f (withRecord r x s)).cmp := rfl
@[simp] theorem seeing_pcl (r : Role) (x : SigRec) (f : State → State) (s : State) :
    (seeing r x f s).pcl = (f (withRecord r x s)).pcl := rfl
@[simp] theorem seeing_fil (r : Role) (x : SigRec) (f : State → State) (s : State) :
    (seeing r x f s).fil = (f (withRecord r x s)).fil := rfl
@[simp] theorem seeing_bankWaitOrder (r : Role) (x : SigRec) (f : State → State) (s : State) :
    (seeing r x f s).bankWaitOrder = (f (withRecord r x s)).bankWaitOrder := rfl
@[simp] theorem seeing_mtr (r : Role) (x : SigRec) (f : State → State) (s : State) :
    (seeing r x f s).mtr = (f (withRecord r x s)).mtr := rfl
@[simp] theorem seeing_bil (r : Role) (x : SigRec) (f : State → State) (s : State) :
    (seeing r x f s).bil = (f (withRecord r x s)).bil := rfl
@[simp] theorem seeing_smc (r : Role) (x : SigRec) (f : State → State) (s : State) :
    (seeing r x f s).smc = (f (withRecord r x s)).smc := rfl
@[simp] theorem seeing_pins (r : Role) (x : SigRec) (f : State → State) (s : State) :
    (seeing r x f s).pins = (f (withRecord r x s)).pins := rfl
@[simp] theorem seeing_ticks (r : Role) (x : SigRec) (f : State → State) (s : State) :
    (seeing r x f s).ticks = (f (withRecord r x s)).ticks := rfl
@[simp] theorem seeing_mail (r : Role) (x : SigRec) (f : State → State) (s : State) :
    (seeing r x f s).mail = (f (withRecord r x s)).mail := rfl
@[simp] theorem seeing_pending (r : Role) (x : SigRec) (f : State → State) (s : State) :
    (seeing r x f s).pending = (f (withRecord r x s)).pending := rfl
@[simp] theorem seeing_sig (r : Role) (x : SigRec) (f : State → State) (s : State) :
    (seeing r x f s).sig = s.sig := rfl

/-! ## `setCtx` -/
@[simp] theorem setCtx_tables (p : Pos) (c : Ctx) (s : State) : (setCtx p c s).tables = s.tables := rfl
@[simp] theorem setCtx_ret (p : Pos) (c : Ctx) (s : State) : (setCtx p c s).ret = s.ret := rfl
@[simp] theorem setCtx_rif (p : Pos) (c : Ctx) (s : State) : (setCtx p c s).rif = s.rif := rfl
@[simp] theorem setCtx_sig (p : Pos) (c : Ctx) (s : State) : (setCtx p c s).sig = s.sig := rfl
@[simp] theorem setCtx_bkm (p : Pos) (c : Ctx) (s : State) : (setCtx p c s).bkm = s.bkm := rfl
@[simp] theorem setCtx_bkmBq (p : Pos) (c : Ctx) (s : State) : (setCtx p c s).bkmBq = s.bkmBq := rfl
@[simp] theorem setCtx_cmp (p : Pos) (c : Ctx) (s : State) : (setCtx p c s).cmp = s.cmp := rfl
@[simp] theorem setCtx_pcl (p : Pos) (c : Ctx) (s : State) : (setCtx p c s).pcl = s.pcl := rfl
@[simp] theorem setCtx_fil (p : Pos) (c : Ctx) (s : State) : (setCtx p c s).fil = s.fil.set p c := rfl
@[simp] theorem setCtx_bankWaitOrder (p : Pos) (c : Ctx) (s : State) :
    (setCtx p c s).bankWaitOrder = s.bankWaitOrder := rfl
@[simp] theorem setCtx_mtr (p : Pos) (c : Ctx) (s : State) : (setCtx p c s).mtr = s.mtr := rfl
@[simp] theorem setCtx_bil (p : Pos) (c : Ctx) (s : State) : (setCtx p c s).bil = s.bil := rfl
@[simp] theorem setCtx_smc (p : Pos) (c : Ctx) (s : State) : (setCtx p c s).smc = s.smc := rfl
@[simp] theorem setCtx_pins (p : Pos) (c : Ctx) (s : State) : (setCtx p c s).pins = s.pins := rfl
@[simp] theorem setCtx_ticks (p : Pos) (c : Ctx) (s : State) : (setCtx p c s).ticks = s.ticks := rfl
@[simp] theorem setCtx_mail (p : Pos) (c : Ctx) (s : State) : (setCtx p c s).mail = s.mail := rfl
@[simp] theorem setCtx_pending (p : Pos) (c : Ctx) (s : State) : (setCtx p c s).pending = s.pending := rfl

/-! ## `updCtx` -/
@[simp] theorem updCtx_tables (p : Pos) (f : Ctx → Ctx) (s : State) : (updCtx p f s).tables = s.tables := rfl
@[simp] theorem updCtx_ret (p : Pos) (f : Ctx → Ctx) (s : State) : (updCtx p f s).ret = s.ret := rfl
@[simp] theorem updCtx_rif (p : Pos) (f : Ctx → Ctx) (s : State) : (updCtx p f s).rif = s.rif := rfl
@[simp] theorem updCtx_sig (p : Pos) (f : Ctx → Ctx) (s : State) : (updCtx p f s).sig = s.sig := rfl
@[simp] theorem updCtx_bkm (p : Pos) (f : Ctx → Ctx) (s : State) : (updCtx p f s).bkm = s.bkm := rfl
@[simp] theorem updCtx_bkmBq (p : Pos) (f : Ctx → Ctx) (s : State) : (updCtx p f s).bkmBq = s.bkmBq := rfl
@[simp] theorem updCtx_cmp (p : Pos) (f : Ctx → Ctx) (s : State) : (updCtx p f s).cmp = s.cmp := rfl
@[simp] theorem updCtx_pcl (p : Pos) (f : Ctx → Ctx) (s : State) : (updCtx p f s).pcl = s.pcl := rfl
@[simp] theorem updCtx_fil (p : Pos) (f : Ctx → Ctx) (s : State) :
    (updCtx p f s).fil = s.fil.set p (f (s.fil.get p)) := rfl
@[simp] theorem updCtx_bankWaitOrder (p : Pos) (f : Ctx → Ctx) (s : State) :
    (updCtx p f s).bankWaitOrder = s.bankWaitOrder := rfl
@[simp] theorem updCtx_mtr (p : Pos) (f : Ctx → Ctx) (s : State) : (updCtx p f s).mtr = s.mtr := rfl
@[simp] theorem updCtx_bil (p : Pos) (f : Ctx → Ctx) (s : State) : (updCtx p f s).bil = s.bil := rfl
@[simp] theorem updCtx_smc (p : Pos) (f : Ctx → Ctx) (s : State) : (updCtx p f s).smc = s.smc := rfl
@[simp] theorem updCtx_pins (p : Pos) (f : Ctx → Ctx) (s : State) : (updCtx p f s).pins = s.pins := rfl
@[simp] theorem updCtx_ticks (p : Pos) (f : Ctx → Ctx) (s : State) : (updCtx p f s).ticks = s.ticks := rfl
@[simp] theorem updCtx_mail (p : Pos) (f : Ctx → Ctx) (s : State) : (updCtx p f s).mail = s.mail := rfl
@[simp] theorem updCtx_pending (p : Pos) (f : Ctx → Ctx) (s : State) :
    (updCtx p f s).pending = s.pending := rfl

/-! ## `setBank` -/
@[simp] theorem setBank_tables (b : Bank) (r : BankRec) (s : State) : (setBank b r s).tables = s.tables := rfl
@[simp] theorem setBank_ret (b : Bank) (r : BankRec) (s : State) : (setBank b r s).ret = s.ret := rfl
@[simp] theorem setBank_rif (b : Bank) (r : BankRec) (s : State) : (setBank b r s).rif = s.rif := rfl
@[simp] theorem setBank_sig (b : Bank) (r : BankRec) (s : State) : (setBank b r s).sig = s.sig := rfl
@[simp] theorem setBank_bkm (b : Bank) (r : BankRec) (s : State) : (setBank b r s).bkm = s.bkm.set b r := rfl
@[simp] theorem setBank_bkmBq (b : Bank) (r : BankRec) (s : State) : (setBank b r s).bkmBq = s.bkmBq := rfl
@[simp] theorem setBank_cmp (b : Bank) (r : BankRec) (s : State) : (setBank b r s).cmp = s.cmp := rfl
@[simp] theorem setBank_pcl (b : Bank) (r : BankRec) (s : State) : (setBank b r s).pcl = s.pcl := rfl
@[simp] theorem setBank_fil (b : Bank) (r : BankRec) (s : State) : (setBank b r s).fil = s.fil := rfl
@[simp] theorem setBank_bankWaitOrder (b : Bank) (r : BankRec) (s : State) :
    (setBank b r s).bankWaitOrder = s.bankWaitOrder := rfl
@[simp] theorem setBank_mtr (b : Bank) (r : BankRec) (s : State) : (setBank b r s).mtr = s.mtr := rfl
@[simp] theorem setBank_bil (b : Bank) (r : BankRec) (s : State) : (setBank b r s).bil = s.bil := rfl
@[simp] theorem setBank_smc (b : Bank) (r : BankRec) (s : State) : (setBank b r s).smc = s.smc := rfl
@[simp] theorem setBank_pins (b : Bank) (r : BankRec) (s : State) : (setBank b r s).pins = s.pins := rfl
@[simp] theorem setBank_ticks (b : Bank) (r : BankRec) (s : State) : (setBank b r s).ticks = s.ticks := rfl
@[simp] theorem setBank_mail (b : Bank) (r : BankRec) (s : State) : (setBank b r s).mail = s.mail := rfl
@[simp] theorem setBank_pending (b : Bank) (r : BankRec) (s : State) :
    (setBank b r s).pending = s.pending := rfl

/-! ## `updBank` -/
@[simp] theorem updBank_tables (b : Bank) (f : BankRec → BankRec) (s : State) :
    (updBank b f s).tables = s.tables := rfl
@[simp] theorem updBank_ret (b : Bank) (f : BankRec → BankRec) (s : State) :
    (updBank b f s).ret = s.ret := rfl
@[simp] theorem updBank_rif (b : Bank) (f : BankRec → BankRec) (s : State) :
    (updBank b f s).rif = s.rif := rfl
@[simp] theorem updBank_sig (b : Bank) (f : BankRec → BankRec) (s : State) :
    (updBank b f s).sig = s.sig := rfl
@[simp] theorem updBank_bkm (b : Bank) (f : BankRec → BankRec) (s : State) :
    (updBank b f s).bkm = s.bkm.set b (f (s.bkm.get b)) := rfl
@[simp] theorem updBank_bkmBq (b : Bank) (f : BankRec → BankRec) (s : State) :
    (updBank b f s).bkmBq = s.bkmBq := rfl
@[simp] theorem updBank_cmp (b : Bank) (f : BankRec → BankRec) (s : State) :
    (updBank b f s).cmp = s.cmp := rfl
@[simp] theorem updBank_pcl (b : Bank) (f : BankRec → BankRec) (s : State) :
    (updBank b f s).pcl = s.pcl := rfl
@[simp] theorem updBank_fil (b : Bank) (f : BankRec → BankRec) (s : State) :
    (updBank b f s).fil = s.fil := rfl
@[simp] theorem updBank_bankWaitOrder (b : Bank) (f : BankRec → BankRec) (s : State) :
    (updBank b f s).bankWaitOrder = s.bankWaitOrder := rfl
@[simp] theorem updBank_mtr (b : Bank) (f : BankRec → BankRec) (s : State) :
    (updBank b f s).mtr = s.mtr := rfl
@[simp] theorem updBank_bil (b : Bank) (f : BankRec → BankRec) (s : State) :
    (updBank b f s).bil = s.bil := rfl
@[simp] theorem updBank_smc (b : Bank) (f : BankRec → BankRec) (s : State) :
    (updBank b f s).smc = s.smc := rfl
@[simp] theorem updBank_pins (b : Bank) (f : BankRec → BankRec) (s : State) :
    (updBank b f s).pins = s.pins := rfl
@[simp] theorem updBank_ticks (b : Bank) (f : BankRec → BankRec) (s : State) :
    (updBank b f s).ticks = s.ticks := rfl
@[simp] theorem updBank_mail (b : Bank) (f : BankRec → BankRec) (s : State) :
    (updBank b f s).mail = s.mail := rfl
@[simp] theorem updBank_pending (b : Bank) (f : BankRec → BankRec) (s : State) :
    (updBank b f s).pending = s.pending := rfl

/-! ## `setMeter` -/
@[simp] theorem setMeter_tables (p : Pos) (m : MeterCtx) (s : State) :
    (setMeter p m s).tables = s.tables := rfl
@[simp] theorem setMeter_ret (p : Pos) (m : MeterCtx) (s : State) : (setMeter p m s).ret = s.ret := rfl
@[simp] theorem setMeter_rif (p : Pos) (m : MeterCtx) (s : State) : (setMeter p m s).rif = s.rif := rfl
@[simp] theorem setMeter_sig (p : Pos) (m : MeterCtx) (s : State) : (setMeter p m s).sig = s.sig := rfl
@[simp] theorem setMeter_bkm (p : Pos) (m : MeterCtx) (s : State) : (setMeter p m s).bkm = s.bkm := rfl
@[simp] theorem setMeter_bkmBq (p : Pos) (m : MeterCtx) (s : State) : (setMeter p m s).bkmBq = s.bkmBq := rfl
@[simp] theorem setMeter_cmp (p : Pos) (m : MeterCtx) (s : State) : (setMeter p m s).cmp = s.cmp := rfl
@[simp] theorem setMeter_pcl (p : Pos) (m : MeterCtx) (s : State) : (setMeter p m s).pcl = s.pcl := rfl
@[simp] theorem setMeter_fil (p : Pos) (m : MeterCtx) (s : State) : (setMeter p m s).fil = s.fil := rfl
@[simp] theorem setMeter_bankWaitOrder (p : Pos) (m : MeterCtx) (s : State) :
    (setMeter p m s).bankWaitOrder = s.bankWaitOrder := rfl
@[simp] theorem setMeter_mtr (p : Pos) (m : MeterCtx) (s : State) :
    (setMeter p m s).mtr = s.mtr.set p m := rfl
@[simp] theorem setMeter_bil (p : Pos) (m : MeterCtx) (s : State) : (setMeter p m s).bil = s.bil := rfl
@[simp] theorem setMeter_smc (p : Pos) (m : MeterCtx) (s : State) : (setMeter p m s).smc = s.smc := rfl
@[simp] theorem setMeter_pins (p : Pos) (m : MeterCtx) (s : State) : (setMeter p m s).pins = s.pins := rfl
@[simp] theorem setMeter_ticks (p : Pos) (m : MeterCtx) (s : State) : (setMeter p m s).ticks = s.ticks := rfl
@[simp] theorem setMeter_mail (p : Pos) (m : MeterCtx) (s : State) : (setMeter p m s).mail = s.mail := rfl
@[simp] theorem setMeter_pending (p : Pos) (m : MeterCtx) (s : State) :
    (setMeter p m s).pending = s.pending := rfl

/-! ## `updMeter` -/
@[simp] theorem updMeter_tables (p : Pos) (f : MeterCtx → MeterCtx) (s : State) :
    (updMeter p f s).tables = s.tables := rfl
@[simp] theorem updMeter_ret (p : Pos) (f : MeterCtx → MeterCtx) (s : State) :
    (updMeter p f s).ret = s.ret := rfl
@[simp] theorem updMeter_rif (p : Pos) (f : MeterCtx → MeterCtx) (s : State) :
    (updMeter p f s).rif = s.rif := rfl
@[simp] theorem updMeter_sig (p : Pos) (f : MeterCtx → MeterCtx) (s : State) :
    (updMeter p f s).sig = s.sig := rfl
@[simp] theorem updMeter_bkm (p : Pos) (f : MeterCtx → MeterCtx) (s : State) :
    (updMeter p f s).bkm = s.bkm := rfl
@[simp] theorem updMeter_bkmBq (p : Pos) (f : MeterCtx → MeterCtx) (s : State) :
    (updMeter p f s).bkmBq = s.bkmBq := rfl
@[simp] theorem updMeter_cmp (p : Pos) (f : MeterCtx → MeterCtx) (s : State) :
    (updMeter p f s).cmp = s.cmp := rfl
@[simp] theorem updMeter_pcl (p : Pos) (f : MeterCtx → MeterCtx) (s : State) :
    (updMeter p f s).pcl = s.pcl := rfl
@[simp] theorem updMeter_fil (p : Pos) (f : MeterCtx → MeterCtx) (s : State) :
    (updMeter p f s).fil = s.fil := rfl
@[simp] theorem updMeter_bankWaitOrder (p : Pos) (f : MeterCtx → MeterCtx) (s : State) :
    (updMeter p f s).bankWaitOrder = s.bankWaitOrder := rfl
@[simp] theorem updMeter_mtr (p : Pos) (f : MeterCtx → MeterCtx) (s : State) :
    (updMeter p f s).mtr = s.mtr.set p (f (s.mtr.get p)) := rfl
@[simp] theorem updMeter_bil (p : Pos) (f : MeterCtx → MeterCtx) (s : State) :
    (updMeter p f s).bil = s.bil := rfl
@[simp] theorem updMeter_smc (p : Pos) (f : MeterCtx → MeterCtx) (s : State) :
    (updMeter p f s).smc = s.smc := rfl
@[simp] theorem updMeter_pins (p : Pos) (f : MeterCtx → MeterCtx) (s : State) :
    (updMeter p f s).pins = s.pins := rfl
@[simp] theorem updMeter_ticks (p : Pos) (f : MeterCtx → MeterCtx) (s : State) :
    (updMeter p f s).ticks = s.ticks := rfl
@[simp] theorem updMeter_mail (p : Pos) (f : MeterCtx → MeterCtx) (s : State) :
    (updMeter p f s).mail = s.mail := rfl
@[simp] theorem updMeter_pending (p : Pos) (f : MeterCtx → MeterCtx) (s : State) :
    (updMeter p f s).pending = s.pending := rfl

/-! ## `updCmp` -/
@[simp] theorem updCmp_tables (f : Cmp → Cmp) (s : State) : (updCmp f s).tables = s.tables := rfl
@[simp] theorem updCmp_ret (f : Cmp → Cmp) (s : State) : (updCmp f s).ret = s.ret := rfl
@[simp] theorem updCmp_rif (f : Cmp → Cmp) (s : State) : (updCmp f s).rif = s.rif := rfl
@[simp] theorem updCmp_sig (f : Cmp → Cmp) (s : State) : (updCmp f s).sig = s.sig := rfl
@[simp] theorem updCmp_bkm (f : Cmp → Cmp) (s : State) : (updCmp f s).bkm = s.bkm := rfl
@[simp] theorem updCmp_bkmBq (f : Cmp → Cmp) (s : State) : (updCmp f s).bkmBq = s.bkmBq := rfl
@[simp] theorem updCmp_cmp (f : Cmp → Cmp) (s : State) : (updCmp f s).cmp = f s.cmp := rfl
@[simp] theorem updCmp_pcl (f : Cmp → Cmp) (s : State) : (updCmp f s).pcl = s.pcl := rfl
@[simp] theorem updCmp_fil (f : Cmp → Cmp) (s : State) : (updCmp f s).fil = s.fil := rfl
@[simp] theorem updCmp_bankWaitOrder (f : Cmp → Cmp) (s : State) :
    (updCmp f s).bankWaitOrder = s.bankWaitOrder := rfl
@[simp] theorem updCmp_mtr (f : Cmp → Cmp) (s : State) : (updCmp f s).mtr = s.mtr := rfl
@[simp] theorem updCmp_bil (f : Cmp → Cmp) (s : State) : (updCmp f s).bil = s.bil := rfl
@[simp] theorem updCmp_smc (f : Cmp → Cmp) (s : State) : (updCmp f s).smc = s.smc := rfl
@[simp] theorem updCmp_pins (f : Cmp → Cmp) (s : State) : (updCmp f s).pins = s.pins := rfl
@[simp] theorem updCmp_ticks (f : Cmp → Cmp) (s : State) : (updCmp f s).ticks = s.ticks := rfl
@[simp] theorem updCmp_mail (f : Cmp → Cmp) (s : State) : (updCmp f s).mail = s.mail := rfl
@[simp] theorem updCmp_pending (f : Cmp → Cmp) (s : State) : (updCmp f s).pending = s.pending := rfl

/-! ## `updPcl` -/
@[simp] theorem updPcl_tables (f : Pcl → Pcl) (s : State) : (updPcl f s).tables = s.tables := rfl
@[simp] theorem updPcl_ret (f : Pcl → Pcl) (s : State) : (updPcl f s).ret = s.ret := rfl
@[simp] theorem updPcl_rif (f : Pcl → Pcl) (s : State) : (updPcl f s).rif = s.rif := rfl
@[simp] theorem updPcl_sig (f : Pcl → Pcl) (s : State) : (updPcl f s).sig = s.sig := rfl
@[simp] theorem updPcl_bkm (f : Pcl → Pcl) (s : State) : (updPcl f s).bkm = s.bkm := rfl
@[simp] theorem updPcl_bkmBq (f : Pcl → Pcl) (s : State) : (updPcl f s).bkmBq = s.bkmBq := rfl
@[simp] theorem updPcl_cmp (f : Pcl → Pcl) (s : State) : (updPcl f s).cmp = s.cmp := rfl
@[simp] theorem updPcl_pcl (f : Pcl → Pcl) (s : State) : (updPcl f s).pcl = f s.pcl := rfl
@[simp] theorem updPcl_fil (f : Pcl → Pcl) (s : State) : (updPcl f s).fil = s.fil := rfl
@[simp] theorem updPcl_bankWaitOrder (f : Pcl → Pcl) (s : State) :
    (updPcl f s).bankWaitOrder = s.bankWaitOrder := rfl
@[simp] theorem updPcl_mtr (f : Pcl → Pcl) (s : State) : (updPcl f s).mtr = s.mtr := rfl
@[simp] theorem updPcl_bil (f : Pcl → Pcl) (s : State) : (updPcl f s).bil = s.bil := rfl
@[simp] theorem updPcl_smc (f : Pcl → Pcl) (s : State) : (updPcl f s).smc = s.smc := rfl
@[simp] theorem updPcl_pins (f : Pcl → Pcl) (s : State) : (updPcl f s).pins = s.pins := rfl
@[simp] theorem updPcl_ticks (f : Pcl → Pcl) (s : State) : (updPcl f s).ticks = s.ticks := rfl
@[simp] theorem updPcl_mail (f : Pcl → Pcl) (s : State) : (updPcl f s).mail = s.mail := rfl
@[simp] theorem updPcl_pending (f : Pcl → Pcl) (s : State) : (updPcl f s).pending = s.pending := rfl

/-! ## `updSmc` -/
@[simp] theorem updSmc_tables (f : Smc → Smc) (s : State) : (updSmc f s).tables = s.tables := rfl
@[simp] theorem updSmc_ret (f : Smc → Smc) (s : State) : (updSmc f s).ret = s.ret := rfl
@[simp] theorem updSmc_rif (f : Smc → Smc) (s : State) : (updSmc f s).rif = s.rif := rfl
@[simp] theorem updSmc_sig (f : Smc → Smc) (s : State) : (updSmc f s).sig = s.sig := rfl
@[simp] theorem updSmc_bkm (f : Smc → Smc) (s : State) : (updSmc f s).bkm = s.bkm := rfl
@[simp] theorem updSmc_bkmBq (f : Smc → Smc) (s : State) : (updSmc f s).bkmBq = s.bkmBq := rfl
@[simp] theorem updSmc_cmp (f : Smc → Smc) (s : State) : (updSmc f s).cmp = s.cmp := rfl
@[simp] theorem updSmc_pcl (f : Smc → Smc) (s : State) : (updSmc f s).pcl = s.pcl := rfl
@[simp] theorem updSmc_fil (f : Smc → Smc) (s : State) : (updSmc f s).fil = s.fil := rfl
@[simp] theorem updSmc_bankWaitOrder (f : Smc → Smc) (s : State) :
    (updSmc f s).bankWaitOrder = s.bankWaitOrder := rfl
@[simp] theorem updSmc_mtr (f : Smc → Smc) (s : State) : (updSmc f s).mtr = s.mtr := rfl
@[simp] theorem updSmc_bil (f : Smc → Smc) (s : State) : (updSmc f s).bil = s.bil := rfl
@[simp] theorem updSmc_smc (f : Smc → Smc) (s : State) : (updSmc f s).smc = f s.smc := rfl
@[simp] theorem updSmc_pins (f : Smc → Smc) (s : State) : (updSmc f s).pins = s.pins := rfl
@[simp] theorem updSmc_ticks (f : Smc → Smc) (s : State) : (updSmc f s).ticks = s.ticks := rfl
@[simp] theorem updSmc_mail (f : Smc → Smc) (s : State) : (updSmc f s).mail = s.mail := rfl
@[simp] theorem updSmc_pending (f : Smc → Smc) (s : State) : (updSmc f s).pending = s.pending := rfl

/-! ## `updRif` -/
@[simp] theorem updRif_tables (f : Rif → Rif) (s : State) : (updRif f s).tables = s.tables := rfl
@[simp] theorem updRif_ret (f : Rif → Rif) (s : State) : (updRif f s).ret = s.ret := rfl
@[simp] theorem updRif_rif (f : Rif → Rif) (s : State) : (updRif f s).rif = f s.rif := rfl
@[simp] theorem updRif_sig (f : Rif → Rif) (s : State) : (updRif f s).sig = s.sig := rfl
@[simp] theorem updRif_bkm (f : Rif → Rif) (s : State) : (updRif f s).bkm = s.bkm := rfl
@[simp] theorem updRif_bkmBq (f : Rif → Rif) (s : State) : (updRif f s).bkmBq = s.bkmBq := rfl
@[simp] theorem updRif_cmp (f : Rif → Rif) (s : State) : (updRif f s).cmp = s.cmp := rfl
@[simp] theorem updRif_pcl (f : Rif → Rif) (s : State) : (updRif f s).pcl = s.pcl := rfl
@[simp] theorem updRif_fil (f : Rif → Rif) (s : State) : (updRif f s).fil = s.fil := rfl
@[simp] theorem updRif_bankWaitOrder (f : Rif → Rif) (s : State) :
    (updRif f s).bankWaitOrder = s.bankWaitOrder := rfl
@[simp] theorem updRif_mtr (f : Rif → Rif) (s : State) : (updRif f s).mtr = s.mtr := rfl
@[simp] theorem updRif_bil (f : Rif → Rif) (s : State) : (updRif f s).bil = s.bil := rfl
@[simp] theorem updRif_smc (f : Rif → Rif) (s : State) : (updRif f s).smc = s.smc := rfl
@[simp] theorem updRif_pins (f : Rif → Rif) (s : State) : (updRif f s).pins = s.pins := rfl
@[simp] theorem updRif_ticks (f : Rif → Rif) (s : State) : (updRif f s).ticks = s.ticks := rfl
@[simp] theorem updRif_mail (f : Rif → Rif) (s : State) : (updRif f s).mail = s.mail := rfl
@[simp] theorem updRif_pending (f : Rif → Rif) (s : State) : (updRif f s).pending = s.pending := rfl

/-! ## `updRet` -/
@[simp] theorem updRet_tables (f : Retained → Retained) (s : State) : (updRet f s).tables = s.tables := rfl
@[simp] theorem updRet_ret (f : Retained → Retained) (s : State) : (updRet f s).ret = f s.ret := rfl
@[simp] theorem updRet_rif (f : Retained → Retained) (s : State) : (updRet f s).rif = s.rif := rfl
@[simp] theorem updRet_sig (f : Retained → Retained) (s : State) : (updRet f s).sig = s.sig := rfl
@[simp] theorem updRet_bkm (f : Retained → Retained) (s : State) : (updRet f s).bkm = s.bkm := rfl
@[simp] theorem updRet_bkmBq (f : Retained → Retained) (s : State) : (updRet f s).bkmBq = s.bkmBq := rfl
@[simp] theorem updRet_cmp (f : Retained → Retained) (s : State) : (updRet f s).cmp = s.cmp := rfl
@[simp] theorem updRet_pcl (f : Retained → Retained) (s : State) : (updRet f s).pcl = s.pcl := rfl
@[simp] theorem updRet_fil (f : Retained → Retained) (s : State) : (updRet f s).fil = s.fil := rfl
@[simp] theorem updRet_bankWaitOrder (f : Retained → Retained) (s : State) :
    (updRet f s).bankWaitOrder = s.bankWaitOrder := rfl
@[simp] theorem updRet_mtr (f : Retained → Retained) (s : State) : (updRet f s).mtr = s.mtr := rfl
@[simp] theorem updRet_bil (f : Retained → Retained) (s : State) : (updRet f s).bil = s.bil := rfl
@[simp] theorem updRet_smc (f : Retained → Retained) (s : State) : (updRet f s).smc = s.smc := rfl
@[simp] theorem updRet_pins (f : Retained → Retained) (s : State) : (updRet f s).pins = s.pins := rfl
@[simp] theorem updRet_ticks (f : Retained → Retained) (s : State) : (updRet f s).ticks = s.ticks := rfl
@[simp] theorem updRet_mail (f : Retained → Retained) (s : State) : (updRet f s).mail = s.mail := rfl
@[simp] theorem updRet_pending (f : Retained → Retained) (s : State) : (updRet f s).pending = s.pending := rfl

/-! ## `updTables` -/
@[simp] theorem updTables_tables (f : Tables → Tables) (s : State) :
    (updTables f s).tables = f s.tables := rfl
@[simp] theorem updTables_ret (f : Tables → Tables) (s : State) : (updTables f s).ret = s.ret := rfl
@[simp] theorem updTables_rif (f : Tables → Tables) (s : State) : (updTables f s).rif = s.rif := rfl
@[simp] theorem updTables_sig (f : Tables → Tables) (s : State) : (updTables f s).sig = s.sig := rfl
@[simp] theorem updTables_bkm (f : Tables → Tables) (s : State) : (updTables f s).bkm = s.bkm := rfl
@[simp] theorem updTables_bkmBq (f : Tables → Tables) (s : State) : (updTables f s).bkmBq = s.bkmBq := rfl
@[simp] theorem updTables_cmp (f : Tables → Tables) (s : State) : (updTables f s).cmp = s.cmp := rfl
@[simp] theorem updTables_pcl (f : Tables → Tables) (s : State) : (updTables f s).pcl = s.pcl := rfl
@[simp] theorem updTables_fil (f : Tables → Tables) (s : State) : (updTables f s).fil = s.fil := rfl
@[simp] theorem updTables_bankWaitOrder (f : Tables → Tables) (s : State) :
    (updTables f s).bankWaitOrder = s.bankWaitOrder := rfl
@[simp] theorem updTables_mtr (f : Tables → Tables) (s : State) : (updTables f s).mtr = s.mtr := rfl
@[simp] theorem updTables_bil (f : Tables → Tables) (s : State) : (updTables f s).bil = s.bil := rfl
@[simp] theorem updTables_smc (f : Tables → Tables) (s : State) : (updTables f s).smc = s.smc := rfl
@[simp] theorem updTables_pins (f : Tables → Tables) (s : State) : (updTables f s).pins = s.pins := rfl
@[simp] theorem updTables_ticks (f : Tables → Tables) (s : State) : (updTables f s).ticks = s.ticks := rfl
@[simp] theorem updTables_mail (f : Tables → Tables) (s : State) : (updTables f s).mail = s.mail := rfl
@[simp] theorem updTables_pending (f : Tables → Tables) (s : State) :
    (updTables f s).pending = s.pending := rfl

/-! ## Readers after an update -/
@[simp] theorem updCtx_ctx_same (p : Pos) (f : Ctx → Ctx) (s : State) : (updCtx p f s).ctx p = f (s.ctx p) := by
  cases p <;> rfl

theorem updCtx_ctx_ne {p q : Pos} (f : Ctx → Ctx) (s : State) (h : q ≠ p) :
    (updCtx p f s).ctx q = s.ctx q := PerPos.get_set_ne _ _ h
@[simp] theorem updBank_bank_same (b : Bank) (f : BankRec → BankRec) (s : State) :
    (updBank b f s).bank b = f (s.bank b) := by cases b <;> rfl

theorem updBank_bank_ne {b c : Bank} (f : BankRec → BankRec) (s : State) (h : c ≠ b) :
    (updBank b f s).bank c = s.bank c := PerBank.get_set_ne _ _ h
@[simp] theorem updMeter_meter_same (p : Pos) (f : MeterCtx → MeterCtx) (s : State) :
    (updMeter p f s).meter p = f (s.meter p) := by cases p <;> rfl

theorem updMeter_meter_ne {p q : Pos} (f : MeterCtx → MeterCtx) (s : State) (h : q ≠ p) :
    (updMeter p f s).meter q = s.meter q := PerPos.get_set_ne _ _ h

/-! ## Control -/
@[simp] theorem onlyIf_true (f : State → State) (s : State) : onlyIf true f s = f s := rfl
@[simp] theorem onlyIf_false (f : State → State) (s : State) : onlyIf false f s = s := rfl
@[simp] theorem forEach_nil {α : Type} (f : α → State → State) (s : State) : forEach [] f s = s := rfl
@[simp] theorem forEach_cons {α : Type} (x : α) (xs : List α) (f : α → State → State) (s : State) :
    forEach (x :: xs) f s = forEach xs f (f x s) := rfl

/-- What a command that runs answers: its effect while the part runs, no change while the supply monitor
holds the part in reset. -/
theorem running_spec (s t : State) (f : State → State) (h : running s f = .next t) :
    (s.smc.inReset = true ∧ t = s) ∨ (s.smc.inReset = false ∧ t = f s) := by
  cases h0 : s.smc.inReset <;> simp [running, h0] at h <;> simp [h]

/-- While the part runs, a command has its effect. -/
theorem running_next (s : State) (f : State → State) (h : s.smc.inReset = false) :
    running s f = .next (f s) := by simp [running, h]

/-- What holds of a state and is kept by every pass holds after a `forEach`. -/
theorem forEach_keeps {α : Type} (P : State → Prop) (f : α → State → State)
    (h : ∀ x s, P s → P (f x s)) : ∀ (xs : List α) (s : State), P s → P (forEach xs f s)
  | [], _, hs => hs
  | x :: xs, s, hs => forEach_keeps P f h xs (f x s) (h x s hs)

end Sys2Proof.Machine
end

