-- ==== Sys2Proof/Laws/Ring.lean ====
section
/-! SUPPORT. What the ring interface's operations can do: queueing a command, a reply, a notice or a
transit frame, and the arbiter's choice, change nothing but RIF (R188 to R192); and how far each queue
can grow. -/

namespace Sys2Proof.Machine

open Sys2Proof

/-! ## Nothing but RIF changes -/

theorem sendReplyOrNotice_onlyRif (s : State) :
    sendReplyOrNotice s = { s with rif := (sendReplyOrNotice s).rif } := by
  unfold sendReplyOrNotice
  split <;> rfl

theorem arbitrate_onlyRif : ∀ (n : Nat) (s : State), arbitrate n s = { s with rif := (arbitrate n s).rif }
  | 0, _ => rfl
  | n + 1, s => by
    unfold arbitrate
    split
    · split
      · rfl
      · rw [arbitrate_onlyRif n]
    · split
      · exact sendReplyOrNotice_onlyRif s
      · split
        · rw [arbitrate_onlyRif n]
        · rfl
    · exact sendReplyOrNotice_onlyRif s

theorem chooseNext_onlyRif (s : State) : chooseNext s = { s with rif := (chooseNext s).rif } :=
  arbitrate_onlyRif _ s

theorem kick_onlyRif (s : State) : kick s = { s with rif := (kick s).rif } := by
  unfold kick
  split
  · exact chooseNext_onlyRif s
  · rfl

theorem noticeTo_onlyRif (d : Nat) (k : NoticeKind) (n : Nat) (bs : List Byte) (s : State) :
    noticeTo d k n bs s = { s with rif := (noticeTo d k n bs s).rif } := by
  unfold noticeTo
  rw [kick_onlyRif]
  rfl

theorem notice_onlyRif (k : NoticeKind) (n : Nat) (bs : List Byte) (s : State) :
    notice k n bs s = { s with rif := (notice k n bs s).rif } := noticeTo_onlyRif _ k n bs s

theorem reply_onlyRif (rq : Req) (c : Nat) (st : Status) (bs : List Byte) (s : State) :
    reply rq c st bs s = { s with rif := (reply rq c st bs s).rif } := by
  unfold reply
  rw [kick_onlyRif]
  rfl

theorem forward_onlyRif (bs : List Byte) (s : State) :
    forward bs s = { s with rif := (forward bs s).rif } := by
  unfold forward
  split
  · rw [kick_onlyRif]; rfl
  · rfl

theorem actuate_onlyRif (r : Role) (c : ActCommand) (v : Nat) (s : State) :
    actuate r c v s = { s with rif := (actuate r c v s).rif } := by
  unfold actuate
  split
  · rw [kick_onlyRif]; rfl
  · rfl

theorem close_onlyRif (r : Role) (s : State) : close r s = { s with rif := (close r s).rif } :=
  actuate_onlyRif r .close 0 s

theorem openFull_onlyRif (r : Role) (s : State) : openFull r s = { s with rif := (openFull r s).rif } :=
  actuate_onlyRif r .open 1000 s

theorem forEach_close_onlyRif : ∀ (rs : List Role) (s : State),
    forEach rs close s = { s with rif := (forEach rs close s).rif }
  | [], _ => rfl
  | r :: rs, s => by
    have h := forEach_close_onlyRif rs (close r s)
    rw [forEach_cons, h, close_onlyRif r s]

theorem closeAll_onlyRif (s : State) : closeAll s = { s with rif := (closeAll s).rif } :=
  forEach_close_onlyRif _ s

/-! ## The same, field by field -/

@[simp] theorem arbitrate_tables (n : Nat) (s : State) : (arbitrate n s).tables = s.tables := by
  rw [arbitrate_onlyRif]
@[simp] theorem arbitrate_ret (n : Nat) (s : State) : (arbitrate n s).ret = s.ret := by
  rw [arbitrate_onlyRif]
@[simp] theorem arbitrate_sig (n : Nat) (s : State) : (arbitrate n s).sig = s.sig := by
  rw [arbitrate_onlyRif]
@[simp] theorem arbitrate_bkm (n : Nat) (s : State) : (arbitrate n s).bkm = s.bkm := by
  rw [arbitrate_onlyRif]
@[simp] theorem arbitrate_bkmBq (n : Nat) (s : State) : (arbitrate n s).bkmBq = s.bkmBq := by
  rw [arbitrate_onlyRif]
@[simp] theorem arbitrate_cmp (n : Nat) (s : State) : (arbitrate n s).cmp = s.cmp := by
  rw [arbitrate_onlyRif]
@[simp] theorem arbitrate_pcl (n : Nat) (s : State) : (arbitrate n s).pcl = s.pcl := by
  rw [arbitrate_onlyRif]
@[simp] theorem arbitrate_fil (n : Nat) (s : State) : (arbitrate n s).fil = s.fil := by
  rw [arbitrate_onlyRif]
@[simp] theorem arbitrate_bankWaitOrder (n : Nat) (s : State) :
    (arbitrate n s).bankWaitOrder = s.bankWaitOrder := by
  rw [arbitrate_onlyRif]
@[simp] theorem arbitrate_mtr (n : Nat) (s : State) : (arbitrate n s).mtr = s.mtr := by
  rw [arbitrate_onlyRif]
@[simp] theorem arbitrate_bil (n : Nat) (s : State) : (arbitrate n s).bil = s.bil := by
  rw [arbitrate_onlyRif]
@[simp] theorem arbitrate_smc (n : Nat) (s : State) : (arbitrate n s).smc = s.smc := by
  rw [arbitrate_onlyRif]
@[simp] theorem arbitrate_pins (n : Nat) (s : State) : (arbitrate n s).pins = s.pins := by
  rw [arbitrate_onlyRif]
@[simp] theorem arbitrate_ticks (n : Nat) (s : State) : (arbitrate n s).ticks = s.ticks := by
  rw [arbitrate_onlyRif]
@[simp] theorem arbitrate_mail (n : Nat) (s : State) : (arbitrate n s).mail = s.mail := by
  rw [arbitrate_onlyRif]
@[simp] theorem arbitrate_pending (n : Nat) (s : State) : (arbitrate n s).pending = s.pending := by
  rw [arbitrate_onlyRif]
@[simp] theorem chooseNext_tables (s : State) : (chooseNext s).tables = s.tables := by
  rw [chooseNext_onlyRif]
@[simp] theorem chooseNext_ret (s : State) : (chooseNext s).ret = s.ret := by
  rw [chooseNext_onlyRif]
@[simp] theorem chooseNext_sig (s : State) : (chooseNext s).sig = s.sig := by
  rw [chooseNext_onlyRif]
@[simp] theorem chooseNext_bkm (s : State) : (chooseNext s).bkm = s.bkm := by
  rw [chooseNext_onlyRif]
@[simp] theorem chooseNext_bkmBq (s : State) : (chooseNext s).bkmBq = s.bkmBq := by
  rw [chooseNext_onlyRif]
@[simp] theorem chooseNext_cmp (s : State) : (chooseNext s).cmp = s.cmp := by
  rw [chooseNext_onlyRif]
@[simp] theorem chooseNext_pcl (s : State) : (chooseNext s).pcl = s.pcl := by
  rw [chooseNext_onlyRif]
@[simp] theorem chooseNext_fil (s : State) : (chooseNext s).fil = s.fil := by
  rw [chooseNext_onlyRif]
@[simp] theorem chooseNext_bankWaitOrder (s : State) : (chooseNext s).bankWaitOrder = s.bankWaitOrder := by
  rw [chooseNext_onlyRif]
@[simp] theorem chooseNext_mtr (s : State) : (chooseNext s).mtr = s.mtr := by
  rw [chooseNext_onlyRif]
@[simp] theorem chooseNext_bil (s : State) : (chooseNext s).bil = s.bil := by
  rw [chooseNext_onlyRif]
@[simp] theorem chooseNext_smc (s : State) : (chooseNext s).smc = s.smc := by
  rw [chooseNext_onlyRif]
@[simp] theorem chooseNext_pins (s : State) : (chooseNext s).pins = s.pins := by
  rw [chooseNext_onlyRif]
@[simp] theorem chooseNext_ticks (s : State) : (chooseNext s).ticks = s.ticks := by
  rw [chooseNext_onlyRif]
@[simp] theorem chooseNext_mail (s : State) : (chooseNext s).mail = s.mail := by
  rw [chooseNext_onlyRif]
@[simp] theorem chooseNext_pending (s : State) : (chooseNext s).pending = s.pending := by
  rw [chooseNext_onlyRif]
@[simp] theorem kick_tables (s : State) : (kick s).tables = s.tables := by
  rw [kick_onlyRif]
@[simp] theorem kick_ret (s : State) : (kick s).ret = s.ret := by
  rw [kick_onlyRif]
@[simp] theorem kick_sig (s : State) : (kick s).sig = s.sig := by
  rw [kick_onlyRif]
@[simp] theorem kick_bkm (s : State) : (kick s).bkm = s.bkm := by
  rw [kick_onlyRif]
@[simp] theorem kick_bkmBq (s : State) : (kick s).bkmBq = s.bkmBq := by
  rw [kick_onlyRif]
@[simp] theorem kick_cmp (s : State) : (kick s).cmp = s.cmp := by
  rw [kick_onlyRif]
@[simp] theorem kick_pcl (s : State) : (kick s).pcl = s.pcl := by
  rw [kick_onlyRif]
@[simp] theorem kick_fil (s : State) : (kick s).fil = s.fil := by
  rw [kick_onlyRif]
@[simp] theorem kick_bankWaitOrder (s : State) : (kick s).bankWaitOrder = s.bankWaitOrder := by
  rw [kick_onlyRif]
@[simp] theorem kick_mtr (s : State) : (kick s).mtr = s.mtr := by
  rw [kick_onlyRif]
@[simp] theorem kick_bil (s : State) : (kick s).bil = s.bil := by
  rw [kick_onlyRif]
@[simp] theorem kick_smc (s : State) : (kick s).smc = s.smc := by
  rw [kick_onlyRif]
@[simp] theorem kick_pins (s : State) : (kick s).pins = s.pins := by
  rw [kick_onlyRif]
@[simp] theorem kick_ticks (s : State) : (kick s).ticks = s.ticks := by
  rw [kick_onlyRif]
@[simp] theorem kick_mail (s : State) : (kick s).mail = s.mail := by
  rw [kick_onlyRif]
@[simp] theorem kick_pending (s : State) : (kick s).pending = s.pending := by
  rw [kick_onlyRif]
@[simp] theorem noticeTo_tables (d : Nat) (k : NoticeKind) (n : Nat) (bs : List Byte) (s : State) :
    (noticeTo d k n bs s).tables = s.tables := by
  rw [noticeTo_onlyRif]
@[simp] theorem noticeTo_ret (d : Nat) (k : NoticeKind) (n : Nat) (bs : List Byte) (s : State) :
    (noticeTo d k n bs s).ret = s.ret := by
  rw [noticeTo_onlyRif]
@[simp] theorem noticeTo_sig (d : Nat) (k : NoticeKind) (n : Nat) (bs : List Byte) (s : State) :
    (noticeTo d k n bs s).sig = s.sig := by
  rw [noticeTo_onlyRif]
@[simp] theorem noticeTo_bkm (d : Nat) (k : NoticeKind) (n : Nat) (bs : List Byte) (s : State) :
    (noticeTo d k n bs s).bkm = s.bkm := by
  rw [noticeTo_onlyRif]
@[simp] theorem noticeTo_bkmBq (d : Nat) (k : NoticeKind) (n : Nat) (bs : List Byte) (s : State) :
    (noticeTo d k n bs s).bkmBq = s.bkmBq := by
  rw [noticeTo_onlyRif]
@[simp] theorem noticeTo_cmp (d : Nat) (k : NoticeKind) (n : Nat) (bs : List Byte) (s : State) :
    (noticeTo d k n bs s).cmp = s.cmp := by
  rw [noticeTo_onlyRif]
@[simp] theorem noticeTo_pcl (d : Nat) (k : NoticeKind) (n : Nat) (bs : List Byte) (s : State) :
    (noticeTo d k n bs s).pcl = s.pcl := by
  rw [noticeTo_onlyRif]
@[simp] theorem noticeTo_fil (d : Nat) (k : NoticeKind) (n : Nat) (bs : List Byte) (s : State) :
    (noticeTo d k n bs s).fil = s.fil := by
  rw [noticeTo_onlyRif]
@[simp] theorem noticeTo_bankWaitOrder (d : Nat) (k : NoticeKind) (n : Nat) (bs : List Byte) (s : State) :
    (noticeTo d k n bs s).bankWaitOrder = s.bankWaitOrder := by
  rw [noticeTo_onlyRif]
@[simp] theorem noticeTo_mtr (d : Nat) (k : NoticeKind) (n : Nat) (bs : List Byte) (s : State) :
    (noticeTo d k n bs s).mtr = s.mtr := by
  rw [noticeTo_onlyRif]
@[simp] theorem noticeTo_bil (d : Nat) (k : NoticeKind) (n : Nat) (bs : List Byte) (s : State) :
    (noticeTo d k n bs s).bil = s.bil := by
  rw [noticeTo_onlyRif]
@[simp] theorem noticeTo_smc (d : Nat) (k : NoticeKind) (n : Nat) (bs : List Byte) (s : State) :
    (noticeTo d k n bs s).smc = s.smc := by
  rw [noticeTo_onlyRif]
@[simp] theorem noticeTo_pins (d : Nat) (k : NoticeKind) (n : Nat) (bs : List Byte) (s : State) :
    (noticeTo d k n bs s).pins = s.pins := by
  rw [noticeTo_onlyRif]
@[simp] theorem noticeTo_ticks (d : Nat) (k : NoticeKind) (n : Nat) (bs : List Byte) (s : State) :
    (noticeTo d k n bs s).ticks = s.ticks := by
  rw [noticeTo_onlyRif]
@[simp] theorem noticeTo_mail (d : Nat) (k : NoticeKind) (n : Nat) (bs : List Byte) (s : State) :
    (noticeTo d k n bs s).mail = s.mail := by
  rw [noticeTo_onlyRif]
@[simp] theorem noticeTo_pending (d : Nat) (k : NoticeKind) (n : Nat) (bs : List Byte) (s : State) :
    (noticeTo d k n bs s).pending = s.pending := by
  rw [noticeTo_onlyRif]
@[simp] theorem notice_tables (k : NoticeKind) (n : Nat) (bs : List Byte) (s : State) :
    (notice k n bs s).tables = s.tables := by
  rw [notice_onlyRif]
@[simp] theorem notice_ret (k : NoticeKind) (n : Nat) (bs : List Byte) (s : State) :
    (notice k n bs s).ret = s.ret := by
  rw [notice_onlyRif]
@[simp] theorem notice_sig (k : NoticeKind) (n : Nat) (bs : List Byte) (s : State) :
    (notice k n bs s).sig = s.sig := by
  rw [notice_onlyRif]
@[simp] theorem notice_bkm (k : NoticeKind) (n : Nat) (bs : List Byte) (s : State) :
    (notice k n bs s).bkm = s.bkm := by
  rw [notice_onlyRif]
@[simp] theorem notice_bkmBq (k : NoticeKind) (n : Nat) (bs : List Byte) (s : State) :
    (notice k n bs s).bkmBq = s.bkmBq := by
  rw [notice_onlyRif]
@[simp] theorem notice_cmp (k : NoticeKind) (n : Nat) (bs : List Byte) (s : State) :
    (notice k n bs s).cmp = s.cmp := by
  rw [notice_onlyRif]
@[simp] theorem notice_pcl (k : NoticeKind) (n : Nat) (bs : List Byte) (s : State) :
    (notice k n bs s).pcl = s.pcl := by
  rw [notice_onlyRif]
@[simp] theorem notice_fil (k : NoticeKind) (n : Nat) (bs : List Byte) (s : State) :
    (notice k n bs s).fil = s.fil := by
  rw [notice_onlyRif]
@[simp] theorem notice_bankWaitOrder (k : NoticeKind) (n : Nat) (bs : List Byte) (s : State) :
    (notice k n bs s).bankWaitOrder = s.bankWaitOrder := by
  rw [notice_onlyRif]
@[simp] theorem notice_mtr (k : NoticeKind) (n : Nat) (bs : List Byte) (s : State) :
    (notice k n bs s).mtr = s.mtr := by
  rw [notice_onlyRif]
@[simp] theorem notice_bil (k : NoticeKind) (n : Nat) (bs : List Byte) (s : State) :
    (notice k n bs s).bil = s.bil := by
  rw [notice_onlyRif]
@[simp] theorem notice_smc (k : NoticeKind) (n : Nat) (bs : List Byte) (s : State) :
    (notice k n bs s).smc = s.smc := by
  rw [notice_onlyRif]
@[simp] theorem notice_pins (k : NoticeKind) (n : Nat) (bs : List Byte) (s : State) :
    (notice k n bs s).pins = s.pins := by
  rw [notice_onlyRif]
@[simp] theorem notice_ticks (k : NoticeKind) (n : Nat) (bs : List Byte) (s : State) :
    (notice k n bs s).ticks = s.ticks := by
  rw [notice_onlyRif]
@[simp] theorem notice_mail (k : NoticeKind) (n : Nat) (bs : List Byte) (s : State) :
    (notice k n bs s).mail = s.mail := by
  rw [notice_onlyRif]
@[simp] theorem notice_pending (k : NoticeKind) (n : Nat) (bs : List Byte) (s : State) :
    (notice k n bs s).pending = s.pending := by
  rw [notice_onlyRif]
@[simp] theorem reply_tables (rq : Req) (c : Nat) (st : Status) (bs : List Byte) (s : State) :
    (reply rq c st bs s).tables = s.tables := by
  rw [reply_onlyRif]
@[simp] theorem reply_ret (rq : Req) (c : Nat) (st : Status) (bs : List Byte) (s : State) :
    (reply rq c st bs s).ret = s.ret := by
  rw [reply_onlyRif]
@[simp] theorem reply_sig (rq : Req) (c : Nat) (st : Status) (bs : List Byte) (s : State) :
    (reply rq c st bs s).sig = s.sig := by
  rw [reply_onlyRif]
@[simp] theorem reply_bkm (rq : Req) (c : Nat) (st : Status) (bs : List Byte) (s : State) :
    (reply rq c st bs s).bkm = s.bkm := by
  rw [reply_onlyRif]
@[simp] theorem reply_bkmBq (rq : Req) (c : Nat) (st : Status) (bs : List Byte) (s : State) :
    (reply rq c st bs s).bkmBq = s.bkmBq := by
  rw [reply_onlyRif]
@[simp] theorem reply_cmp (rq : Req) (c : Nat) (st : Status) (bs : List Byte) (s : State) :
    (reply rq c st bs s).cmp = s.cmp := by
  rw [reply_onlyRif]
@[simp] theorem reply_pcl (rq : Req) (c : Nat) (st : Status) (bs : List Byte) (s : State) :
    (reply rq c st bs s).pcl = s.pcl := by
  rw [reply_onlyRif]
@[simp] theorem reply_fil (rq : Req) (c : Nat) (st : Status) (bs : List Byte) (s : State) :
    (reply rq c st bs s).fil = s.fil := by
  rw [reply_onlyRif]
@[simp] theorem reply_bankWaitOrder (rq : Req) (c : Nat) (st : Status) (bs : List Byte) (s : State) :
    (reply rq c st bs s).bankWaitOrder = s.bankWaitOrder := by
  rw [reply_onlyRif]
@[simp] theorem reply_mtr (rq : Req) (c : Nat) (st : Status) (bs : List Byte) (s : State) :
    (reply rq c st bs s).mtr = s.mtr := by
  rw [reply_onlyRif]
@[simp] theorem reply_bil (rq : Req) (c : Nat) (st : Status) (bs : List Byte) (s : State) :
    (reply rq c st bs s).bil = s.bil := by
  rw [reply_onlyRif]
@[simp] theorem reply_smc (rq : Req) (c : Nat) (st : Status) (bs : List Byte) (s : State) :
    (reply rq c st bs s).smc = s.smc := by
  rw [reply_onlyRif]
@[simp] theorem reply_pins (rq : Req) (c : Nat) (st : Status) (bs : List Byte) (s : State) :
    (reply rq c st bs s).pins = s.pins := by
  rw [reply_onlyRif]
@[simp] theorem reply_ticks (rq : Req) (c : Nat) (st : Status) (bs : List Byte) (s : State) :
    (reply rq c st bs s).ticks = s.ticks := by
  rw [reply_onlyRif]
@[simp] theorem reply_mail (rq : Req) (c : Nat) (st : Status) (bs : List Byte) (s : State) :
    (reply rq c st bs s).mail = s.mail := by
  rw [reply_onlyRif]
@[simp] theorem reply_pending (rq : Req) (c : Nat) (st : Status) (bs : List Byte) (s : State) :
    (reply rq c st bs s).pending = s.pending := by
  rw [reply_onlyRif]
@[simp] theorem forward_tables (bs : List Byte) (s : State) : (forward bs s).tables = s.tables := by
  rw [forward_onlyRif]
@[simp] theorem forward_ret (bs : List Byte) (s : State) : (forward bs s).ret = s.ret := by
  rw [forward_onlyRif]
@[simp] theorem forward_sig (bs : List Byte) (s : State) : (forward bs s).sig = s.sig := by
  rw [forward_onlyRif]
@[simp] theorem forward_bkm (bs : List Byte) (s : State) : (forward bs s).bkm = s.bkm := by
  rw [forward_onlyRif]
@[simp] theorem forward_bkmBq (bs : List Byte) (s : State) : (forward bs s).bkmBq = s.bkmBq := by
  rw [forward_onlyRif]
@[simp] theorem forward_cmp (bs : List Byte) (s : State) : (forward bs s).cmp = s.cmp := by
  rw [forward_onlyRif]
@[simp] theorem forward_pcl (bs : List Byte) (s : State) : (forward bs s).pcl = s.pcl := by
  rw [forward_onlyRif]
@[simp] theorem forward_fil (bs : List Byte) (s : State) : (forward bs s).fil = s.fil := by
  rw [forward_onlyRif]
@[simp] theorem forward_bankWaitOrder (bs : List Byte) (s : State) :
    (forward bs s).bankWaitOrder = s.bankWaitOrder := by
  rw [forward_onlyRif]
@[simp] theorem forward_mtr (bs : List Byte) (s : State) : (forward bs s).mtr = s.mtr := by
  rw [forward_onlyRif]
@[simp] theorem forward_bil (bs : List Byte) (s : State) : (forward bs s).bil = s.bil := by
  rw [forward_onlyRif]
@[simp] theorem forward_smc (bs : List Byte) (s : State) : (forward bs s).smc = s.smc := by
  rw [forward_onlyRif]
@[simp] theorem forward_pins (bs : List Byte) (s : State) : (forward bs s).pins = s.pins := by
  rw [forward_onlyRif]
@[simp] theorem forward_ticks (bs : List Byte) (s : State) : (forward bs s).ticks = s.ticks := by
  rw [forward_onlyRif]
@[simp] theorem forward_mail (bs : List Byte) (s : State) : (forward bs s).mail = s.mail := by
  rw [forward_onlyRif]
@[simp] theorem forward_pending (bs : List Byte) (s : State) : (forward bs s).pending = s.pending := by
  rw [forward_onlyRif]
@[simp] theorem actuate_tables (r : Role) (c : ActCommand) (v : Nat) (s : State) :
    (actuate r c v s).tables = s.tables := by
  rw [actuate_onlyRif]
@[simp] theorem actuate_ret (r : Role) (c : ActCommand) (v : Nat) (s : State) :
    (actuate r c v s).ret = s.ret := by
  rw [actuate_onlyRif]
@[simp] theorem actuate_sig (r : Role) (c : ActCommand) (v : Nat) (s : State) :
    (actuate r c v s).sig = s.sig := by
  rw [actuate_onlyRif]
@[simp] theorem actuate_bkm (r : Role) (c : ActCommand) (v : Nat) (s : State) :
    (actuate r c v s).bkm = s.bkm := by
  rw [actuate_onlyRif]
@[simp] theorem actuate_bkmBq (r : Role) (c : ActCommand) (v : Nat) (s : State) :
    (actuate r c v s).bkmBq = s.bkmBq := by
  rw [actuate_onlyRif]
@[simp] theorem actuate_cmp (r : Role) (c : ActCommand) (v : Nat) (s : State) :
    (actuate r c v s).cmp = s.cmp := by
  rw [actuate_onlyRif]
@[simp] theorem actuate_pcl (r : Role) (c : ActCommand) (v : Nat) (s : State) :
    (actuate r c v s).pcl = s.pcl := by
  rw [actuate_onlyRif]
@[simp] theorem actuate_fil (r : Role) (c : ActCommand) (v : Nat) (s : State) :
    (actuate r c v s).fil = s.fil := by
  rw [actuate_onlyRif]
@[simp] theorem actuate_bankWaitOrder (r : Role) (c : ActCommand) (v : Nat) (s : State) :
    (actuate r c v s).bankWaitOrder = s.bankWaitOrder := by
  rw [actuate_onlyRif]
@[simp] theorem actuate_mtr (r : Role) (c : ActCommand) (v : Nat) (s : State) :
    (actuate r c v s).mtr = s.mtr := by
  rw [actuate_onlyRif]
@[simp] theorem actuate_bil (r : Role) (c : ActCommand) (v : Nat) (s : State) :
    (actuate r c v s).bil = s.bil := by
  rw [actuate_onlyRif]
@[simp] theorem actuate_smc (r : Role) (c : ActCommand) (v : Nat) (s : State) :
    (actuate r c v s).smc = s.smc := by
  rw [actuate_onlyRif]
@[simp] theorem actuate_pins (r : Role) (c : ActCommand) (v : Nat) (s : State) :
    (actuate r c v s).pins = s.pins := by
  rw [actuate_onlyRif]
@[simp] theorem actuate_ticks (r : Role) (c : ActCommand) (v : Nat) (s : State) :
    (actuate r c v s).ticks = s.ticks := by
  rw [actuate_onlyRif]
@[simp] theorem actuate_mail (r : Role) (c : ActCommand) (v : Nat) (s : State) :
    (actuate r c v s).mail = s.mail := by
  rw [actuate_onlyRif]
@[simp] theorem actuate_pending (r : Role) (c : ActCommand) (v : Nat) (s : State) :
    (actuate r c v s).pending = s.pending := by
  rw [actuate_onlyRif]
@[simp] theorem close_tables (r : Role) (s : State) : (close r s).tables = s.tables := by
  rw [close_onlyRif]
@[simp] theorem close_ret (r : Role) (s : State) : (close r s).ret = s.ret := by
  rw [close_onlyRif]
@[simp] theorem close_sig (r : Role) (s : State) : (close r s).sig = s.sig := by
  rw [close_onlyRif]
@[simp] theorem close_bkm (r : Role) (s : State) : (close r s).bkm = s.bkm := by
  rw [close_onlyRif]
@[simp] theorem close_bkmBq (r : Role) (s : State) : (close r s).bkmBq = s.bkmBq := by
  rw [close_onlyRif]
@[simp] theorem close_cmp (r : Role) (s : State) : (close r s).cmp = s.cmp := by
  rw [close_onlyRif]
@[simp] theorem close_pcl (r : Role) (s : State) : (close r s).pcl = s.pcl := by
  rw [close_onlyRif]
@[simp] theorem close_fil (r : Role) (s : State) : (close r s).fil = s.fil := by
  rw [close_onlyRif]
@[simp] theorem close_bankWaitOrder (r : Role) (s : State) :
    (close r s).bankWaitOrder = s.bankWaitOrder := by
  rw [close_onlyRif]
@[simp] theorem close_mtr (r : Role) (s : State) : (close r s).mtr = s.mtr := by
  rw [close_onlyRif]
@[simp] theorem close_bil (r : Role) (s : State) : (close r s).bil = s.bil := by
  rw [close_onlyRif]
@[simp] theorem close_smc (r : Role) (s : State) : (close r s).smc = s.smc := by
  rw [close_onlyRif]
@[simp] theorem close_pins (r : Role) (s : State) : (close r s).pins = s.pins := by
  rw [close_onlyRif]
@[simp] theorem close_ticks (r : Role) (s : State) : (close r s).ticks = s.ticks := by
  rw [close_onlyRif]
@[simp] theorem close_mail (r : Role) (s : State) : (close r s).mail = s.mail := by
  rw [close_onlyRif]
@[simp] theorem close_pending (r : Role) (s : State) : (close r s).pending = s.pending := by
  rw [close_onlyRif]
@[simp] theorem openFull_tables (r : Role) (s : State) : (openFull r s).tables = s.tables := by
  rw [openFull_onlyRif]
@[simp] theorem openFull_ret (r : Role) (s : State) : (openFull r s).ret = s.ret := by
  rw [openFull_onlyRif]
@[simp] theorem openFull_sig (r : Role) (s : State) : (openFull r s).sig = s.sig := by
  rw [openFull_onlyRif]
@[simp] theorem openFull_bkm (r : Role) (s : State) : (openFull r s).bkm = s.bkm := by
  rw [openFull_onlyRif]
@[simp] theorem openFull_bkmBq (r : Role) (s : State) : (openFull r s).bkmBq = s.bkmBq := by
  rw [openFull_onlyRif]
@[simp] theorem openFull_cmp (r : Role) (s : State) : (openFull r s).cmp = s.cmp := by
  rw [openFull_onlyRif]
@[simp] theorem openFull_pcl (r : Role) (s : State) : (openFull r s).pcl = s.pcl := by
  rw [openFull_onlyRif]
@[simp] theorem openFull_fil (r : Role) (s : State) : (openFull r s).fil = s.fil := by
  rw [openFull_onlyRif]
@[simp] theorem openFull_bankWaitOrder (r : Role) (s : State) :
    (openFull r s).bankWaitOrder = s.bankWaitOrder := by
  rw [openFull_onlyRif]
@[simp] theorem openFull_mtr (r : Role) (s : State) : (openFull r s).mtr = s.mtr := by
  rw [openFull_onlyRif]
@[simp] theorem openFull_bil (r : Role) (s : State) : (openFull r s).bil = s.bil := by
  rw [openFull_onlyRif]
@[simp] theorem openFull_smc (r : Role) (s : State) : (openFull r s).smc = s.smc := by
  rw [openFull_onlyRif]
@[simp] theorem openFull_pins (r : Role) (s : State) : (openFull r s).pins = s.pins := by
  rw [openFull_onlyRif]
@[simp] theorem openFull_ticks (r : Role) (s : State) : (openFull r s).ticks = s.ticks := by
  rw [openFull_onlyRif]
@[simp] theorem openFull_mail (r : Role) (s : State) : (openFull r s).mail = s.mail := by
  rw [openFull_onlyRif]
@[simp] theorem openFull_pending (r : Role) (s : State) : (openFull r s).pending = s.pending := by
  rw [openFull_onlyRif]
@[simp] theorem closeAll_tables (s : State) : (closeAll s).tables = s.tables := by
  rw [closeAll_onlyRif]
@[simp] theorem closeAll_ret (s : State) : (closeAll s).ret = s.ret := by
  rw [closeAll_onlyRif]
@[simp] theorem closeAll_sig (s : State) : (closeAll s).sig = s.sig := by
  rw [closeAll_onlyRif]
@[simp] theorem closeAll_bkm (s : State) : (closeAll s).bkm = s.bkm := by
  rw [closeAll_onlyRif]
@[simp] theorem closeAll_bkmBq (s : State) : (closeAll s).bkmBq = s.bkmBq := by
  rw [closeAll_onlyRif]
@[simp] theorem closeAll_cmp (s : State) : (closeAll s).cmp = s.cmp := by
  rw [closeAll_onlyRif]
@[simp] theorem closeAll_pcl (s : State) : (closeAll s).pcl = s.pcl := by
  rw [closeAll_onlyRif]
@[simp] theorem closeAll_fil (s : State) : (closeAll s).fil = s.fil := by
  rw [closeAll_onlyRif]
@[simp] theorem closeAll_bankWaitOrder (s : State) : (closeAll s).bankWaitOrder = s.bankWaitOrder := by
  rw [closeAll_onlyRif]
@[simp] theorem closeAll_mtr (s : State) : (closeAll s).mtr = s.mtr := by
  rw [closeAll_onlyRif]
@[simp] theorem closeAll_bil (s : State) : (closeAll s).bil = s.bil := by
  rw [closeAll_onlyRif]
@[simp] theorem closeAll_smc (s : State) : (closeAll s).smc = s.smc := by
  rw [closeAll_onlyRif]
@[simp] theorem closeAll_pins (s : State) : (closeAll s).pins = s.pins := by
  rw [closeAll_onlyRif]
@[simp] theorem closeAll_ticks (s : State) : (closeAll s).ticks = s.ticks := by
  rw [closeAll_onlyRif]
@[simp] theorem closeAll_mail (s : State) : (closeAll s).mail = s.mail := by
  rw [closeAll_onlyRif]
@[simp] theorem closeAll_pending (s : State) : (closeAll s).pending = s.pending := by
  rw [closeAll_onlyRif]

@[simp] theorem forEach_close_pending (rs : List Role) (s : State) :
    (forEach rs close s).pending = s.pending := by rw [forEach_close_onlyRif]

/-! ## How a queue grows -/

/-- R191: the notice queue never holds more than 16 notices. -/
theorem pushNotice_bound (n : Notice) (r : Rif) (h : r.notices.length ≤ Config.noticePlaces) :
    (r.pushNotice n).notices.length ≤ Config.noticePlaces := by
  unfold Rif.pushNotice
  split
  · simp; omega
  · simp [Config.noticePlaces] at *; omega

/-- R191: a reply never takes a place beyond the eighth. -/
theorem pushReply_bound (y : Reply) (r : Rif) (h : r.replies.length + r.reserved ≤ Config.replyPlaces) :
    (r.pushReply y).replies.length + (r.pushReply y).reserved ≤ Config.replyPlaces := by
  unfold Rif.pushReply
  split
  · simp; omega
  · split
    · simp; omega
    · exact h

/-- R190: a command for a role leaves at most one entry for each role. -/
theorem enqueue_nodup (e : CmdEntry) (q : List CmdEntry) (h : (q.map CmdEntry.role).Nodup) :
    ((enqueue e q).map CmdEntry.role).Nodup := by
  unfold enqueue
  split
  · rename_i hf
    rw [List.map_append, List.nodup_append]
    refine ⟨h, by simp, ?_⟩
    intro a ha b hb hab
    simp only [List.map_cons, List.map_nil, List.mem_singleton] at hb
    obtain ⟨x, hx, rfl⟩ := List.mem_map.1 ha
    have := List.find?_eq_none.1 hf x hx
    simp_all
  · split
    · rw [List.map_append, List.nodup_append]
      refine ⟨(List.filter_sublist.map _).nodup h, by simp, ?_⟩
      intro a ha b hb hab
      simp only [List.map_cons, List.map_nil, List.mem_singleton] at hb
      obtain ⟨x, hx, rfl⟩ := List.mem_map.1 ha
      have := (List.mem_filter.1 hx).2
      simp_all
    · have : (q.map (fun x => if x.role == e.role then e else x)).map CmdEntry.role
          = q.map CmdEntry.role := by
        rw [List.map_map]
        apply List.map_congr_left
        intro x _
        by_cases hx : x.role = e.role <;> simp [hx]
      rw [this]; exact h

/-- R190: while the latch is set, no command is held as one that opens. -/
theorem heldEntry_trip (e : CmdEntry) : (heldEntry true e).opens = false := by
  cases h : e.opens
  · simp only [heldEntry, h, Bool.and_false, Bool.false_eq_true, if_false]
    split
    · rfl
    · exact h
  · simp only [heldEntry, h, Bool.and_self, if_true]; rfl

/-- R190: what is held for a role is held for that role. -/
@[simp] theorem heldEntry_role (t : Bool) (e : CmdEntry) : (heldEntry t e).role = e.role := by
  unfold heldEntry
  split
  · rfl
  · split <;> rfl

/-! ## What the ring operations read

Their effect on the ring interface depends on the ring interface, the tables and the trip latch alone. -/

/-- Two states that the ring operations cannot tell apart. -/
structure State.SameRing (s t : State) : Prop where
  rif : s.rif = t.rif
  tables : s.tables = t.tables
  latch : s.smc.latch = t.smc.latch

theorem State.SameRing.tripHeld {s t : State} (h : s.SameRing t) : s.tripHeld = t.tripHeld := by
  simp [State.tripHeld, State.latched, h.rif, h.latch]

theorem State.SameRing.rowOf {s t : State} (h : s.SameRing t) (r : Role) : s.rowOf r = t.rowOf r := by
  simp [State.rowOf, State.nodeRows, h.tables]

theorem State.SameRing.supervisor {s t : State} (h : s.SameRing t) : s.supervisor = t.supervisor := by
  simp [State.supervisor, State.stationRow, h.tables]

/-- The same new ring interface on both sides keeps them the same. -/
theorem State.SameRing.withRif {s t : State} (h : s.SameRing t) (x : Rif) :
    State.SameRing { s with rif := x } { t with rif := x } := ⟨rfl, h.tables, h.latch⟩

theorem sendReplyOrNotice_congr {s t : State} (h : s.SameRing t) :
    (sendReplyOrNotice s).SameRing (sendReplyOrNotice t) := by
  unfold sendReplyOrNotice State.replyFrame State.noticeFrame
  rw [h.rif]
  split <;> exact ⟨rfl, h.tables, h.latch⟩

theorem transitRefused_congr {s t : State} (h : s.SameRing t) (bs : List Byte) :
    s.transitRefused bs = t.transitRefused bs := by
  simp only [State.transitRefused, h.tripHeld, h.rif]

theorem dropRefused_congr {s t : State} (h : s.SameRing t) (f : Frame) (r : Rif) :
    dropRefused s f r = dropRefused t f r := by
  simp only [dropRefused, refusedNotice, State.actuatorRowOf, State.nodeRows, h.supervisor, h.tables]

theorem arbitrate_congr : ∀ (n : Nat) {s t : State}, s.SameRing t →
    (arbitrate n s).SameRing (arbitrate n t)
  | 0, s, t, h => ⟨by simp [arbitrate, h.rif], h.tables, h.latch⟩
  | n + 1, s, t, h => by
    have hf : ∀ e, s.actuateFrame e = t.actuateFrame e := fun e => by
      simp only [State.actuateFrame, h.rowOf, h.rif]
    unfold arbitrate
    rw [h.rif]
    split
    · rw [hf]
      split
      · exact ⟨rfl, h.tables, h.latch⟩
      · exact arbitrate_congr n ⟨rfl, h.tables, h.latch⟩
    · split
      · exact sendReplyOrNotice_congr h
      · rw [transitRefused_congr h]
        split
        · rename_i f _
          rw [dropRefused_congr h f]
          exact arbitrate_congr n ⟨rfl, h.tables, h.latch⟩
        · exact ⟨rfl, h.tables, h.latch⟩
    · exact sendReplyOrNotice_congr h

theorem kick_congr {s t : State} (h : s.SameRing t) : (kick s).SameRing (kick t) := by
  unfold kick chooseNext
  rw [h.rif]
  split
  · exact arbitrate_congr _ h
  · exact h

theorem updRif_congr {s t : State} (h : s.SameRing t) (f : Rif → Rif) :
    (updRif f s).SameRing (updRif f t) := ⟨by simp [updRif, h.rif], h.tables, h.latch⟩

theorem noticeTo_congr {s t : State} (h : s.SameRing t) (d : Nat) (k : NoticeKind) (n : Nat)
    (bs : List Byte) : (noticeTo d k n bs s).SameRing (noticeTo d k n bs t) :=
  kick_congr (updRif_congr h _)

theorem notice_congr {s t : State} (h : s.SameRing t) (k : NoticeKind) (n : Nat) (bs : List Byte) :
    (notice k n bs s).SameRing (notice k n bs t) := by
  unfold notice
  rw [h.supervisor]
  exact noticeTo_congr h _ k n bs

theorem reply_congr {s t : State} (h : s.SameRing t) (rq : Req) (c : Nat) (st : Status)
    (bs : List Byte) : (reply rq c st bs s).SameRing (reply rq c st bs t) :=
  kick_congr (updRif_congr h _)

theorem actuate_congr {s t : State} (h : s.SameRing t) (r : Role) (c : ActCommand) (v : Nat) :
    (actuate r c v s).SameRing (actuate r c v t) := by
  unfold actuate State.mapped
  rw [h.rowOf r, h.tripHeld]
  split
  · exact kick_congr (updRif_congr h _)
  · exact h

theorem close_congr {s t : State} (h : s.SameRing t) (r : Role) : (close r s).SameRing (close r t) :=
  actuate_congr h r .close 0

theorem openFull_congr {s t : State} (h : s.SameRing t) (r : Role) :
    (openFull r s).SameRing (openFull r t) := actuate_congr h r .open 1000

theorem forEach_close_congr : ∀ (rs : List Role) {s t : State}, s.SameRing t →
    (forEach rs close s).SameRing (forEach rs close t)
  | [], _, _, h => h
  | r :: rs, _, _, h => forEach_close_congr rs (close_congr h r)

theorem closeAll_congr {s t : State} (h : s.SameRing t) : (closeAll s).SameRing (closeAll t) := by
  unfold closeAll State.actuatorRoles State.nodeRows
  rw [h.tables]
  exact forEach_close_congr _ h

end Sys2Proof.Machine
end

