-- ==== Sys2Proof/Laws/Quiet.lean ====
section
/-! SUPPORT. The frame of every unit but RIF's ingress, BIL, TXQ and SMC: whatever a unit does in an
event, the command queue, the mode and the trip latch, the hard lines, the records and the
reservations stand as they were (`State.quiet`). One lemma per operation. -/

namespace Sys2Proof.Machine

set_option linter.unusedSimpArgs false
set_option linter.unusedTactic false
set_option linter.unreachableTactic false

open Sys2Proof

/-- What only RIF's ingress, BIL, TXQ, SMC and a restart change. -/
def State.quiet (s : State) : List Instr × Smc × Pins × List TxnRecord × PerPos Bool :=
  (s.pending, s.smc, s.pins, s.ret.records, s.ret.reserved)

/-- Two states with the same five parts. -/
theorem quiet_iff (s t : State) : t.quiet = s.quiet ↔
    t.pending = s.pending ∧ t.smc = s.smc ∧ t.pins = s.pins ∧ t.ret.records = s.ret.records
      ∧ t.ret.reserved = s.ret.reserved := by
  simp [State.quiet]

@[simp] theorem onlyIf_quiet (c : Bool) (f : State → State) (s : State) :
    (onlyIf c f s).quiet = if c then (f s).quiet else s.quiet := by cases c <;> rfl

theorem forEach_quiet {α : Type} (xs : List α) (f : α → State → State) (s : State)
    (h : ∀ x t, (f x t).quiet = t.quiet) : (forEach xs f s).quiet = s.quiet :=
  forEach_keeps (fun t => t.quiet = s.quiet) f (fun x t ht => (h x t).trans ht) xs s rfl

theorem updRet_quiet (f : Retained → Retained) (s : State) (h1 : (f s.ret).records = s.ret.records)
    (h2 : (f s.ret).reserved = s.ret.reserved) : (updRet f s).quiet = s.quiet := by
  simp [State.quiet, h1, h2]

@[simp] theorem post_quiet (m : Instr) (s : State) : (post m s).quiet = s.quiet := rfl

@[simp] theorem postAll_quiet (ms : List Instr) (s : State) : (postAll ms s).quiet = s.quiet := rfl

@[simp] theorem setRecord_quiet (r : Role) (x : SigRec) (s : State) : (setRecord r x s).quiet = s.quiet := rfl

@[simp] theorem withRecord_quiet (r : Role) (x : SigRec) (s : State) : (withRecord r x s).quiet = s.quiet := rfl

@[simp] theorem seeing_quiet (r : Role) (x : SigRec) (f : State → State) (s : State) :
    (seeing r x f s).quiet = (f (withRecord r x s)).quiet := rfl

@[simp] theorem setCtx_quiet (p : Pos) (c : Ctx) (s : State) : (setCtx p c s).quiet = s.quiet := rfl

@[simp] theorem updCtx_quiet (p : Pos) (f : Ctx → Ctx) (s : State) : (updCtx p f s).quiet = s.quiet := rfl

@[simp] theorem updTimers_quiet (p : Pos) (f : PosTimers → PosTimers) (s : State) : (updTimers p f s).quiet = s.quiet := rfl

@[simp] theorem setBank_quiet (b : Bank) (r : BankRec) (s : State) : (setBank b r s).quiet = s.quiet := rfl

@[simp] theorem updBank_quiet (b : Bank) (f : BankRec → BankRec) (s : State) : (updBank b f s).quiet = s.quiet := rfl

@[simp] theorem setMeter_quiet (p : Pos) (m : MeterCtx) (s : State) : (setMeter p m s).quiet = s.quiet := rfl

@[simp] theorem updMeter_quiet (p : Pos) (f : MeterCtx → MeterCtx) (s : State) : (updMeter p f s).quiet = s.quiet := rfl

@[simp] theorem updCmp_quiet (f : Cmp → Cmp) (s : State) : (updCmp f s).quiet = s.quiet := rfl

@[simp] theorem updPcl_quiet (f : Pcl → Pcl) (s : State) : (updPcl f s).quiet = s.quiet := rfl

@[simp] theorem updRif_quiet (f : Rif → Rif) (s : State) : (updRif f s).quiet = s.quiet := rfl

@[simp] theorem updTables_quiet (f : Tables → Tables) (s : State) : (updTables f s).quiet = s.quiet := rfl

@[simp] theorem kick_quiet (s : State) :
    (kick s).quiet = s.quiet := by simp [State.quiet]

@[simp] theorem chooseNext_quiet (s : State) :
    (chooseNext s).quiet = s.quiet := by simp [State.quiet]

@[simp] theorem noticeTo_quiet (d : Nat) (k : NoticeKind) (n : Nat) (bs : List Byte) (s : State) :
    (noticeTo d k n bs s).quiet = s.quiet := by simp [State.quiet]

@[simp] theorem notice_quiet (k : NoticeKind) (n : Nat) (bs : List Byte) (s : State) :
    (notice k n bs s).quiet = s.quiet := by simp [State.quiet]

@[simp] theorem reply_quiet (rq : Req) (c : Nat) (st : Status) (bs : List Byte) (s : State) :
    (reply rq c st bs s).quiet = s.quiet := by simp [State.quiet]

@[simp] theorem forward_quiet (bs : List Byte) (s : State) :
    (forward bs s).quiet = s.quiet := by simp [State.quiet]

@[simp] theorem actuate_quiet (r : Role) (c : ActCommand) (v : Nat) (s : State) :
    (actuate r c v s).quiet = s.quiet := by simp [State.quiet]

@[simp] theorem close_quiet (r : Role) (s : State) :
    (close r s).quiet = s.quiet := by simp [State.quiet]

@[simp] theorem openFull_quiet (r : Role) (s : State) :
    (openFull r s).quiet = s.quiet := by simp [State.quiet]

@[simp] theorem closeAll_quiet (s : State) :
    (closeAll s).quiet = s.quiet := by simp [State.quiet]

/-! ## Signals -/

@[simp] theorem loseSignal_quiet (row : Nat) (x : NodeRow) (before after : Quality) (s : State) :
    (loseSignal row x before after s).quiet = s.quiet := by
  simp only [loseSignal]; repeat' split
  all_goals (try simp [onlyIf_quiet, forEach_quiet, updRet_quiet])

@[simp] theorem limitEvent_quiet (row : Nat) (x : NodeRow) (before after : Region) (v : Int) (s : State) :
    (limitEvent row x before after v s).quiet = s.quiet := by
  simp only [limitEvent]; repeat' split
  all_goals (try simp [onlyIf_quiet, forEach_quiet, updRet_quiet])

@[simp] theorem edgeEvent_quiet (row : Nat) (x : NodeRow) (level : Bool) (s : State) :
    (edgeEvent row x level s).quiet = s.quiet := by
  simp only [edgeEvent]; repeat' split
  all_goals (try simp [onlyIf_quiet, forEach_quiet, updRet_quiet])

@[simp] theorem badFrame_quiet (row : Nat) (x : NodeRow) (s : State) :
    (badFrame row x s).quiet = s.quiet := by
  simp only [badFrame]; repeat' split
  all_goals (try simp [onlyIf_quiet, forEach_quiet, updRet_quiet])

@[simp] theorem sampleAnalogue_quiet (r : Role) (code : Nat) (v : Int) (s : State) :
    (sampleAnalogue r code v s).quiet = s.quiet := by
  simp only [sampleAnalogue]; repeat' split
  all_goals (try simp [onlyIf_quiet, forEach_quiet, updRet_quiet])

@[simp] theorem sampleDigital_quiet (r : Role) (code : Nat) (v : Int) (s : State) :
    (sampleDigital r code v s).quiet = s.quiet := by
  simp only [sampleDigital]; repeat' split
  all_goals (try simp [onlyIf_quiet, forEach_quiet, updRet_quiet])

@[simp] theorem countFrame_quiet (r : Role) (code n : Nat) (s : State) :
    (countFrame r code n s).quiet = s.quiet := by
  simp only [countFrame]; repeat' split
  all_goals (try simp [onlyIf_quiet, forEach_quiet, updRet_quiet])

@[simp] theorem vehDataFrame_quiet (r : Role) (d : VehData) (s : State) :
    (vehDataFrame r d s).quiet = s.quiet := by
  simp only [vehDataFrame]; repeat' split
  all_goals (try simp [onlyIf_quiet, forEach_quiet, updRet_quiet])

@[simp] theorem freshnessExpiry_quiet (r : Role) (s : State) :
    (freshnessExpiry r s).quiet = s.quiet := by
  simp only [freshnessExpiry]; repeat' split
  all_goals (try simp [onlyIf_quiet, forEach_quiet, updRet_quiet])

/-! ## Banks -/

@[simp] theorem evalInventory_quiet (b : Bank) (s : State) :
    (evalInventory b s).quiet = s.quiet := by
  simp only [evalInventory]; repeat' split
  all_goals (try simp [onlyIf_quiet, forEach_quiet, updRet_quiet])

@[simp] theorem clearInventory_quiet (b : Bank) (s : State) :
    (clearInventory b s).quiet = s.quiet := by
  simp only [clearInventory]; repeat' split
  all_goals (try simp [onlyIf_quiet, forEach_quiet, updRet_quiet])

@[simp] theorem closeDraw_quiet (b : Bank) (p : Pos) (x : Session) (s : State) :
    (closeDraw b p x s).quiet = s.quiet := by
  simp only [closeDraw]; repeat' split
  all_goals (try simp [onlyIf_quiet, forEach_quiet, updRet_quiet])

@[simp] theorem closeSession_quiet (b : Bank) (s : State) :
    (closeSession b s).quiet = s.quiet := by
  simp only [closeSession]; repeat' split
  all_goals (try simp [onlyIf_quiet, forEach_quiet, updRet_quiet])

@[simp] theorem leaveBankLists_quiet (p : Pos) (s : State) : (leaveBankLists p s).quiet = s.quiet := rfl

@[simp] theorem grantBank_quiet (b : Bank) (p : Pos) (s : State) :
    (grantBank b p s).quiet = s.quiet := by
  simp only [grantBank]; repeat' split
  all_goals (try simp [onlyIf_quiet, forEach_quiet, updRet_quiet])

@[simp] theorem announce_quiet (b : Bank) (s : State) :
    (announce b s).quiet = s.quiet := by
  simp only [announce]; repeat' split
  all_goals (try simp [onlyIf_quiet, forEach_quiet, updRet_quiet])

@[simp] theorem yieldBank_quiet (b : Bank) (s : State) :
    (yieldBank b s).quiet = s.quiet := by
  simp only [yieldBank]; repeat' split
  all_goals (try simp [onlyIf_quiet, forEach_quiet, updRet_quiet])

@[simp] theorem joinList_quiet (b : Bank) (p : Pos) (s : State) :
    (joinList b p s).quiet = s.quiet := by
  simp only [joinList]; repeat' split
  all_goals (try simp [onlyIf_quiet, forEach_quiet, updRet_quiet])

@[simp] theorem claimBank_quiet (p : Pos) (b : Bank) (s : State) :
    (claimBank p b s).2.quiet = s.quiet := by
  simp only [claimBank]; repeat' split
  all_goals (try simp [onlyIf_quiet, forEach_quiet, updRet_quiet])

@[simp] theorem claimForCompressor_quiet (b : Bank) (s : State) :
    (claimForCompressor b s).2.quiet = s.quiet := by
  simp only [claimForCompressor]; repeat' split
  all_goals (try simp [onlyIf_quiet, forEach_quiet, updRet_quiet])

@[simp] theorem withdrawBank_quiet (p : Pos) (s : State) :
    (withdrawBank p s).2.quiet = s.quiet := by
  simp only [withdrawBank]; repeat' split
  all_goals (try simp [onlyIf_quiet, forEach_quiet, updRet_quiet])

@[simp] theorem passBank_quiet (b : Bank) (s : State) :
    (passBank b s).quiet = s.quiet := by
  simp only [passBank]; repeat' split
  all_goals (try simp [onlyIf_quiet, forEach_quiet, updRet_quiet])

@[simp] theorem releaseBank_quiet (b : Bank) (h : Holder) (s : State) :
    (releaseBank b h s).quiet = s.quiet := by
  simp only [releaseBank]; repeat' split
  all_goals (try simp [onlyIf_quiet, forEach_quiet, updRet_quiet])

@[simp] theorem tellLost_quiet (b : Bank) (c : LostCause) (s : State) :
    (tellLost b c s).quiet = s.quiet := by
  simp only [tellLost]; repeat' split
  all_goals (try simp [onlyIf_quiet, forEach_quiet, updRet_quiet])

@[simp] theorem cancelWaiters_quiet (b : Bank) (s : State) :
    (cancelWaiters b s).quiet = s.quiet := by
  simp only [cancelWaiters]; repeat' split
  all_goals (try simp [onlyIf_quiet, forEach_quiet, updRet_quiet])

@[simp] theorem isolateBank_quiet (b : Bank) (c : IsoCause) (s : State) :
    (isolateBank b c s).quiet = s.quiet := by
  simp only [isolateBank]; repeat' split
  all_goals (try simp [onlyIf_quiet, forEach_quiet, updRet_quiet])

@[simp] theorem overPressureCheck_quiet (b : Bank) (s : State) :
    (overPressureCheck b s).quiet = s.quiet := by
  simp only [overPressureCheck]; repeat' split
  all_goals (try simp [onlyIf_quiet, forEach_quiet, updRet_quiet])

@[simp] theorem bankSignalValue_quiet (b : Bank) (sg : BankSignal) (s : State) :
    (bankSignalValue b sg s).quiet = s.quiet := by
  simp only [bankSignalValue]; repeat' split
  all_goals (try simp [onlyIf_quiet, forEach_quiet, updRet_quiet])

@[simp] theorem bankSignalQuality_quiet (b : Bank) (sg : BankSignal) (s : State) :
    (bankSignalQuality b sg s).quiet = s.quiet := by
  simp only [bankSignalQuality]; repeat' split
  all_goals (try simp [onlyIf_quiet, forEach_quiet, updRet_quiet])

@[simp] theorem invalidateOpen_quiet (b : Bank) (s : State) :
    (invalidateOpen b s).quiet = s.quiet := by
  simp only [invalidateOpen]; repeat' split
  all_goals (try simp [onlyIf_quiet, forEach_quiet, updRet_quiet])

@[simp] theorem bQChangeBank_quiet (b : Bank) (s : State) :
    (bQChangeBank b s).quiet = s.quiet := by
  simp only [bQChangeBank]; repeat' split
  all_goals (try simp [onlyIf_quiet, forEach_quiet, updRet_quiet])

@[simp] theorem bQChange_quiet (s : State) : (bQChange s).quiet = s.quiet :=
  forEach_quiet _ _ { s with bkmBq := s.bq } fun b t => bQChangeBank_quiet b t

@[simp] theorem positionClaim_quiet (p : Pos) (b : Bank) (s : State) :
    (positionClaim p b s).quiet = s.quiet := by
  simp only [positionClaim]
  split
  all_goals
    rename_i h
    have := congrArg (fun x => x.2.quiet) h
    simp at this
    simp [← this]

@[simp] theorem bankIncrement_quiet (p : Pos) (mg : Nat) (a : Attribution) (s : State) :
    (bankIncrement p mg a s).quiet = s.quiet := by
  simp only [bankIncrement]; repeat' split
  all_goals (try simp [onlyIf_quiet, forEach_quiet, updRet_quiet])

@[simp] theorem tripClaim_quiet (b : Bank) (s : State) :
    (tripClaim b s).quiet = s.quiet := by
  simp only [tripClaim]; repeat' split
  all_goals (try simp [onlyIf_quiet, forEach_quiet, updRet_quiet])

@[simp] theorem freeBank_quiet (b : Bank) (s : State) :
    (freeBank b s).quiet = s.quiet := by
  simp only [freeBank]; repeat' split
  all_goals (try simp [onlyIf_quiet, forEach_quiet, updRet_quiet])

@[simp] theorem bkmTrip_quiet (s : State) :
    (bkmTrip s).quiet = s.quiet := by
  simp only [bkmTrip]; repeat' split
  all_goals (try simp [onlyIf_quiet, forEach_quiet, updRet_quiet])

@[simp] theorem bankIsolateRequest_quiet (rq : Req) (n : Nat) (s : State) :
    (bankIsolateRequest rq n s).quiet = s.quiet := by
  simp only [bankIsolateRequest]; repeat' split
  all_goals (try simp [onlyIf_quiet, forEach_quiet, updRet_quiet])

@[simp] theorem bankReturnRequest_quiet (rq : Req) (n : Nat) (s : State) :
    (bankReturnRequest rq n s).quiet = s.quiet := by
  simp only [bankReturnRequest]; repeat' split
  all_goals (try simp [onlyIf_quiet, forEach_quiet, updRet_quiet])

/-! ## Compressor -/

@[simp] theorem cmpReport_quiet (s : State) :
    (cmpReport s).quiet = s.quiet := by
  simp only [cmpReport]; repeat' split
  all_goals (try simp [onlyIf_quiet, forEach_quiet, updRet_quiet])

@[simp] theorem cmpGoto_quiet (st : CmpState) (s : State) :
    (cmpGoto st s).quiet = s.quiet := by
  simp only [cmpGoto]; repeat' split
  all_goals (try simp [onlyIf_quiet, forEach_quiet, updRet_quiet])

@[simp] theorem ageHistory_quiet (s : State) :
    (ageHistory s).quiet = s.quiet := by
  simp only [ageHistory]; repeat' split
  all_goals (try simp [onlyIf_quiet, forEach_quiet, updRet_quiet])

@[simp] theorem startCompressor_quiet (s : State) :
    (startCompressor s).quiet = s.quiet := by
  simp only [startCompressor]; repeat' split
  all_goals (try simp [onlyIf_quiet, forEach_quiet, updRet_quiet])

@[simp] theorem holdStart_quiet (r : HeldReason) (s : State) :
    (holdStart r s).quiet = s.quiet := by
  simp only [holdStart]; repeat' split
  all_goals (try simp [onlyIf_quiet, forEach_quiet, updRet_quiet])

@[simp] theorem endEpisode_quiet (s : State) :
    (endEpisode s).quiet = s.quiet := by
  simp only [endEpisode]; repeat' split
  all_goals (try simp [onlyIf_quiet, forEach_quiet, updRet_quiet])

@[simp] theorem noteRefillWant_quiet (s : State) :
    (noteRefillWant s).quiet = s.quiet := by
  simp only [noteRefillWant]; repeat' split
  all_goals (try simp [onlyIf_quiet, forEach_quiet, updRet_quiet])

@[simp] theorem startEval_quiet (s : State) :
    (startEval s).quiet = s.quiet := by
  simp only [startEval]; repeat' split
  all_goals (try simp [onlyIf_quiet, forEach_quiet, updRet_quiet])

@[simp] theorem evalIfStopped_quiet (s : State) :
    (evalIfStopped s).quiet = s.quiet := by
  simp only [evalIfStopped]; repeat' split
  all_goals (try simp [onlyIf_quiet, forEach_quiet, updRet_quiet])

@[simp] theorem enterCooldown_quiet (s : State) :
    (enterCooldown s).quiet = s.quiet := by
  simp only [enterCooldown]; repeat' split
  all_goals (try simp [onlyIf_quiet, forEach_quiet, updRet_quiet])

@[simp] theorem grantOutput_quiet (p : Pos) (s : State) :
    (grantOutput p s).quiet = s.quiet := by
  simp only [grantOutput]; repeat' split
  all_goals (try simp [onlyIf_quiet, forEach_quiet, updRet_quiet])

theorem claimRefill_quiet : ∀ (bs : List Bank) (s t : State), claimRefill bs s = some t → t.quiet = s.quiet
  | [], _, _, h => by simp [claimRefill] at h
  | b :: bs, s, t, h => by
    unfold claimRefill at h
    split at h
    all_goals
      rename_i hc
      have h2 := congrArg (fun x => x.2.quiet) hc
      simp only [claimForCompressor_quiet] at h2
    · rw [← Option.some.inj h]; simp [h2]
    · exact (claimRefill_quiet bs _ t h).trans h2.symm

@[simp] theorem normalStop_quiet (s : State) :
    (normalStop s).quiet = s.quiet := by
  simp only [normalStop]; repeat' split
  all_goals (try simp [onlyIf_quiet, forEach_quiet, updRet_quiet])

@[simp] theorem stopIfDue_quiet (ranOut : Bool) (s : State) :
    (stopIfDue ranOut s).quiet = s.quiet := by
  simp only [stopIfDue]; repeat' split
  all_goals (try simp [onlyIf_quiet, forEach_quiet, updRet_quiet])

@[simp] theorem tellGranted_quiet (s : State) : (tellGranted s).quiet = s.quiet := by
  simp only [tellGranted]; split <;> simp

@[simp] theorem chooseTarget_quiet (ranOut : Bool) (s : State) :
    (chooseTarget ranOut s).quiet = s.quiet := by
  simp only [chooseTarget]
  split
  · simp
  · split
    · split
      · exact claimRefill_quiet _ _ _ (by assumption)
      · simp
    · simp

@[simp] theorem targetChoice_quiet (ranOut : Bool) (s : State) :
    (targetChoice ranOut s).quiet = s.quiet := by
  simp [targetChoice]

@[simp] theorem enterUnloaded_quiet (s : State) :
    (enterUnloaded s).quiet = s.quiet := by
  simp only [enterUnloaded]; repeat' split
  all_goals (try simp [onlyIf_quiet, forEach_quiet, updRet_quiet])

@[simp] theorem chooseIfUnloaded_quiet (s : State) :
    (chooseIfUnloaded s).quiet = s.quiet := by
  simp only [chooseIfUnloaded]; repeat' split
  all_goals (try simp [onlyIf_quiet, forEach_quiet, updRet_quiet])

@[simp] theorem endRefill_quiet (b : Bank) (s : State) :
    (endRefill b s).quiet = s.quiet := by
  simp only [endRefill]; repeat' split
  all_goals (try simp [onlyIf_quiet, forEach_quiet, updRet_quiet])

@[simp] theorem releaseRefill_quiet (s : State) :
    (releaseRefill s).quiet = s.quiet := by
  simp only [releaseRefill]; repeat' split
  all_goals (try simp [onlyIf_quiet, forEach_quiet, updRet_quiet])

@[simp] theorem loseOutput_quiet (c : LostCause) (s : State) :
    (loseOutput c s).quiet = s.quiet := by
  simp only [loseOutput]; repeat' split
  all_goals (try simp [onlyIf_quiet, forEach_quiet, updRet_quiet])

@[simp] theorem dropDestination_quiet (c : LostCause) (s : State) :
    (dropDestination c s).quiet = s.quiet := by
  simp only [dropDestination]; repeat' split
  all_goals (try simp [onlyIf_quiet, forEach_quiet, updRet_quiet])

@[simp] theorem supplyStop_quiet (s : State) :
    (supplyStop s).quiet = s.quiet := by
  simp only [supplyStop]; repeat' split
  all_goals (try simp [onlyIf_quiet, forEach_quiet, updRet_quiet])

@[simp] theorem signalStop_quiet (r : Role) (s : State) :
    (signalStop r s).quiet = s.quiet := by
  simp only [signalStop]; repeat' split
  all_goals (try simp [onlyIf_quiet, forEach_quiet, updRet_quiet])

@[simp] theorem cancelOutputWaiters_quiet (s : State) :
    (cancelOutputWaiters s).quiet = s.quiet := by
  simp only [cancelOutputWaiters]; repeat' split
  all_goals (try simp [onlyIf_quiet, forEach_quiet, updRet_quiet])

@[simp] theorem lockout_quiet (cause : LockCause) (temp : Option Int) (s : State) :
    (lockout cause temp s).quiet = s.quiet := by
  simp only [lockout]; repeat' split
  all_goals (try simp [onlyIf_quiet, forEach_quiet, updRet_quiet])

@[simp] theorem completePriming_quiet (s : State) :
    (completePriming s).quiet = s.quiet := by
  simp only [completePriming]; repeat' split
  all_goals (try simp [onlyIf_quiet, forEach_quiet, updRet_quiet])

@[simp] theorem bankAtCmp_quiet (b : Bank) (ends : Bool) (s : State) :
    (bankAtCmp b ends s).quiet = s.quiet := by
  simp only [bankAtCmp]; repeat' split
  all_goals (try simp [onlyIf_quiet, forEach_quiet, updRet_quiet])

@[simp] theorem cmpValue_quiet (r : Role) (s : State) :
    (cmpValue r s).quiet = s.quiet := by
  simp only [cmpValue]; repeat' split
  all_goals (try simp [onlyIf_quiet, forEach_quiet, updRet_quiet])

@[simp] theorem cmpQuality_quiet (r : Role) (s : State) :
    (cmpQuality r s).quiet = s.quiet := by
  simp only [cmpQuality]; repeat' split
  all_goals (try simp [onlyIf_quiet, forEach_quiet, updRet_quiet])

@[simp] theorem runningTransition_quiet (level : Bool) (s : State) :
    (runningTransition level s).quiet = s.quiet := by
  simp only [runningTransition]; repeat' split
  all_goals (try simp [onlyIf_quiet, forEach_quiet, updRet_quiet])

@[simp] theorem cmpSignal_quiet (r : Role) (a : Arrival) (s : State) :
    (cmpSignal r a s).quiet = s.quiet := by
  simp only [cmpSignal]; repeat' split
  all_goals (try simp [onlyIf_quiet, forEach_quiet, updRet_quiet])

@[simp] theorem joinOutput_quiet (p : Pos) (s : State) :
    (joinOutput p s).quiet = s.quiet := by
  simp only [joinOutput]; repeat' split
  all_goals (try simp [onlyIf_quiet, forEach_quiet, updRet_quiet])

@[simp] theorem claimOutput_quiet (p : Pos) (s : State) :
    (claimOutput p s).2.quiet = s.quiet := by
  simp only [claimOutput]; repeat' split
  all_goals (try simp [onlyIf_quiet, forEach_quiet, updRet_quiet])

@[simp] theorem releaseOutput_quiet (p : Pos) (s : State) :
    (releaseOutput p s).quiet = s.quiet := by
  simp only [releaseOutput]; repeat' split
  all_goals (try simp [onlyIf_quiet, forEach_quiet, updRet_quiet])

@[simp] theorem withdrawOutput_quiet (p : Pos) (s : State) :
    (withdrawOutput p s).2.quiet = s.quiet := by
  simp only [withdrawOutput]; repeat' split
  all_goals (try simp [onlyIf_quiet, forEach_quiet, updRet_quiet])

@[simp] theorem outputClaim_quiet (p : Pos) (s : State) :
    (outputClaim p s).quiet = s.quiet := by
  simp only [outputClaim]
  split
  all_goals
    rename_i h
    have := congrArg (fun x => x.2.quiet) h
    simp at this
    simp [← this]

@[simp] theorem cmpAnnouncement_quiet (s : State) :
    (cmpAnnouncement s).quiet = s.quiet := by
  simp only [cmpAnnouncement]; repeat' split
  all_goals (try simp [onlyIf_quiet, forEach_quiet, updRet_quiet])

@[simp] theorem refillGone_quiet (b : Bank) (s : State) :
    (refillGone b s).quiet = s.quiet := by
  simp only [refillGone]; repeat' split
  all_goals (try simp [onlyIf_quiet, forEach_quiet, updRet_quiet])

@[simp] theorem primeExpiry_quiet (s : State) :
    (primeExpiry s).quiet = s.quiet := by
  simp only [primeExpiry]; repeat' split
  all_goals (try simp [onlyIf_quiet, forEach_quiet, updRet_quiet])

@[simp] theorem minRunExpiry_quiet (s : State) :
    (minRunExpiry s).quiet = s.quiet := by
  simp only [minRunExpiry]; repeat' split
  all_goals (try simp [onlyIf_quiet, forEach_quiet, updRet_quiet])

@[simp] theorem offExpiry_quiet (s : State) :
    (offExpiry s).quiet = s.quiet := by
  simp only [offExpiry]; repeat' split
  all_goals (try simp [onlyIf_quiet, forEach_quiet, updRet_quiet])

@[simp] theorem historyAgeing_quiet (s : State) :
    (historyAgeing s).quiet = s.quiet := by
  simp only [historyAgeing]; repeat' split
  all_goals (try simp [onlyIf_quiet, forEach_quiet, updRet_quiet])

@[simp] theorem cmpModeChange_quiet (old : Mode) (s : State) :
    (cmpModeChange old s).quiet = s.quiet := by
  simp only [cmpModeChange]; repeat' split
  all_goals (try simp [onlyIf_quiet, forEach_quiet, updRet_quiet])

@[simp] theorem cmpCommitted_quiet (was : Bool) (s : State) :
    (cmpCommitted was s).quiet = s.quiet := by
  simp only [cmpCommitted]; repeat' split
  all_goals (try simp [onlyIf_quiet, forEach_quiet, updRet_quiet])

@[simp] theorem leaveLockout_quiet (s : State) :
    (leaveLockout s).quiet = s.quiet := by
  simp only [leaveLockout]; repeat' split
  all_goals (try simp [onlyIf_quiet, forEach_quiet, updRet_quiet])

@[simp] theorem lockoutClearRequest_quiet (rq : Req) (s : State) :
    (lockoutClearRequest rq s).quiet = s.quiet := by
  simp only [lockoutClearRequest]; repeat' split
  all_goals (try simp [onlyIf_quiet, forEach_quiet, updRet_quiet])

/-! ## Precool -/

@[simp] theorem setPending_quiet (p : Pos) (c : Option Category) (s : State) :
    (setPending p c s).quiet = s.quiet := by
  simp only [setPending]; repeat' split
  all_goals (try simp [onlyIf_quiet, forEach_quiet, updRet_quiet])

@[simp] theorem reEvaluateAt_quiet (p : Pos) (s : State) :
    (reEvaluateAt p s).quiet = s.quiet := by
  simp only [reEvaluateAt]; repeat' split
  all_goals (try simp [onlyIf_quiet, forEach_quiet, updRet_quiet])

@[simp] theorem reEvaluate_quiet (s : State) :
    (reEvaluate s).quiet = s.quiet := by
  simp only [reEvaluate]; repeat' split
  all_goals (try simp [onlyIf_quiet, forEach_quiet, updRet_quiet])

@[simp] theorem requestAdmission_quiet (p : Pos) (c : Category) (s : State) :
    (requestAdmission p c s).2.quiet = s.quiet := by
  simp only [requestAdmission]; repeat' split
  all_goals (try simp [onlyIf_quiet, forEach_quiet, updRet_quiet])

@[simp] theorem admissionRequest_quiet (p : Pos) (c : Category) (s : State) :
    (admissionRequest p c s).quiet = s.quiet := by
  simp only [admissionRequest]
  split
  all_goals
    rename_i h
    have := congrArg (fun x => x.2.quiet) h
    simp at this
    simp [← this]

@[simp] theorem admissionCancel_quiet (p : Pos) (s : State) :
    (admissionCancel p s).quiet = s.quiet := by
  simp only [admissionCancel]; repeat' split
  all_goals (try simp [onlyIf_quiet, forEach_quiet, updRet_quiet])

@[simp] theorem chillerTo_quiet (st : ChillerState) (s : State) :
    (chillerTo st s).quiet = s.quiet := by
  simp only [chillerTo]; repeat' split
  all_goals (try simp [onlyIf_quiet, forEach_quiet, updRet_quiet])

@[simp] theorem enterReady_quiet (s : State) :
    (enterReady s).quiet = s.quiet := by
  simp only [enterReady]; repeat' split
  all_goals (try simp [onlyIf_quiet, forEach_quiet, updRet_quiet])

@[simp] theorem applyThresholds_quiet (s : State) :
    (applyThresholds s).quiet = s.quiet := by
  simp only [applyThresholds]; repeat' split
  all_goals (try simp [onlyIf_quiet, forEach_quiet, updRet_quiet])

@[simp] theorem startChiller_quiet (s : State) :
    (startChiller s).quiet = s.quiet := by
  simp only [startChiller]; repeat' split
  all_goals (try simp [onlyIf_quiet, forEach_quiet, updRet_quiet])

@[simp] theorem stopPark_quiet (s : State) :
    (stopPark s).quiet = s.quiet := by
  simp only [stopPark]; repeat' split
  all_goals (try simp [onlyIf_quiet, forEach_quiet, updRet_quiet])

@[simp] theorem parkChiller_quiet (s : State) :
    (parkChiller s).quiet = s.quiet := by
  simp only [parkChiller]; repeat' split
  all_goals (try simp [onlyIf_quiet, forEach_quiet, updRet_quiet])

@[simp] theorem beginPark_quiet (s : State) :
    (beginPark s).quiet = s.quiet := by
  simp only [beginPark]; repeat' split
  all_goals (try simp [onlyIf_quiet, forEach_quiet, updRet_quiet])

@[simp] theorem runEval_quiet (s : State) :
    (runEval s).quiet = s.quiet := by
  simp only [runEval]; repeat' split
  all_goals (try simp [onlyIf_quiet, forEach_quiet, updRet_quiet])

@[simp] theorem enterChillerFault_quiet (c : ChillerCause) (s : State) :
    (enterChillerFault c s).quiet = s.quiet := by
  simp only [enterChillerFault]; repeat' split
  all_goals (try simp [onlyIf_quiet, forEach_quiet, updRet_quiet])

@[simp] theorem leaveChillerFault_quiet (s : State) :
    (leaveChillerFault s).quiet = s.quiet := by
  simp only [leaveChillerFault]; repeat' split
  all_goals (try simp [onlyIf_quiet, forEach_quiet, updRet_quiet])

@[simp] theorem chillerFaultDelivery_quiet (s : State) :
    (chillerFaultDelivery s).quiet = s.quiet := by
  simp only [chillerFaultDelivery]; repeat' split
  all_goals (try simp [onlyIf_quiet, forEach_quiet, updRet_quiet])

@[simp] theorem stabilised_quiet (s : State) :
    (stabilised s).quiet = s.quiet := by
  simp only [stabilised]; repeat' split
  all_goals (try simp [onlyIf_quiet, forEach_quiet, updRet_quiet])

@[simp] theorem parkExpiry_quiet (s : State) :
    (parkExpiry s).quiet = s.quiet := by
  simp only [parkExpiry]; repeat' split
  all_goals (try simp [onlyIf_quiet, forEach_quiet, updRet_quiet])

@[simp] theorem setReserve_quiet (n : Nat) (s : State) :
    (setReserve n s).quiet = s.quiet := by
  simp only [setReserve]; repeat' split
  all_goals (try simp [onlyIf_quiet, forEach_quiet, updRet_quiet])

@[simp] theorem reserveStep_quiet (s : State) :
    (reserveStep s).quiet = s.quiet := by
  simp only [reserveStep]; repeat' split
  all_goals (try simp [onlyIf_quiet, forEach_quiet, updRet_quiet])

@[simp] theorem coldConsumption_quiet (p : Pos) (i : Increment) (s : State) :
    (coldConsumption p i s).quiet = s.quiet := by
  simp only [coldConsumption]; repeat' split
  all_goals (try simp [onlyIf_quiet, forEach_quiet, updRet_quiet])

@[simp] theorem setMonitor_quiet (p : Pos) (m : Monitor) (s : State) :
    (setMonitor p m s).quiet = s.quiet := by
  simp only [setMonitor]; repeat' split
  all_goals (try simp [onlyIf_quiet, forEach_quiet, updRet_quiet])

@[simp] theorem enterMonitor_quiet (p : Pos) (s : State) :
    (enterMonitor p s).quiet = s.quiet := by
  simp only [enterMonitor]; repeat' split
  all_goals (try simp [onlyIf_quiet, forEach_quiet, updRet_quiet])

@[simp] theorem idleMonitor_quiet (p : Pos) (s : State) :
    (idleMonitor p s).quiet = s.quiet := by
  simp only [idleMonitor]; repeat' split
  all_goals (try simp [onlyIf_quiet, forEach_quiet, updRet_quiet])

@[simp] theorem settleDemand_quiet (p : Pos) (s : State) :
    (settleDemand p s).quiet = s.quiet := by
  simp only [settleDemand]; repeat' split
  all_goals (try simp [onlyIf_quiet, forEach_quiet, updRet_quiet])

@[simp] theorem categoryReport_quiet (p : Pos) (c : Option Category) (entry : Bool) (s : State) :
    (categoryReport p c entry s).quiet = s.quiet := by
  simp only [categoryReport]; repeat' split
  all_goals (try simp [onlyIf_quiet, forEach_quiet, updRet_quiet])

@[simp] theorem sourceReport_quiet (p : Pos) (x : Source) (s : State) :
    (sourceReport p x s).quiet = s.quiet := by
  simp only [sourceReport]; repeat' split
  all_goals (try simp [onlyIf_quiet, forEach_quiet, updRet_quiet])

@[simp] theorem settleExpiry_quiet (p : Pos) (s : State) :
    (settleExpiry p s).quiet = s.quiet := by
  simp only [settleExpiry]; repeat' split
  all_goals (try simp [onlyIf_quiet, forEach_quiet, updRet_quiet])

@[simp] theorem outletArrival_quiet (p : Pos) (a : Arrival) (s : State) :
    (outletArrival p a s).quiet = s.quiet := by
  simp only [outletArrival]; repeat' split
  all_goals (try simp [onlyIf_quiet, forEach_quiet, updRet_quiet])

@[simp] theorem excursionExpiry_quiet (p : Pos) (s : State) :
    (excursionExpiry p s).quiet = s.quiet := by
  simp only [excursionExpiry]; repeat' split
  all_goals (try simp [onlyIf_quiet, forEach_quiet, updRet_quiet])

@[simp] theorem pclTrip_quiet (s : State) :
    (pclTrip s).quiet = s.quiet := by
  simp only [pclTrip]; repeat' split
  all_goals (try simp [onlyIf_quiet, forEach_quiet, updRet_quiet])

@[simp] theorem pclModeChange_quiet (s : State) :
    (pclModeChange s).quiet = s.quiet := by
  simp only [pclModeChange]; repeat' split
  all_goals (try simp [onlyIf_quiet, forEach_quiet, updRet_quiet])

@[simp] theorem unfitChiller_quiet (s : State) :
    (unfitChiller s).quiet = s.quiet := by
  simp only [unfitChiller]; repeat' split
  all_goals (try simp [onlyIf_quiet, forEach_quiet, updRet_quiet])

@[simp] theorem fitChiller_quiet (s : State) :
    (fitChiller s).quiet = s.quiet := by
  simp only [fitChiller]; repeat' split
  all_goals (try simp [onlyIf_quiet, forEach_quiet, updRet_quiet])

@[simp] theorem refitChiller_quiet (s : State) :
    (refitChiller s).quiet = s.quiet := by
  simp only [refitChiller]; repeat' split
  all_goals (try simp [onlyIf_quiet, forEach_quiet, updRet_quiet])

@[simp] theorem pclCommitted_quiet (was : Bool) (s : State) :
    (pclCommitted was s).quiet = s.quiet := by
  simp only [pclCommitted]; repeat' split
  all_goals (try simp [onlyIf_quiet, forEach_quiet, updRet_quiet])

/-! ## Metering -/

@[simp] theorem writeSnapshot_quiet (p : Pos) (s : State) :
    (writeSnapshot p s).quiet = s.quiet := by
  simp only [writeSnapshot]; repeat' split
  all_goals (try simp [onlyIf_quiet, forEach_quiet, updRet_quiet])

@[simp] theorem addTotal_quiet (p : Pos) (mg : Nat) (s : State) :
    (addTotal p mg s).quiet = s.quiet := by
  simp only [addTotal]; repeat' split
  all_goals (try simp [onlyIf_quiet, forEach_quiet, updRet_quiet])

@[simp] theorem fillIncrement_quiet (p : Pos) (mg : Nat) (a : Attribution) (u : Bool) (s : State) :
    (fillIncrement p mg a u s).quiet = s.quiet := by
  simp only [fillIncrement]; repeat' split
  all_goals (try simp [onlyIf_quiet, forEach_quiet, updRet_quiet])

@[simp] theorem outsideIncrement_quiet (p : Pos) (mg count : Nat) (s : State) :
    (outsideIncrement p mg count s).quiet = s.quiet := by
  simp only [outsideIncrement]; repeat' split
  all_goals (try simp [onlyIf_quiet, forEach_quiet, updRet_quiet])

@[simp] theorem acceptIncrement_quiet (p : Pos) (mg count : Nat) (u : Bool) (s : State) :
    (acceptIncrement p mg count u s).quiet = s.quiet := by
  simp only [acceptIncrement]; repeat' split
  all_goals (try simp [onlyIf_quiet, forEach_quiet, updRet_quiet])

@[simp] theorem meterFault_quiet (p : Pos) (baseline count : Nat) (s : State) :
    (meterFault p baseline count s).quiet = s.quiet := by
  simp only [meterFault]; repeat' split
  all_goals (try simp [onlyIf_quiet, forEach_quiet, updRet_quiet])

@[simp] theorem takeCount_quiet (p : Pos) (count : Nat) (u : Bool) (s : State) :
    (takeCount p count u s).quiet = s.quiet := by
  simp only [takeCount]; repeat' split
  all_goals (try simp [onlyIf_quiet, forEach_quiet, updRet_quiet])

@[simp] theorem meterCount_quiet (p : Pos) (s : State) :
    (meterCount p s).quiet = s.quiet := by
  simp only [meterCount]; repeat' split
  all_goals (try simp [onlyIf_quiet, forEach_quiet, updRet_quiet])

@[simp] theorem dropBaseline_quiet (p : Pos) (s : State) :
    (dropBaseline p s).quiet = s.quiet := by
  simp only [dropBaseline]; repeat' split
  all_goals (try simp [onlyIf_quiet, forEach_quiet, updRet_quiet])

@[simp] theorem meterQuality_quiet (p : Pos) (s : State) :
    (meterQuality p s).quiet = s.quiet := by
  simp only [meterQuality]; repeat' split
  all_goals (try simp [onlyIf_quiet, forEach_quiet, updRet_quiet])

@[simp] theorem openFigures_quiet (p : Pos) (s : State) :
    (openFigures p s).quiet = s.quiet := by
  simp only [openFigures]; repeat' split
  all_goals (try simp [onlyIf_quiet, forEach_quiet, updRet_quiet])

@[simp] theorem closeFigures_quiet (p : Pos) (s : State) :
    (closeFigures p s).quiet = s.quiet := by
  simp only [closeFigures]; repeat' split
  all_goals (try simp [onlyIf_quiet, forEach_quiet, updRet_quiet])

@[simp] theorem clearAlarms_quiet (p : Pos) (s : State) :
    (clearAlarms p s).quiet = s.quiet := by
  simp only [clearAlarms]; repeat' split
  all_goals (try simp [onlyIf_quiet, forEach_quiet, updRet_quiet])

/-! ## Fill -/

@[simp] theorem goState_quiet (p : Pos) (st : PState) (s : State) :
    (goState p st s).quiet = s.quiet := by
  have h : ∀ (t : State) (l : List Pos), { t with bankWaitOrder := l }.quiet = t.quiet := fun _ _ => rfl
  simp only [goState, onlyIf_quiet, post_quiet, h]
  simp

@[simp] theorem evalAvailability_quiet (p : Pos) (s : State) :
    (evalAvailability p s).quiet = s.quiet := by
  simp only [evalAvailability]; repeat' split
  all_goals (try simp [onlyIf_quiet, forEach_quiet, updRet_quiet])

@[simp] theorem evalAllAvailability_quiet (s : State) :
    (evalAllAvailability s).quiet = s.quiet := by
  simp only [evalAllAvailability]; repeat' split
  all_goals (try simp [onlyIf_quiet, forEach_quiet, updRet_quiet])

@[simp] theorem toIdle_quiet (p : Pos) (s : State) :
    (toIdle p s).quiet = s.quiet := by
  simp only [toIdle]; repeat' split
  all_goals (try simp [onlyIf_quiet, forEach_quiet, updRet_quiet])

@[simp] theorem closeFlow_quiet (p : Pos) (s : State) :
    (closeFlow p s).quiet = s.quiet := by
  simp only [closeFlow]; repeat' split
  all_goals (try simp [onlyIf_quiet, forEach_quiet, updRet_quiet])

@[simp] theorem closeDrawn_quiet (p : Pos) (s : State) :
    (closeDrawn p s).quiet = s.quiet := by
  simp only [closeDrawn]; repeat' split
  all_goals (try simp [onlyIf_quiet, forEach_quiet, updRet_quiet])

@[simp] theorem openDrawn_quiet (p : Pos) (s : State) :
    (openDrawn p s).quiet = s.quiet := by
  simp only [openDrawn]; repeat' split
  all_goals (try simp [onlyIf_quiet, forEach_quiet, updRet_quiet])

@[simp] theorem setOpening_quiet (p : Pos) (n : Nat) (s : State) :
    (setOpening p n s).quiet = s.quiet := by
  simp only [setOpening]; repeat' split
  all_goals (try simp [onlyIf_quiet, forEach_quiet, updRet_quiet])

@[simp] theorem openFlow_quiet (p : Pos) (s : State) :
    (openFlow p s).quiet = s.quiet := by
  simp only [openFlow]; repeat' split
  all_goals (try simp [onlyIf_quiet, forEach_quiet, updRet_quiet])

@[simp] theorem markFault_quiet (p : Pos) (f : FaultCause) (s : State) :
    (markFault p f s).quiet = s.quiet := by
  simp only [markFault]; repeat' split
  all_goals (try simp [onlyIf_quiet, forEach_quiet, updRet_quiet])

@[simp] theorem enterFault_quiet (p : Pos) (s : State) :
    (enterFault p s).quiet = s.quiet := by
  simp only [enterFault]; repeat' split
  all_goals (try simp [onlyIf_quiet, forEach_quiet, updRet_quiet])

@[simp] theorem faultNow_quiet (p : Pos) (f : FaultCause) (s : State) :
    (faultNow p f s).quiet = s.quiet := by
  simp only [faultNow]; repeat' split
  all_goals (try simp [onlyIf_quiet, forEach_quiet, updRet_quiet])

@[simp] theorem endHangUp_quiet (p : Pos) (s : State) :
    (endHangUp p s).quiet = s.quiet := by
  simp only [endHangUp]; repeat' split
  all_goals (try simp [onlyIf_quiet, forEach_quiet, updRet_quiet])

@[simp] theorem enterHangUp_quiet (p : Pos) (s : State) :
    (enterHangUp p s).quiet = s.quiet := by
  simp only [enterHangUp]; repeat' split
  all_goals (try simp [onlyIf_quiet, forEach_quiet, updRet_quiet])

@[simp] theorem ventDone_quiet (p : Pos) (s : State) :
    (ventDone p s).quiet = s.quiet := by
  simp only [ventDone]; repeat' split
  all_goals (try simp [onlyIf_quiet, forEach_quiet, updRet_quiet])

@[simp] theorem enterVenting_quiet (p : Pos) (s : State) :
    (enterVenting p s).quiet = s.quiet := by
  simp only [enterVenting]; repeat' split
  all_goals (try simp [onlyIf_quiet, forEach_quiet, updRet_quiet])

@[simp] theorem latchGen_quiet (k : PClass) (s : State) :
    (latchGen k s).quiet = s.quiet := by
  simp only [latchGen]; repeat' split
  all_goals (try simp [onlyIf_quiet, forEach_quiet, updRet_quiet])

@[simp] theorem releaseGen_quiet (k : PClass) (gen : Nat) (s : State) :
    (releaseGen k gen s).quiet = s.quiet := by
  simp only [releaseGen]; repeat' split
  all_goals (try simp [onlyIf_quiet, forEach_quiet, updRet_quiet])

@[simp] theorem leaveEnding_quiet (p : Pos) (s : State) :
    (leaveEnding p s).quiet = s.quiet := by
  simp only [leaveEnding]; repeat' split
  all_goals (try simp [onlyIf_quiet, forEach_quiet, updRet_quiet])

@[simp] theorem tryLeave_quiet (p : Pos) (s : State) :
    (tryLeave p s).quiet = s.quiet := by
  simp only [tryLeave]; repeat' split
  all_goals (try simp [onlyIf_quiet, forEach_quiet, updRet_quiet])

@[simp] theorem releaseAwaited_quiet (p : Pos) (b : Bank) (s : State) :
    (releaseAwaited p b s).quiet = s.quiet := by
  simp only [releaseAwaited]; repeat' split
  all_goals (try simp [onlyIf_quiet, forEach_quiet, updRet_quiet])

@[simp] theorem releaseSource_quiet (p : Pos) (s : State) :
    (releaseSource p s).quiet = s.quiet := by
  simp only [releaseSource]; repeat' split
  all_goals (try simp [onlyIf_quiet, forEach_quiet, updRet_quiet])

@[simp] theorem dropWait_quiet (p : Pos) (s : State) :
    (dropWait p s).quiet = s.quiet := by
  simp only [dropWait]
  split
  · rfl
  · split
    all_goals
      rename_i h
      have h1 := congrArg (fun x => x.2.quiet) h
      simp only [withdrawOutput_quiet] at h1
      first
        | (simp only [releaseOutput_quiet]; rw [← h1])
        | rw [← h1]
      split
      all_goals
        rename_i h2
        have h3 := congrArg (fun x => x.2.quiet) h2
        simp only [withdrawBank_quiet, updCtx_quiet] at h3
        simp [h3]

@[simp] theorem endFill_quiet (p : Pos) (r : EndReason) (s : State) :
    (endFill p r s).quiet = s.quiet := by
  simp only [endFill]; repeat' split
  all_goals (try simp [onlyIf_quiet, forEach_quiet, updRet_quiet])

@[simp] theorem faultEvent_quiet (p : Pos) (f : FaultCause) (r : EndReason) (s : State) :
    (faultEvent p f r s).quiet = s.quiet := by
  simp only [faultEvent]; repeat' split
  all_goals (try simp [onlyIf_quiet, forEach_quiet, updRet_quiet])

@[simp] theorem claimEntry_quiet (p : Pos) (x : Source) (s : State) :
    (claimEntry p x s).2.quiet = s.quiet := by
  have a := withdrawOutput_quiet p s
  have b := withdrawBank_quiet p s
  cases x
  all_goals
    simp only [claimEntry]
    split
  all_goals
    rename_i h
    simp_all

@[simp] theorem withdrawEntry_quiet (p : Pos) (x : Source) (s : State) :
    (withdrawEntry p x s).quiet = s.quiet := by
  simp only [withdrawEntry]; repeat' split
  all_goals (try simp [onlyIf_quiet, forEach_quiet, updRet_quiet])

@[simp] theorem walkFree_quiet (p : Pos) : ∀ (xs : List Source) (s : State),
    (walkFree p xs s).2.quiet = s.quiet
  | [], _ => rfl
  | x :: xs, s => by
    have a := claimEntry_quiet p x s
    simp only [walkFree]
    split
    all_goals
      rename_i h
      rw [h] at a
      first | exact a | simp [walkFree_quiet p xs, a]

@[simp] theorem walkWait_quiet (p : Pos) (xs : List Source) (s : State) :
    (walkWait p xs s).2.quiet = s.quiet := by
  cases xs with
  | nil => rfl
  | cons x xs =>
    have a := claimEntry_quiet p x s
    simp only [walkWait]
    split
    all_goals
      rename_i h
      rw [h] at a
      exact a

@[simp] theorem walk_quiet (p : Pos) (s : State) : (walk p s).2.quiet = s.quiet := by
  have a := walkFree_quiet p (((s.sequence (s.posRow p).pclass).filter (s.suitable p)).filter s.isFree) s
  simp only [walk]
  split
  all_goals
    rename_i h
    rw [h] at a
    first | exact a | simp [a]

@[simp] theorem takeSource_quiet (p : Pos) (x : Source) (s : State) :
    (takeSource p x s).quiet = s.quiet := by
  simp only [takeSource]; repeat' split
  all_goals (try simp [onlyIf_quiet, forEach_quiet, updRet_quiet])

@[simp] theorem startPulse_quiet (p : Pos) (s : State) :
    (startPulse p s).quiet = s.quiet := by
  simp only [startPulse]; repeat' split
  all_goals (try simp [onlyIf_quiet, forEach_quiet, updRet_quiet])

@[simp] theorem anchorRamp_quiet (p : Pos) (s : State) :
    (anchorRamp p s).quiet = s.quiet := by
  simp only [anchorRamp]; repeat' split
  all_goals (try simp [onlyIf_quiet, forEach_quiet, updRet_quiet])

@[simp] theorem beginMain_quiet (p : Pos) (s : State) :
    (beginMain p s).quiet = s.quiet := by
  simp only [beginMain]; repeat' split
  all_goals (try simp [onlyIf_quiet, forEach_quiet, updRet_quiet])

@[simp] theorem enterBankWait_quiet (p : Pos) (x : Source) (st : WaitStage) (s : State) :
    (enterBankWait p x st s).quiet = s.quiet := by
  have h : ∀ (t : State) (l : List Pos), { t with bankWaitOrder := l }.quiet = t.quiet := fun _ _ => rfl
  simp only [enterBankWait]
  rw [h]
  simp

@[simp] theorem enterStage_quiet (p : Pos) (st : WaitStage) (s : State) :
    (enterStage p st s).quiet = s.quiet := by
  simp only [enterStage]; repeat' split
  all_goals (try simp [onlyIf_quiet, forEach_quiet, updRet_quiet])

@[simp] theorem walkStage_quiet (p : Pos) (st : WaitStage) (s : State) :
    (walkStage p st s).quiet = s.quiet := by
  have a := walk_quiet p s
  simp only [walkStage]
  split
  · rfl
  · split
    all_goals
      rename_i h
      rw [h] at a
      simp [a]

@[simp] theorem setCauses_quiet (p : Pos) (halt : Bool) (s : State) :
    (setCauses p halt s).quiet = s.quiet := by
  simp only [setCauses]; repeat' split
  all_goals (try simp [onlyIf_quiet, forEach_quiet, updRet_quiet])

@[simp] theorem pauseIn_quiet (p : Pos) (r : ResumeStage) (s : State) :
    (pauseIn p r s).quiet = s.quiet := by
  simp only [pauseIn]; repeat' split
  all_goals (try simp [onlyIf_quiet, forEach_quiet, updRet_quiet])

@[simp] theorem goMain_quiet (p : Pos) (s : State) :
    (goMain p s).quiet = s.quiet := by
  simp only [goMain]; repeat' split
  all_goals (try simp [onlyIf_quiet, forEach_quiet, updRet_quiet])

@[simp] theorem enterLeakCheck_quiet (p : Pos) (s : State) :
    (enterLeakCheck p s).quiet = s.quiet := by
  simp only [enterLeakCheck]; repeat' split
  all_goals (try simp [onlyIf_quiet, forEach_quiet, updRet_quiet])

@[simp] theorem takePause_quiet (p : Pos) (s : State) :
    (takePause p s).quiet = s.quiet := by
  simp only [takePause]; repeat' split
  all_goals (try simp [onlyIf_quiet, forEach_quiet, updRet_quiet])

@[simp] theorem resumeMain_quiet (p : Pos) (s : State) :
    (resumeMain p s).quiet = s.quiet := by
  simp only [resumeMain]; repeat' split
  all_goals (try simp [onlyIf_quiet, forEach_quiet, updRet_quiet])

@[simp] theorem resumeStage_quiet (p : Pos) (s : State) :
    (resumeStage p s).quiet = s.quiet := by
  simp only [resumeStage]; repeat' split
  all_goals (try simp [onlyIf_quiet, forEach_quiet, updRet_quiet])

@[simp] theorem followCauses_quiet (p : Pos) (s : State) :
    (followCauses p s).quiet = s.quiet := by
  simp only [followCauses]; repeat' split
  all_goals (try simp [onlyIf_quiet, forEach_quiet, updRet_quiet])

@[simp] theorem reviewCauses_quiet (p : Pos) (halt : Bool) (s : State) :
    (reviewCauses p halt s).quiet = s.quiet := by
  simp only [reviewCauses]; repeat' split
  all_goals (try simp [onlyIf_quiet, forEach_quiet, updRet_quiet])

@[simp] theorem leaveBankWait_quiet (p : Pos) (x : Source) (s : State) :
    (leaveBankWait p x s).quiet = s.quiet := by
  simp only [leaveBankWait]; repeat' split
  all_goals (try simp [onlyIf_quiet, forEach_quiet, updRet_quiet])

@[simp] theorem freshWalk_quiet (p : Pos) (s : State) :
    (freshWalk p s).quiet = s.quiet := by
  have a := walk_quiet p s
  simp only [freshWalk]
  split
  · rfl
  · split
    all_goals
      rename_i h
      rw [h] at a
      simp [a]

@[simp] theorem serveWaiters_quiet (s : State) : (serveWaiters s).quiet = s.quiet := by
  unfold serveWaiters
  refine forEach_quiet _ _ _ (fun p t => ?_)
  split <;> simp

@[simp] theorem walkOn_quiet (p : Pos) (s : State) :
    (walkOn p s).quiet = s.quiet := by
  have a := walk_quiet p s
  simp only [walkOn]
  split
  · rfl
  · split
    all_goals
      rename_i h
      rw [h] at a
      simp [a]

@[simp] theorem switchSource_quiet (p : Pos) (s : State) :
    (switchSource p s).quiet = s.quiet := by
  simp only [switchSource]; repeat' split
  all_goals (try simp [onlyIf_quiet, forEach_quiet, updRet_quiet])

@[simp] theorem makeLookup_quiet (p : Pos) (s : State) :
    (makeLookup p s).quiet = s.quiet := by
  simp only [makeLookup]; repeat' split
  all_goals (try simp [onlyIf_quiet, forEach_quiet, updRet_quiet])

@[simp] theorem setCategory_quiet (p : Pos) (c : Category) (x : Selection) (s : State) :
    (setCategory p c x s).quiet = s.quiet := by
  simp only [setCategory]; repeat' split
  all_goals (try simp [onlyIf_quiet, forEach_quiet, updRet_quiet])

theorem precoolExpired_quiet (wait : State → State) (hw : ∀ t, (wait t).quiet = t.quiet) (p : Pos)
    (s : State) : (precoolExpired wait p s).quiet = s.quiet := by
  simp only [precoolExpired]
  split
  · split
    · simp
    · split
      · simp
      · split
        all_goals
          rename_i h
          have a := congrArg (fun x => x.2.quiet) h
          simp at a
          simp [hw, ← a]
  · simp

@[simp] theorem precoolWait_quiet : ∀ (n : Nat) (p : Pos) (s : State),
    (precoolWait n p s).quiet = s.quiet
  | 0, _, _ => rfl
  | n + 1, p, s => by
    simp only [precoolWait]
    split
    · rw [precoolExpired_quiet _ (fun t => precoolWait_quiet n p t)]; simp
    · simp

@[simp] theorem askAdmission_quiet (p : Pos) (s : State) :
    (askAdmission p s).quiet = s.quiet := by
  simp only [askAdmission]
  split
  · simp
  · split
    all_goals
      rename_i h
      have a := congrArg (fun x => x.2.quiet) h
      simp at a
      simp [← a]

@[simp] theorem dropLink_quiet (p : Pos) (d : DropCause) (s : State) :
    (dropLink p d s).quiet = s.quiet := by
  simp only [dropLink]; repeat' split
  all_goals (try simp [onlyIf_quiet, forEach_quiet, updRet_quiet])

@[simp] theorem dropAndCheck_quiet (p : Pos) (d : DropCause) (s : State) :
    (dropAndCheck p d s).quiet = s.quiet := by
  simp only [dropAndCheck]; repeat' split
  all_goals (try simp [onlyIf_quiet, forEach_quiet, updRet_quiet])

@[simp] theorem judgeMismatch_quiet (p : Pos) (s : State) :
    (judgeMismatch p s).quiet = s.quiet := by
  simp only [judgeMismatch]; repeat' split
  all_goals (try simp [onlyIf_quiet, forEach_quiet, updRet_quiet])

@[simp] theorem keepLink_quiet (p : Pos) (s : State) :
    (keepLink p s).quiet = s.quiet := by
  simp only [keepLink]; repeat' split
  all_goals (try simp [onlyIf_quiet, forEach_quiet, updRet_quiet])

@[simp] theorem judgeLink_quiet (p : Pos) (s : State) :
    (judgeLink p s).quiet = s.quiet := by
  simp only [judgeLink]; repeat' split
  all_goals (try simp [onlyIf_quiet, forEach_quiet, updRet_quiet])

@[simp] theorem enterPulse_quiet (p : Pos) (s : State) :
    (enterPulse p s).quiet = s.quiet := by
  simp only [enterPulse]; repeat' split
  all_goals (try simp [onlyIf_quiet, forEach_quiet, updRet_quiet])

@[simp] theorem authorise_quiet (p : Pos) (txn : Nat) (kind : TenderKind) (cap : Nat) (s : State) :
    (authorise p txn kind cap s).quiet = s.quiet := by
  simp only [authorise]; repeat' split
  all_goals (try simp [onlyIf_quiet, forEach_quiet, updRet_quiet])

/-! ## FillEvents -/

@[simp] theorem cancelFill_quiet (p : Pos) (s : State) :
    (cancelFill p s).quiet = s.quiet := by
  simp only [cancelFill]; repeat' split
  all_goals (try simp [onlyIf_quiet, forEach_quiet, updRet_quiet])

@[simp] theorem holsterTransition_quiet (p : Pos) (s : State) :
    (holsterTransition p s).quiet = s.quiet := by
  simp only [holsterTransition]; repeat' split
  all_goals (try simp [onlyIf_quiet, forEach_quiet, updRet_quiet])

@[simp] theorem coupledTransition_quiet (p : Pos) (s : State) :
    (coupledTransition p s).quiet = s.quiet := by
  simp only [coupledTransition]; repeat' split
  all_goals (try simp [onlyIf_quiet, forEach_quiet, updRet_quiet])

@[simp] theorem rampStep_quiet (p : Pos) (target : Int) (s : State) :
    (rampStep p target s).quiet = s.quiet := by
  simp only [rampStep]; repeat' split
  all_goals (try simp [onlyIf_quiet, forEach_quiet, updRet_quiet])

@[simp] theorem switchByNozzle_quiet (p : Pos) (s : State) :
    (switchByNozzle p s).quiet = s.quiet := by
  simp only [switchByNozzle]; repeat' split
  all_goals (try simp [onlyIf_quiet, forEach_quiet, updRet_quiet])

@[simp] theorem nozzleInMain_quiet (p : Pos) (s : State) :
    (nozzleInMain p s).quiet = s.quiet := by
  simp only [nozzleInMain]; repeat' split
  all_goals (try simp [onlyIf_quiet, forEach_quiet, updRet_quiet])

@[simp] theorem nozzleInVenting_quiet (p : Pos) (s : State) :
    (nozzleInVenting p s).quiet = s.quiet := by
  simp only [nozzleInVenting]; repeat' split
  all_goals (try simp [onlyIf_quiet, forEach_quiet, updRet_quiet])

@[simp] theorem ceilingCheck_quiet (p : Pos) (s : State) :
    (ceilingCheck p s).quiet = s.quiet := by
  simp only [ceilingCheck]; repeat' split
  all_goals (try simp [onlyIf_quiet, forEach_quiet, updRet_quiet])

@[simp] theorem nozzlePressure_quiet (p : Pos) (s : State) :
    (nozzlePressure p s).quiet = s.quiet := by
  simp only [nozzlePressure]; repeat' split
  all_goals (try simp [onlyIf_quiet, forEach_quiet, updRet_quiet])

@[simp] theorem bankPressureAt_quiet (b : Bank) (a : Arrival) (p : Pos) (s : State) :
    (bankPressureAt b a p s).quiet = s.quiet := by
  simp only [bankPressureAt]; repeat' split
  all_goals (try simp [onlyIf_quiet, forEach_quiet, updRet_quiet])

@[simp] theorem filBankPressure_quiet (b : Bank) (a : Arrival) (s : State) :
    (filBankPressure b a s).quiet = s.quiet := by
  simp only [filBankPressure]; repeat' split
  all_goals (try simp [onlyIf_quiet, forEach_quiet, updRet_quiet])

@[simp] theorem applyCommand_quiet (p : Pos) (f : VehicleFields) (s : State) :
    (applyCommand p f s).quiet = s.quiet := by
  simp only [applyCommand]; repeat' split
  all_goals (try simp [onlyIf_quiet, forEach_quiet, updRet_quiet])

@[simp] theorem vehicleData_quiet (p : Pos) (s : State) :
    (vehicleData p s).quiet = s.quiet := by
  simp only [vehicleData]; repeat' split
  all_goals (try simp [onlyIf_quiet, forEach_quiet, updRet_quiet])

@[simp] theorem signalQuality_quiet (p : Pos) (s : State) :
    (signalQuality p s).quiet = s.quiet := by
  simp only [signalQuality]; repeat' split
  all_goals (try simp [onlyIf_quiet, forEach_quiet, updRet_quiet])

@[simp] theorem releaseUnwanted_quiet (p : Pos) (x : Source) (s : State) :
    (releaseUnwanted p x s).quiet = s.quiet := by
  simp only [releaseUnwanted]; repeat' split
  all_goals (try simp [onlyIf_quiet, forEach_quiet, updRet_quiet])

@[simp] theorem granted_quiet (p : Pos) (x : Source) (s : State) :
    (granted p x s).quiet = s.quiet := by
  simp only [granted]; repeat' split
  all_goals (try simp [onlyIf_quiet, forEach_quiet, updRet_quiet])

@[simp] theorem waitEnded_quiet (p : Pos) (x : Source) (s : State) :
    (waitEnded p x s).quiet = s.quiet := by
  simp only [waitEnded]; repeat' split
  all_goals (try simp [onlyIf_quiet, forEach_quiet, updRet_quiet])

@[simp] theorem lostInPulse_quiet (p : Pos) (s : State) :
    (lostInPulse p s).quiet = s.quiet := by
  simp only [lostInPulse]; repeat' split
  all_goals (try simp [onlyIf_quiet, forEach_quiet, updRet_quiet])

@[simp] theorem clearAwaited_quiet (p : Pos) (b : Bank) (s : State) :
    (clearAwaited p b s).quiet = s.quiet := by
  simp only [clearAwaited]; repeat' split
  all_goals (try simp [onlyIf_quiet, forEach_quiet, updRet_quiet])

@[simp] theorem clearLost_quiet (p : Pos) (x : Source) (s : State) :
    (clearLost p x s).quiet = s.quiet := by
  simp only [clearLost]; repeat' split
  all_goals (try simp [onlyIf_quiet, forEach_quiet, updRet_quiet])

@[simp] theorem lost_quiet (p : Pos) (x : Source) (s : State) :
    (lost p x s).quiet = s.quiet := by
  simp only [lost]; repeat' split
  all_goals (try simp [onlyIf_quiet, forEach_quiet, updRet_quiet])

@[simp] theorem sessionOutcome_quiet (p : Pos) (b : Bank) (o : DrawOutcome) (s : State) :
    (sessionOutcome p b o s).quiet = s.quiet := by
  simp only [sessionOutcome]; repeat' split
  all_goals (try simp [onlyIf_quiet, forEach_quiet, updRet_quiet])

@[simp] theorem admitted_quiet (p : Pos) (c : Category) (s : State) :
    (admitted p c s).quiet = s.quiet := by
  simp only [admitted]; repeat' split
  all_goals (try simp [onlyIf_quiet, forEach_quiet, updRet_quiet])

@[simp] theorem reRate_quiet (p : Pos) (old new : Category) (x : Selection) (outlet : Int) (s : State) :
    (reRate p old new x outlet s).quiet = s.quiet := by
  simp only [reRate]; repeat' split
  all_goals (try simp [onlyIf_quiet, forEach_quiet, updRet_quiet])

@[simp] theorem reRateRequest_quiet (p : Pos) (c : Category) (outlet : Int) (s : State) :
    (reRateRequest p c outlet s).quiet = s.quiet := by
  simp only [reRateRequest]; repeat' split
  all_goals (try simp [onlyIf_quiet, forEach_quiet, updRet_quiet])

@[simp] theorem unauthorisedFlow_quiet (p : Pos) (s : State) :
    (unauthorisedFlow p s).quiet = s.quiet := by
  simp only [unauthorisedFlow]; repeat' split
  all_goals (try simp [onlyIf_quiet, forEach_quiet, updRet_quiet])

@[simp] theorem massReport_quiet (p : Pos) (mass : Nat) (uncertain : Bool) (s : State) :
    (massReport p mass uncertain s).quiet = s.quiet := by
  simp only [massReport]; repeat' split
  all_goals (try simp [onlyIf_quiet, forEach_quiet, updRet_quiet])

theorem expire_quiet (p : Pos) (left : PosTimers → Option Nat) (stop : PosTimers → PosTimers)
    (f : State → State) (s : State) (h : (f (updTimers p stop s)).quiet = s.quiet) :
    (expire p left stop f s).quiet = s.quiet := by
  unfold expire
  split
  · exact h
  · rfl

@[simp] theorem fillExpiry_quiet (p : Pos) (s : State) : (fillExpiry p s).quiet = s.quiet := by
  unfold fillExpiry
  apply expire_quiet
  simp

@[simp] theorem pulseEnd_quiet (p : Pos) (s : State) :
    (pulseEnd p s).quiet = s.quiet := by
  simp only [pulseEnd]; repeat' split
  all_goals (try simp [onlyIf_quiet, forEach_quiet, updRet_quiet])

@[simp] theorem pulseExpiry_quiet (p : Pos) (s : State) : (pulseExpiry p s).quiet = s.quiet := by
  unfold pulseExpiry
  apply expire_quiet
  simp

@[simp] theorem endPending_quiet (p : Pos) (s : State) :
    (endPending p s).quiet = s.quiet := by
  simp only [endPending]; repeat' split
  all_goals (try simp [onlyIf_quiet, forEach_quiet, updRet_quiet])

@[simp] theorem leakEnd_quiet (p : Pos) (s : State) :
    (leakEnd p s).quiet = s.quiet := by
  simp only [leakEnd]; repeat' split
  all_goals (try simp [onlyIf_quiet, forEach_quiet, updRet_quiet])

@[simp] theorem leakExpiry_quiet (p : Pos) (s : State) : (leakExpiry p s).quiet = s.quiet := by
  unfold leakExpiry
  apply expire_quiet
  simp

@[simp] theorem precoolExpiry_quiet (p : Pos) (s : State) : (precoolExpiry p s).quiet = s.quiet := by
  unfold precoolExpiry
  apply expire_quiet
  simp [precoolExpired_quiet]

@[simp] theorem bankWaitExpiry_quiet (p : Pos) (s : State) : (bankWaitExpiry p s).quiet = s.quiet := by
  unfold bankWaitExpiry
  apply expire_quiet
  simp

@[simp] theorem pauseExpiry_quiet (p : Pos) (s : State) : (pauseExpiry p s).quiet = s.quiet := by
  unfold pauseExpiry
  apply expire_quiet
  simp

@[simp] theorem vehicleExpiry_quiet (p : Pos) (s : State) : (vehicleExpiry p s).quiet = s.quiet := by
  unfold vehicleExpiry
  apply expire_quiet
  simp

@[simp] theorem mismatchExpiry_quiet (p : Pos) (s : State) : (mismatchExpiry p s).quiet = s.quiet := by
  unfold mismatchExpiry
  apply expire_quiet
  simp

@[simp] theorem afterRunExpiry_quiet (p : Pos) (s : State) : (afterRunExpiry p s).quiet = s.quiet := by
  unfold afterRunExpiry
  apply expire_quiet
  simp

@[simp] theorem ventFault_quiet (p : Pos) (s : State) :
    (ventFault p s).quiet = s.quiet := by
  simp only [ventFault]; repeat' split
  all_goals (try simp [onlyIf_quiet, forEach_quiet, updRet_quiet])

@[simp] theorem ventExpiry_quiet (p : Pos) (s : State) : (ventExpiry p s).quiet = s.quiet := by
  unfold ventExpiry
  apply expire_quiet
  simp

@[simp] theorem tripPosition_quiet (p : Pos) (s : State) :
    (tripPosition p s).quiet = s.quiet := by
  simp only [tripPosition]; repeat' split
  all_goals (try simp [onlyIf_quiet, forEach_quiet, updRet_quiet])

@[simp] theorem filTrip_quiet (s : State) :
    (filTrip s).quiet = s.quiet := by
  simp only [filTrip]; repeat' split
  all_goals (try simp [onlyIf_quiet, forEach_quiet, updRet_quiet])

@[simp] theorem setOpened_quiet (p : Pos) (b : Bool) (s : State) :
    (setOpened p b s).quiet = s.quiet := by
  simp only [setOpened]; repeat' split
  all_goals (try simp [onlyIf_quiet, forEach_quiet, updRet_quiet])

@[simp] theorem leaveFault_quiet (p : Pos) (s : State) :
    (leaveFault p s).quiet = s.quiet := by
  simp only [leaveFault]; repeat' split
  all_goals (try simp [onlyIf_quiet, forEach_quiet, updRet_quiet])

@[simp] theorem positionOpenRequest_quiet (rq : Req) (n : Nat) (s : State) :
    (positionOpenRequest rq n s).quiet = s.quiet := by
  simp only [positionOpenRequest]; repeat' split
  all_goals (try simp [onlyIf_quiet, forEach_quiet, updRet_quiet])

@[simp] theorem positionCloseRequest_quiet (rq : Req) (n : Nat) (s : State) :
    (positionCloseRequest rq n s).quiet = s.quiet := by
  simp only [positionCloseRequest]; repeat' split
  all_goals (try simp [onlyIf_quiet, forEach_quiet, updRet_quiet])

@[simp] theorem positionStopRequest_quiet (rq : Req) (n : Nat) (s : State) :
    (positionStopRequest rq n s).quiet = s.quiet := by
  simp only [positionStopRequest]; repeat' split
  all_goals (try simp [onlyIf_quiet, forEach_quiet, updRet_quiet])

@[simp] theorem lowerCap_quiet (p : Pos) (f : FillId) (cap : Nat) (s : State) :
    (lowerCap p f cap s).quiet = s.quiet := by
  simp only [lowerCap]; repeat' split
  all_goals (try simp [onlyIf_quiet, forEach_quiet, updRet_quiet])

@[simp] theorem positionLimitRequest_quiet (rq : Req) (n cap : Nat) (s : State) :
    (positionLimitRequest rq n cap s).quiet = s.quiet := by
  simp only [positionLimitRequest]; repeat' split
  all_goals (try simp [onlyIf_quiet, forEach_quiet, updRet_quiet])

end Sys2Proof.Machine
end

