-- ==== Sys2Proof/WellFormed.lean ====
section
/-! DEFINITION. Well-formed commands: the operands that a frame, a request or another block can give.
`exec` answers every term; a term that is not well formed stands for nothing the part can meet. -/

namespace Sys2Proof

/-- A byte of a frame. -/
def fits1 (n : Nat) : Bool := decide (n ≤ 255)

/-- A two-byte field. -/
def fits2 (n : Nat) : Bool := decide (n ≤ 65535)

/-- A four-byte field. -/
def fits4 (n : Nat) : Bool := decide (n ≤ 4294967295)

/-- The source and the tag of a REQUEST are bytes (R182, R185). -/
def Req.ok (rq : Req) : Bool := fits1 rq.src && fits1 rq.tag

/-- A value lies in the range of its role (R2). -/
def inRange (r : Role) (v : Int) : Bool := decide ((Role.range r).1 ≤ v) && decide (v ≤ (Role.range r).2)

/-- The four-byte signed value of a SAMPLE (R184). -/
def fitsSample (v : Int) : Bool := decide (-2147483648 ≤ v) && decide (v ≤ 2147483647)

/-- A value in an optional field. -/
def optOk {α : Type} (f : α → Bool) : Option α → Bool
  | some x => f x
  | none => true

/-- A VEHDATA payload's fields in their widths (R184). -/
def VehData.ok (d : VehData) : Bool :=
  fits1 d.version && optOk fits2 d.volume && optOk fits1 d.classCode && optOk fits2 d.pressure
    && optOk (fun t : Int => decide (-32768 ≤ t) && decide (t ≤ 32767)) d.temp && fits1 d.command

/-- R6: the rows an observed frame can match. -/
def Role.observed (r : Role) : Bool := Role.kind r != .tenderSource

/-- The vehicle fields a record can hold (R17). -/
def VehicleFields.ok (f : VehicleFields) : Bool :=
  optOk fits1 f.version && optOk (fun v => decide (1 ≤ v) && decide (v ≤ 10000)) f.volume
    && optOk (fun p : Int => decide (0 ≤ p) && decide (p ≤ 10000)) f.pressure
    && optOk (fun t : Int => decide (-600 ≤ t) && decide (t ≤ 1000)) f.temp

/-- The records a role can have (R7): an analogue value or a count in its range, vehicle fields that a
record can hold, and a freshness timer of at most 60 s. -/
def SigRec.ok (r : Role) (x : SigRec) : Bool :=
  (Role.kind r).isInput && (Role.kind r == .digital || inRange r x.value) && x.vehicle.ok
    && optOk (fun n => decide (n ≤ 600)) x.timer

/-- The deliveries a role of a kind can bring (R18): a value arrival, a transition and a refresh leave
the record usable. -/
def Arrival.ok (r : Role) (a : Arrival) : Bool :=
  a.record.ok r &&
    match a with
    | .value x => Role.kind r == .analogue && x.quality.usable
    | .transition x | .refresh x => Role.kind r == .digital && x.quality.usable
    | .quality _ => true

/-- The records that CMP reads (R2). -/
def Role.atCompressor : Role → Bool
  | .suctionPressure | .dischargePressure | .dischargeTemp | .compressorRunning | .bankPressure _ => true
  | _ => false

/-- The records of a position whose changes of quality FIL takes (R2). -/
def Role.atPosition (p : Pos) (r : Role) : Bool :=
  r == .nozzlePressure p || r == .outletTemp p || r == .meter p || r == .holster p || r == .coupled p
    || r == .vehicle p

/-- The rows a trip cause can name (R1, R204). -/
def TripCause.ok : TripCause → Bool
  | .signal row => decide (row ≤ 63)
  | _ => true

/-- The caps a fill can have (R106, R133). -/
def capOk (cap : Nat) : Bool := decide (1 ≤ cap) && decide (cap ≤ 200000)

/-- A fill summary that FIL can hand over (R129). -/
def FillSummary.ok (x : FillSummary) : Bool :=
  decide (1 ≤ x.txn) && fits4 x.txn && decide (x.cap ≤ 200000) && fits2 x.gen && decide (x.reRates ≤ 3)
    && optOk fits4 x.authTime && optOk fits4 x.endTime && x.reason.isSome

/-- Well-formed commands. -/
def Instr.wf : Instr → Bool
  | .frameArrival _ => true
  | .ringOutSendDone => true
  | .readItem rq i x u c n => rq.ok && fits1 i && fits1 x && fits1 u && fits1 c && fits1 n
  | .tableRead rq t r c => rq.ok && fits1 t && fits1 r && fits1 c
  | .tableWrite rq t r d => rq.ok && fits1 t && fits1 r && decide (d.length ≤ 52)
  | .tableDiscard rq t => rq.ok && fits1 t
  | .tableCommit rq t => rq.ok && fits1 t
  | .modeSet rq m => rq.ok && fits1 m
  | .tripRequest rq => rq.ok
  | .restartRequest rq => rq.ok
  | .causeClear rq => rq.ok
  | .timeSet rq t => rq.ok && fits4 t
  | .bankIsolate rq b => rq.ok && fits1 b
  | .bankReturn rq b => rq.ok && fits1 b
  | .lockoutClear rq => rq.ok
  | .positionOpen rq p => rq.ok && fits1 p
  | .positionClose rq p => rq.ok && fits1 p
  | .positionStop rq p => rq.ok && fits1 p
  | .positionLimit rq p c => rq.ok && fits1 p && fits4 c
  | .accountSet rq i c a => rq.ok && fits2 i && fits1 c && fits4 a
  | .accountCredit rq i a => rq.ok && fits2 i && fits4 a
  | .accountWithdraw rq i a => rq.ok && fits2 i && fits4 a
  | .accountBlock rq i => rq.ok && fits2 i
  | .accountUnblock rq i => rq.ok && fits2 i
  | .accountRemove rq i => rq.ok && fits2 i
  | .accountRead rq i => rq.ok && fits2 i
  | .txnRead rq => rq.ok
  | .txnRelease rq n => rq.ok && fits4 n
  | .tender src _ p k r a m => fits1 src && fits1 p && fits1 k && fits4 r && fits2 a && fits4 m
  | .sampleAnalogue r q v => r.observed && Role.kind r != .digital && fits1 q && fitsSample v
  | .sampleDigital r q v => Role.kind r == .digital && fits1 q && fitsSample v
  | .count r q n => r.observed && fits1 q && fits2 n
  | .vehData r d => r.observed && d.ok
  | .freshnessExpiry r => (Role.kind r).isInput
  | .bankSignalValue b g x => Arrival.ok (g.role b) (.value x)
  | .bankSignalQuality b g x => x.ok (g.role b)
  | .bankIsolateSignal _ => true
  | .bQChange => true
  | .positionClaim _ _ => true
  | .compressorClaim _ => true
  | .bankWithdraw _ => true
  | .bankRelease _ _ => true
  | .bankIncrementReport _ mg _ => decide (1 ≤ mg)
  | .bkmTrip => true
  | .cmpSignalArrival r a => r.atCompressor && a.ok r
  | .cmpIsolate => true
  | .cmpBankAnnouncement _ => true
  | .outputClaim _ => true
  | .outputRelease _ => true
  | .outputWithdraw _ => true
  | .yielded _ => true
  | .cmpBankLost _ => true
  | .primeTimerExpiry => true
  | .minimumRunExpiry => true
  | .offTimerExpiry => true
  | .startHistoryAgeing => true
  | .cmpTrip => true
  | .reserveStep => true
  | .coldConsumption _ i => decide (1 ≤ i.mg)
  | .categoryReport _ c e => !e || c.isSome
  | .sourceReport _ _ => true
  | .admissionRequest _ _ => true
  | .admissionCancel _ => true
  | .mainEntryReport _ => true
  | .mainLeaveReport _ => true
  | .outletTempArrival p a => a.ok (.outletTemp p)
  | .settleTimerExpiry _ => true
  | .excursionTimerExpiry _ => true
  | .stabilisationTimerExpiry => true
  | .parkTimerExpiry => true
  | .chillerFaultDelivery a => a.ok .chillerFault
  | .chillerIsolate => true
  | .pclTrip => true
  | .filHolsterTransition p x => Arrival.ok (.holster p) (.transition x)
  | .filCoupledTransition p x => Arrival.ok (.coupled p) (.transition x)
  | .filNozzlePressure p x => Arrival.ok (.nozzlePressure p) (.value x)
  | .filBankPressure b a => a.ok (.bankPressure b)
  | .filVehdata p x => x.ok (.vehicle p) && x.quality.usable
  | .filSignalQuality x => x.role.atPosition x.pos && x.record.ok x.role
  | .positionIsolate _ => true
  | .filGranted _ _ => true
  | .filBankAnnouncement _ => true
  | .compressorStateReport => true
  | .waitCancelled _ _ => true
  | .filLost _ _ _ => true
  | .sessionOutcome _ _ _ => true
  | .admitted _ _ => true
  | .reRateRequest _ c v => c != .c00 && decide (-600 ≤ v) && decide (v ≤ 1000)
  | .meterFaultReport _ => true
  | .unauthorisedFlowReport _ => true
  | .filMassReport _ _ a _ => a != .outOfFill
  | .fillTimerExpiry _ => true
  | .pulseTimerExpiry _ => true
  | .leakCheckTimerExpiry _ => true
  | .precoolWaitTimerExpiry _ => true
  | .bankWaitTimerExpiry _ => true
  | .pauseTimerExpiry _ => true
  | .vehicleTimerExpiry _ => true
  | .mismatchTimerExpiry _ => true
  | .afterRunTimerExpiry _ => true
  | .ventTimerExpiry _ => true
  | .filTrip => true
  | .meterCount _ n q => fits2 n && q.usable
  | .meterQualityChange p x => x.ok (.meter p)
  | .loweredCap _ c => capOk c
  | .cancelled _ => true
  | .fillSummary x => x.ok
  | .stationClockAdvance => true
  | .smcHolsterTransition p x => Arrival.ok (.holster p) (.transition x)
  | .bankLow => true
  | .descentReport => true
  | .idleTimerExpiry => true
  | .parkTimeExpiry => true
  | .tripCause c => c.ok
  | .tripLoopOpen => true
  | .supplyMonitorTrip => true
  | .rifTrip => true
  | .powerOn _ l => fits4 l.downSeconds
  | .supplyDip l => fits4 l.downSeconds
  | .commandRestart l => fits4 l.downSeconds

end Sys2Proof
end

