-- ==== Sys2Proof/Tests/Slice0.lean ====
section
/-! SUPPORT. The model's own tests: the smoke tests of WellFormed, small tests of commands whose expected
results are worked from the spec's rules and examples by hand, and for every statement of
Certificates/Slice0/Obligations.lean concrete states and operands that meet its hypotheses. -/

namespace Sys2Proof.Tests

set_option Elab.async false -- one theorem after the other: the kernel evaluates most of them

open Sys2Proof Sys2Proof.Machine

/-! ## A small station -/

/-- A node map row with the widest limits and no action. -/
def node (source : Nat) (r : Role) : NodeRow :=
  { source := source, channel := 0, role := r, offset := 0
    freshness := if r.kind.isInput then 50 else 0, stale := .hold
    low := if r.kind = .analogue then r.range.1 else 0
    high := if r.kind = .analogue then r.range.2 else 0
    limitAction := .none, edgeSelect := .none, edgeAction := .note }

/-- The roles of the small station, row 0 first. -/
def roles : List Role :=
  [.nozzlePressure .p1, .outletTemp .p1, .meter .p1, .holster .p1, .coupled .p1, .vehicle .p1,
   .tenderSource .p1, .dispenseValve .p1, .ventValve .p1, .controlValve .p1,
   .bankPressure .b1, .bankTemp .b1, .bankPressure .b2, .bankTemp .b2,
   .bankValve .b1 (.pos .p1), .bankValve .b1 .compressor, .bankValve .b2 (.pos .p1),
   .bankValve .b2 .compressor, .suctionPressure, .dischargeTemp, .compressorRunning,
   .compressorDrive, .chillerFault, .chillerDrive, .ambientTemp, .gasDetect]

/-- The node map: row n has source node 10 + n. -/
def nodeMap : List (Option NodeRow) :=
  (roles.zipIdx.map fun x => some (node (10 + x.2) x.1)) ++ List.replicate 38 none

def fillTable : FillTable :=
  { volEdges := [50, 100, 200], ambEdges := [0, 100, 200, 300, 400], p0Edges := [100, 200, 300, 400]
    params := .dflt .h70
    cells := List.replicate 96 (List.replicate 5 ⟨2850, 7700⟩) }

def tables : Tables :=
  { nodeMap := ⟨nodeMap, nodeMap, 1⟩
    station := ⟨.dflt, .dflt, 1⟩
    bank :=
      let r : BankRow := ⟨true, 3000, 5000, 500, 3000, 4500⟩
      let t : BankTable := ⟨⟨r, r, .dflt, .dflt⟩, [.bank .b1, .bank .b2, .compressor], [.bank .b1, .bank .b2]⟩
      ⟨t, t, 1⟩
    compressor :=
      let r : CmpRow := ⟨true, 10, 60, 30, 6, 50, 20, 900, [.b1, .b2], 800⟩
      ⟨r, r, 1⟩
    precool :=
      let t : PrecoolTable :=
        ⟨⟨true, 50000, 200, 50, 143, 1914, 30000, 20000, 30, 60, 10, 5⟩,
         ⟨-400, -330, 20000⟩, ⟨-300, -260, 15000⟩, ⟨-200, -170, 10000⟩⟩
      ⟨t, t, 1⟩
    position :=
      let a : PosRow := ⟨.h70, .c40, some .c20, 1, true, true, 10000, 100, 50, true, 20, 100, 60⟩
      let b : PosRow := ⟨.h35, .c00, none, 1, false, false, 10000, 100, 50, true, 20, 100, 60⟩
      let t : PerPos PosRow := ⟨a, b, .dflt, .dflt⟩
      ⟨t, t, 1⟩
    fillH35 := ⟨⟨fillTable, fillTable, 2⟩, 0, none⟩
    fillH70 := ⟨⟨fillTable, fillTable, 3⟩, 1, none⟩
    tariff :=
      let t : Tariff := { Tariff.dflt with prices := List.replicate 4 (List.replicate 8 134900) }
      ⟨t, t, 1⟩ }

/-- The records: pressures, temperatures and levels of a station at rest, all GOOD. -/
def records : List (Role × SigRec) :=
  (recordsOf (validRows nodeMap)).map fun x =>
    (x.1,
      { x.2 with
        quality := .good
        value :=
          match x.1 with
          | .bankPressure .b1 => 4000
          | .bankPressure .b2 => 4800
          | .bankTemp _ => 200
          | .suctionPressure => 300
          | .dischargeTemp => 250
          | .ambientTemp => 150
          | .nozzlePressure _ => 80
          | _ => 0 })

/-- The station in RUN, with RING-OUT sending and nothing queued. -/
def w : State :=
  { State.reset with
    tables := tables
    ret := { State.reset.ret with clock := some 1000, runSeconds := 5000, flags := ⟨false, false, false, false, false⟩ }
    rif := { State.reset.rif with ringOut := some ⟨[], false⟩ }
    sig := records
    bkmBq := 1914
    bkm := ⟨.start true, .start true, .start false, .start false⟩
    smc := { State.reset.smc with mode := .run }
    pins := ⟨0, false, true⟩ }

/-- A delivered record: GOOD, with its timer stopped; with a value, a level, a quality, vehicle fields. -/
def good : SigRec := ⟨0, false, ⟨none, none, none, none, none, none⟩, .good, none, .inside⟩
def gv (v : Int) : SigRec := { good with value := v }
def gl (l : Bool) : SigRec := { good with level := l }
def gq (q : Quality) : SigRec := { good with quality := q }
def gf (f : VehicleFields) : SigRec := { good with vehicle := f }

/-- One record replaced. -/
def rec (r : Role) (f : SigRec → SigRec) (s : State) : State := setRecord r (f (s.record r)) s

/-- A fill of P1. -/
def fillId : FillId := ⟨7, .fleet, 3706, 3, some 900⟩

/-- P1 in a state of its fill. -/
def at1 (st : PState) (f : Ctx → Ctx) (s : State) : State :=
  updCtx .p1 (fun c => f { c with state := st, fill := some fillId, opened := true, category := .c40 }) s

/-- A bank held by a holder, with a session opened at 80,000 g. -/
def held (b : Bank) (h : Holder) (valid : Bool) (s : State) : State :=
  updBank b (fun r =>
    { r with state := .ofHolder h, session := some ⟨h, 80000, valid, 5000000, some 900⟩, inventory := 75000 }) s

/-- The trip latch set. -/
def tripped (s : State) : State :=
  { s with smc := { s.smc with mode := .trip, latch := some ⟨.loop, some 990⟩ }, pins := { s.pins with masterIsolation := false } }

/-- A session of a holder opened at 80,000 g, 5,000 g metered. -/
def ses (h : Holder) (valid : Bool) : Session := ⟨h, 80000, valid, 5000000, some 900⟩

/-- A bank record changed. -/
def bk (b : Bank) (f : BankRec → BankRec) (s : State) : State := updBank b f s

def wait (b : Bank) (ps : List Pos) (s : State) : State := updBank b (fun r => { r with waiters := ps }) s

def inv (b : Bank) (n : Nat) (s : State) : State := updBank b (fun r => { r with inventory := n, invValid := true }) s

/-- A frame from a node to the part (address 240) with its check. -/
def fr (d s k : Nat) (ps : List Nat) : List Byte := (Frame.mk d s k (ps.map (BitVec.ofNat 8))).bytes

/-- What the frame reads back as. -/
def fp (d s k : Nat) (ps : List Nat) : Frame := ⟨d, s, k, ps.map (BitVec.ofNat 8)⟩

/-- The compressor changed. -/
def cm (f : Cmp → Cmp) (s : State) : State := updCmp f s

/-- The compressor in a state, with its run started. -/
def run (st : CmpState) (s : State) : State :=
  updCmp (fun k => { k with state := st, startedAt := some 4950 }) s

/-- The level of a digital record. -/
def lev (r : Role) (l : Bool) (s : State) : State := rec r (fun x => { x with level := l }) s

/-- The value of a record. -/
def val (r : Role) (v : Int) (s : State) : State := rec r (fun x => { x with value := v }) s

/-- The quality of a record. -/
def qual (r : Role) (q : Quality) (s : State) : State := rec r (fun x => { x with quality := q }) s

def mode (m : Mode) (s : State) : State := { s with smc := { s.smc with mode := m } }

/-- The active compressor row changed. -/
def cmpRow (f : CmpRow → CmpRow) (s : State) : State :=
  updTables (fun t => { t with compressor := { t.compressor with active := f t.compressor.active } }) s

/-- PCL changed. -/
def pc (f : Pcl → Pcl) (s : State) : State := updPcl f s

/-- The active chiller row changed. -/
def chRow (f : ChillerRow → ChillerRow) (s : State) : State :=
  updTables (fun t => { t with precool := { t.precool with active := { t.precool.active with row0 := f t.precool.active.row0 } } }) s

/-- A role's row removed from the active node map. -/
def unmap (r : Role) (s : State) : State :=
  updTables (fun t => { t with nodeMap := { t.nodeMap with
    active := t.nodeMap.active.map (fun x => match x with | some y => if y.role = r then none else some y | none => none) } }) s

/-- P1's context changed. -/
def cx (f : Ctx → Ctx) (s : State) : State := updCtx .p1 f s

/-- P1's timers changed. -/
def tm (f : PosTimers → PosTimers) (s : State) : State := updTimers .p1 f s

/-- The draw sequence of P1's class. -/
def seq (es : List Source) (s : State) : State :=
  updTables (fun t => { t with bank := { t.bank with active := { t.bank.active with h70 := es } } }) s

/-- P1's position row changed. -/
def prow (f : PosRow → PosRow) (s : State) : State :=
  updTables (fun t => { t with position := { t.position with active := t.position.active.set .p1 (f (t.position.active.get .p1)) } }) s

/-- The parameters of the H70 fill table changed. -/
def par (f : FillParams → FillParams) (s : State) : State :=
  updTables (fun t => { t with fillH70 := { t.fillH70 with copy := { t.fillH70.copy with
    active := { t.fillH70.copy.active with params := f t.fillH70.copy.active.params } } } }) s

/-- Every cell of the H70 fill table. -/
def cells (c : Cell) (s : State) : State :=
  updTables (fun t => { t with fillH70 := { t.fillH70 with copy := { t.fillH70.copy with
    active := { t.fillH70.copy.active with cells := List.replicate 96 (List.replicate 5 c) } } } }) s

/-- A selection with a rate of 28.5 bar/min and an end pressure of 770 bar. -/
def sel : Selection := ⟨1, false, 2, 0, 2850, 7000⟩

def mt (f : MeterCtx → MeterCtx) (s : State) : State := updMeter .p1 f s

def orow (o : List Pos) (s : State) : State := { s with bankWaitOrder := o }

/-- Vehicle data of a tank at a pressure and a temperature. -/
def veh (pr te : Int) (c : FillCommand) : VehicleFields := ⟨some 1, some 150, some .h70, some pr, some te, some c⟩

/-- A FLEET account: 20,000 minor units, a hold of 300 for P2, 7,000 g a day of which 100 g are used. -/
def acct : Account := ⟨5, false, 0, 20000, [⟨.p2, 300⟩], 7000, 100⟩

/-- An account without holds and money. -/
def acct2 : Account := ⟨6, true, 2, 0, [], 10, 3⟩

def accts (xs : List (Option Account)) (s : State) : State := { s with ret := { s.ret with accounts := xs } }

/-- The tender context of P1's FLEET fill. -/
def tctx : TenderCtx := ⟨7, .fleet, 99, 16, 5, 0, 0, 0, 134900, 3706, 4999, some 900, false⟩

/-- The tender context of a CARD fill. -/
def tcard : TenderCtx := { tctx with kind := .card, account := 0, authorised := 5000, hold := 0 }

def bill (c : TenderCtx) (s : State) : State := { s with bil := s.bil.set .p1 (some c) }

def snap : Snapshot := ⟨7, .fleet, 99, 16, 5, 134900, some 900, false, 3706, 2100000, 3000, 0⟩

/-- A place reserved and a snapshot live at P1. -/
def live (s : State) : State :=
  { s with ret := { s.ret with reserved := s.ret.reserved.set .p1 true, snapshots := s.ret.snapshots.set .p1 (some snap) } }

def summ : FillSummary :=
  { pos := .p1, pclass := .h70, txn := 7, kind := .fleet, cap := 3706, gen := 3, authTime := some 900
    reason := some .massCap, required := .c40, final := .c40, reRates := 0, link := .none
    mismatch := false, unchecked := true, uncertain := false, endTime := none
    masses := ⟨2100999, ⟨2097999, 0, 0, 0⟩, 0, 0, 3000, false⟩ }

def trec : TxnRecord :=
  { txn := 6, pos := .p2, pclass := .h35, kind := .card, reference := 3, account := 0, start := 1
    endTime := 2, required := .c00, final := .c00, reRates := 0, link := .none, fillMass := 4
    billed := 4, afterRun := 0, unattr := 0, price := 134900, amount := 5, reason := some .timeLimit
    interrupted := false, mismatch := true, unchecked := false, timeUnset := false, uncertain := false }

def recs (xs : List TxnRecord) (s : State) : State := { s with ret := { s.ret with records := xs } }

/-- P1 lifted, with a tender source at node 16. -/
def lifted (s : State) : State := cx (fun c => { c with state := .lifted, opened := true }) s

/-- The station with its four positions in every kind of state. -/
def crowd (s : State) : State :=
  { s with fil := ⟨{ Ctx.start with opened := true }, { Ctx.start with state := .lifted, opened := true },
      { Ctx.start with state := .idle, opened := false }, { Ctx.start with state := .fault }⟩ }

def smc (f : Smc → Smc) (s : State) : State := updSmc f s

/-- The active station row changed. -/
def srow (f : StationRow → StationRow) (s : State) : State :=
  updTables (fun t => { t with station := { t.station with active := f t.station.active } }) s

/-- The shadows of the tables changed. -/
def shMap (n : Nat) (r : Option NodeRow) (s : State) : State :=
  updTables (fun t => { t with nodeMap := { t.nodeMap with shadow := t.nodeMap.shadow.set n r } }) s
def shBank (b : Bank) (f : BankRow → BankRow) (s : State) : State :=
  updTables (fun t => { t with bank := { t.bank with
    shadow := { t.bank.shadow with rows := t.bank.shadow.rows.set b (f (t.bank.shadow.rows.get b)) } } }) s
def shCmp (f : CmpRow → CmpRow) (s : State) : State :=
  updTables (fun t => { t with compressor := { t.compressor with shadow := f t.compressor.shadow } }) s
def shCold (f : PrecoolTable → PrecoolTable) (s : State) : State :=
  updTables (fun t => { t with precool := { t.precool with shadow := f t.precool.shadow } }) s
def shRow0 (f : ChillerRow → ChillerRow) (s : State) : State := shCold (fun t => { t with row0 := f t.row0 }) s
def shPos (p : Pos) (f : PosRow → PosRow) (s : State) : State :=
  updTables (fun t => { t with position := { t.position with
    shadow := t.position.shadow.set p (f (t.position.shadow.get p)) } }) s
def gen35 (f : FillCopy → FillCopy) (s : State) : State := updTables (fun t => { t with fillH35 := f t.fillH35 }) s
def gen70 (f : FillCopy → FillCopy) (s : State) : State := updTables (fun t => { t with fillH70 := f t.fillH70 }) s
def shFill (f : FillTable → FillTable) (g : FillCopy) : FillCopy :=
  { g with copy := { g.copy with shadow := f g.copy.shadow } }
def shTar (f : Tariff → Tariff) (s : State) : State :=
  updTables (fun t => { t with tariff := { t.tariff with shadow := f t.tariff.shadow } }) s

/-- The station in PARKED. -/
def pk : State := mode .parked w

/-! ## Smoke tests of WellFormed: an ill-formed term for each check -/

def refuses (cs : List Instr) : Bool := cs.all (fun c => !c.wf)

theorem test_wf_request : refuses [.txnRead ⟨256, 0⟩, .txnRead ⟨0, 256⟩, .tripRequest ⟨256, 1⟩,
    .restartRequest ⟨1, 300⟩, .causeClear ⟨999, 0⟩, .lockoutClear ⟨0, 256⟩] = true := by decide

theorem test_wf_request_bytes : refuses [.readItem ⟨1, 1⟩ 256 0 0 0 0, .readItem ⟨1, 1⟩ 1 256 0 0 0,
    .readItem ⟨1, 1⟩ 1 0 256 0 0, .readItem ⟨1, 1⟩ 1 0 0 256 0, .readItem ⟨1, 1⟩ 1 0 0 0 256,
    .tableRead ⟨1, 1⟩ 256 0 0, .tableRead ⟨1, 1⟩ 1 256 0, .tableRead ⟨1, 1⟩ 1 0 256,
    .tableWrite ⟨1, 1⟩ 256 0 [], .tableWrite ⟨1, 1⟩ 1 256 [], .tableWrite ⟨1, 1⟩ 1 0 (List.replicate 53 0),
    .tableDiscard ⟨1, 1⟩ 256, .tableCommit ⟨1, 1⟩ 256, .modeSet ⟨1, 1⟩ 256, .bankIsolate ⟨1, 1⟩ 256,
    .bankReturn ⟨1, 1⟩ 256, .positionOpen ⟨1, 1⟩ 256, .positionClose ⟨1, 1⟩ 256,
    .positionStop ⟨1, 1⟩ 256, .positionLimit ⟨1, 1⟩ 256 5] = true := by decide

theorem test_wf_request_words : refuses [.positionLimit ⟨1, 1⟩ 1 4294967296, .timeSet ⟨1, 1⟩ 4294967296,
    .accountSet ⟨1, 1⟩ 65536 0 0, .accountSet ⟨1, 1⟩ 1 256 0, .accountSet ⟨1, 1⟩ 1 0 4294967296,
    .accountCredit ⟨1, 1⟩ 65536 1, .accountCredit ⟨1, 1⟩ 1 4294967296, .accountWithdraw ⟨1, 1⟩ 65536 1,
    .accountWithdraw ⟨1, 1⟩ 1 4294967296, .accountBlock ⟨1, 1⟩ 65536, .accountUnblock ⟨1, 1⟩ 65536,
    .accountRemove ⟨1, 1⟩ 65536, .accountRead ⟨1, 1⟩ 65536, .txnRelease ⟨1, 1⟩ 4294967296] = true := by
  decide

theorem test_wf_tender : refuses [.tender 256 false 1 0 0 0 0, .tender 1 false 256 0 0 0 0,
    .tender 1 false 1 256 0 0 0, .tender 1 false 1 0 4294967296 0 0, .tender 1 false 1 0 0 65536 0,
    .tender 1 false 1 0 0 0 4294967296] = true := by decide

theorem test_wf_signals : refuses [.sampleAnalogue (.holster .p1) 0 0, .sampleAnalogue (.tenderSource .p1) 0 0,
    .count (.tenderSource .p1) 0 0, .vehData (.tenderSource .p1) ⟨1, none, none, none, none, 0⟩,
    .sampleAnalogue .ambientTemp 256 0, .sampleAnalogue .ambientTemp 0 2147483648,
    .sampleDigital .ambientTemp 0 0, .sampleDigital .gasDetect 256 0, .sampleDigital .gasDetect 0 (-2147483649),
    .count (.meter .p1) 256 0, .count (.meter .p1) 0 65536, .freshnessExpiry (.ventValve .p1)] = true := by decide

theorem test_wf_vehicle : refuses [.vehData (.vehicle .p1) ⟨256, none, none, none, none, 0⟩,
    .vehData (.vehicle .p1) ⟨1, some 65536, none, none, none, 0⟩, .vehData (.vehicle .p1) ⟨1, none, some 256, none, none, 0⟩,
    .vehData (.vehicle .p1) ⟨1, none, none, some 65536, none, 0⟩, .vehData (.vehicle .p1) ⟨1, none, none, none, some 32768, 0⟩,
    .vehData (.vehicle .p1) ⟨1, none, none, none, none, 256⟩, .filVehdata .p1 (gf ⟨some 256, none, none, none, none, none⟩),
    .filVehdata .p1 (gf ⟨none, some 0, none, none, none, none⟩), .filVehdata .p1 (gq .stale),
    .filVehdata .p1 (gf ⟨none, none, none, some 10001, none, none⟩),
    .filVehdata .p1 (gf ⟨none, none, none, none, some (-601), none⟩)] = true := by decide

theorem test_wf_arrivals : refuses [.bankSignalValue .b1 .pressure (gv 10001), .bankSignalValue .b1 .temp (gv (-601)),
    .bankSignalValue .b1 .temp (gq .bad), .bankSignalQuality .b1 .temp { good with timer := some 601 },
    .cmpSignalArrival .ambientTemp (.value good), .cmpSignalArrival .suctionPressure (.value (gv (-1))),
    .cmpSignalArrival .suctionPressure (.transition good), .cmpSignalArrival .compressorRunning (.value good),
    .outletTempArrival .p1 (.value (gv 1001)), .outletTempArrival .p1 (.refresh good),
    .chillerFaultDelivery (.value good), .chillerFaultDelivery (.transition (gq .stale)),
    .filNozzlePressure .p1 (gv 10001), .filBankPressure .b1 (.transition good),
    .filHolsterTransition .p1 (gq .bad), .filCoupledTransition .p1 (gq .absent),
    .smcHolsterTransition .p1 (gq .stale), .filSignalQuality ⟨.p1, .coupled .p2, good⟩,
    .filSignalQuality ⟨.p1, .meter .p1, gv 65536⟩] = true := by decide

theorem test_wf_blocks : refuses [.bankIncrementReport .p1 0 .compressor, .coldConsumption .p1 ⟨0, .compressor⟩,
    .categoryReport .p1 none true, .reRateRequest .p1 .c00 0, .reRateRequest .p1 .c40 1001,
    .filMassReport .p1 5 .outOfFill false, .meterCount .p1 65536 .good, .meterCount .p1 7 .bad,
    .meterQualityChange .p1 (gv (-1)), .loweredCap .p1 0,
    .loweredCap .p1 200001, .tripCause (.signal 64), .powerOn true ⟨0, false, 4294967296⟩,
    .supplyDip ⟨0, false, 4294967296⟩, .commandRestart ⟨0, false, 4294967296⟩] = true := by decide

theorem test_wf_summary : refuses [.fillSummary { summ with txn := 0 }, .fillSummary { summ with txn := 4294967296 },
    .fillSummary { summ with cap := 200001 }, .fillSummary { summ with gen := 65536 },
    .fillSummary { summ with reRates := 4 }, .fillSummary { summ with authTime := some 4294967296 },
    .fillSummary { summ with endTime := some 4294967296 }, .fillSummary { summ with reason := none }]
    = true := by decide

theorem test_wf_accepts : ([.txnRead ⟨255, 255⟩, .vehData (.vehicle .p1) ⟨1, some 150, some 1, some 600, some (-32768), 2⟩,
    .fillSummary summ, .sampleAnalogue .ambientTemp 3 (-2147483648), .positionLimit ⟨0, 0⟩ 5 4294967295,
    .loweredCap .p1 200000, .filNozzlePressure .p1 (gv 10000), .meterQualityChange .p1 (gq .absent), .tripCause (.signal 63)] : List Instr).all Instr.wf
    = true := by decide

/-! ## Worked figures of the spec -/

/-- 02, "A bank at 45.00 MPa". -/
theorem test_density_bank : density 1914 4500 350 = 27671 ∧ inventoryOf 1914 3000 4500 350 = 83013
    ∧ inventoryOf 1914 3000 4500 500 = 79971 ∧ inventoryOf 1914 3000 4400 500 = 78561 := by decide

/-- 02, "Behaviour at the limits". -/
theorem test_density_limits : density 1914 10000 (-600) = 59930 ∧ density 0 10000 (-600) = 113733
    ∧ density 4000 10000 1000 = 31360 ∧ density 1914 10200 (-650) = 59930 ∧ density 1914 1 150 = 8 := by
  decide

/-- 05, "An afternoon run of cars": an increment of 120 g from 35.0 °C and from 45.0 °C into C40. -/
theorem test_cold_joules : coldJoules 120000 143 350 (-400) = 128700
    ∧ coldJoules 120000 143 450 (-400) = 145860 := by decide

/-- 06: the example after R105, and the bands of R96. -/
theorem test_ramp_target : rampTarget 1500 2280 300 7450 = 2640 := by decide

theorem test_bands : bandOf [0, 100, 200, 300, 400] (-15) = 0 ∧ bandOf [0, 100, 200, 300, 400] 100 = 2
    ∧ bandOf [0, 100, 200, 300, 400] 462 = 5 := by decide

/-- 09: the example of R160 and the settlement of the worked sequence. -/
theorem test_amounts : amountOf 5123 134900 = 6911 ∧ amountOf 3706 134900 = 4999
    ∧ amountOf 28456 118000 = 33578 ∧ amountOf 30000 118000 = 35400 := by decide

/-! ## Commands on small states -/

/-- The state after a command. -/
def after (c : Instr) (s : State) : State :=
  match exec c s with
  | .next t => t
  | _ => s

/-- 02, "An inventory record through a sequence of arrivals", on a bank of 3000 L: the sample of the
temperature at a held 45.00 MPa. -/
theorem test_inventory_arrival :
    ((after (.bankSignalValue .b1 .temp (gv 350)) (val (.bankPressure .b1) 4500 w)).bank
      .b1).inventory = 83013 := by decide +kernel

theorem test_inventory_stale :
    ((after (.bankSignalQuality .b1 .pressure (gq .stale)) (qual (.bankPressure .b1) .stale (inv .b1 79971 w))).bank
      .b1) = { (inv .b1 79971 w).bank .b1 with invValid := false } := by decide +kernel

/-- 03, "A yield, a wait and two checks": P3's claim of a bank the compressor holds, here P1's of B1. -/
theorem test_position_claim_yields :
    let t := after (.positionClaim .p1 .b1) (held .b1 .compressor true w)
    (t.bank .b1).state = .claimedPos .p1 ∧ t.mail.contains (.yielded .b1) = true := by decide +kernel

theorem test_claim_waits : ((after (.positionClaim .p2 .b1) (held .b1 (.pos .p1) true w)).bank .b1).waiters
    = [.p2] := by decide +kernel

/-- 05: the reserve step of a running chiller gains recovery less loss, 200 − 50 (R81). -/
theorem test_reserve_step :
    (after .reserveStep (pc (fun k => { k with state := .pulldown, reserve := 1000 }) w)).pcl.reserve = 1150 := by
  decide +kernel

theorem test_reserve_loss :
    (after .reserveStep (pc (fun k => { k with state := .parked, reserve := 30 }) w)).pcl.reserve = 0 := by
  decide +kernel

/-- 08: a count that wraps from 65500 to 100 makes 136 pulses (R138, R140). -/
theorem test_count_wraps :
    ((after (.meterCount .p1 100 .good) (mt (fun m => { m with baseline := some 65500 })
      (prow (fun r => { r with pulseWeight := 2000, maxDelta := 200 }) w))).ret.totaliser.get .p1) = 272000 := by
  decide +kernel

/-- 08: in LEAK-CHECK the increment is unattributed. -/
theorem test_count_leak_check :
    ((after (.meterCount .p1 31 .good) (mt (fun m => { m with baseline := some 30, isOpen := true, fill := 60000 })
      (prow (fun r => { r with pulseWeight := 2000, maxDelta := 200 }) (at1 .leakCheck id w)))).meter .p1).unattr
      = 2000 := by decide +kernel

/-- 09, "Two buses on one fleet account": the first tender, with the sequence's figures. -/
def depot : State :=
  prow (fun r => { r with maxFill := 45000 })
    (updTables (fun t => { t with tariff := { t.tariff with active := { t.tariff.active with
        minCap := 500, prices := List.replicate 4 (List.replicate 8 118000) } } })
      (accts [some ⟨3102, false, 2, 500000, [], 120000, 90000⟩] (lifted (lev (.holster .p1) false w))))

theorem test_fleet_tender :
    let t := after (.tender 16 false 1 1 5 3102 0) depot
    (t.bil.get .p1).map (fun k => (k.cap, k.hold, k.price)) = some (30000, 35400, 118000)
      ∧ t.ret.accounts = [some ⟨3102, false, 2, 500000, [⟨.p1, 35400⟩], 120000, 90000⟩] := by decide +kernel

/-- 09: the settlement of P1's fill. -/
theorem test_fleet_settlement :
    (after (.fillSummary { summ with txn := 1, cap := 30000, masses := ⟨28456000, ⟨28456000, 0, 0, 0⟩, 0, 0, 0, false⟩ })
      { live (bill { tctx with txn := 1, account := 3102, price := 118000, cap := 30000, hold := 35400 } depot) with
        ret := { (live depot).ret with
          accounts := [some ⟨3102, false, 2, 500000, [⟨.p1, 35400⟩], 120000, 90000⟩] } }).ret.accounts
      = [some ⟨3102, false, 2, 466422, [], 120000, 118456⟩] := by decide +kernel

/-- 10: TXN-RELEASE of another number than the oldest changes nothing (NOT-OLDEST). -/
theorem test_release_not_oldest : (after (.txnRelease ⟨1, 9⟩ 7) (recs [trec] w)).ret.records = [trec] := by
  decide +kernel

theorem test_release_oldest : (after (.txnRelease ⟨1, 9⟩ 6) (recs [trec] w)).ret.records = [] := by
  decide +kernel

/-- 12, "A depot morning": the fall of HOLSTER at a wake-enabled C40 position in QUIET makes RUN (R202). -/
theorem test_wake_to_run :
    (after (.smcHolsterTransition .p1 (gl false)) (crowd (mode .quiet w))).smc.mode = .run := by decide +kernel

theorem test_bank_low_wakes :
    (after .bankLow (srow (fun r => { r with bankLowWake := true }) (mode .parked w))).smc.mode = .quiet := by
  decide +kernel

/-- R204: a trip cause sets the latch, the mode and the output. -/
theorem test_trip : let t := after (.tripCause .request) w
    t.smc.latch = some ⟨.request, some 1000⟩ ∧ t.smc.mode = .trip ∧ t.pins.masterIsolation = false := by
  decide +kernel

/-- R205, R200: a command restart from a complete set of tables makes PARKED and sets COMMAND. -/
theorem test_command_restart : let t := after (.commandRestart ⟨3, false, 0⟩) w
    t.ret.flags.command = true ∧ t.smc.mode = .parked ∧ t.rif.ownAddress = 243 := by decide +kernel

/-- R182: a station address of straps 0 is 240. -/
theorem test_reset_address : State.reset.rif.ownAddress = 240 := by decide

/-- R189: a foreign frame that is not for this part goes to the transit buffer. -/
theorem test_foreign_frame : (after (.frameArrival (fr 70 9 3 [1])) w).rif.transit = [fr 70 9 3 [1]] := by
  decide +kernel

theorem test_bad_check : (after (.frameArrival [0xAA#8, 1#8, 2#8, 3#8, 4#8, 5#8, 6#8]) w).rif.checkErrors = 1 := by
  decide +kernel

/-- R10: an expired freshness timer leaves the record STALE. -/
theorem test_freshness : ((after (.freshnessExpiry .ambientTemp) w).record .ambientTemp).quality = .stale := by
  decide +kernel

/-- 01, R5: an offset of +12 gives −400 from a GOOD sample of −412. -/
theorem test_offset :
    ((after (.sampleAnalogue .ambientTemp 0 (-412)) (updTables (fun t => { t with nodeMap := { t.nodeMap with
        active := t.nodeMap.active.map (fun x => x.map (fun y => { y with offset := 12 })) } }) w)).record
      .ambientTemp).value = -400 := by decide +kernel

/-- The step takes the command at the front of the queue; with none it lets a tick pass. -/
theorem test_step_takes_front :
    step { w with pending := [.stationClockAdvance, .tripLoopOpen] }
      = exec .stationClockAdvance { w with pending := [.tripLoopOpen] } := rfl

theorem test_step_ticks : step State.reset = .next { State.reset with ticks := 1 } := rfl

/-- R18: an arrival taken GOOD is evaluated so, though the record has become BAD since. -/
theorem test_delivered_record :
    ((after (.bankSignalValue .b1 .pressure (gv 4500)) (qual (.bankPressure .b1) .bad (val (.bankTemp .b1) 350 w))).bank
      .b1).inventory = 83013 := by decide +kernel

/-- R24: an arrival before B_Q_CHANGE is evaluated with the B_q before the commit. -/
theorem test_bq_before_change :
    ((after (.bankSignalValue .b1 .pressure (gv 4500)) (chRow (fun r => { r with bq := 0 })
      (val (.bankTemp .b1) 350 w))).bank .b1).inventory = 83013 := by decide +kernel

/-- R55: a start keeps at most the starts of the last hour: the limit 6, one aged entry and 5 young. -/
theorem test_start_drops_aged :
    (after (.outputClaim .p2) { w with ret := { w.ret with history := [1400, 4000, 4001, 4002, 4003, 4004] } }).ret.history
      = [4000, 4001, 4002, 4003, 4004, 5000] := by decide +kernel

/-- R66: one CLOSE for the drive leaves with RING-OUT idle. -/
theorem test_one_close :
    (after (.cmpSignalArrival .suctionPressure (.value (gv 49))) (run .unloaded { w with rif := { w.rif with
      ringOut := none } })).rif.commands = [] := by decide +kernel

/-- 04, the worked sequence at 15,507: the waiter is granted the output, and GRANTED is the first message. -/
theorem test_granted_first :
    (after (.cmpSignalArrival .compressorRunning (.transition (gl true)))
      (cm (fun k => { k with waiters := [.p1] }) (run .priming w))).mail.head?
      = some (.filGranted .p1 .compressor) := by decide +kernel

/-! ## Witnesses of the statements about every step and of the funds -/

/-- 31 records and one place reserved, TXN-RELEASE at the front of the queue. -/
def full : State := { live (recs (List.replicate 31 trec) w) with pending := [.txnRelease ⟨1, 9⟩ 6] }

theorem witness_QueueLawKept : full.queueLaw ∧ ∃ t, step full = .next t ∧ t.ret.records.length = 30 :=
  ⟨by unfold State.queueLaw; decide +kernel, _, rfl, by decide +kernel⟩

theorem witness_IsolationFollowsTheMode :
    let s := { w with pending := [.tripRequest ⟨1, 9⟩] }
    (s.tripModeLaw ∧ s.isolationLaw) ∧ ∃ t, step s = .next t ∧ t.smc.mode = .trip :=
  ⟨⟨by unfold State.tripModeLaw; decide +kernel, by unfold State.isolationLaw; decide +kernel⟩,
   _, rfl, by decide +kernel⟩

/-- A full transit buffer, seven replies, sixteen notices and one command queued. -/
def crowdedRing (s : State) : State :=
  updRif (fun r =>
    { r with
      transit := List.replicate 8 (fr 70 9 3 [1])
      replies := List.replicate 7 ⟨1, 2, 3, 0, [], false⟩
      notices := List.replicate 16 ⟨1, 2, 3, []⟩
      commands := [⟨.dispenseValve .p1, .close, 0⟩] }) s

theorem witness_RingLawsKept :
    (let s := { crowdedRing w with pending := [.frameArrival (fr 71 9 3 [1])] }
     s.ringLaw ∧ ∃ t, step s = .next t ∧ t.rif.transitOverflows = 1)
    ∧ (let s := { crowdedRing (tripped w) with pending := [.filTrip] }
       s.tripQueueLaw ∧ s.tripHeld = true ∧ ∃ t, step s = .next t) :=
  ⟨⟨⟨by decide +kernel, by decide +kernel, by decide +kernel, by decide +kernel⟩,
     _, rfl, by decide +kernel⟩,
   ⟨⟨by decide +kernel, fun _ => by decide +kernel⟩, by decide +kernel, _, rfl⟩⟩

/-- The reserve at the capacity, one step short of the cap. -/
theorem witness_ReserveWithinCapacity :
    let s := { pc (fun k => { k with state := .pulldown, reserve := 49900 }) w with pending := [.reserveStep] }
    s.reserveLaw ∧ s.chillerRow.fitted = true ∧ ∃ t, step s = .next t ∧ t.pcl.reserve = 50000 :=
  ⟨by unfold State.reserveLaw; decide +kernel, by decide +kernel, _, rfl, by decide +kernel⟩

/-- P1's FLEET fill, whose hold takes all of its account's balance but 1. -/
def funded : State :=
  live (bill tctx (accts [none, some ⟨5, false, 0, 5000, [⟨.p1, 4999⟩], 7000, 100⟩] w))

theorem funded_covered : funded.fundsLaw :=
  ⟨fun a ha => by
    have h : a = ⟨5, false, 0, 5000, [⟨.p1, 4999⟩], 7000, 100⟩ := by simpa [funded, live, bill, accts] using ha
    subst h; decide, by decide +kernel⟩

theorem funded_tender : funded.tenderLaw where
  place p := by cases p <;> decide +kernel
  live p k h := by
    have hp : p = .p1 := by cases p <;> first | rfl | cases (show none = some _ from h)
    subst hp
    exact ⟨snap, rfl⟩
  snapshot p x h := by
    have hp : p = .p1 := by cases p <;> first | rfl | cases (show none = some _ from h)
    subst hp
    have hx : some snap = some x := h
    exact ⟨tctx, rfl, by injection hx with hx; subst hx; decide⟩
  hold p k h _ := by
    have hp : p = .p1 := by cases p <;> first | rfl | cases (show none = some _ from h)
    subst hp
    have hk : some tctx = some k := h
    injection hk with hk
    subst hk
    exact ⟨by decide +kernel, ⟨5, false, 0, 5000, [⟨.p1, 4999⟩], 7000, 100⟩,
      by simp [funded, live, bill, accts], rfl, by decide⟩
  stray a h ha hh := by
    have e : a = ⟨5, false, 0, 5000, [⟨.p1, 4999⟩], 7000, 100⟩ := by simpa [funded, live, bill, accts] using ha
    subst e
    have e : h = ⟨.p1, 4999⟩ := by simpa using hh
    subst e
    exact ⟨tctx, rfl, rfl, rfl⟩

/-- A withdrawal, a lowered cap at the present one and below it, the settlement, and a restart. -/
theorem witness_FundsStayCovered :
    (funded.fundsLaw ∧ funded.tenderLaw ∧ ∀ p, (funded.ctx p).state = .lifted → funded.bil.get p = none)
    ∧ (∀ n ≤ 3706, ∀ p m k, Instr.loweredCap .p1 n = .loweredCap p m → funded.bil.get p = some k → m ≤ k.cap)
    ∧ ∀ c ∈ [Instr.accountWithdraw ⟨1, 9⟩ 5 1, .loweredCap .p1 3706, .loweredCap .p1 3000, .fillSummary summ,
        .cancelled .p1, .powerOn true ⟨0, false, 4⟩], ∃ t, exec c funded = .next t :=
  ⟨⟨funded_covered, funded_tender, fun p => by cases p <;> decide +kernel⟩,
   fun n hn p m k h hk => by
    injection h with hp hm
    subst hp hm
    have e : some tctx = some k := hk
    injection e with e
    subst e
    exact hn,
   fun c hc => by
    simp only [List.mem_cons, List.not_mem_nil, or_false] at hc
    rcases hc with rfl | rfl | rfl | rfl | rfl | rfl <;> exact ⟨_, rfl⟩⟩

/-! ## Witnesses of the statements about commands

For each statement with hypotheses, clause by clause, a concrete state and operands that meet them. -/

theorem witness_StepTakesFront :
    (∃ (c : Instr) (rest : List Instr) (s : State), (s.pending = c :: rest)) :=
  ⟨.rifTrip, [], ({ w with pending := [.rifTrip] }), by decide +kernel⟩

theorem witness_EveryCommandAnswers :
    (∃ (c : Instr) (s : State), (s.smc.inReset = true) ∧ (∀ (h : Bool) (l : Lines), c ≠ Instr.powerOn h l)
      ∧ (∀ (l : Lines), c ≠ Instr.supplyDip l) ∧ (c ≠ Instr.stationClockAdvance)) :=
  ⟨.bQChange, ({ w with smc := { w.smc with inReset := true } }),
    (by and_intros <;> first | decide +kernel | (intros; simp))⟩

theorem witness_IdleStep :
    (∃ (s : State) (m : Instr) (rest : List Instr), (s.pending = []) ∧ (s.smc.inReset = false) ∧ (s.mail =
      m :: rest))
    ∧ (∃ (s : State) (i : Instr) (rest : List Instr), (s.pending = []) ∧ (s.smc.inReset = false) ∧ (s.mail
      = []) ∧ (s.due = i :: rest))
    ∧ (∃ (s : State), (s.pending = []) ∧ (s.smc.inReset = false) ∧ (s.mail = []) ∧ (s.due = []))
    ∧ (∃ (s : State), (s.pending = []) ∧ (s.smc.inReset = true))
    ∧ (∃ (s : State), ((s.ticks + 1) % 10 ≠ 0))
    ∧ (∃ (s : State), ((s.ticks + 1) % 10 = 0) ∧ (s.smc.inReset = false))
    ∧ (∃ (s : State), ((s.ticks + 1) % 10 = 0)) :=
  ⟨⟨({ w with mail := [.bQChange, .rifTrip] }), .bQChange, [.rifTrip], by decide +kernel⟩,
   ⟨({ w with smc := { w.smc with idleTimer := some 0 } }), .idleTimerExpiry, [], by decide +kernel⟩,
   ⟨w, by decide +kernel⟩,
   ⟨({ w with smc := { w.smc with inReset := true } }), by decide +kernel⟩,
   ⟨({ w with ticks := 3, fil := ⟨{ Ctx.start with state := .main, timers := { Ctx.start.timers with fill := some 5, bankWait := some 0 } }, .start, .start, .start⟩ }),
     by decide +kernel⟩,
   ⟨({ w with ticks := 9, fil := ⟨{ Ctx.start with state := .main, timers := { Ctx.start.timers with fill := some 5, bankWait := some 0 } }, .start, .start, .start⟩ }),
     by decide +kernel⟩,
   ⟨({ w with ticks := 9, smc := { w.smc with inReset := true } }), by decide +kernel⟩⟩

theorem witness_DensityLaw :
    (∃ (bq : Nat), (bq ≤ 4000)) :=
  ⟨4000, by decide +kernel⟩

theorem witness_DensityAndInventory :
    (∃ (bq : Nat) (c : Int) (d : Int), (bq ≤ 4000) ∧ (c ≤ d))
    ∧ (∃ (bq : Nat) (v : Nat), (bq ≤ 4000) ∧ (v ≤ 20000))
    ∧ (∃ (bq : Nat), (bq ≤ 4000)) :=
  ⟨⟨4000, (-600), 1000, by decide +kernel⟩,
   ⟨4000, 20000, by decide +kernel⟩,
   ⟨4000, by decide +kernel⟩⟩

theorem witness_BandOfValue :
    (∃ (es : List Int), (List.Pairwise (fun x1 x2 => x1 < x2) es)) :=
  ⟨[10, 20, 30], by decide +kernel⟩

theorem witness_AmountOfMass :
    (∃ (t : TenderIn), (t.kind = TenderKind.fleet))
    ∧ (∃ (p : Pos) (k : TenderCtx) (s : State), (s.bil.get p = some k) ∧ (k.kind = TenderKind.fleet))
    ∧ (∃ (g : Nat) (price : Nat), (g ≤ 200000) ∧ (price ≤ 9999999))
    ∧ (∃ (g : Nat) (h : Nat), (g ≤ h)) :=
  ⟨⟨(⟨3, .p1, .fleet, 1, 5, 0⟩), by decide +kernel⟩,
   ⟨.p1, (⟨7, .fleet, 0, 3, 5, 0, 0, 0, 134900, 3706, 5000, some 900, false⟩),
     ({ w with bil := w.bil.set .p1 (some ⟨7, .fleet, 0, 3, 5, 0, 0, 0, 134900, 3706, 5000, some 900, false⟩) }),
     by decide +kernel⟩,
   ⟨200000, 9999999, by decide +kernel⟩,
   ⟨5123, 5124, by decide +kernel⟩⟩

theorem witness_CapsWithinBounds :
    (∃ (price : Nat), (0 < price)) :=
  ⟨134900, by decide +kernel⟩

theorem witness_FrameRoundTrip :
    (∃ (f : Frame), (f.dest ≤ 255) ∧ (f.source ≤ 255) ∧ (f.kind ≤ 255) ∧ (f.payload.length ≤ 56)) :=
  ⟨(⟨255, 0, 255, List.replicate 56 255#8⟩), by decide +kernel⟩

theorem witness_RowRoundTrip :
    (∃ (r : NodeRow), (inRanges nodeFields [1, (↑r.source : Int), (↑r.channel : Int), (↑r.role.code.1 : Int),
      (↑r.role.code.2.1 : Int), (↑r.role.code.2.2 : Int), r.offset, (↑r.freshness : Int), (↑r.stale.num : Int),
      r.low, r.high, (↑r.limitAction.num : Int), (↑r.edgeSelect.num : Int), (↑r.edgeAction.num : Int)] = true) ∧
      (r.suits = true))
    ∧ (∃ (r : StationRow), (inRanges stationFields [(↑r.supervisor : Int), (↑r.mbFloor : Int), (↑r.mbTolerance
      : Int), (↑r.mbTrip : Int), (↑r.rateCapH35 : Int), (↑r.rateCapH70 : Int), (↑r.idleTime : Int), (↑r.parkTime :
      Int), (↑(flagNat r.bankLowWake) : Int)] = true))
    ∧ (∃ (r : BankRow), (r.configured = true) ∧ (inRanges bankFields [1, (↑r.volume : Int), (↑r.rated : Int),
      (↑r.floor : Int), (↑r.refillStart : Int), (↑r.fillTo : Int)] = true))
    ∧ (∃ (es : List Source), (es.Nodup))
    ∧ (∃ (r : CmpRow), (r.fitted = true) ∧ (r.refillOrder.Nodup) ∧ (inRanges (List.take 8 cmpFields ++
      [{ lo := 1, hi := 1000 }]) [1, (↑r.primeTime : Int), (↑r.minRun : Int), (↑r.minOff : Int), (↑r.startsLimit
      : Int), (↑r.suctionMin : Int), (↑r.hysteresis : Int), (↑r.dischargeMax : Int), (↑r.runSpeed : Int)] = true))
    ∧ (∃ (r : ChillerRow), (inRanges chillerFields [(↑(flagNat r.fitted) : Int), (↑r.capacity : Int),
      (↑r.recovery : Int), (↑r.loss : Int), (↑r.cp : Int), (↑r.bq : Int), (↑r.readyOn : Int), (↑r.readyOff : Int),
      (↑r.stabilise : Int), (↑r.parkDelay : Int), (↑r.settle : Int), (↑r.excursion : Int)] = true))
    ∧ (∃ (t : PrecoolTable), (inRanges categoryFields [t.c40.target, t.c40.bound, (↑t.c40.threshold : Int),
      t.c30.target, t.c30.bound, (↑t.c30.threshold : Int), t.c20.target, t.c20.bound, (↑t.c20.threshold :
      Int)] = true))
    ∧ (∃ (r : PosRow), (inRanges posFields [(↑r.pclass.num : Int), (↑r.required.rank : Int), (↑(categoryNum
      r.fallback) : Int), (↑r.volClass : Int), (↑(flagNat r.vehicleComm) : Int), (↑(flagNat r.autoReRate) : Int),
      (↑r.maxFill : Int), (↑r.pulseWeight : Int), (↑r.maxDelta : Int), (↑(flagNat r.wakeEnable) : Int),
      (↑r.afterRun : Int), (↑r.ventTarget : Int), (↑r.ventLimit : Int)] = true))
    ∧ (∃ (r : BankRow), (r.configured = false))
    ∧ (∃ (r : CmpRow), (r.fitted = false) ∧ (r.refillOrder.length ≤ 4))
    ∧ (∃ (t : FillTable), (t.volEdges.length = 3) ∧ (t.ambEdges.length = 5) ∧ (inRanges edgeFields
      (t.volEdges ++ t.ambEdges ++ t.p0Edges) = true))
    ∧ (∃ (t : FillTable), (inRanges paramFields t.params.ints = true))
    ∧ (∃ (t : FillTable) (n : Nat) (c : List Cell), (n < 96) ∧ (t.cells[n]? = some c) ∧ (inRanges cellFields
      (List.flatMap (fun x => [(↑x.aprr : Int), (↑x.pEnd : Int)]) c) = true))
    ∧ (∃ (t : Tariff), (t.bands.length = 8) ∧ (inRanges tariffFields (List.map Int.ofNat t.bands ++
      [(↑t.rollover : Int), (↑t.minCap : Int)]) = true))
    ∧ (∃ (t : Tariff) (n : Nat) (c : List Nat), (n < 4) ∧ (t.prices[n]? = some c) ∧ (inRanges priceFields
      (List.map Int.ofNat c) = true)) :=
  ⟨⟨(node 239 (.bankPressure .b4)), by decide +kernel⟩,
   ⟨.dflt, by decide +kernel⟩,
   ⟨(⟨true, 20000, 10000, 0, 1, 2⟩), by decide +kernel⟩,
   ⟨[.compressor, .bank .b4], by decide +kernel⟩,
   ⟨(w.cmpRow), by decide +kernel⟩,
   ⟨(.dflt), by decide +kernel⟩,
   ⟨(.dflt), by decide +kernel⟩,
   ⟨(.dflt), by decide +kernel⟩,
   ⟨(⟨false, 1, 2, 3, 4, 5⟩), by decide +kernel⟩,
   ⟨(⟨false, 1, 2, 3, 4, 5, 6, 7, [.b1, .b1, .b2, .b4], 9⟩), by decide +kernel⟩,
   ⟨fillTable, by decide +kernel⟩,
   ⟨fillTable, by decide +kernel⟩,
   ⟨fillTable, 95, (List.replicate 5 ⟨2850, 7700⟩), by decide +kernel⟩,
   ⟨(.dflt), by decide +kernel⟩,
   ⟨tables.tariff.active, 3, (List.replicate 8 134900), by decide +kernel⟩⟩

theorem witness_FrameArrival :
    (∃ (bs : List Byte) (s : State), (s.smc.inReset = false) ∧ (parseFrame bs = none))
    ∧ (∃ (bs : List Byte) (s : State) (f : Frame), (s.smc.inReset = false) ∧ (parseFrame bs = some f) ∧
      (f.source = s.rif.ownAddress))
    ∧ (∃ (bs : List Byte) (s : State) (f : Frame), (s.smc.inReset = false) ∧ (parseFrame bs = some f) ∧
      (f.source ≠ s.rif.ownAddress) ∧ (f.dest = s.rif.ownAddress ∨ f.kind ≠ 5) ∧ (formatOk f = false))
    ∧ (∃ (bs : List Byte) (s : State) (f : Frame) (r : Role) (i : Instr), (s.smc.inReset = false) ∧
      (parseFrame bs = some f) ∧ (f.source ≠ s.rif.ownAddress) ∧ (f.kind = 1 ∨ f.kind = 2 ∨ f.kind = 3) ∧
      (formatOk f = true) ∧ (s.observedRole f.source (param f.payload 0 1) = some r) ∧ (observedCommand r
      f = some i))
    ∧ (∃ (bs : List Byte) (s : State) (f : Frame), (s.smc.inReset = false) ∧ (parseFrame bs = some f) ∧
      (f.source ≠ s.rif.ownAddress) ∧ (formatOk f = true) ∧ (f.kind = 0 ∨ 7 ≤ f.kind))
    ∧ (∃ (bs : List Byte) (s : State) (f : Frame), (s.smc.inReset = false) ∧ (parseFrame bs = some f) ∧
      (f.source ≠ s.rif.ownAddress) ∧ (f.dest = s.rif.ownAddress ∨ f.dest = 255) ∧ (f.kind = 4) ∧
      (formatOk f = true))
    ∧ (∃ (bs : List Byte) (s : State) (f : Frame), (s.smc.inReset = false) ∧ (parseFrame bs = some f) ∧
      (f.source ≠ s.rif.ownAddress) ∧ (f.kind = 1 ∨ f.kind = 2 ∨ f.kind = 3) ∧ (formatOk f = true) ∧
      (s.observedRole f.source (param f.payload 0 1) = none))
    ∧ (∃ (bs : List Byte) (s : State) (f : Frame), (s.smc.inReset = false) ∧ (parseFrame bs = some f) ∧
      (f.source ≠ s.rif.ownAddress) ∧ (f.dest ≠ s.rif.ownAddress) ∧ (f.dest ≠ 255) ∧ (formatOk f = true) ∧
      (f.kind = 4 ∨ f.kind = 6))
    ∧ (∃ (bs : List Byte) (s : State) (f : Frame), (s.smc.inReset = false) ∧ (parseFrame bs = some f) ∧
      (f.source ≠ s.rif.ownAddress) ∧ (f.dest = s.rif.ownAddress) ∧ (f.kind = 5) ∧ (formatOk f = true))
    ∧ (∃ (bs : List Byte) (f : Frame) (s : State), (s.smc.inReset = false) ∧ (parseFrame bs = some f) ∧
      (f.source ≠ s.rif.ownAddress) ∧ (f.dest ≠ s.rif.ownAddress) ∧ (f.kind = 5) ∧ ((s.latched ||
      s.rif.tripTaken) = true) ∧ (formatOk f = false))
    ∧ (∃ (bs : List Byte) (f : Frame) (s : State), (s.smc.inReset = false) ∧ (parseFrame bs = some f) ∧
      (f.source ≠ s.rif.ownAddress) ∧ (f.dest ≠ s.rif.ownAddress) ∧ (f.kind = 5) ∧ ((s.latched ||
      s.rif.tripTaken) = true) ∧ (formatOk f = true) ∧ (param f.payload 1 1 ≠ 0) ∧ (param f.payload 1 1 =
      2 → 0 < param f.payload 2 2))
    ∧ (∃ (bs : List Byte) (f : Frame) (s : State), (s.smc.inReset = false) ∧ (parseFrame bs = some f) ∧
      (f.source ≠ s.rif.ownAddress) ∧ (f.dest ≠ s.rif.ownAddress) ∧ (f.kind = 5) ∧ ((s.latched ||
      s.rif.tripTaken) = true) ∧ (formatOk f = true) ∧ (param f.payload 1 1 = 0 ∨ param f.payload 1 1 = 2
      ∧ param f.payload 2 2 = 0))
    ∧ (∃ (bs : List Byte) (f : Frame) (s : State), (s.smc.inReset = false) ∧ (parseFrame bs = some f) ∧
      (f.source ≠ s.rif.ownAddress) ∧ (f.dest ≠ s.rif.ownAddress) ∧ (f.kind = 5) ∧ ((s.latched ||
      s.rif.tripTaken) = false) ∧ (formatOk f = true) ∧ ((s.actuatorRowOf f.dest (param f.payload 0
      1)).isSome = true))
    ∧ (∃ (bs : List Byte) (f : Frame) (s : State), (s.smc.inReset = false) ∧ (parseFrame bs = some f) ∧
      (f.source ≠ s.rif.ownAddress) ∧ (f.dest ≠ s.rif.ownAddress) ∧ (f.kind = 5) ∧ ((s.latched ||
      s.rif.tripTaken) = false) ∧ (formatOk f = true) ∧ (s.actuatorRowOf f.dest (param f.payload 0 1) =
      none))
    ∧ (∃ (bs : List Byte) (f : Frame) (s : State), (s.smc.inReset = false) ∧ (parseFrame bs = some f) ∧
      (f.source ≠ s.rif.ownAddress) ∧ (f.dest ≠ s.rif.ownAddress) ∧ (f.kind = 5) ∧ ((s.latched ||
      s.rif.tripTaken) = false) ∧ (formatOk f = false)) :=
  ⟨⟨[1#8, 2#8, 3#8], w, by decide +kernel⟩,
   ⟨(fr 255 240 8 [1, 2]), w, (fp 255 240 8 [1, 2]), by decide +kernel⟩,
   ⟨(fr 255 12 1 [1, 2]), w, (fp 255 12 1 [1, 2]), by decide +kernel⟩,
   ⟨(fr 240 10 1 [0, 0, 0, 0, 0, 7]), w, (fp 240 10 1 [0, 0, 0, 0, 0, 7]), (.nozzlePressure .p1),
     (.sampleAnalogue (.nozzlePressure .p1) 0 7), by decide +kernel⟩,
   ⟨(fr 9 10 0 [0, 0, 0, 0, 0, 7]), w, (fp 9 10 0 [0, 0, 0, 0, 0, 7]), by decide +kernel⟩,
   ⟨(fr 240 16 4 [1, 0, 0, 0, 0, 9, 0, 0, 0, 0, 19, 136]), w, (fp 240 16 4 [1, 0, 0, 0, 0, 9, 0, 0, 0, 0,
     19, 136]), by decide +kernel⟩,
   ⟨(fr 255 99 1 [0, 0, 0, 0, 0, 7]), w, (fp 255 99 1 [0, 0, 0, 0, 0, 7]), by decide +kernel⟩,
   ⟨(fr 9 16 4 [1, 0, 0, 0, 0, 9, 0, 0, 0, 0, 19, 136]), w, (fp 9 16 4 [1, 0, 0, 0, 0, 9, 0, 0, 0, 0, 19,
     136]), by decide +kernel⟩,
   ⟨(fr 240 2 5 [0, 1, 0, 0]), w, (fp 240 2 5 [0, 1, 0, 0]), by decide +kernel⟩,
   ⟨(fr 17 2 5 [0, 1]), (fp 17 2 5 [0, 1]), (tripped w), by decide +kernel⟩,
   ⟨(fr 17 2 5 [0, 1, 0, 0]), (fp 17 2 5 [0, 1, 0, 0]), (tripped w), by decide +kernel⟩,
   ⟨(fr 7 2 5 [0, 2, 0, 0]), (fp 7 2 5 [0, 2, 0, 0]), (tripped w), by decide +kernel⟩,
   ⟨(fr 17 2 5 [0, 0, 0, 7]), (fp 17 2 5 [0, 0, 0, 7]), w, by decide +kernel⟩,
   ⟨(fr 17 2 5 [1, 1, 0, 7]), (fp 17 2 5 [1, 1, 0, 7]), w, by decide +kernel⟩,
   ⟨(fr 17 2 5 [1, 1]), (fp 17 2 5 [1, 1]), w, by decide +kernel⟩⟩

theorem witness_RequestTaken :
    (∃ (bs : List Byte) (f : Frame) (s : State), (s.smc.inReset = false) ∧ (parseFrame bs = some f) ∧
      (f.source ≠ s.rif.ownAddress) ∧ (f.dest = s.rif.ownAddress ∨ f.dest = 255) ∧ (f.kind = 6) ∧
      (formatOk f = true) ∧ (¬s.rif.replies.length + s.rif.reserved < 8))
    ∧ (∃ (bs : List Byte) (f : Frame) (s : State), (s.smc.inReset = false) ∧ (parseFrame bs = some f) ∧
      (f.source ≠ s.rif.ownAddress) ∧ (f.dest = s.rif.ownAddress ∨ f.dest = 255) ∧ (f.kind = 6) ∧
      (formatOk f = true) ∧ (s.rif.replies.length + s.rif.reserved < 8) ∧ (knownRequest (param f.payload 0
      1) = false))
    ∧ (∃ (bs : List Byte) (f : Frame) (s : State), (s.smc.inReset = false) ∧ (parseFrame bs = some f) ∧
      (f.source ≠ s.rif.ownAddress) ∧ (f.dest = s.rif.ownAddress ∨ f.dest = 255) ∧ (f.kind = 6) ∧
      (formatOk f = true) ∧ (s.rif.replies.length + s.rif.reserved < 8) ∧ (knownRequest (param f.payload 0
      1) = true) ∧ (¬(s.tables.station.gen = 0 ∨ f.source = s.stationRow.supervisor ∨ param f.payload 0 1
      = 1 ∨ param f.payload 0 1 = 2)))
    ∧ (∃ (bs : List Byte) (f : Frame) (s : State), (s.smc.inReset = false) ∧ (parseFrame bs = some f) ∧
      (f.source ≠ s.rif.ownAddress) ∧ (f.dest = s.rif.ownAddress ∨ f.dest = 255) ∧ (f.kind = 6) ∧
      (formatOk f = true) ∧ (s.rif.replies.length + s.rif.reserved < 8) ∧ (knownRequest (param f.payload 0
      1) = true) ∧ (s.tables.station.gen = 0 ∨ f.source = s.stationRow.supervisor ∨ param f.payload 0 1 =
      1 ∨ param f.payload 0 1 = 2) ∧ (requestCommand (param f.payload 0 1)
      { src := f.source, tag := param f.payload 1 1 } (List.drop 2 f.payload) = none))
    ∧ (∃ (bs : List Byte) (f : Frame) (s : State) (i : Instr), (s.smc.inReset = false) ∧ (parseFrame bs =
      some f) ∧ (f.source ≠ s.rif.ownAddress) ∧ (f.dest = s.rif.ownAddress ∨ f.dest = 255) ∧ (f.kind = 6)
      ∧ (formatOk f = true) ∧ (s.rif.replies.length + s.rif.reserved < 8) ∧ (knownRequest (param f.payload
      0 1) = true) ∧ (s.tables.station.gen = 0 ∨ f.source = s.stationRow.supervisor ∨ param f.payload 0 1
      = 1 ∨ param f.payload 0 1 = 2) ∧ (requestCommand (param f.payload 0 1)
      { src := f.source, tag := param f.payload 1 1 } (List.drop 2 f.payload) = some i)) :=
  ⟨⟨(fr 240 1 6 [17, 5]), (fp 240 1 6 [17, 5]), ({ w with rif := { w.rif with reserved := 8 } }), by
     decide +kernel⟩,
   ⟨(fr 240 1 6 [21, 5]), (fp 240 1 6 [21, 5]), ({ w with rif := { w.rif with reserved := 7 } }), by
     decide +kernel⟩,
   ⟨(fr 240 2 6 [17, 5]), (fp 240 2 6 [17, 5]), w, by decide +kernel⟩,
   ⟨(fr 240 1 6 [20, 5, 0, 0, 1]), (fp 240 1 6 [20, 5, 0, 0, 1]), w, by decide +kernel⟩,
   ⟨(fr 240 1 6 [20, 5, 0, 0, 1, 0]), (fp 240 1 6 [20, 5, 0, 0, 1, 0]), w, (.timeSet ⟨1, 5⟩ 256), by
     decide +kernel⟩⟩

theorem witness_RingOutSends :
    (∃ (f : OutFrame) (s : State) (e : CmdEntry) (es : List CmdEntry) (n : Nat) (x : NodeRow),
      (s.smc.inReset = false) ∧ (s.rif.ringOut = some f) ∧ (f.restart = false) ∧ (s.rif.commands = e ::
      es) ∧ (s.rowOf e.role = some (n, x)))
    ∧ (∃ (f : OutFrame) (s : State) (e : CmdEntry) (es : List CmdEntry), (s.smc.inReset = false) ∧
      (s.rif.ringOut = some f) ∧ (f.restart = false) ∧ (s.rif.commands = e :: es) ∧ (s.rowOf e.role =
      none))
    ∧ (∃ (f : OutFrame) (s : State) (t : List Byte) (ts : List (List Byte)) (g : Frame), (s.smc.inReset =
      false) ∧ (s.rif.ringOut = some f) ∧ (f.restart = false) ∧ (s.rif.commands = []) ∧ (s.rif.transit = t
      :: ts) ∧ (s.transitRefused t = some g) ∧ (formatOk g = true) ∧ (s.rif.runCount ≠ 8 ∨ s.rif.replies =
      [] ∧ s.rif.notices = []))
    ∧ (∃ (f : OutFrame) (s : State) (t : List Byte) (ts : List (List Byte)), (s.smc.inReset = false) ∧
      (s.rif.ringOut = some f) ∧ (f.restart = false) ∧ (s.rif.commands = []) ∧ (s.rif.transit = t :: ts) ∧
      (s.transitRefused t = none) ∧ (s.rif.runCount ≠ 8 ∨ s.rif.replies = [] ∧ s.rif.notices = []))
    ∧ (∃ (f : OutFrame) (s : State) (y : Reply) (ys : List Reply), (s.smc.inReset = false) ∧
      (s.rif.ringOut = some f) ∧ (f.restart = false) ∧ (s.rif.commands = []) ∧ (s.rif.transit = [] ∨
      s.rif.runCount = 8) ∧ (s.rif.replies = y :: ys))
    ∧ (∃ (f : OutFrame) (s : State) (n : Notice) (ns : List Notice), (s.smc.inReset = false) ∧
      (s.rif.ringOut = some f) ∧ (f.restart = false) ∧ (s.rif.commands = []) ∧ (s.rif.transit = [] ∨
      s.rif.runCount = 8) ∧ (s.rif.replies = []) ∧ (s.rif.notices = n :: ns))
    ∧ (∃ (f : OutFrame) (s : State), (s.smc.inReset = false) ∧ (s.rif.ringOut = some f) ∧ (f.restart =
      false) ∧ (s.rif.commands = []) ∧ (s.rif.transit = []) ∧ (s.rif.replies = []) ∧ (s.rif.notices = []))
    ∧ (∃ (f : OutFrame) (s : State), (s.smc.inReset = false) ∧ (s.rif.ringOut = some f) ∧ (f.restart =
      true)) :=
  ⟨⟨⟨[], false⟩,
     ({ w with rif := { w.rif with commands := [⟨.dispenseValve .p1, .set, 300⟩, ⟨.ventValve .p1, .close, 0⟩], transit := [[1#8]] } }),
     (⟨.dispenseValve .p1, .set, 300⟩), [⟨.ventValve .p1, .close, 0⟩], 7, (node 17 (.dispenseValve .p1)),
     by decide +kernel⟩,
   ⟨⟨[], false⟩,
     ({ w with rif := { w.rif with commands := [⟨.dispenseValve .p3, .close, 0⟩, ⟨.ventValve .p1, .close, 0⟩], transit := [[1#8]] } }),
     (⟨.dispenseValve .p3, .close, 0⟩), [⟨.ventValve .p1, .close, 0⟩], by decide +kernel⟩,
   ⟨⟨[], false⟩, (tripped
     { w with rif := { w.rif with transit := [fr 17 2 5 [0, 1, 0, 0], [2#8]], runCount := 7, notices := [⟨1, 2, 3, []⟩] } }),
     (fr 17 2 5 [0, 1, 0, 0]), [[2#8]], (fp 17 2 5 [0, 1, 0, 0]), by decide +kernel⟩,
   ⟨⟨[], false⟩,
     ({ w with rif := { w.rif with transit := [[1#8], [2#8]], runCount := 7, notices := [⟨1, 2, 3, []⟩] } }),
     [1#8], [[2#8]], by decide +kernel⟩,
   ⟨⟨[], false⟩,
     ({ w with rif := { w.rif with transit := [[1#8], [2#8]], runCount := 8, replies := [⟨1, 2, 3, 0, [], true⟩], notices := [⟨1, 2, 3, []⟩] } }),
     (⟨1, 2, 3, 0, [], true⟩), [], by decide +kernel⟩,
   ⟨⟨[], false⟩,
     ({ w with rif := { w.rif with transit := [[1#8], [2#8]], runCount := 8, notices := [⟨1, 2, 3, []⟩] } }),
     (⟨1, 2, 3, []⟩), [], by decide +kernel⟩,
   ⟨⟨[], false⟩, w, by decide +kernel⟩,
   ⟨⟨[], true⟩,
     ({ w with rif := { w.rif with ringOut := some ⟨[], true⟩, commands := [⟨.dispenseValve .p1, .set, 300⟩] }, mail := [.bQChange] }),
     by decide +kernel⟩⟩

theorem witness_RingQueues :
    (∃ (q : List CmdEntry), ((List.map CmdEntry.role q).Nodup))
    ∧ (∃ (e : CmdEntry) (q : List CmdEntry), ((List.map CmdEntry.role q).Nodup) ∧ (∀ x ∈ q, x.role ≠
      e.role))
    ∧ (∃ (e : CmdEntry) (q : List CmdEntry) (x : CmdEntry), ((List.map CmdEntry.role q).Nodup) ∧ (x ∈ q) ∧
      (x.role = e.role) ∧ (e.opens = true) ∧ (x.command = ActCommand.close))
    ∧ (∃ (e : CmdEntry) (q : List CmdEntry) (x : CmdEntry), ((List.map CmdEntry.role q).Nodup) ∧ (x ∈ q) ∧
      (x.role = e.role) ∧ (e.opens = false ∨ x.command ≠ ActCommand.close))
    ∧ (∃ (e : CmdEntry) (q : List CmdEntry), ((List.map CmdEntry.role q).Nodup) ∧ (e.opens = true))
    ∧ (∃ (r : Rif), (r.notices.length < 16))
    ∧ (∃ (r : Rif), (16 ≤ r.notices.length))
    ∧ (∃ (r : Rif), (0 < r.reserved))
    ∧ (∃ (s : State), (s.rif.ringOut ≠ none) ∧ (s.rif.transit.length < 8))
    ∧ (∃ (s : State), (8 ≤ s.rif.transit.length))
    ∧ (∃ (s : State), (s.rif.ringOut ≠ none))
    ∧ (∃ (s : State), (s.smc.inReset = false)) :=
  ⟨⟨[⟨.ventValve .p1, .close, 0⟩, ⟨.dispenseValve .p1, .close, 0⟩], by decide +kernel⟩,
   ⟨(⟨.chillerDrive, .open, 1000⟩), [⟨.ventValve .p1, .close, 0⟩, ⟨.dispenseValve .p1, .close, 0⟩], by
     decide +kernel⟩,
   ⟨(⟨.ventValve .p1, .open, 1000⟩), [⟨.ventValve .p1, .close, 0⟩, ⟨.dispenseValve .p1, .close, 0⟩],
     ⟨.ventValve .p1, .close, 0⟩, by decide +kernel⟩,
   ⟨(⟨.ventValve .p1, .set, 1⟩), [⟨.ventValve .p1, .open, 1000⟩, ⟨.dispenseValve .p1, .close, 0⟩],
     ⟨.ventValve .p1, .open, 1000⟩, by decide +kernel⟩,
   ⟨(⟨.ventValve .p1, .set, 1⟩), [], by decide +kernel⟩,
   ⟨({ w.rif with notices := List.replicate 15 ⟨1, 2, 3, []⟩ }), by decide +kernel⟩,
   ⟨({ w.rif with notices := List.replicate 16 ⟨1, 2, 4, []⟩ }), by decide +kernel⟩,
   ⟨({ w.rif with reserved := 1 }), by decide +kernel⟩,
   ⟨({ w with rif := { w.rif with transit := List.replicate 7 [] } }), by decide +kernel⟩,
   ⟨({ w with rif := { w.rif with transit := List.replicate 8 [] } }), by decide +kernel⟩,
   ⟨w, by decide +kernel⟩,
   ⟨({ w with rif := { w.rif with commands := [⟨.dispenseValve .p1, .set, 300⟩, ⟨.ventValve .p1, .set, 0⟩] } }),
     by decide +kernel⟩⟩

theorem witness_AnalogueSample :
    (∃ (r : Role) (code : Nat) (v : Int) (row : Nat) (x : NodeRow) (s : State), (s.smc.inReset = false) ∧
      (r.kind = RoleKind.analogue) ∧ (s.rowOf r = some (row, x)) ∧ (code ≤ 1) ∧ (x.limitAction =
      LimitAction.none ∨ (if x.high < max r.range.1 (min r.range.2 (v + x.offset)) then Region.high else
      if max r.range.1 (min r.range.2 (v + x.offset)) < x.low then Region.low else Region.inside) =
      (s.record r).region))
    ∧ (∃ (r : Role) (code : Nat) (v : Int) (row : Nat) (x : NodeRow) (s : State), (s.smc.inReset = false) ∧
      (r.kind = RoleKind.analogue) ∧ (s.rowOf r = some (row, x)) ∧ (code ≤ 1) ∧ (x.limitAction ≠
      LimitAction.none) ∧ ((if x.high < max r.range.1 (min r.range.2 (v + x.offset)) then Region.high else
      if max r.range.1 (min r.range.2 (v + x.offset)) < x.low then Region.low else Region.inside) ≠
      (s.record r).region) ∧ ((if x.high < max r.range.1 (min r.range.2 (v + x.offset)) then Region.high
      else if max r.range.1 (min r.range.2 (v + x.offset)) < x.low then Region.low else Region.inside) ≠
      Region.inside))
    ∧ (∃ (r : Role) (code : Nat) (v : Int) (row : Nat) (x : NodeRow) (s : State), (s.smc.inReset = false) ∧
      (r.kind = RoleKind.analogue) ∧ (s.rowOf r = some (row, x)) ∧ (code ≤ 1) ∧ (x.limitAction ≠
      LimitAction.none) ∧ ((if x.high < max r.range.1 (min r.range.2 (v + x.offset)) then Region.high else
      if max r.range.1 (min r.range.2 (v + x.offset)) < x.low then Region.low else Region.inside) ≠
      (s.record r).region) ∧ ((if x.high < max r.range.1 (min r.range.2 (v + x.offset)) then Region.high
      else if max r.range.1 (min r.range.2 (v + x.offset)) < x.low then Region.low else Region.inside) =
      Region.inside)) :=
  ⟨⟨(.nozzlePressure .p1), 0, 10001, 0, (node 10 (.nozzlePressure .p1)), w, by decide +kernel⟩,
   ⟨(.nozzlePressure .p1), 1, 701, 0,
     ({ node 10 (.nozzlePressure .p1) with high := 700, limitAction := .trip }),
     ({ w with tables := { w.tables with nodeMap := { w.tables.nodeMap with active := w.tables.nodeMap.active.set 0 (some { node 10 (.nozzlePressure .p1) with high := 700, limitAction := .trip }) } } }),
     by decide +kernel⟩,
   ⟨(.nozzlePressure .p1), 0, 700, 0,
     ({ node 10 (.nozzlePressure .p1) with high := 700, limitAction := .note }), (rec (.nozzlePressure
     .p1) (fun x => { x with region := .high })
     { w with tables := { w.tables with nodeMap := { w.tables.nodeMap with active := w.tables.nodeMap.active.set 0 (some { node 10 (.nozzlePressure .p1) with high := 700, limitAction := .note }) } } }),
     by decide +kernel⟩⟩

theorem witness_DigitalCountAndVehicle :
    (∃ (r : Role) (code : Nat) (v : Int) (row : Nat) (x : NodeRow) (s : State), (s.smc.inReset = false) ∧
      (r.kind = RoleKind.digital) ∧ (s.rowOf r = some (row, x)) ∧ (code ≤ 1) ∧ ((s.record r).level = (v !=
      0)))
    ∧ (∃ (r : Role) (code : Nat) (v : Int) (row : Nat) (x : NodeRow) (s : State), (s.smc.inReset = false) ∧
      (r.kind = RoleKind.digital) ∧ (s.rowOf r = some (row, x)) ∧ (code ≤ 1) ∧ ((s.record r).level ≠ (v !=
      0)) ∧ (x.edgeSelect.selects (v != 0) = false))
    ∧ (∃ (r : Role) (code : Nat) (v : Int) (row : Nat) (x : NodeRow) (s : State), (s.smc.inReset = false) ∧
      (r.kind = RoleKind.digital) ∧ (s.rowOf r = some (row, x)) ∧ (code ≤ 1) ∧ ((s.record r).level ≠ (v !=
      0)) ∧ (x.edgeSelect.selects (v != 0) = true))
    ∧ (∃ (p : Pos) (code : Nat) (row : Nat) (x : NodeRow) (s : State), (s.smc.inReset = false) ∧ (s.rowOf
      (Role.meter p) = some (row, x)) ∧ (code ≤ 1))
    ∧ (∃ (p : Pos) (row : Nat) (x : NodeRow) (s : State), (s.smc.inReset = false) ∧ (s.rowOf (Role.vehicle
      p) = some (row, x))) :=
  ⟨⟨(.compressorRunning), 0, 0, 20, (node 30 .compressorRunning), w, by decide +kernel⟩,
   ⟨(.compressorRunning), 1, (-3), 20, (node 30 .compressorRunning), w, by decide +kernel⟩,
   ⟨(.gasDetect), 1, (-3), 25, ({ node 35 .gasDetect with edgeSelect := .rise, edgeAction := .trip }),
     ({ w with tables := { w.tables with nodeMap := { w.tables.nodeMap with active := w.tables.nodeMap.active.set 25 (some { node 35 .gasDetect with edgeSelect := .rise, edgeAction := .trip }) } } }),
     by decide +kernel⟩,
   ⟨.p1, 1, 2, (node 12 (.meter .p1)), w, by decide +kernel⟩,
   ⟨.p1, 5, (node 15 (.vehicle .p1)), w, by decide +kernel⟩⟩

theorem witness_SignalLost :
    (∃ (r : Role) (row : Nat) (x : NodeRow) (s : State) (code : Nat), (s.smc.inReset = false) ∧ (s.rowOf r =
      some (row, x)) ∧ (r.kind = RoleKind.analogue) ∧ (2 ≤ code) ∧ ((s.record r).quality = Quality.absent
      ∨ (s.record r).quality = Quality.good ∨ (s.record r).quality = Quality.uncertain))
    ∧ (∃ (r : Role) (row : Nat) (x : NodeRow) (s : State) (code : Nat), (s.smc.inReset = false) ∧ (s.rowOf r =
      some (row, x)) ∧ (r.kind = RoleKind.analogue) ∧ (2 ≤ code) ∧ ((s.record r).quality = Quality.bad))
    ∧ (∃ (r : Role) (row : Nat) (x : NodeRow) (s : State) (code : Nat), (s.smc.inReset = false) ∧ (s.rowOf r =
      some (row, x)) ∧ (r.kind = RoleKind.analogue) ∧ (2 ≤ code) ∧ ((s.record r).quality = Quality.stale))
    ∧ (∃ (r : Role) (row : Nat) (x : NodeRow) (s : State) (code : Nat), (s.smc.inReset = false) ∧ (s.rowOf r =
      some (row, x)) ∧ (r.kind = RoleKind.digital) ∧ (2 ≤ code) ∧ ((s.record r).quality = Quality.absent ∨
      (s.record r).quality = Quality.good ∨ (s.record r).quality = Quality.uncertain))
    ∧ (∃ (r : Role) (row : Nat) (x : NodeRow) (s : State) (p : Pos) (code : Nat), (s.smc.inReset = false) ∧
      (s.rowOf r = some (row, x)) ∧ (r = Role.meter p) ∧ (2 ≤ code) ∧ ((s.record r).quality =
      Quality.absent ∨ (s.record r).quality = Quality.good ∨ (s.record r).quality = Quality.uncertain))
    ∧ (∃ (r : Role) (row : Nat) (x : NodeRow) (s : State) (n : Nat), (s.smc.inReset = false) ∧ (s.rowOf r =
      some (row, x)) ∧ ((s.record r).timer = some n) ∧ ((s.record r).quality = Quality.absent ∨ (s.record
      r).quality = Quality.good ∨ (s.record r).quality = Quality.uncertain))
    ∧ (∃ (r : Role) (row : Nat) (x : NodeRow) (s : State), (s.smc.inReset = false) ∧ (s.rowOf r = some (row,
      x)) ∧ ((s.record r).timer = none))
    ∧ (∃ (y : NodeRow), (y.stale = StaleAction.trip) ∧ (y.role ≠ Role.ambientTemp))
    ∧ (∃ (y : NodeRow), (y.edgeAction = EdgeAction.trip) ∧ (y.role = Role.gasDetect)) :=
  ⟨⟨(.nozzlePressure .p1), 0, (node 10 (.nozzlePressure .p1)), w, 2, by decide +kernel⟩,
   ⟨(.nozzlePressure .p1), 0, (node 10 (.nozzlePressure .p1)), (rec (.nozzlePressure .p1) (fun x =>
     { x with quality := .bad }) w), 2, by decide +kernel⟩,
   ⟨(.nozzlePressure .p1), 0, (node 10 (.nozzlePressure .p1)), (rec (.nozzlePressure .p1) (fun x =>
     { x with quality := .stale, timer := none }) w), 2, by decide +kernel⟩,
   ⟨.gasDetect, 25, (node 35 .gasDetect), w, 2, by decide +kernel⟩,
   ⟨(.meter .p1), 2, (node 12 (.meter .p1)), w, .p1, 2, by decide +kernel⟩,
   ⟨.gasDetect, 25, ({ node 35 .gasDetect with stale := .trip }),
     ({ w with tables := { w.tables with nodeMap := { w.tables.nodeMap with active := w.tables.nodeMap.active.set 25 (some { node 35 .gasDetect with stale := .trip }) } } }),
     50, by decide +kernel⟩,
   ⟨.gasDetect, 25, (node 35 .gasDetect), (rec .gasDetect (fun x =>
     { x with quality := .stale, timer := none }) w), by decide +kernel⟩,
   ⟨({ node 1 .gasDetect with stale := .trip }), by decide +kernel⟩,
   ⟨({ node 1 .gasDetect with edgeAction := .trip }), by decide +kernel⟩⟩

theorem witness_PositionClaim :
    (∃ (s : State), (s.smc.inReset = false) ∧ (s.latched = true))
    ∧ (∃ (p : Pos) (b : Bank) (s : State) (c : Bank), (s.smc.inReset = false) ∧ (s.heldBank p = some c) ∧
      (c ≠ b))
    ∧ (∃ (p : Pos) (b : Bank) (s : State), (s.smc.inReset = false) ∧ ((s.bank b).state =
      BankState.isolated ∨ (s.bank b).state = BankState.unconfigured ∨ (s.bank b).state =
      BankState.claimedPos p))
    ∧ (∃ (p : Pos) (b : Bank) (s : State), (s.smc.inReset = false) ∧ (s.latched = false) ∧ (s.heldBank p =
      none) ∧ ((s.bank b).state = BankState.available))
    ∧ (∃ (p : Pos) (b : Bank) (s : State) (y : Session), (s.smc.inReset = false) ∧ (s.latched = false) ∧
      (s.heldBank p = none) ∧ ((s.bank b).state = BankState.claimedCmp) ∧ ((s.bank b).session = some y) ∧
      (y.holder = Holder.compressor))
    ∧ (∃ (p : Pos) (b : Bank) (s : State) (q : Pos), (s.smc.inReset = false) ∧ (s.latched = false) ∧
      (s.heldBank p = none) ∧ ((s.bank b).state = BankState.claimedPos q) ∧ (q ≠ p) ∧ (¬(s.bank
      b).waiters.contains p = true))
    ∧ (∃ (p : Pos) (b : Bank) (s : State) (q : Pos), (s.smc.inReset = false) ∧ (s.latched = false) ∧
      (s.heldBank p = none) ∧ ((s.bank b).state = BankState.claimedPos q) ∧ (q ≠ p) ∧ ((s.bank
      b).waiters.contains p = true))
    ∧ (∃ (p : Pos) (s : State), (s.smc.inReset = false) ∧ (s.onBankList p = true))
    ∧ (∃ (p : Pos) (s : State), (s.smc.inReset = false) ∧ (s.onBankList p = false))
    ∧ (∃ (p : Pos) (mg : Nat) (s : State) (b : Bank) (x : Session), (s.smc.inReset = false) ∧ ((s.bank
      b).session = some x) ∧ (x.holder = Holder.pos p) ∧ (x.metered + mg < 2 ^ 32))
    ∧ (∃ (s : State) (a : Attribution), (s.smc.inReset = false) ∧ (∀ (b : Bank), a ≠ Attribution.session
      b))
    ∧ (∃ (s : State) (b : Bank), (s.smc.inReset = false) ∧ ((s.bank b).session = none))
    ∧ (∃ (p : Pos) (s : State) (b : Bank) (x : Session), (s.smc.inReset = false) ∧ ((s.bank b).session =
      some x) ∧ (x.holder ≠ Holder.pos p)) :=
  ⟨⟨(tripped w), by decide +kernel⟩,
   ⟨.p1, .b1, (held .b2 (.pos .p1) true w), .b2, by decide +kernel⟩,
   ⟨.p1, .b1, (held .b1 (.pos .p1) true w), by decide +kernel⟩,
   ⟨.p1, .b1, (wait .b2 [.p2, .p1] (inv .b1 75000 w)), by decide +kernel⟩,
   ⟨.p1, .b1, (wait .b2 [.p2, .p1] (inv .b1 75000 (held .b1 .compressor true w))), (ses .compressor true),
     by decide +kernel⟩,
   ⟨.p1, .b1, (wait .b2 [.p2, .p1] (wait .b1 [.p3] (held .b1 (.pos .p2) true w))), .p2, by decide +kernel⟩,
   ⟨.p1, .b1, (wait .b1 [.p3, .p1] (held .b1 (.pos .p2) true w)), .p2, by decide +kernel⟩,
   ⟨.p1, (wait .b2 [.p2, .p1] w), by decide +kernel⟩,
   ⟨.p1, (held .b1 (.pos .p1) true w), by decide +kernel⟩,
   ⟨.p1, 4289967295, (held .b1 (.pos .p1) true w), .b1, (ses (.pos .p1) true), by decide +kernel⟩,
   ⟨(held .b1 (.pos .p1) true w), .compressor,
     (by and_intros <;> first | decide +kernel | (intros; simp))⟩,
   ⟨(held .b1 (.pos .p1) true w), .b2, by decide +kernel⟩,
   ⟨.p1, (held .b1 .compressor true w), .b1, (ses .compressor true), by decide +kernel⟩⟩

theorem witness_CompressorClaim :
    (∃ (b : Bank) (s : State), (s.smc.inReset = false) ∧ ((s.bank b).state = BankState.available) ∧
      (s.latched = false))
    ∧ (∃ (b : Bank) (s : State), (s.smc.inReset = false) ∧ ((s.bank b).state ≠ BankState.available ∨
      s.latched = true)) :=
  ⟨⟨.b1, (inv .b1 75000 w), by decide +kernel⟩,
   ⟨.b1, (tripped w), by decide +kernel⟩⟩

theorem witness_BankRelease :
    (∃ (b : Bank) (s : State) (h : Holder), (s.smc.inReset = false) ∧ ((s.bank b).state ≠
      BankState.ofHolder h))
    ∧ (∃ (p : Pos) (b : Bank) (s : State) (x : Session), (s.smc.inReset = false) ∧ ((s.bank b).state =
      BankState.claimedPos p) ∧ ((s.bank b).session = some x) ∧ (x.holder = Holder.pos p) ∧ (x.openValid =
      false ∨ (s.bank b).invValid = false))
    ∧ (∃ (p : Pos) (b : Bank) (s : State) (x : Session), (s.smc.inReset = false) ∧ ((s.bank b).state =
      BankState.claimedPos p) ∧ ((s.bank b).session = some x) ∧ (x.holder = Holder.pos p) ∧ (x.openValid =
      true) ∧ ((s.bank b).invValid = true) ∧ (-(↑(max s.stationRow.mbFloor (x.metered / 1000 *
      s.stationRow.mbTolerance / 1000)) : Int) ≤ (↑x.invOpen : Int) - (↑(s.bank b).inventory : Int) -
      (↑(x.metered / 1000) : Int)) ∧ ((↑x.invOpen : Int) - (↑(s.bank b).inventory : Int) - (↑(x.metered / 1000)
      : Int) ≤ (↑(max s.stationRow.mbFloor (x.metered / 1000 * s.stationRow.mbTolerance / 1000)) : Int)) ∧
      ((↑x.invOpen : Int) - (↑(s.bank b).inventory : Int) - (↑(x.metered / 1000) : Int) ≤ (↑s.stationRow.mbTrip
      : Int)))
    ∧ (∃ (p : Pos) (b : Bank) (s : State) (x : Session), (s.smc.inReset = false) ∧ ((s.bank b).state =
      BankState.claimedPos p) ∧ ((s.bank b).session = some x) ∧ (x.holder = Holder.pos p) ∧ (x.openValid =
      true) ∧ ((s.bank b).invValid = true) ∧ ((↑x.invOpen : Int) - (↑(s.bank b).inventory : Int) -
      (↑(x.metered / 1000) : Int) < -(↑(max s.stationRow.mbFloor (x.metered / 1000 *
      s.stationRow.mbTolerance / 1000)) : Int) ∨ (↑(max s.stationRow.mbFloor (x.metered / 1000 *
      s.stationRow.mbTolerance / 1000)) : Int) < (↑x.invOpen : Int) - (↑(s.bank b).inventory : Int) -
      (↑(x.metered / 1000) : Int)) ∧ ((↑x.invOpen : Int) - (↑(s.bank b).inventory : Int) - (↑(x.metered / 1000)
      : Int) ≤ (↑s.stationRow.mbTrip : Int)))
    ∧ (∃ (p : Pos) (b : Bank) (s : State) (x : Session), (s.smc.inReset = false) ∧ ((s.bank b).state =
      BankState.claimedPos p) ∧ ((s.bank b).session = some x) ∧ (x.holder = Holder.pos p) ∧ (x.openValid =
      true) ∧ ((s.bank b).invValid = true) ∧ ((↑s.stationRow.mbTrip : Int) < (↑x.invOpen : Int) - (↑(s.bank
      b).inventory : Int) - (↑(x.metered / 1000) : Int)))
    ∧ (∃ (b : Bank) (x : Session) (s : State), (s.smc.inReset = false) ∧ ((s.bank b).state =
      BankState.claimedCmp) ∧ ((s.bank b).session = some x) ∧ (x.holder = Holder.compressor) ∧ ((s.bank
      b).waiters = [])) :=
  ⟨⟨.b1, (held .b1 .compressor true w), (.pos .p1), by decide +kernel⟩,
   ⟨.p1, .b1, (held .b1 (.pos .p1) false w), (ses (.pos .p1) false), by decide +kernel⟩,
   ⟨.p1, .b1, (inv .b1 75000 (held .b1 (.pos .p1) true w)), (ses (.pos .p1) true), by decide +kernel⟩,
   ⟨.p1, .b1, (inv .b1 74000 (held .b1 (.pos .p1) true w)), (ses (.pos .p1) true), by decide +kernel⟩,
   ⟨.p1, .b1, (inv .b1 72999 (held .b1 (.pos .p1) true w)), (ses (.pos .p1) true), by decide +kernel⟩,
   ⟨.b1, (ses .compressor true), (inv .b1 75000 (held .b1 .compressor true w)), by decide +kernel⟩⟩

theorem witness_BankIsolation :
    (∃ (b : Bank) (s : State), (s.smc.inReset = false) ∧ ((s.bank b).state = BankState.available) ∧
      ((s.bank b).waiters = []) ∧ ((s.bank b).session = none))
    ∧ (∃ (b : Bank) (s : State), (s.smc.inReset = false) ∧ ((s.bank b).state = BankState.isolated))
    ∧ (∃ (b : Bank) (s : State), (s.smc.inReset = false) ∧ ((s.bank b).state = BankState.unconfigured))
    ∧ (∃ (s : State) (n : Nat), (s.smc.inReset = false) ∧ (n = 0 ∨ 5 ≤ n))
    ∧ (∃ (b : Bank) (x : Session) (s : State) (p : Pos), (s.smc.inReset = false) ∧ ((s.bank b).session =
      some x) ∧ ((s.bank b).state = BankState.claimedPos p) ∧ (x.holder = Holder.pos p) ∧ ((x.openValid &&
      (s.bank b).invValid) = false))
    ∧ (∃ (b : Bank) (x : Session) (s : State) (p : Pos), (s.smc.inReset = false) ∧ ((s.bank b).session =
      some x) ∧ ((s.bank b).state = BankState.claimedPos p) ∧ (x.holder = Holder.pos p) ∧ ((x.openValid &&
      (s.bank b).invValid) = true) ∧ (-(↑(max s.stationRow.mbFloor (x.metered / 1000 *
      s.stationRow.mbTolerance / 1000)) : Int) ≤ (↑x.invOpen : Int) - (↑(s.bank b).inventory : Int) -
      (↑(x.metered / 1000) : Int)) ∧ ((↑x.invOpen : Int) - (↑(s.bank b).inventory : Int) - (↑(x.metered / 1000)
      : Int) ≤ (↑(max s.stationRow.mbFloor (x.metered / 1000 * s.stationRow.mbTolerance / 1000)) : Int)) ∧
      ((↑x.invOpen : Int) - (↑(s.bank b).inventory : Int) - (↑(x.metered / 1000) : Int) ≤ (↑s.stationRow.mbTrip
      : Int)))
    ∧ (∃ (b : Bank) (x : Session) (s : State), (s.smc.inReset = false) ∧ ((s.bank b).session = some x) ∧
      ((s.bank b).state = BankState.claimedCmp) ∧ (x.holder = Holder.compressor))
    ∧ (∃ (b : Bank) (x : SigRec) (s : State), (s.smc.inReset = false) ∧ (x.quality.usable = true) ∧
      ((↑(s.bankRow b).rated : Int) < x.value) ∧ ((s.bank b).state = BankState.available) ∧ ((s.bank
      b).session = none))
    ∧ (∃ (b : Bank) (x : SigRec) (s : State) (p : Pos) (y : Session), (s.smc.inReset = false) ∧
      (x.quality.usable = true) ∧ ((↑(s.bankRow b).rated : Int) < x.value) ∧ ((s.bank b).state =
      BankState.claimedPos p) ∧ ((s.bank b).session = some y) ∧ (y.holder = Holder.pos p) ∧ (y.openValid =
      false ∨ s.usable (Role.bankTemp b) = false))
    ∧ (∃ (b : Bank) (x : SigRec) (s : State) (y : Session), (s.smc.inReset = false) ∧ (x.quality.usable =
      true) ∧ ((↑(s.bankRow b).rated : Int) < x.value) ∧ ((s.bank b).state = BankState.claimedCmp) ∧
      ((s.bank b).session = some y) ∧ (y.holder = Holder.compressor))
    ∧ (∃ (b : Bank) (s : State), (s.smc.inReset = false) ∧ ((s.bank b).state = BankState.isolated ∧
      s.quality (Role.bankPressure b) = Quality.good ∧ s.quality (Role.bankTemp b) = Quality.good ∧
      s.value (Role.bankPressure b) ≤ (↑(s.bankRow b).rated : Int)))
    ∧ (∃ (b : Bank) (s : State), (s.smc.inReset = false) ∧ (¬((s.bank b).state = BankState.isolated ∧
      s.quality (Role.bankPressure b) = Quality.good ∧ s.quality (Role.bankTemp b) = Quality.good ∧
      s.value (Role.bankPressure b) ≤ (↑(s.bankRow b).rated : Int))))
    ∧ (∃ (s : State) (n : Nat), (s.smc.inReset = false) ∧ (n = 0 ∨ 5 ≤ n)) :=
  ⟨⟨.b1, (inv .b1 75000 w), by decide +kernel⟩,
   ⟨.b1, (bk .b1 (fun r => { r with state := .isolated, cause := some .signal }) w), by decide +kernel⟩,
   ⟨.b3, w, by decide +kernel⟩,
   ⟨w, 5, by decide +kernel⟩,
   ⟨.b1, (ses (.pos .p1) false), (wait .b1 [.p3, .p2] (inv .b1 75000 (held .b1 (.pos .p1) false w))), .p1,
     by decide +kernel⟩,
   ⟨.b1, (ses (.pos .p1) true), (wait .b1 [.p3, .p2] (inv .b1 75000 (held .b1 (.pos .p1) true w))), .p1,
     by decide +kernel⟩,
   ⟨.b1, (ses .compressor false), (held .b1 .compressor false w), by decide +kernel⟩,
   ⟨.b1, (gv 5001), (inv .b1 75000 w), by decide +kernel⟩,
   ⟨.b1, (gv 5001), (wait .b1 [.p3, .p2] (held .b1 (.pos .p1) false w)), .p1, (ses (.pos .p1) false), by
     decide +kernel⟩,
   ⟨.b1, (gv 5001), (held .b1 .compressor true w), (ses .compressor true), by decide +kernel⟩,
   ⟨.b1, (rec (.bankPressure .b1) (fun x => { x with value := 5000 }) (bk .b1 (fun r =>
     { r with state := .isolated, cause := some .signal }) w)), by decide +kernel⟩,
   ⟨.b1, (rec (.bankPressure .b1) (fun x => { x with value := 5001 }) (bk .b1 (fun r =>
     { r with state := .isolated, cause := some .signal }) w)), by decide +kernel⟩,
   ⟨w, 0, by decide +kernel⟩⟩

theorem witness_InventoryEvents :
    (∃ (b : Bank) (s : State) (g : BankSignal) (x : SigRec), (s.smc.inReset = false) ∧ ((s.bank b).state ≠
      BankState.unconfigured) ∧ (((withRecord (BankSignal.role b g) x s).usable (Role.bankPressure b) &&
      (withRecord (BankSignal.role b g) x s).usable (Role.bankTemp b)) = true) ∧ (g = BankSignal.temp ∨
      x.value ≤ (↑(s.bankRow b).rated : Int)))
    ∧ (∃ (b : Bank) (s : State) (g : BankSignal) (x : SigRec), (s.smc.inReset = false) ∧ ((s.bank b).state
      ≠ BankState.unconfigured) ∧ (((withRecord (BankSignal.role b g) x s).usable (Role.bankPressure b) &&
      (withRecord (BankSignal.role b g) x s).usable (Role.bankTemp b)) = false) ∧ (g = BankSignal.temp ∨
      x.quality.usable = false ∨ x.value ≤ (↑(s.bankRow b).rated : Int)))
    ∧ (∃ (b : Bank) (s : State), (s.smc.inReset = false) ∧ ((s.bank b).state = BankState.unconfigured))
    ∧ (∃ (s : State) (x : SigRec), (s.smc.inReset = false) ∧ (x.quality = Quality.bad ∨ x.quality =
      Quality.stale))
    ∧ (∃ (s : State) (x : SigRec), (s.smc.inReset = false) ∧ (x.quality = Quality.absent))
    ∧ (∃ (b : Bank) (s : State) (g : BankSignal) (x : SigRec), (s.smc.inReset = false) ∧ ((s.bank b).state
      ≠ BankState.unconfigured) ∧ (x.quality = Quality.good ∨ x.quality = Quality.uncertain) ∧
      (((withRecord (BankSignal.role b g) x s).usable (Role.bankPressure b) && (withRecord
      (BankSignal.role b g) x s).usable (Role.bankTemp b)) = true))
    ∧ (∃ (b : Bank) (s : State) (g : BankSignal) (x : SigRec), (s.smc.inReset = false) ∧ ((s.bank b).state
      ≠ BankState.unconfigured) ∧ (x.quality = Quality.good ∨ x.quality = Quality.uncertain) ∧
      (((withRecord (BankSignal.role b g) x s).usable (Role.bankPressure b) && (withRecord
      (BankSignal.role b g) x s).usable (Role.bankTemp b)) = false)) :=
  ⟨⟨.b1, w, .pressure, (gv 5000), by decide +kernel⟩,
   ⟨.b1, (qual (.bankTemp .b1) .stale (inv .b1 75000 w)), .pressure, (gv 5000), by decide +kernel⟩,
   ⟨.b3, w, by decide +kernel⟩,
   ⟨(inv .b1 75000 w), (gq .bad), by decide +kernel⟩,
   ⟨(inv .b1 75000 w), (gq .absent), by decide +kernel⟩,
   ⟨.b1, w, .temp, (gq .uncertain), by decide +kernel⟩,
   ⟨.b1, (qual (.bankPressure .b1) .bad (inv .b1 75000 w)), .temp, (gq .good), by decide +kernel⟩⟩

theorem witness_BanksAtTrip :
    (∃ (s : State), (s.smc.inReset = false)) :=
  ⟨(wait .b1 [.p2, .p3] (held .b2 .compressor true (held .b1 (.pos .p1) true w))), by decide +kernel⟩

theorem witness_CompressorStart :
    (∃ (s : State), (s.smc.inReset = false) ∧ (s.cmp.state = CmpState.stopped) ∧ (s.cmpRow.fitted = true)
      ∧ (s.smc.mode = Mode.quiet ∨ s.smc.mode = Mode.run) ∧ (s.latched = false) ∧ (s.cmp.waiters ≠ [] ∨
      s.refillWanted = true) ∧ (s.usable Role.suctionPressure = true) ∧ ((↑(s.cmpRow.suctionMin + if
      s.cmp.supplyLow = true then s.cmpRow.hysteresis else 0) : Int) ≤ s.value Role.suctionPressure) ∧
      (s.usable Role.dischargeTemp = true) ∧ (s.value Role.dischargeTemp ≤ (↑s.cmpRow.dischargeMax : Int)) ∧
      (s.usable Role.compressorRunning = true) ∧ (s.level Role.compressorRunning = false) ∧ (List.countP
      (fun e => decide (s.ret.runSeconds < e + 3600)) s.ret.history < s.cmpRow.startsLimit))
    ∧ (∃ (s : State) (a : Arrival), (s.smc.inReset = false) ∧ (s.cmp.state = CmpState.stopped) ∧
      (s.cmpRow.fitted = true) ∧ (s.smc.mode = Mode.quiet ∨ s.smc.mode = Mode.run) ∧ (s.latched = false) ∧
      (s.cmp.waiters ≠ [] ∨ (withRecord Role.suctionPressure a.record s).refillWanted = true) ∧
      ((withRecord Role.suctionPressure a.record s).usable Role.suctionPressure = true) ∧
      ((↑(s.cmpRow.suctionMin + if s.cmp.supplyLow = true then s.cmpRow.hysteresis else 0) : Int) ≤
      (withRecord Role.suctionPressure a.record s).value Role.suctionPressure) ∧ ((withRecord
      Role.suctionPressure a.record s).usable Role.dischargeTemp = true) ∧ ((withRecord
      Role.suctionPressure a.record s).value Role.dischargeTemp ≤ (↑s.cmpRow.dischargeMax : Int)) ∧
      ((withRecord Role.suctionPressure a.record s).usable Role.compressorRunning = true) ∧ ((withRecord
      Role.suctionPressure a.record s).level Role.compressorRunning = false) ∧ (List.countP (fun e =>
      decide (s.ret.runSeconds < e + 3600)) s.ret.history < s.cmpRow.startsLimit))
    ∧ (∃ (s : State) (a : Arrival), (s.smc.inReset = false) ∧ (s.cmp.state = CmpState.stopped) ∧
      (s.cmpRow.fitted = true) ∧ (s.smc.mode = Mode.quiet ∨ s.smc.mode = Mode.run) ∧ (s.latched = false) ∧
      (s.cmp.waiters ≠ [] ∨ (withRecord Role.dischargeTemp a.record s).refillWanted = true) ∧ ((withRecord
      Role.dischargeTemp a.record s).usable Role.suctionPressure = true) ∧ ((↑(s.cmpRow.suctionMin + if
      s.cmp.supplyLow = true then s.cmpRow.hysteresis else 0) : Int) ≤ (withRecord Role.dischargeTemp
      a.record s).value Role.suctionPressure) ∧ ((withRecord Role.dischargeTemp a.record s).usable
      Role.dischargeTemp = true) ∧ ((withRecord Role.dischargeTemp a.record s).value Role.dischargeTemp ≤
      (↑s.cmpRow.dischargeMax : Int)) ∧ ((withRecord Role.dischargeTemp a.record s).usable
      Role.compressorRunning = true) ∧ ((withRecord Role.dischargeTemp a.record s).level
      Role.compressorRunning = false) ∧ (List.countP (fun e => decide (s.ret.runSeconds < e + 3600))
      s.ret.history < s.cmpRow.startsLimit))
    ∧ (∃ (s : State) (a : Arrival), (s.smc.inReset = false) ∧ (s.cmp.state = CmpState.stopped) ∧
      (s.cmpRow.fitted = true) ∧ (s.smc.mode = Mode.quiet ∨ s.smc.mode = Mode.run) ∧ (s.latched = false) ∧
      (s.cmp.waiters ≠ [] ∨ (withRecord Role.compressorRunning a.record s).refillWanted = true) ∧
      ((withRecord Role.compressorRunning a.record s).usable Role.suctionPressure = true) ∧
      ((↑(s.cmpRow.suctionMin + if s.cmp.supplyLow = true then s.cmpRow.hysteresis else 0) : Int) ≤
      (withRecord Role.compressorRunning a.record s).value Role.suctionPressure) ∧ ((withRecord
      Role.compressorRunning a.record s).usable Role.dischargeTemp = true) ∧ ((withRecord
      Role.compressorRunning a.record s).value Role.dischargeTemp ≤ (↑s.cmpRow.dischargeMax : Int)) ∧
      ((withRecord Role.compressorRunning a.record s).usable Role.compressorRunning = true) ∧ ((withRecord
      Role.compressorRunning a.record s).level Role.compressorRunning = false) ∧ (List.countP (fun e =>
      decide (s.ret.runSeconds < e + 3600)) s.ret.history < s.cmpRow.startsLimit))
    ∧ (∃ (s : State) (b : Bank) (a : Arrival), (s.smc.inReset = false) ∧ (s.cmp.state = CmpState.stopped)
      ∧ (s.cmpRow.fitted = true) ∧ (s.smc.mode = Mode.quiet ∨ s.smc.mode = Mode.run) ∧ (s.latched = false)
      ∧ (s.cmp.waiters ≠ [] ∨ (withRecord (Role.bankPressure b) a.record s).refillWanted = true) ∧
      ((withRecord (Role.bankPressure b) a.record s).usable Role.suctionPressure = true) ∧
      ((↑(s.cmpRow.suctionMin + if s.cmp.supplyLow = true then s.cmpRow.hysteresis else 0) : Int) ≤
      (withRecord (Role.bankPressure b) a.record s).value Role.suctionPressure) ∧ ((withRecord
      (Role.bankPressure b) a.record s).usable Role.dischargeTemp = true) ∧ ((withRecord
      (Role.bankPressure b) a.record s).value Role.dischargeTemp ≤ (↑s.cmpRow.dischargeMax : Int)) ∧
      ((withRecord (Role.bankPressure b) a.record s).usable Role.compressorRunning = true) ∧ ((withRecord
      (Role.bankPressure b) a.record s).level Role.compressorRunning = false) ∧ (List.countP (fun e =>
      decide (s.ret.runSeconds < e + 3600)) s.ret.history < s.cmpRow.startsLimit))
    ∧ (∃ (s : State) (v : Nat), (s.smc.inReset = false) ∧ (s.cmp.state = CmpState.stopped) ∧ (s.cmp.waiters
      ≠ [] ∨ s.refillWanted = true) ∧ (s.cmpRow.fitted = true ∧ (s.smc.mode = Mode.quiet ∨ s.smc.mode =
      Mode.run) ∧ s.latched = false) ∧ (s.usable Role.suctionPressure = true) ∧ (s.value
      Role.suctionPressure = (↑v : Int)) ∧ (v < s.cmpRow.suctionMin + if s.cmp.supplyLow = true then
      s.cmpRow.hysteresis else 0))
    ∧ (∃ (s : State), (s.smc.inReset = false) ∧ (s.cmp.state = CmpState.stopped) ∧ (s.cmp.waiters ≠ [] ∨
      s.refillWanted = true) ∧ (s.cmpRow.fitted = true ∧ (s.smc.mode = Mode.quiet ∨ s.smc.mode = Mode.run)
      ∧ s.latched = false) ∧ (s.usable Role.suctionPressure = false))
    ∧ (∃ (s : State), (s.smc.inReset = false) ∧ (s.cmp.state = CmpState.stopped) ∧ (s.cmp.waiters ≠ [] ∨
      s.refillWanted = true) ∧ (s.cmpRow.fitted = true ∧ (s.smc.mode = Mode.quiet ∨ s.smc.mode = Mode.run)
      ∧ s.latched = false) ∧ (¬(s.usable Role.suctionPressure = false ∨ s.value Role.suctionPressure <
      (↑(s.cmpRow.suctionMin + if s.cmp.supplyLow = true then s.cmpRow.hysteresis else 0) : Int))) ∧
      (s.usable Role.dischargeTemp = false ∨ (↑s.cmpRow.dischargeMax : Int) < s.value Role.dischargeTemp ∨
      s.usable Role.compressorRunning = false ∨ s.level Role.compressorRunning = true))
    ∧ (∃ (s : State) (e : Nat), (s.smc.inReset = false) ∧ (s.cmp.state = CmpState.stopped) ∧ (s.cmp.waiters
      ≠ [] ∨ s.refillWanted = true) ∧ (s.cmpRow.fitted = true ∧ (s.smc.mode = Mode.quiet ∨ s.smc.mode =
      Mode.run) ∧ s.latched = false) ∧ (¬(s.usable Role.suctionPressure = false ∨ s.value
      Role.suctionPressure < (↑(s.cmpRow.suctionMin + if s.cmp.supplyLow = true then s.cmpRow.hysteresis
      else 0) : Int))) ∧ (¬(s.usable Role.dischargeTemp = false ∨ (↑s.cmpRow.dischargeMax : Int) < s.value
      Role.dischargeTemp ∨ s.usable Role.compressorRunning = false ∨ s.level Role.compressorRunning =
      true)) ∧ (s.cmpRow.startsLimit ≤ List.countP (fun n => decide (s.ret.runSeconds < n + 3600))
      s.ret.history) ∧ (List.find? (fun n => decide (s.ret.runSeconds < n + 3600)) s.ret.history = some
      e))
    ∧ (∃ (s : State), (s.smc.inReset = false) ∧ (s.cmp.state = CmpState.stopped) ∧ (¬(s.cmp.waiters ≠ [] ∨
      s.refillWanted = true) ∨ ¬(s.cmpRow.fitted = true ∧ (s.smc.mode = Mode.quiet ∨ s.smc.mode =
      Mode.run) ∧ s.latched = false)) ∧ (s.smc.mode ≠ Mode.parked ∨ s.cmp.refillWant = true ∨
      s.refillWanted = false))
    ∧ (∃ (s : State), (s.smc.inReset = false) ∧ (s.cmp.state = CmpState.stopped) ∧ (s.smc.mode =
      Mode.parked) ∧ (s.cmp.refillWant = false) ∧ (s.refillWanted = true))
    ∧ (∃ (s : State) (a : Arrival) (v : Nat), (s.smc.inReset = false) ∧ (s.cmp.state = CmpState.stopped) ∧
      (s.cmp.waiters ≠ [] ∨ (withRecord Role.suctionPressure a.record s).refillWanted = true) ∧
      (s.cmpRow.fitted = true ∧ (s.smc.mode = Mode.quiet ∨ s.smc.mode = Mode.run) ∧ s.latched = false) ∧
      ((withRecord Role.suctionPressure a.record s).usable Role.suctionPressure = true) ∧ ((withRecord
      Role.suctionPressure a.record s).value Role.suctionPressure = (↑v : Int)) ∧ (v < s.cmpRow.suctionMin +
      if s.cmp.supplyLow = true then s.cmpRow.hysteresis else 0))
    ∧ (∃ (s : State) (a : Arrival), (s.smc.inReset = false) ∧ (s.cmp.state = CmpState.stopped) ∧
      (s.cmp.waiters ≠ [] ∨ (withRecord Role.suctionPressure a.record s).refillWanted = true) ∧
      (s.cmpRow.fitted = true ∧ (s.smc.mode = Mode.quiet ∨ s.smc.mode = Mode.run) ∧ s.latched = false) ∧
      ((withRecord Role.suctionPressure a.record s).usable Role.suctionPressure = false))
    ∧ (∃ (s : State) (a : Arrival), (s.smc.inReset = false) ∧ (s.cmp.state = CmpState.stopped) ∧
      (s.cmp.waiters ≠ [] ∨ (withRecord Role.dischargeTemp a.record s).refillWanted = true) ∧
      (s.cmpRow.fitted = true ∧ (s.smc.mode = Mode.quiet ∨ s.smc.mode = Mode.run) ∧ s.latched = false) ∧
      (¬((withRecord Role.dischargeTemp a.record s).usable Role.suctionPressure = false ∨ (withRecord
      Role.dischargeTemp a.record s).value Role.suctionPressure < (↑(s.cmpRow.suctionMin + if
      s.cmp.supplyLow = true then s.cmpRow.hysteresis else 0) : Int))) ∧ ((withRecord Role.dischargeTemp
      a.record s).usable Role.dischargeTemp = false ∨ (↑s.cmpRow.dischargeMax : Int) < (withRecord
      Role.dischargeTemp a.record s).value Role.dischargeTemp ∨ (withRecord Role.dischargeTemp a.record
      s).usable Role.compressorRunning = false ∨ (withRecord Role.dischargeTemp a.record s).level
      Role.compressorRunning = true))
    ∧ (∃ (s : State) (a : Arrival), (s.smc.inReset = false) ∧ (s.cmp.state = CmpState.stopped) ∧
      (s.cmp.waiters ≠ [] ∨ (withRecord Role.compressorRunning a.record s).refillWanted = true) ∧
      (s.cmpRow.fitted = true ∧ (s.smc.mode = Mode.quiet ∨ s.smc.mode = Mode.run) ∧ s.latched = false) ∧
      (¬((withRecord Role.compressorRunning a.record s).usable Role.suctionPressure = false ∨ (withRecord
      Role.compressorRunning a.record s).value Role.suctionPressure < (↑(s.cmpRow.suctionMin + if
      s.cmp.supplyLow = true then s.cmpRow.hysteresis else 0) : Int))) ∧ ((withRecord Role.compressorRunning
      a.record s).usable Role.dischargeTemp = false ∨ (↑s.cmpRow.dischargeMax : Int) < (withRecord
      Role.compressorRunning a.record s).value Role.dischargeTemp ∨ (withRecord Role.compressorRunning
      a.record s).usable Role.compressorRunning = false ∨ (withRecord Role.compressorRunning a.record
      s).level Role.compressorRunning = true))
    ∧ (∃ (s : State) (b : Bank) (a : Arrival), (s.smc.inReset = false) ∧ (s.cmp.state = CmpState.stopped)
      ∧ (s.smc.mode = Mode.parked) ∧ (s.cmp.refillWant = false) ∧ ((withRecord (Role.bankPressure b)
      a.record s).refillWanted = true))
    ∧ (∃ (s : State) (b : Bank) (a : Arrival), (s.smc.inReset = false) ∧ (s.cmp.state = CmpState.stopped)
      ∧ (¬(s.cmp.waiters ≠ [] ∨ (withRecord (Role.bankPressure b) a.record s).refillWanted = true) ∨
      ¬(s.cmpRow.fitted = true ∧ (s.smc.mode = Mode.quiet ∨ s.smc.mode = Mode.run) ∧ s.latched = false)) ∧
      (s.smc.mode ≠ Mode.parked ∨ s.cmp.refillWant = true ∨ (withRecord (Role.bankPressure b) a.record
      s).refillWanted = false)) :=
  ⟨⟨(cm (fun k => { k with waiters := [.p2], held := some .supply }) (val .suctionPressure 50 w)), by
     decide +kernel⟩,
   ⟨(cm (fun k => { k with supplyLow := true, held := some .supply }) (val .suctionPressure 7 (val
     (.bankPressure .b1) 2900 (mode .quiet w)))), (.value (gv 70)), by decide +kernel⟩,
   ⟨(cm (fun k => { k with waiters := [.p2] }) (val .dischargeTemp 950 w)), (.value (gv 900)), by
     decide +kernel⟩,
   ⟨(cm (fun k => { k with waiters := [.p2] }) (lev .compressorRunning true w)), (.refresh (gl false)), by
     decide +kernel⟩,
   ⟨w, .b1, (.quality ({ gv 2900 with quality := .uncertain })), by decide +kernel⟩,
   ⟨(cm (fun k => { k with waiters := [.p2], supplyLow := true }) (val .suctionPressure 69 w)), 69, by
     decide +kernel⟩,
   ⟨(cm (fun k => { k with waiters := [.p2] }) (qual .suctionPressure .stale w)), by decide +kernel⟩,
   ⟨(cm (fun k => { k with waiters := [.p2] }) (qual .dischargeTemp .bad (val (.bankPressure .b1) 2900
     w))), by decide +kernel⟩,
   ⟨({ (cm (fun k => { k with waiters := [.p2] }) w) with ret := { w.ret with history := [1400, 2000, 2001, 2002, 2003, 2004, 2005] } }),
     2000, by decide +kernel⟩,
   ⟨(cm (fun k => { k with held := some .supply }) w), by decide +kernel⟩,
   ⟨(cm (fun k => { k with held := some .supply }) (val (.bankPressure .b1) 2999 (mode .parked w))), by
     decide +kernel⟩,
   ⟨(cm (fun k => { k with waiters := [.p2] }) w), (.value (gv 49)), 49, by decide +kernel⟩,
   ⟨(cm (fun k => { k with waiters := [.p2] }) w), (.quality (gq .bad)), by decide +kernel⟩,
   ⟨(cm (fun k => { k with waiters := [.p2] }) w), (.value (gv 901)), by decide +kernel⟩,
   ⟨(cm (fun k => { k with waiters := [.p2] }) w), (.refresh (gl true)), by decide +kernel⟩,
   ⟨(mode .parked w), .b1, (.value (gv 2999)), by decide +kernel⟩,
   ⟨w, .b1, (.value (gv 3000)), by decide +kernel⟩⟩

theorem witness_CompressorRun :
    (∃ (s : State), (s.smc.inReset = false) ∧ (s.cmp.offTimer = none))
    ∧ (∃ (s : State), (s.smc.inReset = false) ∧ (s.cmp.offTimer ≠ none) ∧ (s.cmp.state =
      CmpState.lockout))
    ∧ (∃ (s : State), (s.smc.inReset = false) ∧ (s.cmp.offTimer ≠ none) ∧ (s.cmp.state =
      CmpState.cooldown) ∧ (s.cmp.waiters = []) ∧ (s.refillWanted = false))
    ∧ (∃ (s : State), (s.smc.inReset = false) ∧ (∀ e ∈ s.ret.history, s.ret.runSeconds < e + 3600))
    ∧ (∃ (s : State), (s.smc.inReset = false) ∧ (s.cmp.state ≠ CmpState.stopped))
    ∧ (∃ (s : State), (s.smc.inReset = false) ∧ (∃ e ∈ s.ret.history, e + 3600 ≤ s.ret.runSeconds) ∧
      (s.cmp.state = CmpState.stopped) ∧ (s.cmp.waiters = []) ∧ (s.refillWanted = false))
    ∧ (∃ (b : Bank) (bs : List Bank) (x : SigRec) (s : State), (s.smc.inReset = false) ∧ (s.cmp.waiters =
      []) ∧ (s.latched = false) ∧ (s.smc.mode = Mode.quiet ∨ s.smc.mode = Mode.run) ∧ (s.cmp.state =
      CmpState.priming) ∧ (x.quality.usable = true) ∧ (x.level = true) ∧ (s.refillCandidates = b :: bs))
    ∧ (∃ (b : Bank) (bs : List Bank) (x : SigRec) (s : State) (a : Arrival) (d : Bank), (s.smc.inReset =
      false) ∧ (s.cmp.waiters = []) ∧ (s.latched = false) ∧ (s.smc.mode = Mode.quiet ∨ s.smc.mode =
      Mode.run) ∧ (s.cmp.state = CmpState.unloaded) ∧ (a = Arrival.value x ∨ a = Arrival.quality x) ∧
      ((withRecord (Role.bankPressure d) x s).refillCandidates = b :: bs))
    ∧ (∃ (s : State), (s.smc.inReset = false) ∧ (s.cmp.state = CmpState.unloaded) ∧ (s.cmp.waiters = []) ∧
      (s.refillCandidates = []) ∧ (0 < s.cmpRow.minOff))
    ∧ (∃ (s : State), (s.smc.inReset = false) ∧ (s.cmp.state ≠ CmpState.unloaded))
    ∧ (∃ (s : State) (b : Bank) (i : Instr) (k : LostCause) (c : Bank) (cs : List Bank), (s.smc.inReset =
      false) ∧ (s.cmp.state = CmpState.loaded) ∧ (s.cmp.dest = some (CmpDest.refill b)) ∧ (s.cmp.waiters =
      []) ∧ (i = Instr.yielded b ∨ i = Instr.cmpBankLost { bank := b, cause := k }) ∧ (s.refillCandidates
      = c :: cs) ∧ (s.latched = false) ∧ (s.smc.mode = Mode.quiet ∨ s.smc.mode = Mode.run))
    ∧ (∃ (s : State) (b : Bank) (i : Instr) (k : LostCause), (s.smc.inReset = false) ∧ (s.cmp.state =
      CmpState.loaded) ∧ (s.cmp.dest = some (CmpDest.refill b)) ∧ (s.cmp.waiters = []) ∧ (i =
      Instr.yielded b ∨ i = Instr.cmpBankLost { bank := b, cause := k }) ∧ (s.refillCandidates = []) ∧
      (s.runTimer < s.cmpRow.minRun))
    ∧ (∃ (s : State) (b : Bank) (i : Instr) (k : LostCause), (s.smc.inReset = false) ∧ (s.cmp.state =
      CmpState.loaded) ∧ (s.cmp.dest = some (CmpDest.refill b)) ∧ (s.cmp.waiters = []) ∧ (i =
      Instr.yielded b ∨ i = Instr.cmpBankLost { bank := b, cause := k }) ∧ (s.refillCandidates = []) ∧
      (s.cmpRow.minRun ≤ s.runTimer) ∧ (0 < s.cmpRow.minOff))
    ∧ (∃ (s : State) (b : Bank), (s.smc.inReset = false) ∧ (s.refillBank ≠ some b))
    ∧ (∃ (q : Pos) (qs : List Pos) (x : SigRec) (a : Arrival) (s : State), (s.smc.inReset = false) ∧
      (s.latched = false) ∧ (s.cmp.state = CmpState.priming) ∧ (s.cmp.waiters = q :: qs) ∧
      (x.quality.usable = true) ∧ (x.level = true) ∧ (a = Arrival.transition x ∨ a = Arrival.refresh x ∨ a =
      Arrival.quality x)) :=
  ⟨⟨w, by decide +kernel⟩,
   ⟨(cm (fun k => { k with offTimer := some 5 }) (run .lockout w)), by decide +kernel⟩,
   ⟨(cm (fun k => { k with offTimer := some 5, held := some .supply, refillWant := true }) (run .cooldown
     w)), by decide +kernel⟩,
   ⟨({ w with ret := { w.ret with history := [1401, 4000] } }), by decide +kernel⟩,
   ⟨(run .cooldown { w with ret := { w.ret with history := [1400, 4000] } }), by decide +kernel⟩,
   ⟨(cm (fun k => { k with held := some .startLimit })
     { w with ret := { w.ret with history := [1400, 4000] } }), by decide +kernel⟩,
   ⟨.b1, [], (gl true), (cm (fun k => { k with primeTimer := some 5 }) (run .priming (lev
     .compressorRunning false w))), by decide +kernel⟩,
   ⟨.b1, [], (gv 4400), (run .unloaded (val (.bankPressure .b1) 4600 w)), (.value (gv 4400)), .b1, by
     decide +kernel⟩,
   ⟨(run .unloaded (val (.bankPressure .b1) 4600 w)), by decide +kernel⟩,
   ⟨(run .loaded w), by decide +kernel⟩,
   ⟨(cm (fun k => { k with dest := some (.refill .b2) }) (run .loaded w)), .b2, (.yielded .b2), .trip,
     .b1, [], by decide +kernel⟩,
   ⟨(cm (fun k => { k with dest := some (.refill .b1), startedAt := some 4999 }) (run .loaded (val
     (.bankPressure .b1) 4600 w))), .b1, (.yielded .b1), .trip, by decide +kernel⟩,
   ⟨(cm (fun k => { k with dest := some (.refill .b1), startedAt := some 4940 }) (run .loaded (val
     (.bankPressure .b1) 4600 w))), .b1, (.yielded .b1), .trip, by decide +kernel⟩,
   ⟨(cm (fun k => { k with dest := some (.refill .b1), waiters := [.p1, .p2] }) (run .loaded w)), .b2, by
     decide +kernel⟩,
   ⟨.p3, [.p2], (gl true), (.transition (gl true)), (cm (fun k => { k with waiters := [.p3, .p2] }) (run
     .priming w)), by decide +kernel⟩⟩

theorem witness_CompressorOutput :
    (∃ (p : Pos) (s : State), (s.smc.inReset = false) ∧ (¬(s.cmpRow.fitted = true ∧ s.latched = false ∧
      s.outputHolder ≠ some p ∧ s.heldBank p = none) ∨ s.cmp.state = CmpState.lockout))
    ∧ (∃ (p : Pos) (s : State), (s.smc.inReset = false) ∧ (s.cmpRow.fitted = true ∧ s.latched = false ∧
      s.outputHolder ≠ some p ∧ s.heldBank p = none) ∧ (s.cmp.state = CmpState.unloaded))
    ∧ (∃ (p : Pos) (s : State) (b : Bank) (x : Session), (s.smc.inReset = false) ∧ (s.cmpRow.fitted = true
      ∧ s.latched = false ∧ s.outputHolder ≠ some p ∧ s.heldBank p = none) ∧ (s.cmp.state =
      CmpState.loaded) ∧ (s.cmp.dest = some (CmpDest.refill b)) ∧ ((s.bank b).state =
      BankState.claimedCmp) ∧ ((s.bank b).session = some x) ∧ (x.holder = Holder.compressor) ∧ ((s.bank
      b).waiters = []))
    ∧ (∃ (p : Pos) (s : State) (q : Pos), (s.smc.inReset = false) ∧ (s.cmpRow.fitted = true ∧ s.latched =
      false ∧ s.outputHolder ≠ some p ∧ s.heldBank p = none) ∧ (s.cmp.state = CmpState.priming ∨
      s.cmp.state = CmpState.cooldown ∨ s.cmp.state = CmpState.loaded ∧ s.cmp.dest = some (CmpDest.direct
      q)))
    ∧ (∃ (p : Pos) (s : State), (s.smc.inReset = false) ∧ (s.cmpRow.fitted = true ∧ s.latched = false ∧
      s.outputHolder ≠ some p ∧ s.heldBank p = none) ∧ (s.cmp.state = CmpState.stopped))
    ∧ (∃ (p : Pos) (s : State), (s.smc.inReset = false) ∧ (s.outputHolder ≠ some p))
    ∧ (∃ (p : Pos) (s : State) (q : Pos) (qs : List Pos), (s.smc.inReset = false) ∧ (s.outputHolder = some
      p) ∧ (s.cmp.state = CmpState.loaded) ∧ (s.latched = false) ∧ (s.cmp.waiters = q :: qs))
    ∧ (∃ (p : Pos) (s : State), (s.smc.inReset = false) ∧ (s.outputHolder = some p) ∧ (s.cmp.state =
      CmpState.loaded) ∧ (s.cmp.waiters = []) ∧ (s.refillCandidates = []) ∧ (s.runTimer <
      s.cmpRow.minRun)) :=
  ⟨⟨.p1, (run .lockout w), by decide +kernel⟩,
   ⟨.p1, (cm (fun k => { k with waiters := [.p2] }) (run .unloaded w)), by decide +kernel⟩,
   ⟨.p1, (cm (fun k => { k with dest := some (.refill .b1), waiters := [.p1, .p2] }) (run .loaded (held
     .b1 .compressor true w))), .b1, (ses .compressor true), by decide +kernel⟩,
   ⟨.p1, (run .priming w), .p2, by decide +kernel⟩,
   ⟨.p1, w, by decide +kernel⟩,
   ⟨.p1, w, by decide +kernel⟩,
   ⟨.p1, (cm (fun k =>
     { k with dest := some (.direct .p1), holder := some (.p1, none), waiters := [.p3, .p2] }) (run
     .loaded w)), .p3, [.p2], by decide +kernel⟩,
   ⟨.p1, (cm (fun k =>
     { k with dest := some (.direct .p1), holder := some (.p1, none), startedAt := some 4999 }) (run
     .loaded (val (.bankPressure .b1) 4600 w))), by decide +kernel⟩⟩

theorem witness_CompressorStops :
    (∃ (x : SigRec) (s : State), (s.smc.inReset = false) ∧ (s.cmp.state = CmpState.priming ∨ s.cmp.state =
      CmpState.unloaded ∨ s.cmp.state = CmpState.loaded) ∧ (0 < s.cmpRow.minOff) ∧ (x.quality.usable =
      true) ∧ (x.value < (↑s.cmpRow.suctionMin : Int)) ∧ (s.refillBank = none))
    ∧ (∃ (x : SigRec) (s : State) (b : Bank) (y : Session), (s.smc.inReset = false) ∧ (s.cmp.state =
      CmpState.priming ∨ s.cmp.state = CmpState.unloaded ∨ s.cmp.state = CmpState.loaded) ∧ (0 <
      s.cmpRow.minOff) ∧ (x.quality.usable = true) ∧ (x.value < (↑s.cmpRow.suctionMin : Int)) ∧
      (s.refillBank = some b) ∧ (s.cmp.holder = none) ∧ ((s.bank b).state = BankState.claimedCmp) ∧
      ((s.bank b).session = some y) ∧ (y.holder = Holder.compressor) ∧ ((s.bank b).waiters = []))
    ∧ (∃ (x : SigRec) (s : State), (s.smc.inReset = false) ∧ (s.cmp.state = CmpState.priming ∨ s.cmp.state
      = CmpState.unloaded ∨ s.cmp.state = CmpState.loaded) ∧ (0 < s.cmpRow.minOff) ∧ (x.quality.usable =
      false) ∧ (s.refillBank = none))
    ∧ (∃ (x : SigRec) (s : State), (s.smc.inReset = false) ∧ (s.cmp.state = CmpState.priming ∨ s.cmp.state
      = CmpState.unloaded ∨ s.cmp.state = CmpState.loaded) ∧ (0 < s.cmpRow.minOff) ∧ (x.quality =
      Quality.bad ∨ x.quality = Quality.stale) ∧ (s.underHold Role.dischargeTemp = true) ∧ (s.refillBank =
      none))
    ∧ (∃ (x : SigRec) (s : State) (b : Bank) (y : Session), (s.smc.inReset = false) ∧ (s.cmp.state =
      CmpState.priming ∨ s.cmp.state = CmpState.unloaded ∨ s.cmp.state = CmpState.loaded) ∧ (0 <
      s.cmpRow.minOff) ∧ (x.quality = Quality.bad ∨ x.quality = Quality.stale) ∧ (s.underHold
      Role.dischargeTemp = true) ∧ (s.refillBank = some b) ∧ (s.cmp.holder = none) ∧ ((s.bank b).state =
      BankState.claimedCmp) ∧ ((s.bank b).session = some y) ∧ (y.holder = Holder.compressor) ∧ ((s.bank
      b).waiters = []))
    ∧ (∃ (x : SigRec) (s : State), (s.smc.inReset = false) ∧ (s.cmp.state = CmpState.priming ∨ s.cmp.state
      = CmpState.unloaded ∨ s.cmp.state = CmpState.loaded) ∧ (0 < s.cmpRow.minOff) ∧ (x.quality =
      Quality.bad ∨ x.quality = Quality.stale) ∧ (s.underHold Role.compressorRunning = true) ∧
      (s.refillBank = none))
    ∧ (∃ (x : SigRec) (s : State), (s.smc.inReset = false) ∧ (s.cmp.state = CmpState.priming ∨ s.cmp.state
      = CmpState.unloaded ∨ s.cmp.state = CmpState.loaded) ∧ (0 < s.cmpRow.minOff) ∧
      ((↑s.cmpRow.suctionMin : Int) ≤ x.value))
    ∧ (∃ (s : State), (s.smc.inReset = false) ∧ (s.cmp.state ≠ CmpState.lockout) ∧ (s.refillBank = none))
    ∧ (∃ (s : State) (b : Bank) (y : Session), (s.smc.inReset = false) ∧ (s.cmp.state ≠ CmpState.lockout)
      ∧ (s.refillBank = some b) ∧ (s.cmp.holder = none) ∧ ((s.bank b).state = BankState.claimedCmp) ∧
      ((s.bank b).session = some y) ∧ (y.holder = Holder.compressor) ∧ ((s.bank b).waiters = []))
    ∧ (∃ (s : State), (s.smc.inReset = false) ∧ (s.cmp.state = CmpState.priming) ∧ (s.cmp.primeTimer ≠
      none) ∧ (s.refillBank = none))
    ∧ (∃ (s : State) (x : SigRec), (s.smc.inReset = false) ∧ (s.cmp.state = CmpState.priming ∨ s.cmp.state
      = CmpState.unloaded ∨ s.cmp.state = CmpState.loaded) ∧ ((↑s.cmpRow.dischargeMax : Int) < x.value) ∧
      (s.refillBank = none))
    ∧ (∃ (s : State) (x : SigRec) (b : Bank) (y : Session), (s.smc.inReset = false) ∧ (s.cmp.state =
      CmpState.priming ∨ s.cmp.state = CmpState.unloaded ∨ s.cmp.state = CmpState.loaded) ∧
      ((↑s.cmpRow.dischargeMax : Int) < x.value) ∧ (s.refillBank = some b) ∧ (s.cmp.holder = none) ∧
      ((s.bank b).state = BankState.claimedCmp) ∧ ((s.bank b).session = some y) ∧ (y.holder =
      Holder.compressor) ∧ ((s.bank b).waiters = []))
    ∧ (∃ (s : State) (x : SigRec), (s.smc.inReset = false) ∧ (s.cmp.state = CmpState.unloaded ∨
      s.cmp.state = CmpState.loaded) ∧ (x.level = false) ∧ (s.refillBank = none))
    ∧ (∃ (s : State) (x : SigRec) (b : Bank) (y : Session), (s.smc.inReset = false) ∧ (s.cmp.state =
      CmpState.unloaded ∨ s.cmp.state = CmpState.loaded) ∧ (x.level = false) ∧ (s.refillBank = some b) ∧
      (s.cmp.holder = none) ∧ ((s.bank b).state = BankState.claimedCmp) ∧ ((s.bank b).session = some y) ∧
      (y.holder = Holder.compressor) ∧ ((s.bank b).waiters = []))
    ∧ (∃ (s : State), (s.smc.inReset = false) ∧ (s.cmp.state = CmpState.lockout))
    ∧ (∃ (s : State), (s.smc.inReset = false) ∧ (s.cmp.state ≠ CmpState.priming ∨ s.cmp.primeTimer =
      none))
    ∧ (∃ (s : State), (s.smc.inReset = false) ∧ (s.cmp.state ≠ CmpState.lockout ∨ s.latched = true ∨
      s.usable Role.suctionPressure = false ∨ s.usable Role.dischargeTemp = false ∨ s.usable
      Role.compressorRunning = false ∨ s.mapped Role.dischargePressure = true ∧ s.usable
      Role.dischargePressure = false ∨ (s.record Role.suctionPressure).region ≠ Region.inside ∨ (s.record
      Role.dischargePressure).region ≠ Region.inside ∨ (s.record Role.dischargeTemp).region ≠
      Region.inside ∨ (↑s.cmpRow.dischargeMax : Int) < s.value Role.dischargeTemp ∨ s.level
      Role.compressorRunning = true))
    ∧ (∃ (s : State), (s.smc.inReset = false) ∧ (s.cmp.state = CmpState.lockout) ∧ (s.latched = false) ∧
      (¬(s.usable Role.suctionPressure = false ∨ s.usable Role.dischargeTemp = false ∨ s.usable
      Role.compressorRunning = false ∨ s.mapped Role.dischargePressure = true ∧ s.usable
      Role.dischargePressure = false ∨ (s.record Role.suctionPressure).region ≠ Region.inside ∨ (s.record
      Role.dischargePressure).region ≠ Region.inside ∨ (s.record Role.dischargeTemp).region ≠
      Region.inside ∨ (↑s.cmpRow.dischargeMax : Int) < s.value Role.dischargeTemp ∨ s.level
      Role.compressorRunning = true)) ∧ (s.cmp.offTimer ≠ none))
    ∧ (∃ (s : State), (s.smc.inReset = false) ∧ (s.cmp.state = CmpState.lockout) ∧ (s.latched = false) ∧
      (¬(s.usable Role.suctionPressure = false ∨ s.usable Role.dischargeTemp = false ∨ s.usable
      Role.compressorRunning = false ∨ s.mapped Role.dischargePressure = true ∧ s.usable
      Role.dischargePressure = false ∨ (s.record Role.suctionPressure).region ≠ Region.inside ∨ (s.record
      Role.dischargePressure).region ≠ Region.inside ∨ (s.record Role.dischargeTemp).region ≠
      Region.inside ∨ (↑s.cmpRow.dischargeMax : Int) < s.value Role.dischargeTemp ∨ s.level
      Role.compressorRunning = true)) ∧ (s.cmp.offTimer = none) ∧ (s.cmp.waiters = []) ∧ (s.refillWanted =
      false)) :=
  ⟨⟨(gv 49), (run .unloaded w), by decide +kernel⟩,
   ⟨(gv 49), (cm (fun k => { k with dest := some (.refill .b1) }) (run .loaded (held .b1 .compressor true
     w))), .b1, (ses .compressor true), by decide +kernel⟩,
   ⟨(gq .stale), (run .priming w), by decide +kernel⟩,
   ⟨(gq .stale), (cm (fun k =>
     { k with dest := some (.direct .p1), holder := some (.p1, none), waiters := [.p3] }) (run .loaded
     w)), by decide +kernel⟩,
   ⟨(gq .bad), (cm (fun k => { k with dest := some (.refill .b1) }) (run .loaded (held .b1 .compressor
     true w))), .b1, (ses .compressor true), by decide +kernel⟩,
   ⟨(gq .bad), (run .unloaded w), by decide +kernel⟩,
   ⟨(gv 50), (run .unloaded w), by decide +kernel⟩,
   ⟨(cm (fun k =>
     { k with dest := some (.direct .p1), holder := some (.p1, none), waiters := [.p3, .p2], held := some .supply })
     (run .loaded w)), by decide +kernel⟩,
   ⟨(cm (fun k => { k with dest := some (.refill .b1) }) (run .loaded (held .b1 .compressor true w))),
     .b1, (ses .compressor true), by decide +kernel⟩,
   ⟨(cm (fun k => { k with primeTimer := some 0, waiters := [.p3] }) (run .priming w)), by decide +kernel⟩,
   ⟨(cm (fun k => { k with primeTimer := some 0, waiters := [.p3] }) (run .priming w)), (gv 901), by
     decide +kernel⟩,
   ⟨(cm (fun k => { k with dest := some (.refill .b1) }) (run .loaded (held .b1 .compressor true w))), (gv
     901), .b1, (ses .compressor true), by decide +kernel⟩,
   ⟨(run .unloaded w), (gl false), by decide +kernel⟩,
   ⟨(cm (fun k => { k with dest := some (.refill .b1) }) (run .loaded (held .b1 .compressor true w))), (gl
     false), .b1, (ses .compressor true), by decide +kernel⟩,
   ⟨(run .lockout w), by decide +kernel⟩,
   ⟨(run .unloaded w), by decide +kernel⟩,
   ⟨(run .lockout (val .dischargeTemp 901 w)), by decide +kernel⟩,
   ⟨(cm (fun k => { k with offTimer := some 7, cause := some .prime }) (run .lockout w)), by
     decide +kernel⟩,
   ⟨(cm (fun k => { k with cause := some .prime }) (run .lockout w)), by decide +kernel⟩⟩

theorem witness_ColdReserve :
    (∃ (s : State), (s.smc.inReset = false) ∧ (∀ (p : Pos), s.pcl.pending.get p = none) ∧
      (s.chillerRow.fitted = false))
    ∧ (∃ (s : State), (s.smc.inReset = false) ∧ (∀ (p : Pos), s.pcl.pending.get p = none) ∧
      (s.chillerRow.fitted = true))
    ∧ (∃ (s : State) (p : Pos) (c : Category) (x : CategoryRow), (s.smc.inReset = false) ∧ (∀ (p : Pos),
      s.pcl.pending.get p = none) ∧ (s.pcl.demand.get p = some c) ∧ (s.categoryRow c = some x))
    ∧ (∃ (s : State) (p : Pos), (s.smc.inReset = false) ∧ (∀ (p : Pos), s.pcl.pending.get p = none) ∧
      (s.pcl.demand.get p = none))
    ∧ (∃ (p : Pos) (c : Category) (x : CategoryRow) (s : State), (s.smc.inReset = false) ∧ (s.categoryRow
      c = some x) ∧ (s.pcl.pending.get p = some c) ∧ (∀ (q : Pos), q ≠ p → s.pcl.pending.get q = none))
    ∧ (∃ (p : Pos) (c : Category) (x : CategoryRow) (s : State) (q : Pos) (d : Category) (y :
      CategoryRow), (s.smc.inReset = false) ∧ (s.categoryRow c = some x) ∧ (s.pcl.pending.get p = some c)
      ∧ (∀ (q : Pos), q ≠ p → s.pcl.pending.get q = none) ∧ (s.pcl.demand.get q = some d) ∧ (s.categoryRow
      d = some y)) :=
  ⟨⟨(chRow (fun r => { r with fitted := false }) w),
     (by and_intros <;> first | decide +kernel | (intro q; cases q <;> decide +kernel))⟩,
   ⟨(pc (fun k => { k with state := .pulldown, reserve := 29850 }) w),
     (by and_intros <;> first | decide +kernel | (intro q; cases q <;> decide +kernel))⟩,
   ⟨(pc (fun k =>
     { k with state := .parked, reserve := 10000, demand := k.demand.set .p1 (some .c40), source := k.source.set .p1 (some (.bank .b1)) })
     w), .p1, .c40, ⟨-400, -330, 20000⟩,
     (by and_intros <;> first | decide +kernel | (intro q; cases q <;> decide +kernel))⟩,
   ⟨w, .p1, (by and_intros <;> first | decide +kernel | (intro q; cases q <;> decide +kernel))⟩,
   ⟨.p1, .c40, ⟨-400, -330, 20000⟩, (pc (fun k =>
     { k with pending := ⟨some .c40, none, none, none⟩, state := .ready, stabilised := true, reserve := 19850 })
     w), (by and_intros <;> first | decide +kernel | (intro q; cases q <;> decide +kernel))⟩,
   ⟨.p1, .c40, ⟨-400, -330, 20000⟩, (pc (fun k =>
     { k with pending := ⟨some .c40, none, none, none⟩, state := .ready, stabilised := true, reserve := 30000, demand := k.demand.set .p2 (some .c20) })
     w), .p2, .c20, ⟨-200, -170, 10000⟩,
     (by and_intros <;> first | decide +kernel | (intro q; cases q <;> decide +kernel))⟩⟩

theorem witness_AdmissionAndDemand :
    (∃ (p : Pos) (s : State) (c : Category), (s.smc.inReset = false) ∧ (∀ (q : Pos), s.pcl.pending.get q =
      none) ∧ (c ≠ Category.c00) ∧ (s.chillerRow.fitted = true) ∧ (s.latched = false) ∧ (s.pcl.state =
      ChillerState.parked) ∧ (s.pcl.reserve < s.chillerRow.readyOn) ∧ ((s.pcl.monitor.get p).phase =
      MonPhase.idle))
    ∧ (∃ (p : Pos) (s : State) (c : Option Category), (s.smc.inReset = false) ∧ (∀ (q : Pos),
      s.pcl.pending.get q = none) ∧ (c = none ∨ c = some Category.c00) ∧ (s.chillerRow.fitted = false ∨
      s.pcl.state = ChillerState.fault ∨ s.pcl.state = ChillerState.parked ∧ (!s.latched && (s.smc.mode ==
      Mode.run || Pos.all.any fun q => q != p && (s.pcl.demand.get q).isSome)) = false))
    ∧ (∃ (p : Pos) (s : State) (c : Option Category), (s.smc.inReset = false) ∧ (∀ (q : Pos),
      s.pcl.pending.get q = none) ∧ (c = none ∨ c = some Category.c00) ∧ (s.chillerRow.fitted = true) ∧
      (s.pcl.state = ChillerState.pulldown ∨ s.pcl.state = ChillerState.ready) ∧ ((!s.latched &&
      (s.smc.mode == Mode.run || Pos.all.any fun q => q != p && (s.pcl.demand.get q).isSome)) = true))
    ∧ (∃ (p : Pos) (s : State) (c : Option Category), (s.smc.inReset = false) ∧ (∀ (q : Pos),
      s.pcl.pending.get q = none) ∧ (c = none ∨ c = some Category.c00) ∧ (s.chillerRow.fitted = true) ∧
      (s.pcl.state = ChillerState.pulldown ∨ s.pcl.state = ChillerState.ready) ∧ ((!s.latched &&
      (s.smc.mode == Mode.run || Pos.all.any fun q => q != p && (s.pcl.demand.get q).isSome)) = false) ∧
      (s.pcl.parkTimer = none) ∧ (0 < s.chillerRow.parkDelay))
    ∧ (∃ (p : Pos) (s : State) (c : Option Category), (s.smc.inReset = false) ∧ (∀ (q : Pos),
      s.pcl.pending.get q = none) ∧ (c = none ∨ c = some Category.c00) ∧ (s.chillerRow.fitted = true) ∧
      (s.pcl.state = ChillerState.pulldown ∨ s.pcl.state = ChillerState.ready) ∧ ((!s.latched &&
      (s.smc.mode == Mode.run || Pos.all.any fun q => q != p && (s.pcl.demand.get q).isSome)) = false) ∧
      (s.pcl.parkTimer ≠ none))
    ∧ (∃ (p : Pos) (s : State) (c : Option Category), (s.smc.inReset = false) ∧ (∀ (q : Pos),
      s.pcl.pending.get q = none) ∧ (c = none ∨ c = some Category.c00) ∧ (s.chillerRow.fitted = true) ∧
      (s.pcl.state = ChillerState.pulldown ∨ s.pcl.state = ChillerState.ready) ∧ ((!s.latched &&
      (s.smc.mode == Mode.run || Pos.all.any fun q => q != p && (s.pcl.demand.get q).isSome)) = false) ∧
      (s.pcl.parkTimer = none) ∧ (s.chillerRow.parkDelay = 0))
    ∧ (∃ (s : State), (s.smc.inReset = false) ∧ (∀ (q : Pos), s.pcl.pending.get q = none))
    ∧ (∃ (s : State) (c : Category) (x : CategoryRow), (s.smc.inReset = false) ∧ (s.categoryRow c = some
      x) ∧ ((fun x => s.chillerRow.fitted = true ∧ s.pcl.state = ChillerState.ready ∧ s.pcl.stabilised =
      true ∧ x.threshold ≤ s.pcl.reserve ∧ s.latched = false ∧ (s.mapped Role.chillerFault = true →
      s.usable Role.chillerFault = true)) x))
    ∧ (∃ (s : State) (c : Category) (x : CategoryRow), (s.smc.inReset = false) ∧ (s.categoryRow c = some
      x) ∧ (¬(fun x => s.chillerRow.fitted = true ∧ s.pcl.state = ChillerState.ready ∧ s.pcl.stabilised =
      true ∧ x.threshold ≤ s.pcl.reserve ∧ s.latched = false ∧ (s.mapped Role.chillerFault = true →
      s.usable Role.chillerFault = true)) x))
    ∧ (∃ (p : Pos) (c : Category) (x : CategoryRow) (s : State), (s.smc.inReset = false) ∧ (s.categoryRow
      c = some x) ∧ (s.pcl.pending.get p = some c) ∧ (∀ (q : Pos), q ≠ p → s.pcl.pending.get q = none) ∧
      (s.chillerRow.fitted = true) ∧ (s.pcl.state = ChillerState.ready) ∧ (s.pcl.stabTimer ≠ none) ∧
      (x.threshold ≤ s.pcl.reserve) ∧ (s.latched = false) ∧ (s.mapped Role.chillerFault = false)) :=
  ⟨⟨.p1, (mode .quiet w), .c40,
     (by and_intros <;> first | decide +kernel | (intro q; cases q <;> decide +kernel))⟩,
   ⟨.p1, (chRow (fun r => { r with fitted := false }) (pc (fun k =>
     { k with demand := .all (some .c40), monitor := .all ⟨.armed, none, none, none⟩ }) w)), none,
     (by and_intros <;> first | decide +kernel | (intro q; cases q <;> decide +kernel))⟩,
   ⟨.p1, (mode .quiet (pc (fun k =>
     { k with state := .ready, stabTimer := some 3, parkTimer := some 4, demand := .all (some .c40) })
     w)), (some .c00), (by and_intros <;> first | decide +kernel | (intro q; cases q <;> decide +kernel))⟩,
   ⟨.p1, (mode .quiet (pc (fun k =>
     { k with state := .ready, stabTimer := some 3, demand := ⟨some .c40, none, none, none⟩ }) w)), none,
     (by and_intros <;> first | decide +kernel | (intro q; cases q <;> decide +kernel))⟩,
   ⟨.p1, (mode .quiet (pc (fun k =>
     { k with state := .ready, parkTimer := some 3, demand := ⟨some .c40, none, none, none⟩ }) w)), none,
     (by and_intros <;> first | decide +kernel | (intro q; cases q <;> decide +kernel))⟩,
   ⟨.p1, (chRow (fun r => { r with parkDelay := 0 }) (mode .quiet (pc (fun k =>
     { k with state := .ready, stabTimer := some 3, demand := ⟨some .c40, none, none, none⟩ }) w))), none,
     (by and_intros <;> first | decide +kernel | (intro q; cases q <;> decide +kernel))⟩,
   ⟨w, (by and_intros <;> first | decide +kernel | (intro q; cases q <;> decide +kernel))⟩,
   ⟨(pc (fun k => { k with state := .ready, reserve := 20000, stabilised := true }) w), .c40, ⟨-400, -330,
     20000⟩, by decide +kernel⟩,
   ⟨(pc (fun k => { k with state := .ready, reserve := 19999, stabilised := true }) w), .c40, ⟨-400, -330,
     20000⟩, by decide +kernel⟩,
   ⟨.p1, .c40, ⟨-400, -330, 20000⟩, (unmap .chillerFault (pc (fun k =>
     { k with pending := ⟨some .c40, none, none, none⟩, state := .ready, reserve := 20000, stabTimer := some 0 })
     w)), (by and_intros <;> first | decide +kernel | (intro q; cases q <;> decide +kernel))⟩⟩

theorem witness_CategoryMonitor :
    (∃ (p : Pos) (s : State) (c : Category), (s.smc.inReset = false) ∧ (s.pcl.demand.get p = some c) ∧ (0
      < s.chillerRow.settle))
    ∧ (∃ (p : Pos) (s : State) (c : Category), (s.smc.inReset = false) ∧ (s.pcl.demand.get p = some c) ∧
      (s.chillerRow.settle = 0))
    ∧ (∃ (p : Pos) (s : State), (s.smc.inReset = false) ∧ ((s.pcl.monitor.get p).phase =
      MonPhase.settling) ∧ ((s.pcl.monitor.get p).settle ≠ none))
    ∧ (∃ (p : Pos) (s : State), (s.smc.inReset = false) ∧ ((s.pcl.monitor.get p).settle = none))
    ∧ (∃ (p : Pos) (s : State) (r : SigRec) (c : Category) (x : CategoryRow), (s.smc.inReset = false) ∧
      ((s.pcl.monitor.get p).phase = MonPhase.armed) ∧ ((s.pcl.monitor.get p).category = some c) ∧
      (s.categoryRow c = some x) ∧ (x.bound < r.value) ∧ ((s.pcl.monitor.get p).excursion = none))
    ∧ (∃ (p : Pos) (s : State) (r : SigRec) (c : Category) (x : CategoryRow), (s.smc.inReset = false) ∧
      ((s.pcl.monitor.get p).phase = MonPhase.armed) ∧ ((s.pcl.monitor.get p).category = some c) ∧
      (s.categoryRow c = some x) ∧ (x.bound < r.value) ∧ ((s.pcl.monitor.get p).excursion ≠ none))
    ∧ (∃ (p : Pos) (s : State) (r : SigRec) (c : Category) (x : CategoryRow), (s.smc.inReset = false) ∧
      ((s.pcl.monitor.get p).phase = MonPhase.armed) ∧ ((s.pcl.monitor.get p).category = some c) ∧
      (s.categoryRow c = some x) ∧ (r.value ≤ x.bound))
    ∧ (∃ (p : Pos) (s : State), (s.smc.inReset = false) ∧ ((s.pcl.monitor.get p).phase ≠ MonPhase.armed))
    ∧ (∃ (s : State) (r : SigRec), (s.smc.inReset = false) ∧ (r.quality.usable = false))
    ∧ (∃ (s : State) (r : SigRec), (s.smc.inReset = false) ∧ (r.quality.usable = true))
    ∧ (∃ (p : Pos) (s : State) (c : Category) (n : Nat), (s.smc.inReset = false) ∧ ((s.pcl.monitor.get
      p).phase = MonPhase.armed) ∧ ((s.pcl.monitor.get p).category = some c) ∧ ((s.pcl.monitor.get
      p).excursion = some n))
    ∧ (∃ (p : Pos) (s : State), (s.smc.inReset = false) ∧ ((s.pcl.monitor.get p).excursion = none)) :=
  ⟨⟨.p1, (pc (fun k => { k with demand := .all (some .c40) }) w), .c40, by decide +kernel⟩,
   ⟨.p1, (chRow (fun r => { r with settle := 0 }) (pc (fun k => { k with demand := .all (some .c40) })
     w)), .c40, by decide +kernel⟩,
   ⟨.p1, (pc (fun k => { k with monitor := .all ⟨.settling, some .c40, some 0, none⟩ }) w), by
     decide +kernel⟩,
   ⟨.p1, (pc (fun k => { k with monitor := .all ⟨.armed, some .c40, none, some 3⟩ }) w), by
     decide +kernel⟩,
   ⟨.p1, (pc (fun k => { k with monitor := .all ⟨.armed, some .c40, none, none⟩ }) w), (gv (-329)), .c40,
     ⟨-400, -330, 20000⟩, by decide +kernel⟩,
   ⟨.p1, (pc (fun k => { k with monitor := .all ⟨.armed, some .c40, none, some 3⟩ }) w), (gv (-329)),
     .c40, ⟨-400, -330, 20000⟩, by decide +kernel⟩,
   ⟨.p1, (pc (fun k => { k with monitor := .all ⟨.armed, some .c40, none, some 3⟩ }) w), (gv (-330)),
     .c40, ⟨-400, -330, 20000⟩, by decide +kernel⟩,
   ⟨.p1, (pc (fun k => { k with monitor := .all ⟨.settling, some .c40, some 3, none⟩ }) w), by
     decide +kernel⟩,
   ⟨(pc (fun k => { k with monitor := .all ⟨.armed, some .c40, none, some 3⟩ }) w), (gq .stale), by
     decide +kernel⟩,
   ⟨(pc (fun k => { k with monitor := .all ⟨.armed, some .c40, none, some 3⟩ }) w), (gq .uncertain), by
     decide +kernel⟩,
   ⟨.p1, (pc (fun k => { k with monitor := .all ⟨.armed, some .c40, none, some 0⟩ }) w), .c40, 0, by
     decide +kernel⟩,
   ⟨.p1, w, by decide +kernel⟩⟩

theorem witness_ChillerEvents :
    (∃ (s : State), (s.smc.inReset = false) ∧ (∀ (q : Pos), s.pcl.pending.get q = none) ∧ (s.pcl.stabTimer
      ≠ none))
    ∧ (∃ (s : State), (s.smc.inReset = false) ∧ (∀ (q : Pos), s.pcl.pending.get q = none) ∧
      (s.pcl.stabTimer = none))
    ∧ (∃ (s : State), (s.smc.inReset = false) ∧ (∀ (q : Pos), s.pcl.pending.get q = none) ∧
      (s.pcl.parkTimer ≠ none))
    ∧ (∃ (s : State), (s.smc.inReset = false) ∧ (∀ (q : Pos), s.pcl.pending.get q = none) ∧
      (s.pcl.parkTimer = none))
    ∧ (∃ (s : State), (s.smc.inReset = false) ∧ (∀ (q : Pos), s.pcl.pending.get q = none) ∧
      (s.chillerRow.fitted = true) ∧ (s.pcl.state ≠ ChillerState.fault))
    ∧ (∃ (s : State), (s.smc.inReset = false) ∧ (∀ (q : Pos), s.pcl.pending.get q = none) ∧
      (s.chillerRow.fitted = false ∨ s.pcl.state = ChillerState.fault))
    ∧ (∃ (s : State) (a : Arrival), (s.smc.inReset = false) ∧ (∀ (q : Pos), s.pcl.pending.get q = none) ∧
      (a.record.quality.usable = true) ∧ (a.record.level = true) ∧ (s.chillerRow.fitted = true) ∧
      (s.pcl.state ≠ ChillerState.fault))
    ∧ (∃ (s : State) (a : Arrival), (s.smc.inReset = false) ∧ (∀ (q : Pos), s.pcl.pending.get q = none) ∧
      (a.record.quality.usable = true) ∧ (a.record.level = true) ∧ (s.chillerRow.fitted = false ∨
      s.pcl.state = ChillerState.fault))
    ∧ (∃ (s : State) (a : Arrival), (s.smc.inReset = false) ∧ (∀ (q : Pos), s.pcl.pending.get q = none) ∧
      (a.record.quality.usable = true) ∧ (a.record.level = false) ∧ (s.pcl.state = ChillerState.fault) ∧
      (s.chillerRow.fitted = true) ∧ (s.smc.mode ≠ Mode.run) ∧ (∀ (p : Pos), s.pcl.demand.get p = none))
    ∧ (∃ (s : State) (a : Arrival), (s.smc.inReset = false) ∧ (∀ (q : Pos), s.pcl.pending.get q = none) ∧
      (a.record.quality.usable = false ∨ a.record.level = false ∧ s.pcl.state ≠ ChillerState.fault))
    ∧ (∃ (s : State), (s.smc.inReset = false) ∧ (∀ (q : Pos), s.pcl.pending.get q = none) ∧ (s.pcl.state =
      ChillerState.pulldown ∨ s.pcl.state = ChillerState.ready))
    ∧ (∃ (s : State), (s.smc.inReset = false) ∧ (∀ (q : Pos), s.pcl.pending.get q = none) ∧ (¬(s.pcl.state
      = ChillerState.pulldown ∨ s.pcl.state = ChillerState.ready))) :=
  ⟨⟨(pc (fun k => { k with state := .ready, stabTimer := some 0 }) w),
     (by and_intros <;> first | decide +kernel | (intro q; cases q <;> decide +kernel))⟩,
   ⟨w, (by and_intros <;> first | decide +kernel | (intro q; cases q <;> decide +kernel))⟩,
   ⟨(pc (fun k => { k with state := .ready, stabTimer := some 4, parkTimer := some 0 }) w),
     (by and_intros <;> first | decide +kernel | (intro q; cases q <;> decide +kernel))⟩,
   ⟨w, (by and_intros <;> first | decide +kernel | (intro q; cases q <;> decide +kernel))⟩,
   ⟨(pc (fun k => { k with state := .ready, reserve := 5, stabTimer := some 4, parkTimer := some 0 }) w),
     (by and_intros <;> first | decide +kernel | (intro q; cases q <;> decide +kernel))⟩,
   ⟨(pc (fun k => { k with state := .fault, reserve := 5, stabTimer := some 4, parkTimer := some 0 }) w),
     (by and_intros <;> first | decide +kernel | (intro q; cases q <;> decide +kernel))⟩,
   ⟨(pc (fun k => { k with state := .ready, reserve := 5, stabTimer := some 4, parkTimer := some 0 }) w),
     (.transition (gl true)),
     (by and_intros <;> first | decide +kernel | (intro q; cases q <;> decide +kernel))⟩,
   ⟨(pc (fun k => { k with state := .fault, cause := some .signal }) w), (.refresh (gl true)),
     (by and_intros <;> first | decide +kernel | (intro q; cases q <;> decide +kernel))⟩,
   ⟨(pc (fun k => { k with state := .fault, cause := some .level }) (mode .quiet w)), (.transition (gl
     false)), (by and_intros <;> first | decide +kernel | (intro q; cases q <;> decide +kernel))⟩,
   ⟨w, (.quality (gq .bad)),
     (by and_intros <;> first | decide +kernel | (intro q; cases q <;> decide +kernel))⟩,
   ⟨(pc (fun k => { k with state := .ready, reserve := 5, stabTimer := some 4, parkTimer := some 0 }) w),
     (by and_intros <;> first | decide +kernel | (intro q; cases q <;> decide +kernel))⟩,
   ⟨w, (by and_intros <;> first | decide +kernel | (intro q; cases q <;> decide +kernel))⟩⟩

theorem witness_FillStarts :
    (∃ (p : Pos) (x : SigRec) (s : State), (s.smc.inReset = false) ∧ (x.level = false) ∧ ((s.ctx p).state
      = PState.idle))
    ∧ (∃ (p : Pos) (x : SigRec) (s : State), (s.smc.inReset = false) ∧ (x.level = true) ∧ ((s.ctx p).state
      = PState.lifted))
    ∧ (∃ (p : Pos) (x : SigRec) (s : State) (f : FillId), (s.smc.inReset = false) ∧ (x.level = true) ∧
      ((s.ctx p).state = PState.authorised) ∧ ((s.ctx p).fill = some f))
    ∧ (∃ (p : Pos) (x : SigRec) (s : State), (s.smc.inReset = false) ∧ (x.level = true) ∧ ((s.ctx p).state
      = PState.hangUp) ∧ ((s.ctx p).faultMark = false))
    ∧ (∃ (p : Pos) (s : State), (s.smc.inReset = false) ∧ ((s.ctx p).state = PState.closed))
    ∧ (∃ (p : Pos) (s : State), (s.smc.inReset = false) ∧ ((s.ctx p).state = PState.idle ∨ (s.ctx p).state
      = PState.lifted))
    ∧ (∃ (p : Pos) (x : SigRec) (s : State) (b : Bank), (s.smc.inReset = false) ∧ ((s.ctx p).state =
      PState.authorised) ∧ (x.level = true) ∧ (s.onlyBank p b) ∧ ((withRecord (Role.coupled p) x
      s).signalLost p = false))
    ∧ (∃ (p : Pos) (x : SigRec) (s : State), (s.smc.inReset = false) ∧ ((s.ctx p).state =
      PState.authorised) ∧ (x.level = true) ∧ ((withRecord (Role.coupled p) x s).signalLost p = true) ∧
      ((s.ctx p).halt = false) ∧ ((s.ctx p).signal = false)) :=
  ⟨⟨.p1, (gl false), (cx (fun c => { c with state := .idle }) w), by decide +kernel⟩,
   ⟨.p1, (gl true), (cx (fun c => { c with state := .lifted }) w), by decide +kernel⟩,
   ⟨.p1, (gl true), (at1 .authorised id w), fillId, by decide +kernel⟩,
   ⟨.p1, (gl true), (cx (fun c => { c with state := .hangUp }) w), by decide +kernel⟩,
   ⟨.p1, w, by decide +kernel⟩,
   ⟨.p1, (cx (fun c => { c with state := .lifted }) w), by decide +kernel⟩,
   ⟨.p1, (gl true), (seq [.bank .b1] (at1 .authorised id w)), .b1,
     (by and_intros <;> first | decide +kernel | (constructor <;> decide +kernel))⟩,
   ⟨.p1, (gl true), (qual (.meter .p1) .stale (at1 .authorised id w)), by decide +kernel⟩⟩

theorem witness_FillEnds :
    (∃ (p : Pos) (s : State), (s.smc.inReset = false) ∧ ((s.ctx p).state.endable = true) ∧ (s.sourceless
      p) ∧ ((s.ctx p).timers.fill ≠ none))
    ∧ (∃ (p : Pos) (s : State), (s.smc.inReset = false) ∧ ((s.ctx p).state.endable = true) ∧ (s.sourceless
      p) ∧ ((s.ctx p).timers.bankWait ≠ none))
    ∧ (∃ (p : Pos) (s : State), (s.smc.inReset = false) ∧ ((s.ctx p).state.endable = true) ∧ (s.sourceless
      p) ∧ ((s.ctx p).timers.pause ≠ none) ∧ ((s.ctx p).signal = true))
    ∧ (∃ (p : Pos) (s : State), (s.smc.inReset = false) ∧ ((s.ctx p).state.endable = true) ∧ (s.sourceless
      p) ∧ ((s.ctx p).timers.pause ≠ none) ∧ ((s.ctx p).signal = false))
    ∧ (∃ (p : Pos) (s : State), (s.smc.inReset = false) ∧ ((s.ctx p).timers.fill = none))
    ∧ (∃ (p : Pos) (s : State), (s.smc.inReset = false) ∧ ((s.ctx p).timers.bankWait = none))
    ∧ (∃ (p : Pos) (s : State), (s.smc.inReset = false) ∧ ((s.ctx p).timers.pause = none))
    ∧ (∃ (p : Pos) (x : SigRec) (s : State), (s.smc.inReset = false) ∧ ((s.ctx p).faultMark = false) ∧
      (s.sourceless p) ∧ ((s.ctx p).state.running = true) ∧ (x.level = true))
    ∧ (∃ (p : Pos) (x : SigRec) (s : State), (s.smc.inReset = false) ∧ ((s.ctx p).faultMark = false) ∧
      (s.sourceless p) ∧ ((s.ctx p).state.running = true) ∧ (x.level = false))
    ∧ (∃ (p : Pos) (s : State) (f : FillId) (m : Nat), (s.smc.inReset = false) ∧ ((s.ctx p).faultMark =
      false) ∧ (s.sourceless p) ∧ ((s.ctx p).state.running = true) ∧ ((s.ctx p).fill = some f) ∧ (f.cap *
      1000 ≤ m))
    ∧ (∃ (p : Pos) (s : State), (s.smc.inReset = false) ∧ ((s.ctx p).faultMark = false) ∧ (s.sourceless p)
      ∧ ((s.ctx p).state.endable = true))
    ∧ (∃ (p : Pos) (x : SigRec) (s : State), (s.smc.inReset = false) ∧ ((s.ctx p).faultMark = false) ∧
      (s.sourceless p) ∧ ((s.ctx p).state.endable = true) ∧ ((↑(Config.ceiling (s.posRow p).pclass) : Int) ≤
      x.value))
    ∧ (∃ (p : Pos) (s : State), (s.smc.inReset = false) ∧ ((s.ctx p).faultMark = false) ∧ (s.sourceless p)
      ∧ ((s.ctx p).state = PState.authorised))
    ∧ (∃ (p : Pos) (s : State) (b : Bank) (y : Session), (s.smc.inReset = false) ∧ (0 < (s.posRow
      p).afterRun) ∧ ((s.ctx p).waitOn = none) ∧ ((s.ctx p).source = some (Source.bank b)) ∧ ((s.bank
      b).state = BankState.claimedPos p) ∧ ((s.bank b).session = some y) ∧ (y.holder = Holder.pos p) ∧
      (y.openValid = false) ∧ ((s.bank b).waiters = []) ∧ ((s.ctx p).state.endable = true) ∧ ((s.ctx
      p).timers.fill ≠ none))
    ∧ (∃ (p : Pos) (s : State) (b : Bank) (y : Session), (s.smc.inReset = false) ∧ (0 < (s.posRow
      p).afterRun) ∧ ((s.ctx p).waitOn = none) ∧ ((s.ctx p).source = some (Source.bank b)) ∧ ((s.bank
      b).state = BankState.claimedPos p) ∧ ((s.bank b).session = some y) ∧ (y.holder = Holder.pos p) ∧
      (y.openValid = false) ∧ ((s.bank b).waiters = []) ∧ ((s.ctx p).state.endable = true))
    ∧ (∃ (p : Pos) (x : SigRec) (s : State) (b : Bank) (y : Session), (s.smc.inReset = false) ∧ (0 <
      (s.posRow p).afterRun) ∧ ((s.ctx p).waitOn = none) ∧ ((s.ctx p).source = some (Source.bank b)) ∧
      ((s.bank b).state = BankState.claimedPos p) ∧ ((s.bank b).session = some y) ∧ (y.holder = Holder.pos
      p) ∧ (y.openValid = false) ∧ ((s.bank b).waiters = []) ∧ ((s.ctx p).state.running = true) ∧ (x.level
      = true))
    ∧ (∃ (p : Pos) (x : SigRec) (s : State) (b : Bank) (y : Session), (s.smc.inReset = false) ∧ (0 <
      (s.posRow p).afterRun) ∧ ((s.ctx p).waitOn = none) ∧ ((s.ctx p).source = some (Source.bank b)) ∧
      ((s.bank b).state = BankState.claimedPos p) ∧ ((s.bank b).session = some y) ∧ (y.holder = Holder.pos
      p) ∧ (y.openValid = false) ∧ ((s.bank b).waiters = []) ∧ ((s.ctx p).state.running = true) ∧ (x.level
      = false))
    ∧ (∃ (p : Pos) (s : State), (s.smc.inReset = false) ∧ (0 < (s.posRow p).afterRun) ∧ ((s.ctx p).waitOn
      = none) ∧ ((s.ctx p).source = some Source.compressor) ∧ (s.outputHolder = some p) ∧ (s.cmp.state =
      CmpState.loaded) ∧ (s.cmp.waiters = []) ∧ (s.refillCandidates = []) ∧ (s.runTimer < s.cmpRow.minRun)
      ∧ ((s.ctx p).state.endable = true) ∧ ((s.ctx p).timers.fill ≠ none))
    ∧ (∃ (p : Pos) (s : State), (s.smc.inReset = false) ∧ (0 < (s.posRow p).afterRun) ∧ ((s.ctx p).waitOn
      = none) ∧ ((s.ctx p).source = some Source.compressor) ∧ (s.outputHolder = some p) ∧ (s.cmp.state =
      CmpState.loaded) ∧ (s.cmp.waiters = []) ∧ (s.refillCandidates = []) ∧ (s.runTimer < s.cmpRow.minRun)
      ∧ ((s.ctx p).state.endable = true))
    ∧ (∃ (p : Pos) (x : SigRec) (s : State), (s.smc.inReset = false) ∧ (0 < (s.posRow p).afterRun) ∧
      ((s.ctx p).waitOn = none) ∧ ((s.ctx p).source = some Source.compressor) ∧ (s.outputHolder = some p)
      ∧ (s.cmp.state = CmpState.loaded) ∧ (s.cmp.waiters = []) ∧ (s.refillCandidates = []) ∧ (s.runTimer <
      s.cmpRow.minRun) ∧ ((s.ctx p).state.running = true) ∧ (x.level = true))
    ∧ (∃ (p : Pos) (x : SigRec) (s : State), (s.smc.inReset = false) ∧ (0 < (s.posRow p).afterRun) ∧
      ((s.ctx p).waitOn = none) ∧ ((s.ctx p).source = some Source.compressor) ∧ (s.outputHolder = some p)
      ∧ (s.cmp.state = CmpState.loaded) ∧ (s.cmp.waiters = []) ∧ (s.refillCandidates = []) ∧ (s.runTimer <
      s.cmpRow.minRun) ∧ ((s.ctx p).state.running = true) ∧ (x.level = false)) :=
  ⟨⟨.p1, (tm (fun t => { t with fill := some 0, pause := some 3 }) (at1 .paused (fun c =>
     { c with resume := .main, waitOn := some .compressor }) (cm (fun k =>
     { k with waiters := [.p1, .p2] }) (wait .b1 [.p2, .p1] w)))),
     (by and_intros <;> first | decide +kernel | (constructor <;> decide +kernel))⟩,
   ⟨.p1, (tm (fun t => { t with bankWait := some 0 }) (at1 .bankWait (fun c =>
     { c with waitOn := some (.bank .b1) }) (wait .b1 [.p2, .p1] (held .b1 (.pos .p3) true w)))),
     (by and_intros <;> first | decide +kernel | (constructor <;> decide +kernel))⟩,
   ⟨.p1, (tm (fun t => { t with pause := some 0 }) (at1 .paused (fun c =>
     { c with resume := .main, signal := true }) w)),
     (by and_intros <;> first | decide +kernel | (constructor <;> decide +kernel))⟩,
   ⟨.p1, (tm (fun t => { t with pause := some 0 }) (at1 .paused (fun c =>
     { c with resume := .pulse, halt := true }) w)),
     (by and_intros <;> first | decide +kernel | (constructor <;> decide +kernel))⟩,
   ⟨.p1, w, by decide +kernel⟩,
   ⟨.p1, w, by decide +kernel⟩,
   ⟨.p1, w, by decide +kernel⟩,
   ⟨.p1, (gl true), (at1 .main id w),
     (by and_intros <;> first | decide +kernel | (constructor <;> decide +kernel))⟩,
   ⟨.p1, (gl false), (at1 .main id w),
     (by and_intros <;> first | decide +kernel | (constructor <;> decide +kernel))⟩,
   ⟨.p1, (at1 .main id w), fillId, 3706000,
     (by and_intros <;> first | decide +kernel | (constructor <;> decide +kernel))⟩,
   ⟨.p1, (at1 .precoolWait id w),
     (by and_intros <;> first | decide +kernel | (constructor <;> decide +kernel))⟩,
   ⟨.p1, (gv 8750), (at1 .authorised id w),
     (by and_intros <;> first | decide +kernel | (constructor <;> decide +kernel))⟩,
   ⟨.p1, (at1 .authorised id w),
     (by and_intros <;> first | decide +kernel | (constructor <;> decide +kernel))⟩,
   ⟨.p1, (tm (fun t => { t with fill := some 0 }) (at1 .main (fun c =>
     { c with source := some (.bank .b1), awaited := [.b2], opening := 100 }) (held .b1 (.pos .p1) false
     w))), .b1, (ses (.pos .p1) false), by decide +kernel⟩,
   ⟨.p1, (at1 .pulse (fun c => { c with source := some (.bank .b1), opening := 100 }) (held .b1 (.pos .p1)
     false w)), .b1, (ses (.pos .p1) false), by decide +kernel⟩,
   ⟨.p1, (gl true), (at1 .main (fun c => { c with source := some (.bank .b1), opening := 100 }) (held .b1
     (.pos .p1) false w)), .b1, (ses (.pos .p1) false), by decide +kernel⟩,
   ⟨.p1, (gl false), (at1 .pulse (fun c => { c with source := some (.bank .b1), opening := 100 }) (held
     .b1 (.pos .p1) false w)), .b1, (ses (.pos .p1) false), by decide +kernel⟩,
   ⟨.p1, (tm (fun t => { t with fill := some 0 }) (at1 .main (fun c =>
     { c with source := some .compressor }) (cm (fun k =>
     { k with dest := some (.direct .p1), holder := some (.p1, none), startedAt := some 4999 }) (run
     .loaded (val (.bankPressure .b1) 4600 w))))), by decide +kernel⟩,
   ⟨.p1, (at1 .main (fun c => { c with source := some .compressor }) (cm (fun k =>
     { k with dest := some (.direct .p1), holder := some (.p1, none), startedAt := some 4999 }) (run
     .loaded (val (.bankPressure .b1) 4600 w)))), by decide +kernel⟩,
   ⟨.p1, (gl true), (at1 .pulse (fun c => { c with source := some .compressor }) (cm (fun k =>
     { k with dest := some (.direct .p1), holder := some (.p1, none), startedAt := some 4999 }) (run
     .loaded (val (.bankPressure .b1) 4600 w)))), by decide +kernel⟩,
   ⟨.p1, (gl false), (at1 .main (fun c => { c with source := some .compressor }) (cm (fun k =>
     { k with dest := some (.direct .p1), holder := some (.p1, none), startedAt := some 4999 }) (run
     .loaded (val (.bankPressure .b1) 4600 w)))), by decide +kernel⟩⟩

theorem witness_OutsideAFill :
    (∃ (p : Pos) (s : State) (f : FillId) (m : Nat), (s.smc.inReset = false) ∧ ((s.ctx p).fill = some f) ∧
      (m < f.cap * 1000))
    ∧ (∃ (p : Pos) (s : State) (f : FillId) (m : Nat), (s.smc.inReset = false) ∧ ((s.ctx p).state.running =
      true) ∧ ((s.ctx p).fill = some f) ∧ (m < f.cap * 1000))
    ∧ (∃ (p : Pos) (s : State), (s.smc.inReset = false) ∧ ((s.ctx p).state.running = true))
    ∧ (∃ (p : Pos) (s : State), (s.smc.inReset = false) ∧ ((s.ctx p).state.endable = false))
    ∧ (∃ (s : State) (n : Nat), (s.smc.inReset = false) ∧ (n = 0 ∨ 5 ≤ n))
    ∧ (∃ (p : Pos) (s : State), (s.smc.inReset = false) ∧ ((s.ctx p).state = PState.closed ∨ (s.ctx
      p).state = PState.idle ∨ (s.ctx p).state = PState.lifted))
    ∧ (∃ (p : Pos) (s : State), (s.smc.inReset = false) ∧ ((s.ctx p).state = PState.ending ∨ (s.ctx
      p).state = PState.venting ∨ (s.ctx p).state = PState.hangUp))
    ∧ (∃ (p : Pos) (s : State), (s.smc.inReset = false) ∧ ((s.ctx p).state = PState.fault)) :=
  ⟨⟨.p1, (at1 .main id w), fillId, 3705999, by decide +kernel⟩,
   ⟨.p1, (at1 .main id w), fillId, 3705999, by decide +kernel⟩,
   ⟨.p1, (at1 .main id w), by decide +kernel⟩,
   ⟨.p1, (at1 .ending id w), by decide +kernel⟩,
   ⟨w, 5, by decide +kernel⟩,
   ⟨.p1, (orow [.p2] w), by decide +kernel⟩,
   ⟨.p1, (at1 .ending (fun c => { c with faultMark := true, faultCause := some .flow }) w), by
     decide +kernel⟩,
   ⟨.p1, (at1 .fault id w), by decide +kernel⟩⟩

theorem witness_EndingAndVenting :
    (∃ (p : Pos) (s : State) (f : FillId), (s.smc.inReset = false) ∧ ((s.ctx p).state = PState.ending) ∧
      ((s.ctx p).awaited = []) ∧ ((s.ctx p).timers.afterRun ≠ none) ∧ ((s.ctx p).fill = some f))
    ∧ (∃ (p : Pos) (s : State), (s.smc.inReset = false) ∧ ((s.ctx p).state = PState.ending))
    ∧ (∃ (p : Pos) (s : State), (s.smc.inReset = false) ∧ ((s.ctx p).state = PState.ending) ∧ ((s.ctx
      p).awaited ≠ []) ∧ ((s.ctx p).timers.afterRun ≠ none))
    ∧ (∃ (p : Pos) (s : State) (b : Bank) (f : FillId), (s.smc.inReset = false) ∧ ((s.ctx p).state =
      PState.ending) ∧ ((s.ctx p).awaited.erase b = []) ∧ ((s.ctx p).timers.afterRun = none) ∧ ((s.ctx
      p).fill = some f))
    ∧ (∃ (p : Pos) (s : State) (b : Bank) (f : FillId), (s.smc.inReset = false) ∧ ((s.ctx p).state =
      PState.ending) ∧ ((s.ctx p).awaited.erase b = []) ∧ ((s.ctx p).timers.afterRun = none) ∧ ((s.ctx
      p).source ≠ some (Source.bank b)) ∧ ((s.ctx p).fill = some f))
    ∧ (∃ (p : Pos) (b : Bank) (s : State), (s.smc.inReset = false) ∧ ((s.ctx p).state.inProgress = true) ∧
      ((s.ctx p).state ≠ PState.ending ∨ (s.ctx p).timers.afterRun ≠ none ∨ (s.ctx p).awaited.erase b ≠
      []))
    ∧ (∃ (p : Pos) (s : State), (s.smc.inReset = false) ∧ ((s.ctx p).state.inProgress = false))
    ∧ (∃ (p : Pos) (x : SigRec) (s : State), (s.smc.inReset = false) ∧ ((s.ctx p).state = PState.venting)
      ∧ (x.value ≤ (↑(s.posRow p).ventTarget : Int)) ∧ (x.value < (↑(Config.ceiling (s.posRow p).pclass) :
      Int)) ∧ ((s.ctx p).faultMark = false))
    ∧ (∃ (p : Pos) (x : SigRec) (s : State), (s.smc.inReset = false) ∧ ((s.ctx p).state = PState.venting)
      ∧ ((↑(s.posRow p).ventTarget : Int) < x.value) ∧ (x.value < (↑(Config.ceiling (s.posRow p).pclass) :
      Int) ∨ (s.ctx p).faultMark = true))
    ∧ (∃ (p : Pos) (x : SigRec) (s : State), (s.smc.inReset = false) ∧ ((s.ctx p).state = PState.venting)
      ∧ ((↑(s.posRow p).ventTarget : Int) < x.value) ∧ ((↑(Config.ceiling (s.posRow p).pclass) : Int) ≤
      x.value) ∧ ((s.ctx p).faultMark = false))
    ∧ (∃ (p : Pos) (x : SigRec) (s : State), (s.smc.inReset = false) ∧ ((s.ctx p).state = PState.venting)
      ∧ (x.value ≤ (↑(s.posRow p).ventTarget : Int)) ∧ ((↑(Config.ceiling (s.posRow p).pclass) : Int) ≤
      x.value) ∧ ((s.ctx p).faultMark = false))
    ∧ (∃ (p : Pos) (s : State), (s.smc.inReset = false) ∧ ((s.ctx p).state = PState.venting) ∧ ((s.ctx
      p).timers.vent ≠ none))
    ∧ (∃ (p : Pos) (x : SigRec) (s : State), (s.smc.inReset = false) ∧ ((s.ctx p).state = PState.venting)
      ∧ (x.value ≤ (↑(s.posRow p).ventTarget : Int)) ∧ ((s.ctx p).faultMark = true))
    ∧ (∃ (p : Pos) (x : SigRec) (s : State), (s.smc.inReset = false) ∧ ((s.ctx p).state = PState.hangUp) ∧
      ((s.ctx p).faultMark = true) ∧ (x.level = true)) :=
  ⟨⟨.p1, (tm (fun t => { t with afterRun := some 0 }) (at1 .ending (fun c =>
     { c with endReason := some .massCap, link := .pending, outcomes := [(.b1, .balanced)] }) (mt (fun m
     => { m with isOpen := true, fill := 5 }) (lev (.holster .p1) false (val (.nozzlePressure .p1) 100
     w))))), fillId, by decide +kernel⟩,
   ⟨.p1, (tm (fun t => { t with afterRun := some 0 }) (at1 .ending (fun c =>
     { c with endReason := some .massCap }) (mt (fun m =>
     { m with isOpen := true, fill := 5999, afterRun := 1999, unattr := 1999 }) w))), by decide +kernel⟩,
   ⟨.p1, (tm (fun t => { t with afterRun := some 0 }) (at1 .ending (fun c => { c with awaited := [.b1] })
     w)), by decide +kernel⟩,
   ⟨.p1, (tm (fun t => { t with afterRun := none }) (at1 .ending (fun c =>
     { c with endReason := some .massCap, awaited := [.b1] }) (mt (fun m =>
     { m with isOpen := true, fill := 5 }) (lev (.holster .p1) false (val (.nozzlePressure .p1) 100
     w))))), .b1, fillId, by decide +kernel⟩,
   ⟨.p1, (tm (fun t => { t with afterRun := none }) (at1 .ending (fun c =>
     { c with endReason := some .massCap, awaited := [.b1] }) (mt (fun m =>
     { m with isOpen := true, fill := 5 }) (lev (.holster .p1) false (val (.nozzlePressure .p1) 100
     w))))), .b1, fillId, by decide +kernel⟩,
   ⟨.p1, .b1, (tm (fun t => { t with afterRun := some 3 }) (at1 .ending (fun c =>
     { c with awaited := [.b2, .b1] }) w)), by decide +kernel⟩,
   ⟨.p1, w, by decide +kernel⟩,
   ⟨.p1, (gv 100), (tm (fun t => { t with vent := some 3 }) (lev (.holster .p1) false (cx (fun c =>
     { c with state := .venting }) w))), by decide +kernel⟩,
   ⟨.p1, (gv 101), (tm (fun t => { t with vent := some 3 }) (cx (fun c => { c with state := .venting })
     w)), by decide +kernel⟩,
   ⟨.p1, (gv 8750), (tm (fun t => { t with vent := some 3 }) (cx (fun c => { c with state := .venting })
     w)), by decide +kernel⟩,
   ⟨.p1, (gv 9000), (prow (fun r => { r with ventTarget := 9500 }) (tm (fun t =>
     { t with vent := some 3 }) (cx (fun c => { c with state := .venting }) w))), by decide +kernel⟩,
   ⟨.p1, (tm (fun t => { t with vent := some 0 }) (cx (fun c => { c with state := .venting }) w)), by
     decide +kernel⟩,
   ⟨.p1, (gv 100), (tm (fun t => { t with vent := some 3 }) (cx (fun c =>
     { c with state := .venting, faultMark := true, faultCause := some .meter }) w)), by decide +kernel⟩,
   ⟨.p1, (gl true), (cx (fun c =>
     { c with state := .hangUp, faultMark := true, faultCause := some .flow }) w), by decide +kernel⟩⟩

theorem witness_PulseAndLeakCheck :
    (∃ (p : Pos) (b : Bank) (x : Session) (s : State), (s.smc.inReset = false) ∧ ((s.ctx p).state =
      PState.pulse) ∧ ((s.ctx p).timers.pulse ≠ none) ∧ (s.draws p b x) ∧ ((s.ctx p).halt = false) ∧
      ((s.ctx p).signal = false) ∧ ((s.ctx p).waitOn = none) ∧ (0 < (s.posRow p).afterRun))
    ∧ (∃ (p : Pos) (s : State), (s.smc.inReset = false) ∧ ((s.ctx p).state = PState.leakCheck) ∧ ((s.ctx
      p).timers.leak ≠ none) ∧ (s.sourceless p) ∧ ((s.ctx p).link = Link.none ∨ (s.ctx p).link =
      Link.pending) ∧ (s.nozzle p + (↑(s.latchedTable p).params.leakLimit : Int) < (s.ctx p).leakRef))
    ∧ (∃ (p : Pos) (s : State), (s.smc.inReset = false) ∧ ((s.ctx p).state = PState.leakCheck) ∧ ((s.ctx
      p).timers.leak ≠ none) ∧ (s.sourceless p) ∧ ((s.ctx p).link = Link.none ∨ (s.ctx p).link =
      Link.pending) ∧ ((s.ctx p).leakRef ≤ s.nozzle p + (↑(s.latchedTable p).params.leakLimit : Int)) ∧ (min
      ((s.latchedTable p).cell (s.posRow p).volClass (s.ctx p).category
      (match s.usableValue Role.ambientTemp with | some v => bandOf (s.latchedTable p).ambEdges v | none => 5)
      (bandOf (s.latchedTable p).p0Edges ((s.ctx p).p0.getD 0))).aprr (s.rateCap (s.posRow p).pclass) =
      0))
    ∧ (∃ (p : Pos) (s : State) (b : Bank), (s.smc.inReset = false) ∧ ((s.ctx p).state = PState.leakCheck)
      ∧ ((s.ctx p).timers.leak ≠ none) ∧ (s.sourceless p) ∧ ((s.ctx p).link = Link.none ∨ (s.ctx p).link =
      Link.pending) ∧ ((s.ctx p).leakRef ≤ s.nozzle p + (↑(s.latchedTable p).params.leakLimit : Int)) ∧ (0 <
      min ((s.latchedTable p).cell (s.posRow p).volClass (s.ctx p).category
      (match s.usableValue Role.ambientTemp with | some v => bandOf (s.latchedTable p).ambEdges v | none => 5)
      (bandOf (s.latchedTable p).p0Edges ((s.ctx p).p0.getD 0))).aprr (s.rateCap (s.posRow p).pclass)) ∧
      ((s.ctx p).category = Category.c00 ∨ s.admissible (s.ctx p).category = true) ∧ ((s.ctx p).halt =
      false) ∧ ((s.ctx p).signal = false) ∧ ((s.ctx p).reAnchor = true) ∧ (s.onlyBank p b))
    ∧ (∃ (p : Pos) (s : State), (s.smc.inReset = false) ∧ ((s.ctx p).state = PState.leakCheck) ∧ ((s.ctx
      p).timers.leak ≠ none) ∧ (s.sourceless p) ∧ ((s.ctx p).link = Link.none ∨ (s.ctx p).link =
      Link.pending) ∧ ((s.ctx p).leakRef ≤ s.nozzle p + (↑(s.latchedTable p).params.leakLimit : Int)) ∧ (0 <
      min ((s.latchedTable p).cell (s.posRow p).volClass (s.ctx p).category
      (match s.usableValue Role.ambientTemp with | some v => bandOf (s.latchedTable p).ambEdges v | none => 5)
      (bandOf (s.latchedTable p).p0Edges ((s.ctx p).p0.getD 0))).aprr (s.rateCap (s.posRow p).pclass)) ∧
      ((s.ctx p).category ≠ Category.c00) ∧ (s.admissible (s.ctx p).category = false) ∧ (0 <
      (s.latchedTable p).params.precoolWait)) :=
  ⟨⟨.p1, .b1, (ses (.pos .p1) false), (tm (fun t => { t with pulse := some 0 }) (at1 .pulse (fun c =>
     { c with source := some (.bank .b1), opening := 100 }) (held .b1 (.pos .p1) false w))),
     (by and_intros <;> first | decide +kernel | (constructor <;> decide +kernel))⟩,
   ⟨.p1, (tm (fun t => { t with leak := some 0 }) (at1 .leakCheck (fun c =>
     { c with leakRef := 131, p0 := some 131 }) w)),
     (by and_intros <;> first | decide +kernel | (constructor <;> decide +kernel))⟩,
   ⟨.p1, (cells ⟨0, 7700⟩ (tm (fun t => { t with leak := some 0 }) (at1 .leakCheck (fun c =>
     { c with leakRef := 130, p0 := some 130, link := .pending }) w))),
     (by and_intros <;> first | decide +kernel | (constructor <;> decide +kernel))⟩,
   ⟨.p1, (seq [.bank .b1] (pc (fun k => { k with state := .ready, stabilised := true, reserve := 30000 })
     (tm (fun t => { t with leak := some 0 }) (at1 .leakCheck (fun c =>
     { c with leakRef := 130, p0 := some 130, link := .pending, reAnchor := true }) w)))), .b1,
     (by and_intros <;> first | decide +kernel | (constructor <;> decide +kernel))⟩,
   ⟨.p1, (tm (fun t => { t with leak := some 0 }) (at1 .leakCheck (fun c =>
     { c with leakRef := 130, p0 := some 130, link := .pending }) w)),
     (by and_intros <;> first | decide +kernel | (constructor <;> decide +kernel))⟩⟩

theorem witness_PrecoolAndReRate :
    (∃ (p : Pos) (s : State), (s.smc.inReset = false) ∧ ((s.ctx p).state = PState.precoolWait) ∧ ((s.ctx
      p).timers.precool ≠ none) ∧ (s.sourceless p) ∧ ((s.ctx p).category ≠ Category.c00) ∧ ((s.posRow
      p).fallback = none ∨ (s.ctx p).fellBack = true))
    ∧ (∃ (p : Pos) (s : State) (c : Category) (x : Selection) (y : Selection), (s.smc.inReset = false) ∧
      ((s.ctx p).state = PState.precoolWait) ∧ ((s.ctx p).timers.precool ≠ none) ∧ (s.sourceless p) ∧
      ((s.ctx p).category ≠ Category.c00) ∧ ((s.posRow p).fallback = some c) ∧ ((s.ctx p).fellBack =
      false) ∧ ((s.ctx p).selection = some x) ∧ (y = s.lookupAt p x c) ∧ (c ≠ Category.c00) ∧ (y.aprr =
      0))
    ∧ (∃ (p : Pos) (s : State) (c : Category) (x : Selection) (y : Selection), (s.smc.inReset = false) ∧
      ((s.ctx p).state = PState.precoolWait) ∧ ((s.ctx p).timers.precool ≠ none) ∧ (s.sourceless p) ∧
      ((s.ctx p).category ≠ Category.c00) ∧ ((s.posRow p).fallback = some c) ∧ ((s.ctx p).fellBack =
      false) ∧ ((s.ctx p).selection = some x) ∧ (y = s.lookupAt p x c) ∧ (c ≠ Category.c00) ∧ (0 < y.aprr)
      ∧ (s.admissible c = false) ∧ ((s.ctx p).halt = false) ∧ (s.signalLost p = false) ∧ (0 < (s.params
      p).precoolWait))
    ∧ (∃ (p : Pos) (c : Category) (s : State), (s.smc.inReset = false) ∧ ((s.ctx p).state ≠
      PState.precoolWait ∨ (s.ctx p).category ≠ c))
    ∧ (∃ (p : Pos) (c : Category) (s : State) (b : Bank), (s.smc.inReset = false) ∧ ((s.ctx p).state =
      PState.precoolWait) ∧ ((s.ctx p).category = c) ∧ ((s.ctx p).halt = false) ∧ ((s.ctx p).signal =
      false) ∧ ((s.ctx p).reAnchor = true) ∧ (s.onlyBank p b))
    ∧ (∃ (p : Pos) (c : Category) (s : State), (s.smc.inReset = false) ∧ ((s.ctx p).state ≠ PState.main ∨
      (s.ctx p).category ≠ c))
    ∧ (∃ (p : Pos) (c : Category) (s : State), (s.smc.inReset = false) ∧ ((s.ctx p).state = PState.main) ∧
      ((s.ctx p).category = c) ∧ ((s.posRow p).autoReRate = false) ∧ (s.sourceless p))
    ∧ (∃ (p : Pos) (c : Category) (v : Int) (s : State) (x : Selection), (s.smc.inReset = false) ∧ ((s.ctx
      p).state = PState.main) ∧ ((s.ctx p).category = c) ∧ ((s.posRow p).autoReRate = true) ∧ ((s.ctx
      p).selection = some x) ∧ (List.filter (fun k => (s.lookupAt p x k).aprr != 0) (List.dropWhile
      (fun k => match k with | Category.c40 => decide (s.tables.precool.active.c40.bound < v) | Category.c30 => decide (s.tables.precool.active.c30.bound < v) | Category.c20 => decide (s.tables.precool.active.c20.bound < v) | Category.c00 => false)
      (match c with | Category.c40 => [Category.c30, Category.c20, Category.c00] | Category.c30 => [Category.c20, Category.c00] | Category.c20 => [Category.c00] | Category.c00 => []))
      = []) ∧ (s.sourceless p))
    ∧ (∃ (p : Pos) (c : Category) (v : Int) (s : State) (x : Selection) (k : Category) (ks : List Category)
      (y : Selection), (s.smc.inReset = false) ∧ ((s.ctx p).state = PState.main) ∧ ((s.ctx p).category =
      c) ∧ ((s.posRow p).autoReRate = true) ∧ ((s.ctx p).selection = some x) ∧ (List.filter (fun k =>
      (s.lookupAt p x k).aprr != 0) (List.dropWhile
      (fun k => match k with | Category.c40 => decide (s.tables.precool.active.c40.bound < v) | Category.c30 => decide (s.tables.precool.active.c30.bound < v) | Category.c20 => decide (s.tables.precool.active.c20.bound < v) | Category.c00 => false)
      (match c with | Category.c40 => [Category.c30, Category.c20, Category.c00] | Category.c30 => [Category.c20, Category.c00] | Category.c20 => [Category.c00] | Category.c00 => []))
      = k :: ks) ∧ (y = s.lookupAt p x k) ∧ (s.nozzle p < (↑y.pEnd : Int)) ∧ ((s.ctx p).halt = false) ∧
      (s.signalLost p = false))
    ∧ (∃ (p : Pos) (c : Category) (v : Int) (s : State) (x : Selection) (k : Category) (ks : List Category)
      (y : Selection), (s.smc.inReset = false) ∧ ((s.ctx p).state = PState.main) ∧ ((s.ctx p).category =
      c) ∧ ((s.posRow p).autoReRate = true) ∧ ((s.ctx p).selection = some x) ∧ (List.filter (fun k =>
      (s.lookupAt p x k).aprr != 0) (List.dropWhile
      (fun k => match k with | Category.c40 => decide (s.tables.precool.active.c40.bound < v) | Category.c30 => decide (s.tables.precool.active.c30.bound < v) | Category.c20 => decide (s.tables.precool.active.c20.bound < v) | Category.c00 => false)
      (match c with | Category.c40 => [Category.c30, Category.c20, Category.c00] | Category.c30 => [Category.c20, Category.c00] | Category.c20 => [Category.c00] | Category.c00 => []))
      = k :: ks) ∧ (y = s.lookupAt p x k) ∧ ((↑y.pEnd : Int) ≤ s.nozzle p) ∧ (s.sourceless p)) :=
  ⟨⟨.p1, (prow (fun r => { r with fallback := none }) (tm (fun t => { t with precool := some 0 }) (at1
     .precoolWait (fun c => { c with selection := some sel }) w))),
     (by and_intros <;> first | decide +kernel | (constructor <;> decide +kernel))⟩,
   ⟨.p1, (cells ⟨0, 7700⟩ (tm (fun t => { t with precool := some 0 }) (at1 .precoolWait (fun c =>
     { c with selection := some sel }) w))), .c20, sel, ({ sel with aprr := 0 }),
     (by and_intros <;> first | decide +kernel | (constructor <;> decide +kernel))⟩,
   ⟨.p1, (tm (fun t => { t with precool := some 0 }) (at1 .precoolWait (fun c =>
     { c with selection := some sel }) w)), .c20, sel, sel,
     (by and_intros <;> first | decide +kernel | (constructor <;> decide +kernel))⟩,
   ⟨.p1, .c30, w, by decide +kernel⟩,
   ⟨.p1, .c40, (seq [.bank .b1] (tm (fun t => { t with precool := some 5 }) (at1 .precoolWait (fun c =>
     { c with opening := 300 }) w))), .b1,
     (by and_intros <;> first | decide +kernel | (constructor <;> decide +kernel))⟩,
   ⟨.p1, .c30, (at1 .main id w), by decide +kernel⟩,
   ⟨.p1, .c40, (prow (fun r => { r with autoReRate := false }) (at1 .main id w)),
     (by and_intros <;> first | decide +kernel | (constructor <;> decide +kernel))⟩,
   ⟨.p1, .c30, (-170), (cells ⟨0, 7700⟩ (at1 .main (fun c =>
     { c with category := .c30, selection := some sel }) w)), sel,
     (by and_intros <;> first | decide +kernel | (constructor <;> decide +kernel))⟩,
   ⟨.p1, .c30, (-170), (tm (fun t => { t with pause := some 3 }) (at1 .main (fun c =>
     { c with category := .c30, selection := some sel, signal := true, source := some .compressor }) w)),
     sel, .c20, [.c00], sel, by decide +kernel⟩,
   ⟨.p1, .c40, 400, (at1 .main (fun c => { c with category := .c40, selection := some sel }) (val
     (.nozzlePressure .p1) 7000 w)), sel, .c00, [], sel,
     (by and_intros <;> first | decide +kernel | (constructor <;> decide +kernel))⟩⟩

theorem witness_VehicleData :
    (∃ (p : Pos) (s : State), (s.smc.inReset = false) ∧ ((s.ctx p).state.running = false))
    ∧ (∃ (p : Pos) (x : SigRec) (s : State) (v : Int), (s.smc.inReset = false) ∧ ((s.ctx p).state.running =
      true) ∧ (s.sourceless p) ∧ ((s.ctx p).link = Link.none) ∧ (x.vehicle.temp = some v) ∧ ((↑(s.params
      p).tankTempMax : Int) ≤ v))
    ∧ (∃ (p : Pos) (x : SigRec) (s : State), (s.smc.inReset = false) ∧ ((s.ctx p).state.running = true) ∧
      (s.sourceless p) ∧ ((s.ctx p).link = Link.none) ∧ (∀ (u : Int), x.vehicle.temp = some u → u <
      (↑(s.params p).tankTempMax : Int)) ∧ (x.vehicle.command = some FillCommand.abort))
    ∧ (∃ (p : Pos) (x : SigRec) (s : State) (pr : Int) (te : Int), (s.smc.inReset = false) ∧ ((s.ctx
      p).state.running = true) ∧ (s.sourceless p) ∧ ((s.ctx p).link = Link.established) ∧
      (x.vehicle.volume.isSome = true) ∧ (x.vehicle.pclass = some (s.posRow p).pclass) ∧
      (x.vehicle.pressure = some pr) ∧ (x.vehicle.temp = some te) ∧ (te < (↑(s.params p).tankTempMax : Int))
      ∧ (x.vehicle.command ≠ some FillCommand.abort) ∧ ((s.params p).socLimit ≤ stateOfCharge s.bq
      (s.posRow p).pclass pr te))
    ∧ (∃ (p : Pos) (x : SigRec) (s : State) (pr : Int) (te : Int), (s.smc.inReset = false) ∧ ((s.ctx p).state
      = PState.leakCheck) ∧ ((s.ctx p).link = Link.none) ∧ ((s.ctx p).halt = false) ∧ ((s.ctx p).signal =
      false) ∧ (s.signalLost p = false) ∧ (x.vehicle.pressure = some pr) ∧ (x.vehicle.temp = some te) ∧
      (te < (↑(s.params p).tankTempMax : Int)) ∧ (x.vehicle.command = some FillCommand.halt))
    ∧ (∃ (p : Pos) (s : State), (s.smc.inReset = false) ∧ ((s.ctx p).timers.vehicle ≠ none) ∧ (s.nozzle p
      <
      (↑(match (s.ctx p).selection with | some y => min y.pEnd (s.params p).nonCommCap | none => (s.params p).nonCommCap)
      : Int)))
    ∧ (∃ (p : Pos) (s : State), (s.smc.inReset = false) ∧ ((s.ctx p).timers.mismatch ≠ none) ∧ (s.nozzle p
      <
      (↑(match (s.ctx p).selection with | some y => min y.pEnd (s.params p).nonCommCap | none => (s.params p).nonCommCap)
      : Int)))
    ∧ (∃ (p : Pos) (s : State), (s.smc.inReset = false) ∧ ((s.ctx p).state.endable = true) ∧ (s.sourceless
      p) ∧
      ((↑(match (s.ctx p).selection with | some y => min y.pEnd (s.params p).nonCommCap | none => (s.params p).nonCommCap)
      : Int) ≤ s.nozzle p) ∧ ((s.ctx p).timers.vehicle ≠ none))
    ∧ (∃ (p : Pos) (s : State), (s.smc.inReset = false) ∧ ((s.ctx p).state.endable = true) ∧ (s.sourceless
      p) ∧
      ((↑(match (s.ctx p).selection with | some y => min y.pEnd (s.params p).nonCommCap | none => (s.params p).nonCommCap)
      : Int) ≤ s.nozzle p) ∧ ((s.ctx p).timers.mismatch ≠ none))
    ∧ (∃ (p : Pos) (s : State), (s.smc.inReset = false) ∧ ((s.ctx p).timers.vehicle = none))
    ∧ (∃ (p : Pos) (s : State), (s.smc.inReset = false) ∧ ((s.ctx p).timers.mismatch = none))
    ∧ (∃ (p : Pos) (x : SigRec) (s : State), (s.smc.inReset = false) ∧ ((s.ctx p).state.running = true ∧
      (s.ctx p).state ≠ PState.paused ∧ (s.ctx p).halt = false ∧ (s.ctx p).signal = false ∧ s.signalLost p
      = false ∧ x.vehicle.command = some FillCommand.run ∧ Option.any (fun te => decide ((↑(s.params
      p).tankTempMax : Int) ≤ te)) x.vehicle.temp = false) ∧ ((s.ctx p).link = Link.pending) ∧
      ((x.vehicle.volume.isSome && x.vehicle.pressure.isSome && x.vehicle.temp.isSome && x.vehicle.pclass
      == some (s.posRow p).pclass) = false))
    ∧ (∃ (p : Pos) (x : SigRec) (s : State), (s.smc.inReset = false) ∧ ((s.ctx p).state.running = true ∧
      (s.ctx p).state ≠ PState.paused ∧ (s.ctx p).halt = false ∧ (s.ctx p).signal = false ∧ s.signalLost p
      = false ∧ x.vehicle.command = some FillCommand.run ∧ Option.any (fun te => decide ((↑(s.params
      p).tankTempMax : Int) ≤ te)) x.vehicle.temp = false) ∧ ((s.ctx p).link = Link.pending) ∧ ((s.ctx
      p).consistent = 0) ∧ ((x.vehicle.volume.isSome && x.vehicle.pressure.isSome && x.vehicle.temp.isSome
      && x.vehicle.pclass == some (s.posRow p).pclass) = true))
    ∧ (∃ (p : Pos) (x : SigRec) (s : State), (s.smc.inReset = false) ∧ ((s.ctx p).state.running = true ∧
      (s.ctx p).state ≠ PState.paused ∧ (s.ctx p).halt = false ∧ (s.ctx p).signal = false ∧ s.signalLost p
      = false ∧ x.vehicle.command = some FillCommand.run ∧ Option.any (fun te => decide ((↑(s.params
      p).tankTempMax : Int) ≤ te)) x.vehicle.temp = false) ∧ ((s.ctx p).link = Link.pending) ∧ ((s.ctx
      p).consistent = 1) ∧ ((x.vehicle.volume.isSome && x.vehicle.pressure.isSome && x.vehicle.temp.isSome
      && x.vehicle.pclass == some (s.posRow p).pclass) = true) ∧ (Option.any (fun n => decide ((s.params
      p).socLimit ≤ n)) (x.vehicle.pressure.bind fun pr => Option.map (fun te => stateOfCharge s.bq
      (s.posRow p).pclass pr te) x.vehicle.temp) = false))
    ∧ (∃ (p : Pos) (x : SigRec) (s : State), (s.smc.inReset = false) ∧ ((s.ctx p).state.running = true ∧
      (s.ctx p).state ≠ PState.paused ∧ (s.ctx p).halt = false ∧ (s.ctx p).signal = false ∧ s.signalLost p
      = false ∧ x.vehicle.command = some FillCommand.run ∧ Option.any (fun te => decide ((↑(s.params
      p).tankTempMax : Int) ≤ te)) x.vehicle.temp = false) ∧ ((s.ctx p).link = Link.established) ∧
      ((x.vehicle.volume.isSome && x.vehicle.pressure.isSome && x.vehicle.temp.isSome && x.vehicle.pclass
      == some (s.posRow p).pclass) = false) ∧ (s.nozzle p <
      (↑(match (s.ctx p).selection with | some y => min y.pEnd (s.params p).nonCommCap | none => (s.params p).nonCommCap)
      : Int)))
    ∧ (∃ (p : Pos) (x : SigRec) (s : State), (s.smc.inReset = false) ∧ ((s.ctx p).state.running = true ∧
      (s.ctx p).state ≠ PState.paused ∧ (s.ctx p).halt = false ∧ (s.ctx p).signal = false ∧ s.signalLost p
      = false ∧ x.vehicle.command = some FillCommand.run ∧ Option.any (fun te => decide ((↑(s.params
      p).tankTempMax : Int) ≤ te)) x.vehicle.temp = false) ∧ (s.sourceless p) ∧ ((s.ctx p).link =
      Link.established) ∧ ((x.vehicle.volume.isSome && x.vehicle.pressure.isSome && x.vehicle.temp.isSome
      && x.vehicle.pclass == some (s.posRow p).pclass) = false) ∧
      ((↑(match (s.ctx p).selection with | some y => min y.pEnd (s.params p).nonCommCap | none => (s.params p).nonCommCap)
      : Int) ≤ s.nozzle p))
    ∧ (∃ (p : Pos) (x : SigRec) (s : State), (s.smc.inReset = false) ∧ ((s.ctx p).state.running = true ∧
      (s.ctx p).state ≠ PState.paused ∧ (s.ctx p).halt = false ∧ (s.ctx p).signal = false ∧ s.signalLost p
      = false ∧ x.vehicle.command = some FillCommand.run ∧ Option.any (fun te => decide ((↑(s.params
      p).tankTempMax : Int) ≤ te)) x.vehicle.temp = false) ∧ ((s.ctx p).link = Link.none ∨ (s.ctx p).link =
      Link.dropped))
    ∧ (∃ (p : Pos) (x : SigRec) (tank : Int) (s : State), (s.smc.inReset = false) ∧ ((s.ctx p).state.running
      = true) ∧ ((s.ctx p).state ≠ PState.main) ∧ ((s.ctx p).link = Link.established) ∧ ((s.record
      (Role.vehicle p)).vehicle.pressure = some tank) ∧ (x.value < (↑(Config.ceiling (s.posRow p).pclass)
      : Int)))
    ∧ (∃ (p : Pos) (x : SigRec) (tank : Int) (s : State) (y : Selection), (s.smc.inReset = false) ∧ ((s.ctx
      p).state = PState.main) ∧ ((s.ctx p).source = some Source.compressor) ∧ ((s.ctx p).selection = some
      y) ∧ ((s.ctx p).link = Link.established) ∧ ((s.record (Role.vehicle p)).vehicle.pressure = some
      tank) ∧ (x.value < (↑(Config.ceiling (s.posRow p).pclass) : Int)) ∧ (x.value < (↑y.pEnd : Int)) ∧
      (x.value ≤ rampTarget (s.ctx p).anchor y.aprr (s.ctx p).tau y.pEnd + (↑(s.params p).abortBand : Int)))
    ∧ (∃ (p : Pos) (x : SigRec) (s : State), (s.smc.inReset = false) ∧ ((s.ctx p).state.running = true) ∧
      ((s.ctx p).state ≠ PState.main) ∧ ((s.ctx p).link ≠ Link.established) ∧ (x.value < (↑(Config.ceiling
      (s.posRow p).pclass) : Int)))
    ∧ (∃ (p : Pos) (x : SigRec) (tank : Int) (s : State) (te : Int), (s.smc.inReset = false) ∧ ((s.ctx
      p).state = PState.leakCheck) ∧ ((s.ctx p).halt = false) ∧ ((s.ctx p).signal = false) ∧ (s.signalLost
      p = false) ∧ ((s.ctx p).link = Link.established) ∧ (x.vehicle.volume.isSome = true) ∧
      (x.vehicle.pclass = some (s.posRow p).pclass) ∧ (x.vehicle.pressure = some tank) ∧ (x.vehicle.temp =
      some te) ∧ (te < (↑(s.params p).tankTempMax : Int)) ∧ (x.vehicle.command = some FillCommand.run) ∧
      (stateOfCharge s.bq (s.posRow p).pclass tank te < (s.params p).socLimit))
    ∧ (∃ (p : Pos) (x : SigRec) (s : State), (s.smc.inReset = false) ∧ ((s.ctx p).state = PState.paused) ∧
      ((s.ctx p).halt = true) ∧ ((s.ctx p).link = Link.none) ∧ (x.vehicle.command = some FillCommand.run)
      ∧ (Option.any (fun te => decide ((↑(s.params p).tankTempMax : Int) ≤ te)) x.vehicle.temp = false) ∧
      (s.signalLost p = false) ∧ ((s.ctx p).resume = ResumeStage.main) ∧ ((s.ctx p).source = some
      Source.compressor))
    ∧ (∃ (p : Pos) (x : SigRec) (s : State), (s.smc.inReset = false) ∧ ((s.ctx p).state = PState.paused) ∧
      ((s.ctx p).halt = true) ∧ ((s.ctx p).link = Link.none) ∧ (x.vehicle.command = some FillCommand.run)
      ∧ (Option.any (fun te => decide ((↑(s.params p).tankTempMax : Int) ≤ te)) x.vehicle.temp = false) ∧
      (s.signalLost p = false) ∧ ((s.ctx p).resume = ResumeStage.leakCheck))
    ∧ (∃ (p : Pos) (x : SigRec) (s : State) (b : Bank), (s.smc.inReset = false) ∧ ((s.ctx p).state =
      PState.paused) ∧ ((s.ctx p).halt = true) ∧ ((s.ctx p).link = Link.none) ∧ (x.vehicle.command = some
      FillCommand.run) ∧ (Option.any (fun te => decide ((↑(s.params p).tankTempMax : Int) ≤ te))
      x.vehicle.temp = false) ∧ (s.signalLost p = false) ∧ ((s.ctx p).resume = ResumeStage.pulse) ∧
      (s.onlyBank p b))
    ∧ (∃ (p : Pos) (x : SigRec) (s : State), (s.smc.inReset = false) ∧ ((s.ctx p).state = PState.paused) ∧
      ((s.ctx p).halt = true) ∧ ((s.ctx p).link = Link.none) ∧ (x.vehicle.command = some FillCommand.run)
      ∧ (Option.any (fun te => decide ((↑(s.params p).tankTempMax : Int) ≤ te)) x.vehicle.temp = false) ∧
      (s.signalLost p = true)) :=
  ⟨⟨.p1, w, by decide +kernel⟩,
   ⟨.p1, (gf (veh 300 850 .abort)), (at1 .leakCheck id w), 850,
     (by and_intros <;> first | decide +kernel | (constructor <;> decide +kernel))⟩,
   ⟨.p1, (gf (veh 300 849 .abort)), (at1 .main id (qual (.vehicle .p1) .stale (qual (.meter .p1) .bad
     w))), (by and_intros <;> first | decide +kernel | (constructor <;> decide +kernel))⟩,
   ⟨.p1, (gf ⟨some 1, some 150, some .h70, some 8750, some (-100), some .halt⟩), (at1 .main (fun c =>
     { c with link := .established, selection := some sel, consistent := 2 }) (tm (fun t =>
     { t with vehicle := some 3, fill := some 9 }) w)), 8750, (-100),
     (by and_intros <;> first | decide +kernel | (constructor <;> decide +kernel))⟩,
   ⟨.p1, (gf (veh 300 849 .halt)), (tm (fun t => { t with leak := some 5 }) (at1 .leakCheck id w)), 300,
     849, by decide +kernel⟩,
   ⟨.p1, (tm (fun t => { t with vehicle := some 0, mismatch := some 3 }) (at1 .main (fun c =>
     { c with link := .established, selection := some { sel with pEnd := 7500 } }) (val (.nozzlePressure
     .p1) 6999 w))), by decide +kernel⟩,
   ⟨.p1, (tm (fun t => { t with vehicle := some 5, mismatch := some 0 }) (at1 .leakCheck (fun c =>
     { c with link := .established }) w)), by decide +kernel⟩,
   ⟨.p1, (tm (fun t => { t with vehicle := some 0, mismatch := some 3 }) (at1 .main (fun c =>
     { c with link := .established, selection := some { sel with pEnd := 7500 } }) (val (.nozzlePressure
     .p1) 7000 w))), (by and_intros <;> first | decide +kernel | (constructor <;> decide +kernel))⟩,
   ⟨.p1, (tm (fun t => { t with vehicle := some 0, mismatch := some 0 }) (at1 .main (fun c =>
     { c with link := .established, selection := some { sel with pEnd := 7500 } }) (val (.nozzlePressure
     .p1) 7000 w))), (by and_intros <;> first | decide +kernel | (constructor <;> decide +kernel))⟩,
   ⟨.p1, w, by decide +kernel⟩,
   ⟨.p1, w, by decide +kernel⟩,
   ⟨.p1, (gf ⟨some 1, none, none, none, none, some .run⟩), (at1 .leakCheck (fun c =>
     { c with link := .pending, consistent := 1, soc := some 5 }) w), by decide +kernel⟩,
   ⟨.p1, (gf (veh 300 200 .run)), (at1 .pulse (fun c => { c with link := .pending }) w), by
     decide +kernel⟩,
   ⟨.p1, (gf (veh 300 200 .run)), (at1 .leakCheck (fun c => { c with link := .pending, consistent := 1 })
     w), by decide +kernel⟩,
   ⟨.p1, (gf ⟨some 1, none, none, none, none, some .run⟩), (tm (fun t =>
     { t with vehicle := some 5, mismatch := some 3 }) (at1 .leakCheck (fun c =>
     { c with link := .established, soc := some 5, selection := some { sel with pEnd := 7500 } }) (val
     (.nozzlePressure .p1) 6999 w))), by decide +kernel⟩,
   ⟨.p1, (gf ⟨some 1, none, none, none, none, some .run⟩), (at1 .leakCheck (fun c =>
     { c with link := .established, selection := some { sel with pEnd := 7500 } }) (val (.nozzlePressure
     .p1) 7000 w)), (by and_intros <;> first | decide +kernel | (constructor <;> decide +kernel))⟩,
   ⟨.p1, (gf (veh 7000 849 .run)), (at1 .main (fun c => { c with link := .none }) w), by decide +kernel⟩,
   ⟨.p1, (gv 600), 651, (rec (.vehicle .p1) (fun r => { r with vehicle := veh 651 200 .run }) (at1
     .leakCheck (fun c => { c with link := .established }) w)), by decide +kernel⟩,
   ⟨.p1, (gv 90), 691, (rec (.vehicle .p1) (fun r => { r with vehicle := veh 691 200 .run }) (at1 .main
     (fun c =>
     { c with link := .established, selection := some sel, source := some .compressor, anchor := 80, opening := 300 })
     w)), sel, by decide +kernel⟩,
   ⟨.p1, (gv 600), (rec (.vehicle .p1) (fun r => { r with vehicle := veh 651 200 .run }) (at1 .leakCheck
     (fun c => { c with link := .pending }) w)), by decide +kernel⟩,
   ⟨.p1, (gf (veh 681 200 .run)), 681, (at1 .leakCheck (fun c => { c with link := .established }) w), 200,
     by decide +kernel⟩,
   ⟨.p1, (gf ⟨some 1, none, none, none, none, some .run⟩), (tm (fun t => { t with pause := some 5 }) (at1
     .paused (fun c =>
     { c with source := some .compressor, opening := 300, resume := .main, halt := true, tau := 77 }) w)),
     by decide +kernel⟩,
   ⟨.p1, (gf ⟨some 1, none, none, none, none, some .run⟩), (tm (fun t => { t with pause := some 5 }) (at1
     .paused (fun c => { c with resume := .leakCheck, halt := true, leakRef := 7 }) w)), by
     decide +kernel⟩,
   ⟨.p1, (gf ⟨some 1, none, none, none, none, some .run⟩), (seq [.bank .b1] (tm (fun t =>
     { t with pause := some 5 }) (at1 .paused (fun c => { c with resume := .pulse, halt := true }) w))),
     .b1, (by and_intros <;> first | decide +kernel | (constructor <;> decide +kernel))⟩,
   ⟨.p1, (gf ⟨some 1, none, none, none, none, some .run⟩), (qual (.meter .p1) .stale (tm (fun t =>
     { t with pause := some 5 }) (at1 .paused (fun c =>
     { c with resume := .leakCheck, halt := true, signal := true }) w))), by decide +kernel⟩⟩

theorem witness_MainPhase :
    (∃ (p : Pos) (r : SigRec) (x : Selection) (s : State), (s.smc.inReset = false) ∧ ((s.ctx p).state =
      PState.main) ∧ ((s.ctx p).selection = some x) ∧ ((s.ctx p).link = Link.none) ∧ (r.value <
      (↑(Config.ceiling (s.posRow p).pclass) : Int)) ∧ (s.sourceless p) ∧ ((↑x.pEnd : Int) ≤ r.value))
    ∧ (∃ (p : Pos) (r : SigRec) (x : Selection) (s : State), (s.smc.inReset = false) ∧ ((s.ctx p).state =
      PState.main) ∧ ((s.ctx p).selection = some x) ∧ ((s.ctx p).link = Link.none) ∧ (r.value <
      (↑(Config.ceiling (s.posRow p).pclass) : Int)) ∧ (s.sourceless p) ∧ (r.value < (↑x.pEnd : Int)) ∧ (min
      ((s.ctx p).anchor + (↑(x.aprr * (s.ctx p).tau / 600) : Int)) (↑x.pEnd : Int) + (↑(s.params p).abortBand
      : Int) < r.value))
    ∧ (∃ (p : Pos) (r : SigRec) (x : Selection) (s : State), (s.smc.inReset = false) ∧ ((s.ctx p).state =
      PState.main) ∧ ((s.ctx p).selection = some x) ∧ ((s.ctx p).link = Link.none) ∧ (r.value <
      (↑(Config.ceiling (s.posRow p).pclass) : Int)) ∧ ((s.ctx p).source = some Source.compressor) ∧
      (r.value < (↑x.pEnd : Int)) ∧ (r.value ≤ min ((s.ctx p).anchor + (↑(x.aprr * (s.ctx p).tau / 600) :
      Int)) (↑x.pEnd : Int) + (↑(s.params p).abortBand : Int)) ∧ (min ((s.ctx p).anchor + (↑(x.aprr * (s.ctx
      p).tau / 600) : Int)) (↑x.pEnd : Int) + (↑(s.params p).upperBand : Int) < r.value) ∧ (100 ≤ (s.ctx
      p).opening))
    ∧ (∃ (p : Pos) (r : SigRec) (x : Selection) (s : State), (s.smc.inReset = false) ∧ ((s.ctx p).state =
      PState.main) ∧ ((s.ctx p).selection = some x) ∧ ((s.ctx p).link = Link.none) ∧ (r.value <
      (↑(Config.ceiling (s.posRow p).pclass) : Int)) ∧ ((s.ctx p).source = some Source.compressor) ∧
      (r.value < (↑x.pEnd : Int)) ∧ (r.value ≤ min ((s.ctx p).anchor + (↑(x.aprr * (s.ctx p).tau / 600) :
      Int)) (↑x.pEnd : Int) + (↑(s.params p).abortBand : Int)) ∧ (r.value ≤ min ((s.ctx p).anchor + (↑(x.aprr *
      (s.ctx p).tau / 600) : Int)) (↑x.pEnd : Int) + (↑(s.params p).upperBand : Int)) ∧ (r.value < min ((s.ctx
      p).anchor + (↑(x.aprr * (s.ctx p).tau / 600) : Int)) (↑x.pEnd : Int) - (↑(s.params p).lowerBand : Int)) ∧
      ((s.ctx p).opening ≤ 900))
    ∧ (∃ (p : Pos) (r : SigRec) (x : Selection) (s : State), (s.smc.inReset = false) ∧ ((s.ctx p).state =
      PState.main) ∧ ((s.ctx p).selection = some x) ∧ ((s.ctx p).link = Link.none) ∧ (r.value <
      (↑(Config.ceiling (s.posRow p).pclass) : Int)) ∧ ((s.ctx p).source = some Source.compressor) ∧
      (r.value < (↑x.pEnd : Int)) ∧ (r.value ≤ min ((s.ctx p).anchor + (↑(x.aprr * (s.ctx p).tau / 600) :
      Int)) (↑x.pEnd : Int) + (↑(s.params p).abortBand : Int)) ∧ (min ((s.ctx p).anchor + (↑(x.aprr * (s.ctx
      p).tau / 600) : Int)) (↑x.pEnd : Int) - (↑(s.params p).lowerBand : Int) ≤ r.value) ∧ (r.value ≤ min
      ((s.ctx p).anchor + (↑(x.aprr * (s.ctx p).tau / 600) : Int)) (↑x.pEnd : Int) + (↑(s.params p).upperBand
      : Int)))
    ∧ (∃ (p : Pos) (r : SigRec) (x : Selection) (s : State), (s.smc.inReset = false) ∧ ((s.ctx p).state =
      PState.main) ∧ ((s.ctx p).selection = some x) ∧ ((s.ctx p).link = Link.none) ∧ (r.value <
      (↑(Config.ceiling (s.posRow p).pclass) : Int)) ∧ ((s.ctx p).source = some Source.compressor) ∧
      (r.value < (↑x.pEnd : Int)) ∧ (r.value ≤ min ((s.ctx p).anchor + (↑(x.aprr * (s.ctx p).tau / 600) :
      Int)) (↑x.pEnd : Int) + (↑(s.params p).abortBand : Int)) ∧ (min ((s.ctx p).anchor + (↑(x.aprr * (s.ctx
      p).tau / 600) : Int)) (↑x.pEnd : Int) + (↑(s.params p).upperBand : Int) < r.value ∧ (s.ctx p).opening = 0
      ∨ r.value ≤ min ((s.ctx p).anchor + (↑(x.aprr * (s.ctx p).tau / 600) : Int)) (↑x.pEnd : Int) +
      (↑(s.params p).upperBand : Int) ∧ r.value < min ((s.ctx p).anchor + (↑(x.aprr * (s.ctx p).tau / 600) :
      Int)) (↑x.pEnd : Int) - (↑(s.params p).lowerBand : Int) ∧ 1000 ≤ (s.ctx p).opening))
    ∧ (∃ (p : Pos) (c : Bank) (r : SigRec) (s : State), (s.smc.inReset = false) ∧ (∀ (q : Pos), q ≠ p →
      (s.ctx q).state ≠ PState.main) ∧ ((s.ctx p).state = PState.main) ∧ ((s.ctx p).source = some
      (Source.bank c)) ∧ (¬(r.value ≤ (↑(s.bankRow c).floor : Int) ∨ r.value < s.nozzle p + (↑(s.params
      p).switchDiff : Int))))
    ∧ (∃ (p : Pos) (c : Bank) (r : SigRec) (s : State), (s.smc.inReset = false) ∧ (∀ (q : Pos), q ≠ p →
      (s.ctx q).state ≠ PState.main) ∧ ((s.ctx p).state = PState.main) ∧ ((s.ctx p).source = some
      (Source.bank c)) ∧ (r.quality.usable = true))
    ∧ (∃ (p : Pos) (c : Bank) (s : State), (s.smc.inReset = false) ∧ (∀ (q : Pos), q ≠ p → (s.ctx q).state
      ≠ PState.main) ∧ ((s.ctx p).state = PState.main) ∧ ((s.ctx p).source ≠ some (Source.bank c)))
    ∧ (∃ (p : Pos) (c : Bank) (r : SigRec) (s : State) (b : Bank) (y : Session) (a : Arrival),
      (s.smc.inReset = false) ∧ (∀ (q : Pos), q ≠ p → (s.ctx q).state ≠ PState.main) ∧ ((s.ctx p).state =
      PState.main) ∧ (s.draws p c y) ∧ (b ≠ c) ∧ (s.latched = false) ∧ ((s.ctx p).waitOn = none) ∧
      (s.sequence (s.posRow p).pclass = [Source.bank b]) ∧ (s.suitable p (Source.bank b) = true) ∧
      ((s.bank b).state = BankState.available) ∧ (∀ (d : Bank), d ≠ c → (s.bank d).state ≠
      BankState.claimedPos p) ∧ (s.outputHolder ≠ some p) ∧ (a = Arrival.quality r ∧ r.quality.usable =
      false ∨ a = Arrival.value r ∧ (r.value ≤ (↑(s.bankRow c).floor : Int) ∨ r.value < s.nozzle p +
      (↑(s.params p).switchDiff : Int))))
    ∧ (∃ (p : Pos) (s : State), (s.smc.inReset = false) ∧ ((s.ctx p).state.running = false))
    ∧ (∃ (p : Pos) (r : Role) (x : SigRec) (s : State), (s.smc.inReset = false) ∧ ((s.ctx p).state =
      PState.main) ∧ ((s.ctx p).source = some Source.compressor) ∧ ((s.ctx p).halt = false) ∧ ((s.ctx
      p).signal = false) ∧ ((withRecord r x s).signalLost p = true))
    ∧ (∃ (p : Pos) (r : Role) (x : SigRec) (s : State), (s.smc.inReset = false) ∧ ((s.ctx p).state =
      PState.paused) ∧ ((s.ctx p).resume = ResumeStage.main) ∧ ((s.ctx p).source = some Source.compressor)
      ∧ ((s.ctx p).halt = false) ∧ ((withRecord r x s).signalLost p = false)) :=
  ⟨⟨.p1, (gv 7000), sel, (at1 .main (fun c => { c with selection := some sel, anchor := 100, tau := 60 })
     w), (by and_intros <;> first | decide +kernel | (constructor <;> decide +kernel))⟩,
   ⟨.p1, (gv 1086), sel, (at1 .main (fun c => { c with selection := some sel, anchor := 100, tau := 60 })
     w), (by and_intros <;> first | decide +kernel | (constructor <;> decide +kernel))⟩,
   ⟨.p1, (gv 486), sel, (at1 .main (fun c =>
     { c with selection := some sel, anchor := 100, tau := 60, source := some .compressor, opening := 100 })
     w), by decide +kernel⟩,
   ⟨.p1, (gv 284), sel, (at1 .main (fun c =>
     { c with selection := some sel, anchor := 100, tau := 60, source := some .compressor, opening := 900 })
     w), by decide +kernel⟩,
   ⟨.p1, (gv 285), sel, (at1 .main (fun c =>
     { c with selection := some sel, anchor := 100, tau := 60, source := some .compressor, opening := 900 })
     w), by decide +kernel⟩,
   ⟨.p1, (gv 486), sel, (at1 .main (fun c =>
     { c with selection := some sel, anchor := 100, tau := 60, source := some .compressor, opening := 0 })
     w), by decide +kernel⟩,
   ⟨.p1, .b1, (gv 501), (at1 .main (fun c => { c with source := some (.bank .b1) }) (held .b1 (.pos .p1)
     false w)), (by and_intros <;> first | decide +kernel | (intro q; cases q <;> decide +kernel))⟩,
   ⟨.p1, .b1, (gq .uncertain), (at1 .main (fun c => { c with source := some (.bank .b1) }) (held .b1 (.pos
     .p1) false w)), (by and_intros <;> first | decide +kernel | (intro q; cases q <;> decide +kernel))⟩,
   ⟨.p1, .b1, (at1 .main (fun c => { c with source := some (.bank .b2) }) w),
     (by and_intros <;> first | decide +kernel | (intro q; cases q <;> decide +kernel))⟩,
   ⟨.p1, .b1, (gv 379), (seq [.bank .b2] (at1 .main (fun c => { c with source := some (.bank .b1) }) (held
     .b1 (.pos .p1) false w))), .b2, (ses (.pos .p1) false), (.value (gv 379)),
     (by and_intros <;> first | decide +kernel | (intro q; cases q <;> decide +kernel) | (constructor <;> decide +kernel))⟩,
   ⟨.p1, w, by decide +kernel⟩,
   ⟨.p1, (.nozzlePressure .p1), good, (qual (.coupled .p1) .bad (at1 .main (fun c =>
     { c with source := some .compressor, opening := 300 }) w)), by decide +kernel⟩,
   ⟨.p1, (.nozzlePressure .p1), (gv 333), (tm (fun t => { t with pause := some 5 }) (at1 .paused (fun c =>
     { c with source := some .compressor, opening := 300, resume := .main, signal := true, tau := 77 })
     w)), by decide +kernel⟩⟩

theorem witness_SourceGrants :
    (∃ (p : Pos) (s : State) (b : Bank), (s.smc.inReset = false) ∧ ((s.ctx p).state = PState.bankWait) ∧
      ((s.ctx p).waitOn = some (Source.bank b)) ∧ ((s.ctx p).waitStage = WaitStage.main) ∧ ((s.ctx p).halt
      = false) ∧ ((s.ctx p).signal = false) ∧ ((s.ctx p).reAnchor = false))
    ∧ (∃ (p : Pos) (s : State), (s.smc.inReset = false) ∧ ((s.ctx p).state = PState.bankWait) ∧
      ((s.ctx p).waitOn = some Source.compressor) ∧ ((s.ctx p).halt = false) ∧ ((s.ctx p).signal = false)
      ∧ ((s.ctx p).waitStage = WaitStage.main) ∧ ((s.ctx p).reAnchor = false))
    ∧ (∃ (p : Pos) (s : State), (s.smc.inReset = false) ∧ ((s.ctx p).state = PState.bankWait) ∧
      ((s.ctx p).waitOn = some Source.compressor) ∧ ((s.ctx p).halt = false) ∧ ((s.ctx p).signal = false)
      ∧ ((s.ctx p).waitStage = WaitStage.pulse))
    ∧ (∃ (p : Pos) (s : State) (x : Source), (s.smc.inReset = false) ∧ ((s.ctx p).state ≠ PState.bankWait)
      ∧ ((s.ctx p).source = some x))
    ∧ (∃ (p : Pos) (s : State) (b : Bank) (y : Session), (s.smc.inReset = false) ∧ ((s.ctx p).state =
      PState.idle) ∧ ((s.ctx p).source = none) ∧ ((s.bank b).state = BankState.claimedPos p) ∧ ((s.bank
      b).session = some y) ∧ (y.holder = Holder.pos p) ∧ (y.openValid = false) ∧ ((s.bank b).waiters =
      []))
    ∧ (∃ (p : Pos) (s : State) (b : Bank), (s.smc.inReset = false) ∧ ((s.ctx p).state = PState.bankWait ∧
      s.bankWaitOrder = [p] ∧ (s.ctx p).source = none ∧ (s.ctx p).awaited = []) ∧ ((s.ctx p).waitStage =
      WaitStage.pulse) ∧ ((s.ctx p).halt = false) ∧ ((s.ctx p).signal = false) ∧ (s.onlyBank p b))
    ∧ (∃ (p : Pos) (s : State) (b : Bank) (x : Source), (s.smc.inReset = false) ∧ ((s.ctx p).state =
      PState.bankWait ∧ s.bankWaitOrder = [p] ∧ (s.ctx p).source = none ∧ (s.ctx p).awaited = []) ∧
      ((s.ctx p).waitStage = WaitStage.pulse) ∧ ((s.ctx p).halt = false) ∧ ((s.ctx p).signal = false) ∧
      (s.onlyBank p b) ∧ ((s.ctx p).waitOn = some x))
    ∧ (∃ (p : Pos) (s : State), (s.smc.inReset = false) ∧ ((s.ctx p).state = PState.bankWait ∧
      s.bankWaitOrder = [p] ∧ (s.ctx p).source = none ∧ (s.ctx p).awaited = []) ∧ (s.sourceless p) ∧
      (s.latched = false) ∧ (s.sequence (s.posRow p).pclass = []))
    ∧ (∃ (p : Pos) (s : State) (x : Source), (s.smc.inReset = false) ∧ ((s.ctx p).state = PState.bankWait
      ∧ s.bankWaitOrder = [p] ∧ (s.ctx p).source = none ∧ (s.ctx p).awaited = []) ∧ (s.sourceless p) ∧
      (s.latched = false) ∧ (s.sequence (s.posRow p).pclass = []) ∧ ((s.ctx p).waitOn = some x))
    ∧ (∃ (s : State), (s.smc.inReset = false) ∧ (s.bankWaitOrder = []))
    ∧ (∃ (p : Pos) (s : State) (x : Source), (s.smc.inReset = false) ∧ ((s.ctx p).state ≠ PState.bankWait
      ∨ (s.ctx p).waitOn ≠ some x))
    ∧ (∃ (p : Pos) (s : State) (x : Source), (s.smc.inReset = false) ∧ ((s.ctx p).state = PState.bankWait
      ∧ s.bankWaitOrder = [p] ∧ (s.ctx p).source = none ∧ (s.ctx p).awaited = []) ∧ ((s.ctx p).waitOn ≠
      some x))
    ∧ (∃ (p : Pos) (s : State) (b : Bank) (x : Source), (s.smc.inReset = false) ∧ ((s.ctx p).state =
      PState.main) ∧ ((s.ctx p).source = some x) ∧ (x ≠ Source.bank b) ∧ (s.onlyBank p b) ∧ (∀ (d : Bank),
      x = Source.bank d → List.count d (s.ctx p).awaited = 0))
    ∧ (∃ (p : Pos) (s : State) (x : Source), (s.smc.inReset = false) ∧ ((s.ctx p).state = PState.main) ∧
      ((s.ctx p).source = some x) ∧ (s.latched = true) ∧ (∀ (d : Bank), x = Source.bank d → List.count d
      (s.ctx p).awaited = 0))
    ∧ (∃ (p : Pos) (s : State), (s.smc.inReset = false) ∧ ((s.ctx p).state = PState.ending) ∧ ((s.ctx
      p).source = none) ∧ ((s.ctx p).timers.afterRun ≠ none)) :=
  ⟨⟨.p1, (tm (fun t => { t with bankWait := some 5 }) (at1 .bankWait (fun c =>
     { c with waitOn := some (.bank .b1), waitStage := .main, reAnchor := false, opening := 300 }) (orow
     [.p1] w))), .b1, by decide +kernel⟩,
   ⟨.p1, (tm (fun t => { t with bankWait := some 5 }) (at1 .bankWait (fun c =>
     { c with waitOn := some .compressor, waitStage := .main, reAnchor := false, opening := 300 }) (orow
     [.p1] w))), by decide +kernel⟩,
   ⟨.p1, (tm (fun t => { t with bankWait := some 5 }) (at1 .bankWait (fun c =>
     { c with waitOn := some .compressor, waitStage := .pulse }) (orow [.p1] w))), by decide +kernel⟩,
   ⟨.p1, (at1 .main (fun c => { c with source := some .compressor }) w), .compressor, by decide +kernel⟩,
   ⟨.p1, (cx (fun c => { c with state := .idle }) (held .b1 (.pos .p1) false w)), .b1, (ses (.pos .p1)
     false), by decide +kernel⟩,
   ⟨.p1, (seq [.bank .b1] (tm (fun t => { t with bankWait := some 5 }) (at1 .bankWait (fun c =>
     { c with waitOn := some .compressor }) (orow [.p1] w)))), .b1,
     (by and_intros <;> first | decide +kernel | (constructor <;> decide +kernel))⟩,
   ⟨.p1, (seq [.bank .b1] (tm (fun t => { t with bankWait := some 5 }) (at1 .bankWait (fun c =>
     { c with waitOn := some .compressor }) (orow [.p1] w)))), .b1, .compressor,
     (by and_intros <;> first | decide +kernel | (constructor <;> decide +kernel))⟩,
   ⟨.p1, (seq [] (tm (fun t => { t with bankWait := some 5 }) (at1 .bankWait (fun c =>
     { c with waitOn := some .compressor }) (orow [.p1] w)))),
     (by and_intros <;> first | decide +kernel | (constructor <;> decide +kernel))⟩,
   ⟨.p1, (seq [] (tm (fun t => { t with bankWait := some 5 }) (at1 .bankWait (fun c =>
     { c with waitOn := some .compressor }) (orow [.p1] w)))), .compressor,
     (by and_intros <;> first | decide +kernel | (constructor <;> decide +kernel))⟩,
   ⟨w, by decide +kernel⟩,
   ⟨.p1, (at1 .main (fun c => { c with waitOn := some .compressor }) w), .compressor, by decide +kernel⟩,
   ⟨.p1, (seq [.bank .b1] (tm (fun t => { t with bankWait := some 5 }) (at1 .bankWait (fun c =>
     { c with waitOn := some .compressor }) (orow [.p1] w)))), (.bank .b1), by decide +kernel⟩,
   ⟨.p1, (seq [.bank .b1] (at1 .main (fun c => { c with source := some (.bank .b2) }) w)), .b1, (.bank
     .b2),
     (by and_intros <;> first | decide +kernel | (constructor <;> decide +kernel) | (intro q; cases q <;> decide +kernel))⟩,
   ⟨.p1, (tripped (at1 .main (fun c => { c with source := some (.bank .b2) }) w)), (.bank .b2),
     (by and_intros <;> first | decide +kernel | (intro q; cases q <;> decide +kernel))⟩,
   ⟨.p1, (tm (fun t => { t with afterRun := some 5 }) (at1 .ending (fun c =>
     { c with awaited := [.b2, .b1, .b2] }) w)), by decide +kernel⟩⟩

theorem witness_PositionRequests :
    (∃ (p : Pos) (s : State), (s.smc.inReset = false) ∧ ((s.ctx p).state = PState.closed) ∧ ((s.posRow
      p).pulseWeight ≠ 0 ∧ (s.smc.mode = Mode.run ∨ s.smc.mode = Mode.quiet ∧ (s.posRow p).required =
      Category.c00)))
    ∧ (∃ (p : Pos) (s : State), (s.smc.inReset = false) ∧ ((s.ctx p).state = PState.closed) ∧ (¬((s.posRow
      p).pulseWeight ≠ 0 ∧ (s.smc.mode = Mode.run ∨ s.smc.mode = Mode.quiet ∧ (s.posRow p).required =
      Category.c00))))
    ∧ (∃ (p : Pos) (s : State), (s.smc.inReset = false) ∧ ((s.ctx p).state = PState.idle ∨ (s.ctx p).state
      = PState.lifted))
    ∧ (∃ (p : Pos) (s : State), (s.smc.inReset = false) ∧ ((s.ctx p).state.busySpan = true))
    ∧ (∃ (p : Pos) (s : State), (s.smc.inReset = false) ∧ ((s.ctx p).state = PState.fault) ∧ (s.quality
      (Role.nozzlePressure p) ≠ Quality.good ∨ s.quality (Role.holster p) ≠ Quality.good ∨ s.quality
      (Role.coupled p) ≠ Quality.good ∨ s.quality (Role.meter p) ≠ Quality.good ∨ s.mapped
      (Role.outletTemp p) = true ∧ s.quality (Role.outletTemp p) ≠ Quality.good ∨ s.level (Role.holster p)
      = false ∨ s.level (Role.coupled p) = true))
    ∧ (∃ (p : Pos) (s : State), (s.smc.inReset = false) ∧ ((s.ctx p).state = PState.fault) ∧ (s.quality
      (Role.nozzlePressure p) = Quality.good) ∧ (s.quality (Role.holster p) = Quality.good) ∧ (s.quality
      (Role.coupled p) = Quality.good) ∧ (s.quality (Role.meter p) = Quality.good) ∧ (s.mapped
      (Role.outletTemp p) = false ∨ s.quality (Role.outletTemp p) = Quality.good) ∧ (s.level (Role.holster
      p) = true) ∧ (s.level (Role.coupled p) = false))
    ∧ (∃ (s : State) (n : Nat), (s.smc.inReset = false) ∧ (n = 0 ∨ 5 ≤ n))
    ∧ (∃ (p : Pos) (s : State), (s.smc.inReset = false) ∧ ((s.ctx p).state = PState.idle ∨ (s.ctx p).state
      = PState.lifted) ∧ ((s.posRow p).pulseWeight ≠ 0 ∧ (s.smc.mode = Mode.run ∨ s.smc.mode = Mode.quiet
      ∧ (s.posRow p).required = Category.c00)))
    ∧ (∃ (p : Pos) (s : State), (s.smc.inReset = false) ∧ ((s.ctx p).state = PState.idle ∨ (s.ctx p).state
      = PState.lifted) ∧ (¬((s.posRow p).pulseWeight ≠ 0 ∧ (s.smc.mode = Mode.run ∨ s.smc.mode =
      Mode.quiet ∧ (s.posRow p).required = Category.c00))))
    ∧ (∃ (p : Pos) (s : State), (s.smc.inReset = false) ∧ ((s.ctx p).state = PState.closed ∨ (s.ctx
      p).state = PState.fault))
    ∧ (∃ (p : Pos) (n : Nat) (s : State) (f : FillId), (s.smc.inReset = false) ∧ ((s.ctx p).state.endable =
      true) ∧ ((s.ctx p).fill = some f) ∧ (1 ≤ n) ∧ (n ≤ 200000) ∧ (n < f.cap) ∧ ((s.ctx p).state =
      PState.authorised ∨ (s.meter p).fill / 1000 < n))
    ∧ (∃ (p : Pos) (n : Nat) (s : State) (f : FillId), (s.smc.inReset = false) ∧ ((s.ctx p).state.running =
      true) ∧ ((s.ctx p).fill = some f) ∧ (1 ≤ n) ∧ (n ≤ 200000) ∧ (n < f.cap) ∧ (n ≤ (s.meter p).fill /
      1000) ∧ (s.sourceless p))
    ∧ (∃ (p : Pos) (n : Nat) (s : State) (f : FillId), (s.smc.inReset = false) ∧ ((s.ctx p).state.endable =
      true) ∧ ((s.ctx p).fill = some f) ∧ (n = 0 ∨ 200000 < n ∨ f.cap ≤ n))
    ∧ (∃ (p : Pos) (s : State), (s.smc.inReset = false) ∧ ((s.ctx p).state.endable = false ∨ (s.ctx
      p).fill = none))
    ∧ (∃ (s : State) (m : Nat), (s.smc.inReset = false) ∧ (m = 0 ∨ 5 ≤ m)) :=
  ⟨⟨.p1, w, by decide +kernel⟩,
   ⟨.p1, (mode .quiet w), by decide +kernel⟩,
   ⟨.p1, (cx (fun c => { c with state := .lifted }) w), by decide +kernel⟩,
   ⟨.p1, (at1 .hangUp id w), by decide +kernel⟩,
   ⟨.p1, (lev (.holster .p1) false (cx (fun c => { c with state := .fault }) w)), by decide +kernel⟩,
   ⟨.p1, (mt (fun m => { m with fault := true, outMass := 7, outNotice := true }) (lev (.holster .p1) true
     (cx (fun c => { c with state := .fault, faultMark := true, faultCause := some .vent }) w))), by
     decide +kernel⟩,
   ⟨w, 0, by decide +kernel⟩,
   ⟨.p1, (cx (fun c => { c with state := .lifted }) w), by decide +kernel⟩,
   ⟨.p1, (mode .parked (cx (fun c => { c with state := .idle }) w)), by decide +kernel⟩,
   ⟨.p1, (cx (fun c => { c with opened := true }) (mode .parked w)), by decide +kernel⟩,
   ⟨.p1, 3705, (mt (fun m => { m with fill := 3704999 }) (at1 .main id w)), fillId, by decide +kernel⟩,
   ⟨.p1, 3705, (mt (fun m => { m with fill := 3705000 }) (at1 .main id w)), fillId,
     (by and_intros <;> first | decide +kernel | (constructor <;> decide +kernel))⟩,
   ⟨.p1, 3706, (at1 .main id w), fillId, by decide +kernel⟩,
   ⟨.p1, (at1 .ending id w), by decide +kernel⟩,
   ⟨(at1 .ending id w), 0, by decide +kernel⟩⟩

theorem witness_PositionsAtTrip :
    (∃ (s : State), (s.smc.inReset = false)) :=
  ⟨({ w with fil := ⟨{ Ctx.start with state := .main, fill := some fillId, source := some (.bank .b1), awaited := [.b2] }, { Ctx.start with state := .lifted, opened := true }, { Ctx.start with state := .venting }, { Ctx.start with state := .ending }⟩, bkm := (held .b1 (.pos .p1) true w).bkm }),
    by decide +kernel⟩

theorem witness_Metering :
    (∃ (p : Pos) (s : State), (s.smc.inReset = false) ∧ ((s.meter p).baseline = none))
    ∧ (∃ (p : Pos) (n : Nat) (s : State) (b : Nat), (s.smc.inReset = false) ∧ ((s.meter p).baseline = some b)
      ∧ ((s.posRow p).maxDelta < (n + 65536 - b) % 65536))
    ∧ (∃ (p : Pos) (n : Nat) (s : State), (s.smc.inReset = false) ∧ ((s.meter p).baseline = some n))
    ∧ (∃ (p : Pos) (n : Nat) (s : State) (b : Nat), (s.smc.inReset = false) ∧ ((s.meter p).baseline = some b)
      ∧ ((s.posRow p).pulseWeight = 0) ∧ ((n + 65536 - b) % 65536 ≤ (s.posRow p).maxDelta))
    ∧ (∃ (x : SigRec) (s : State), (s.smc.inReset = false) ∧ (x.quality = Quality.absent))
    ∧ (∃ (x : SigRec) (s : State), (s.smc.inReset = false) ∧ (x.quality ≠ Quality.absent))
    ∧ (∃ (p : Pos) (b : Nat) (n : Nat) (s : State) (c : Bank), (s.smc.inReset = false) ∧ ((s.meter p).baseline
      = some b) ∧ ((n + 65536 - b) % 65536 ≤ (s.posRow p).maxDelta) ∧ (0 < (n + 65536 - b) % 65536 *
      (s.posRow p).pulseWeight) ∧ ((s.meter p).fill + (n + 65536 - b) % 65536 * (s.posRow p).pulseWeight <
      2 ^ 64) ∧ ((s.meter p).cmp + (n + 65536 - b) % 65536 * (s.posRow p).pulseWeight < 2 ^ 64) ∧
      ((s.meter p).unattr + (n + 65536 - b) % 65536 * (s.posRow p).pulseWeight < 2 ^ 64) ∧ ((s.meter
      p).afterRun + (n + 65536 - b) % 65536 * (s.posRow p).pulseWeight < 2 ^ 64) ∧ (∀ (c : Bank), (s.meter
      p).banks.get c + (n + 65536 - b) % 65536 * (s.posRow p).pulseWeight < 2 ^ 64) ∧ (s.ret.totaliser.get
      p + (n + 65536 - b) % 65536 * (s.posRow p).pulseWeight < 2 ^ 64) ∧ ((s.ctx p).state = PState.pulse ∨
      (s.ctx p).state = PState.main) ∧ ((s.ctx p).source = some (Source.bank c)))
    ∧ (∃ (p : Pos) (b : Nat) (n : Nat) (s : State), (s.smc.inReset = false) ∧ ((s.meter p).baseline = some b)
      ∧ ((n + 65536 - b) % 65536 ≤ (s.posRow p).maxDelta) ∧ (0 < (n + 65536 - b) % 65536 * (s.posRow
      p).pulseWeight) ∧ ((s.meter p).fill + (n + 65536 - b) % 65536 * (s.posRow p).pulseWeight < 2 ^ 64) ∧
      ((s.meter p).cmp + (n + 65536 - b) % 65536 * (s.posRow p).pulseWeight < 2 ^ 64) ∧ ((s.meter
      p).unattr + (n + 65536 - b) % 65536 * (s.posRow p).pulseWeight < 2 ^ 64) ∧ ((s.meter p).afterRun +
      (n + 65536 - b) % 65536 * (s.posRow p).pulseWeight < 2 ^ 64) ∧ (∀ (c : Bank), (s.meter p).banks.get
      c + (n + 65536 - b) % 65536 * (s.posRow p).pulseWeight < 2 ^ 64) ∧ (s.ret.totaliser.get p + (n +
      65536 - b) % 65536 * (s.posRow p).pulseWeight < 2 ^ 64) ∧ ((s.ctx p).state = PState.pulse ∨ (s.ctx
      p).state = PState.main) ∧ ((s.ctx p).source = some Source.compressor))
    ∧ (∃ (p : Pos) (b : Nat) (n : Nat) (s : State), (s.smc.inReset = false) ∧ ((s.meter p).baseline = some b)
      ∧ ((n + 65536 - b) % 65536 ≤ (s.posRow p).maxDelta) ∧ (0 < (n + 65536 - b) % 65536 * (s.posRow
      p).pulseWeight) ∧ ((s.meter p).fill + (n + 65536 - b) % 65536 * (s.posRow p).pulseWeight < 2 ^ 64) ∧
      ((s.meter p).cmp + (n + 65536 - b) % 65536 * (s.posRow p).pulseWeight < 2 ^ 64) ∧ ((s.meter
      p).unattr + (n + 65536 - b) % 65536 * (s.posRow p).pulseWeight < 2 ^ 64) ∧ ((s.meter p).afterRun +
      (n + 65536 - b) % 65536 * (s.posRow p).pulseWeight < 2 ^ 64) ∧ (∀ (c : Bank), (s.meter p).banks.get
      c + (n + 65536 - b) % 65536 * (s.posRow p).pulseWeight < 2 ^ 64) ∧ (s.ret.totaliser.get p + (n +
      65536 - b) % 65536 * (s.posRow p).pulseWeight < 2 ^ 64) ∧ ((s.ctx p).state = PState.leakCheck ∨
      (s.ctx p).state = PState.precoolWait ∨ (s.ctx p).state = PState.bankWait ∨ (s.ctx p).state =
      PState.paused ∨ (s.ctx p).state = PState.main ∧ (s.ctx p).source = none))
    ∧ (∃ (p : Pos) (b : Nat) (n : Nat) (s : State), (s.smc.inReset = false) ∧ ((s.meter p).baseline = some b)
      ∧ ((n + 65536 - b) % 65536 ≤ (s.posRow p).maxDelta) ∧ (0 < (n + 65536 - b) % 65536 * (s.posRow
      p).pulseWeight) ∧ ((s.meter p).fill + (n + 65536 - b) % 65536 * (s.posRow p).pulseWeight < 2 ^ 64) ∧
      ((s.meter p).cmp + (n + 65536 - b) % 65536 * (s.posRow p).pulseWeight < 2 ^ 64) ∧ ((s.meter
      p).unattr + (n + 65536 - b) % 65536 * (s.posRow p).pulseWeight < 2 ^ 64) ∧ ((s.meter p).afterRun +
      (n + 65536 - b) % 65536 * (s.posRow p).pulseWeight < 2 ^ 64) ∧ (∀ (c : Bank), (s.meter p).banks.get
      c + (n + 65536 - b) % 65536 * (s.posRow p).pulseWeight < 2 ^ 64) ∧ (s.ret.totaliser.get p + (n +
      65536 - b) % 65536 * (s.posRow p).pulseWeight < 2 ^ 64) ∧ ((s.ctx p).state = PState.ending))
    ∧ (∃ (p : Pos) (b : Nat) (n : Nat) (s : State), (s.smc.inReset = false) ∧ ((s.meter p).baseline = some b)
      ∧ ((n + 65536 - b) % 65536 ≤ (s.posRow p).maxDelta) ∧ (0 < (n + 65536 - b) % 65536 * (s.posRow
      p).pulseWeight) ∧ ((s.meter p).outMass + (n + 65536 - b) % 65536 * (s.posRow p).pulseWeight < 2 ^
      64) ∧ (s.ret.totaliser.get p + (n + 65536 - b) % 65536 * (s.posRow p).pulseWeight < 2 ^ 64) ∧
      ((s.ctx p).state.collecting = false)) :=
  ⟨⟨.p1, w, by decide +kernel⟩,
   ⟨.p1, 7, (mt (fun m => { m with baseline := some 65492 }) w), 65492, by decide +kernel⟩,
   ⟨.p1, 7, (mt (fun m => { m with baseline := some 7 }) w), by decide +kernel⟩,
   ⟨.p1, 7, (prow (fun r => { r with pulseWeight := 0 }) (mt (fun m => { m with baseline := some 65493 })
     w)), 65493, by decide +kernel⟩,
   ⟨(gq .absent), (mt (fun m => { m with baseline := some 7 }) w), by decide +kernel⟩,
   ⟨(gq .stale), (mt (fun m => { m with baseline := some 7 }) w), by decide +kernel⟩,
   ⟨.p1, 65493, 7, (live (mt (fun m => { m with baseline := some 65493 }) (at1 .main (fun c =>
     { c with source := some (.bank .b1) }) w))), .b1,
     (by and_intros <;> first | decide +kernel | (intro q; cases q <;> decide +kernel))⟩,
   ⟨.p1, 6, 7, (live (mt (fun m => { m with baseline := some 6 }) (at1 .pulse (fun c =>
     { c with source := some .compressor }) w))),
     (by and_intros <;> first | decide +kernel | (intro q; cases q <;> decide +kernel))⟩,
   ⟨.p1, 6, 7, (live (mt (fun m => { m with baseline := some 6 }) (at1 .paused (fun c =>
     { c with source := some .compressor }) w))),
     (by and_intros <;> first | decide +kernel | (intro q; cases q <;> decide +kernel))⟩,
   ⟨.p1, 6, 7, (live (mt (fun m => { m with baseline := some 6 }) (at1 .ending id w))),
     (by and_intros <;> first | decide +kernel | (intro q; cases q <;> decide +kernel))⟩,
   ⟨.p1, 6, 7, (mt (fun m => { m with baseline := some 6 }) (at1 .authorised id w)), by decide +kernel⟩⟩

theorem witness_TenderTaken :
    (∃ (s : State) (pos : Nat) (kind : Nat), (s.smc.inReset = false) ∧ (pos = 0 ∨ 5 ≤ pos ∨ 2 ≤ kind))
    ∧ (∃ (p : Pos) (src : Nat) (s : State) (kind : Nat), (s.smc.inReset = false) ∧ (kind ≤ 1) ∧ (¬Option.map
      (fun x => x.2.source) (s.rowOf (Role.tenderSource p)) = some src))
    ∧ (∃ (p : Pos) (src : Nat) (s : State) (kind : Nat), (s.smc.inReset = false) ∧ (kind ≤ 1) ∧ (Option.map
      (fun x => x.2.source) (s.rowOf (Role.tenderSource p)) = some src) ∧ (s.latched = true))
    ∧ (∃ (p : Pos) (src : Nat) (s : State) (kind : Nat), (s.smc.inReset = false) ∧ (kind ≤ 1) ∧ (Option.map
      (fun x => x.2.source) (s.rowOf (Role.tenderSource p)) = some src) ∧ (s.latched = false) ∧ ((s.ctx
      p).state ≠ PState.lifted))
    ∧ (∃ (p : Pos) (src : Nat) (id : Nat) (s : State), (s.smc.inReset = false) ∧ (Option.map (fun x =>
      x.2.source) (s.rowOf (Role.tenderSource p)) = some src ∧ s.latched = false ∧ (s.ctx p).state =
      PState.lifted) ∧ (s.account id = none))
    ∧ (∃ (p : Pos) (src : Nat) (id : Nat) (s : State) (a : Account), (s.smc.inReset = false) ∧ (Option.map
      (fun x => x.2.source) (s.rowOf (Role.tenderSource p)) = some src ∧ s.latched = false ∧ (s.ctx
      p).state = PState.lifted) ∧ (s.account id = some a) ∧ (a.blocked = true))
    ∧ (∃ (p : Pos) (src : Nat) (id : Nat) (s : State) (a : Account), (s.smc.inReset = false) ∧ (Option.map
      (fun x => x.2.source) (s.rowOf (Role.tenderSource p)) = some src ∧ s.latched = false ∧ (s.ctx
      p).state = PState.lifted) ∧ (s.account id = some a) ∧ (a.blocked = false) ∧ (fleetCap (s.posRow
      p).maxFill (s.tariff.price a.cls (s.tariff.band s.ret.clock)) a < s.tariff.minCap))
    ∧ (∃ (p : Pos) (src : Nat) (amount : Nat) (s : State), (s.smc.inReset = false) ∧ (Option.map (fun x =>
      x.2.source) (s.rowOf (Role.tenderSource p)) = some src ∧ s.latched = false ∧ (s.ctx p).state =
      PState.lifted) ∧ (cardCap (s.posRow p).maxFill amount (s.tariff.price 0 (s.tariff.band s.ret.clock))
      < s.tariff.minCap))
    ∧ (∃ (p : Pos) (src : Nat) (amount : Nat) (s : State), (s.smc.inReset = false) ∧ (Option.map (fun x =>
      x.2.source) (s.rowOf (Role.tenderSource p)) = some src ∧ s.latched = false ∧ (s.ctx p).state =
      PState.lifted) ∧ (s.tariff.minCap ≤ cardCap (s.posRow p).maxFill amount (s.tariff.price 0
      (s.tariff.band s.ret.clock))) ∧ (32 ≤ s.ret.records.length + s.reservations))
    ∧ (∃ (p : Pos) (src : Nat) (amount : Nat) (n : Nat) (x : NodeRow) (s : State), (s.smc.inReset = false) ∧
      (s.rowOf (Role.tenderSource p) = some (n, x)) ∧ (x.source = src) ∧ (s.latched = false) ∧ ((s.ctx
      p).state = PState.lifted) ∧ (s.ret.records.length + s.reservations < 32) ∧ (s.level (Role.coupled p)
      = false) ∧ (s.tariff.minCap ≤ cardCap (s.posRow p).maxFill amount (s.tariff.price 0 (s.tariff.band
      s.ret.clock))))
    ∧ (∃ (p : Pos) (src : Nat) (id : Nat) (n : Nat) (x : NodeRow) (s : State) (a : Account), (s.smc.inReset =
      false) ∧ (s.rowOf (Role.tenderSource p) = some (n, x)) ∧ (x.source = src) ∧ (s.latched = false) ∧
      ((s.ctx p).state = PState.lifted) ∧ (s.ret.records.length + s.reservations < 32) ∧ (s.level
      (Role.coupled p) = false) ∧ (s.account id = some a) ∧ (a.blocked = false) ∧ (s.tariff.minCap ≤
      fleetCap (s.posRow p).maxFill (s.tariff.price a.cls (s.tariff.band s.ret.clock)) a)) :=
  ⟨⟨(lifted w), 5, 0, by decide +kernel⟩,
   ⟨.p1, 15, (tripped (lifted w)), 1, by decide +kernel⟩,
   ⟨.p1, 16, (tripped w), 1, by decide +kernel⟩,
   ⟨.p1, 16, w, 1, by decide +kernel⟩,
   ⟨.p1, 16, 5, (lifted w), by decide +kernel⟩,
   ⟨.p1, 16, 6, (accts [some acct2] (lifted w)), acct2, by decide +kernel⟩,
   ⟨.p1, 16, 5, (accts [some { acct with used := 6901 }] (lifted w)), ({ acct with used := 6901 }), by
     decide +kernel⟩,
   ⟨.p1, 16, 134, (lifted w), by decide +kernel⟩,
   ⟨.p1, 16, 5000, (recs (List.replicate 31 trec) (live (lifted w))), by decide +kernel⟩,
   ⟨.p1, 16, 5000, 6, (node 16 (.tenderSource .p1)), (recs (List.replicate 31 trec) (lifted w)), by
     decide +kernel⟩,
   ⟨.p1, 16, 5, 6, (node 16 (.tenderSource .p1)), (accts [some acct2, some { acct with used := 100 },
     none] (lifted { w with ret := { w.ret with txnCounter := 4294967295 } })), acct, by decide +kernel⟩⟩

theorem witness_TenderSettled :
    (∃ (p : Pos) (s : State), (s.smc.inReset = false) ∧ (s.bil.get p = none))
    ∧ (∃ (p : Pos) (s : State) (c : TenderCtx), (s.smc.inReset = false) ∧ (s.bil.get p = some c) ∧ (c.kind
      = TenderKind.card))
    ∧ (∃ (p : Pos) (s : State) (c : TenderCtx), (s.smc.inReset = false) ∧ (s.bil.get p = some c) ∧ (c.kind
      = TenderKind.fleet))
    ∧ (∃ (x : FillSummary) (s : State), (s.smc.inReset = false) ∧ (s.bil.get x.pos = none))
    ∧ (∃ (x : FillSummary) (s : State) (c : TenderCtx), (s.smc.inReset = false) ∧ (s.bil.get x.pos = some
      c) ∧ (s.ret.reserved.get x.pos = true)) :=
  ⟨⟨.p1, w, by decide +kernel⟩,
   ⟨.p1, (live (bill tcard w)), tcard, by decide +kernel⟩,
   ⟨.p1, (accts [some { acct with holds := [⟨.p2, 3⟩, ⟨.p1, 4999⟩] }, some acct2, none] (live (bill tctx
     w))), tctx, by decide +kernel⟩,
   ⟨summ, w, by decide +kernel⟩,
   ⟨summ, (live (bill tcard w)), tcard, by decide +kernel⟩⟩

theorem witness_AccountRequests :
    (∃ (id : Nat) (s : State) (code : Nat), (s.smc.inReset = false) ∧ (id = 0) ∧ (code = 65))
    ∧ (∃ (id : Nat) (s : State) (code : Nat), (s.smc.inReset = false) ∧ (id = 0) ∧ (code = 66))
    ∧ (∃ (id : Nat) (s : State) (code : Nat), (s.smc.inReset = false) ∧ (id = 0) ∧ (code = 67))
    ∧ (∃ (id : Nat) (s : State) (code : Nat), (s.smc.inReset = false) ∧ (id = 0) ∧ (code = 68))
    ∧ (∃ (id : Nat) (s : State) (code : Nat), (s.smc.inReset = false) ∧ (id = 0) ∧ (code = 69))
    ∧ (∃ (id : Nat) (s : State) (code : Nat), (s.smc.inReset = false) ∧ (id = 0) ∧ (code = 70))
    ∧ (∃ (id : Nat) (s : State) (code : Nat), (s.smc.inReset = false) ∧ (id ≠ 0 ∧ s.account id = none) ∧ (code
      = 65))
    ∧ (∃ (id : Nat) (s : State) (code : Nat), (s.smc.inReset = false) ∧ (id ≠ 0 ∧ s.account id = none) ∧ (code
      = 66))
    ∧ (∃ (id : Nat) (s : State) (code : Nat), (s.smc.inReset = false) ∧ (id ≠ 0 ∧ s.account id = none) ∧ (code
      = 67))
    ∧ (∃ (id : Nat) (s : State) (code : Nat), (s.smc.inReset = false) ∧ (id ≠ 0 ∧ s.account id = none) ∧ (code
      = 68))
    ∧ (∃ (id : Nat) (s : State) (code : Nat), (s.smc.inReset = false) ∧ (id ≠ 0 ∧ s.account id = none) ∧ (code
      = 69))
    ∧ (∃ (id : Nat) (s : State) (code : Nat), (s.smc.inReset = false) ∧ (id ≠ 0 ∧ s.account id = none) ∧ (code
      = 70))
    ∧ (∃ (id : Nat) (s : State) (a : Account) (n : Nat), (s.smc.inReset = false) ∧ (id ≠ 0) ∧ (s.account id =
      some a) ∧ (1 ≤ n) ∧ (n ≤ 2000000000) ∧ (a.balance + n ≤ 2000000000))
    ∧ (∃ (id : Nat) (s : State) (a : Account) (n : Nat), (s.smc.inReset = false) ∧ (id ≠ 0) ∧ (s.account id =
      some a) ∧ (n = 0 ∨ 2000000000 < n ∨ 2000000000 < a.balance + n))
    ∧ (∃ (id : Nat) (s : State) (a : Account) (n : Nat), (s.smc.inReset = false) ∧ (id ≠ 0) ∧ (s.account id =
      some a) ∧ (1 ≤ n) ∧ (n ≤ 2000000000) ∧ (n ≤ a.balance - (List.map Hold.amount a.holds).sum))
    ∧ (∃ (id : Nat) (s : State) (a : Account) (n : Nat), (s.smc.inReset = false) ∧ (id ≠ 0) ∧ (s.account id =
      some a) ∧ (1 ≤ n) ∧ (n ≤ 2000000000) ∧ (a.balance - (List.map Hold.amount a.holds).sum < n))
    ∧ (∃ (id : Nat) (s : State) (a : Account) (n : Nat), (s.smc.inReset = false) ∧ (id ≠ 0) ∧ (s.account id =
      some a) ∧ (n = 0 ∨ 2000000000 < n))
    ∧ (∃ (id : Nat) (s : State) (a : Account), (s.smc.inReset = false) ∧ (id ≠ 0) ∧ (s.account id = some a))
    ∧ (∃ (id : Nat) (s : State) (a : Account), (s.smc.inReset = false) ∧ (id ≠ 0) ∧ (s.account id = some a)
      ∧ (a.holds = []) ∧ (a.balance = 0))
    ∧ (∃ (id : Nat) (s : State) (a : Account), (s.smc.inReset = false) ∧ (id ≠ 0) ∧ (s.account id = some a)
      ∧ (a.holds ≠ [] ∨ a.balance ≠ 0))
    ∧ (∃ (id : Nat) (cls : Nat) (al : Nat) (s : State), (s.smc.inReset = false) ∧ (id = 0 ∨ 3 < cls ∨ 1000000 <
      al))
    ∧ (∃ (id : Nat) (cls : Nat) (al : Nat) (s : State) (a : Account), (s.smc.inReset = false) ∧ (id ≠ 0) ∧ (cls
      ≤ 3) ∧ (al ≤ 1000000) ∧ (s.account id = some a) ∧ (a.holds = []))
    ∧ (∃ (id : Nat) (cls : Nat) (al : Nat) (s : State) (a : Account), (s.smc.inReset = false) ∧ (id ≠ 0) ∧ (cls
      ≤ 3) ∧ (al ≤ 1000000) ∧ (s.account id = some a) ∧ (a.holds ≠ []))
    ∧ (∃ (id : Nat) (cls : Nat) (al : Nat) (s : State) (before : List (Option Account)) (after : List (Option
      Account)), (s.smc.inReset = false) ∧ (id ≠ 0) ∧ (cls ≤ 3) ∧ (al ≤ 1000000) ∧ (s.account id = none) ∧
      (s.ret.accounts = before ++ none :: after) ∧ (none ∉ before))
    ∧ (∃ (id : Nat) (cls : Nat) (al : Nat) (s : State), (s.smc.inReset = false) ∧ (id ≠ 0) ∧ (cls ≤ 3) ∧ (al ≤
      1000000) ∧ (s.account id = none) ∧ (none ∉ s.ret.accounts)) :=
  ⟨⟨0, w, 65, by decide +kernel⟩,
   ⟨0, w, 66, by decide +kernel⟩,
   ⟨0, w, 67, by decide +kernel⟩,
   ⟨0, w, 68, by decide +kernel⟩,
   ⟨0, w, 69, by decide +kernel⟩,
   ⟨0, w, 70, by decide +kernel⟩,
   ⟨4, w, 65, by decide +kernel⟩,
   ⟨4, w, 66, by decide +kernel⟩,
   ⟨4, w, 67, by decide +kernel⟩,
   ⟨4, w, 68, by decide +kernel⟩,
   ⟨4, w, 69, by decide +kernel⟩,
   ⟨4, w, 70, by decide +kernel⟩,
   ⟨5, (accts [some acct] w), acct, 1999980000, by decide +kernel⟩,
   ⟨5, (accts [some acct] w), acct, 1999980001, by decide +kernel⟩,
   ⟨5, (accts [some acct] w), acct, 19700, by decide +kernel⟩,
   ⟨5, (accts [some acct] w), acct, 19701, by decide +kernel⟩,
   ⟨5, (accts [some acct] w), acct, 2000000001, by decide +kernel⟩,
   ⟨5, (accts [some acct] w), acct, by decide +kernel⟩,
   ⟨6, (accts [some acct, some acct2] w), acct2, by decide +kernel⟩,
   ⟨5, (accts [some acct, some acct2] w), acct, by decide +kernel⟩,
   ⟨5, 4, 7, w, by decide +kernel⟩,
   ⟨6, 3, 1000000, (accts [some acct, some acct2] w), acct2, by decide +kernel⟩,
   ⟨5, 3, 1000000, (accts [some acct, some acct2] w), acct, by decide +kernel⟩,
   ⟨7, 3, 1000000, (accts [some acct, none, some acct2, none] w), [some acct], [some acct2, none], by
     decide +kernel⟩,
   ⟨7, 3, 1000000, (accts [some acct, some acct2] w), by decide +kernel⟩⟩

theorem witness_TransactionRequests :
    (∃ (s : State), (s.smc.inReset = false) ∧ (s.ret.records = []))
    ∧ (∃ (s : State) (r : TxnRecord) (rs : List TxnRecord), (s.smc.inReset = false) ∧ (s.ret.records = r
      :: rs))
    ∧ (∃ (n : Nat) (s : State) (r : TxnRecord) (rs : List TxnRecord), (s.smc.inReset = false) ∧
      (s.ret.records = r :: rs) ∧ (r.txn = n))
    ∧ (∃ (n : Nat) (s : State) (r : TxnRecord) (rs : List TxnRecord), (s.smc.inReset = false) ∧
      (s.ret.records = r :: rs) ∧ (r.txn ≠ n)) :=
  ⟨⟨w, by decide +kernel⟩,
   ⟨(recs [trec, { trec with txn := 8 }] w), trec, [{ trec with txn := 8 }], by decide +kernel⟩,
   ⟨6, (recs [trec, { trec with txn := 8 }] w), trec, [{ trec with txn := 8 }], by decide +kernel⟩,
   ⟨8, (recs [trec, { trec with txn := 8 }] w), trec, [{ trec with txn := 8 }], by decide +kernel⟩⟩

theorem witness_ClockAdvances :
    (∃ (s : State), (s.ret.runSeconds + 1 < 2 ^ 32) ∧ (s.ret.clock = none))
    ∧ (∃ (s : State) (t : Nat), (s.ret.runSeconds + 1 < 2 ^ 32) ∧ (s.ret.clock = some t) ∧ (t + 1 < 2 ^ 32)
      ∧ (s.smc.inReset = true))
    ∧ (∃ (s : State) (t : Nat), (s.ret.runSeconds + 1 < 2 ^ 32) ∧ (s.ret.clock = some t) ∧ (t + 1 < 2 ^ 32)
      ∧ (s.ret.heldDay = some ((fun t => ((↑t : Int) - (↑s.tariff.rollover : Int) * 60) / 86400) (t + 1))))
    ∧ (∃ (s : State) (t : Nat), (s.ret.runSeconds + 1 < 2 ^ 32) ∧ (s.ret.clock = some t) ∧ (t + 1 < 2 ^ 32)
      ∧ (s.smc.inReset = false) ∧ (s.ret.heldDay ≠ some ((fun t => ((↑t : Int) - (↑s.tariff.rollover : Int) *
      60) / 86400) (t + 1))))
    ∧ (∃ (n : Nat) (s : State), (s.ret.runSeconds + 1 < 2 ^ 32) ∧ (s.smc.inReset = false) ∧ (n < 2 ^ 32) ∧
      (s.ret.heldDay = some ((fun t => ((↑t : Int) - (↑s.tariff.rollover : Int) * 60) / 86400) n)))
    ∧ (∃ (n : Nat) (s : State), (s.ret.runSeconds + 1 < 2 ^ 32) ∧ (s.smc.inReset = false) ∧ (n < 2 ^ 32) ∧
      (s.ret.heldDay ≠ some ((fun t => ((↑t : Int) - (↑s.tariff.rollover : Int) * 60) / 86400) n))) :=
  ⟨⟨({ w with ret := { w.ret with clock := none } }), by decide +kernel⟩,
   ⟨({ w with smc := { w.smc with inReset := true } }), 1000, by decide +kernel⟩,
   ⟨({ w with ret := { w.ret with clock := some 86398, heldDay := some 0 } }), 86398, by decide +kernel⟩,
   ⟨(accts [some acct] { w with ret := { w.ret with clock := some 86399, heldDay := some 0 } }), 86399, by
     decide +kernel⟩,
   ⟨86399, ({ w with ret := { w.ret with clock := some 86399, heldDay := some 0 } }), by decide +kernel⟩,
   ⟨86400, ({ w with ret := { w.ret with clock := some 86399, heldDay := some 0 } }), by decide +kernel⟩⟩

theorem witness_ModeChanges :
    (∃ (s : State) (m : Mode) (n : Nat), (s.smc.inReset = false) ∧ (n = 1 ∧ m = Mode.parked ∨ n = 2 ∧ m =
      Mode.quiet ∨ n = 3 ∧ m = Mode.run) ∧ (s.smc.mode = Mode.parked ∨ s.smc.mode = Mode.quiet ∨
      s.smc.mode = Mode.run) ∧ (s.smc.mode ≠ m))
    ∧ (∃ (p : Pos) (x : SigRec) (s : State), (s.smc.inReset = false) ∧ (x.level = false ∧ (s.ctx p).opened
      = true ∧ (s.posRow p).pulseWeight ≠ 0) ∧ (s.smc.mode = Mode.parked) ∧ ((s.posRow p).wakeEnable =
      true) ∧ ((s.posRow p).required = Category.c00))
    ∧ (∃ (p : Pos) (x : SigRec) (s : State), (s.smc.inReset = false) ∧ (x.level = false ∧ (s.ctx p).opened
      = true ∧ (s.posRow p).pulseWeight ≠ 0) ∧ (s.smc.mode = Mode.parked) ∧ ((s.posRow p).wakeEnable =
      true) ∧ ((s.posRow p).required ≠ Category.c00))
    ∧ (∃ (p : Pos) (x : SigRec) (s : State), (s.smc.inReset = false) ∧ (x.level = false ∧ (s.ctx p).opened
      = true ∧ (s.posRow p).pulseWeight ≠ 0) ∧ (s.smc.mode = Mode.quiet) ∧ ((s.posRow p).required ≠
      Category.c00))
    ∧ (∃ (s : State), (s.smc.inReset = false) ∧ (s.smc.mode = Mode.parked) ∧ (s.stationRow.bankLowWake =
      true))
    ∧ (∃ (s : State), (s.smc.inReset = false) ∧ (s.smc.mode = Mode.run) ∧ (s.smc.idleTimer ≠ none))
    ∧ (∃ (s : State), (s.smc.inReset = false) ∧ (s.smc.mode = Mode.quiet) ∧ (s.smc.parkTimer ≠ none))
    ∧ (∃ (s : State) (m : Mode) (n : Nat), (s.smc.inReset = false) ∧ (s.latched = false) ∧ (∀ (q : Pos),
      s.pcl.pending.get q = none) ∧ (n = 1 ∧ m = Mode.parked ∨ n = 2 ∧ m = Mode.quiet ∨ n = 3 ∧ m =
      Mode.run) ∧ (s.smc.mode = Mode.parked ∨ s.smc.mode = Mode.quiet ∨ s.smc.mode = Mode.run) ∧
      (s.smc.mode ≠ m) ∧ (¬(s.smc.mode = Mode.parked ∨ m = Mode.parked)))
    ∧ (∃ (s : State) (m : Mode) (n : Nat), (s.smc.inReset = false) ∧ (s.latched = false) ∧ (∀ (q : Pos),
      s.pcl.pending.get q = none) ∧ (n = 1 ∧ m = Mode.parked ∨ n = 2 ∧ m = Mode.quiet ∨ n = 3 ∧ m =
      Mode.run) ∧ (s.smc.mode = Mode.parked ∨ s.smc.mode = Mode.quiet ∨ s.smc.mode = Mode.run) ∧
      (s.smc.mode ≠ m) ∧ (s.cmp.state = CmpState.priming ∨ s.cmp.state = CmpState.cooldown ∨ s.cmp.state =
      CmpState.lockout))
    ∧ (∃ (s : State) (m : Mode) (n : Nat) (q : Pos), (s.smc.inReset = false) ∧ (s.latched = false) ∧ (∀ (q :
      Pos), s.pcl.pending.get q = none) ∧ (n = 1 ∧ m = Mode.parked ∨ n = 2 ∧ m = Mode.quiet ∨ n = 3 ∧ m =
      Mode.run) ∧ (s.smc.mode = Mode.parked ∨ s.smc.mode = Mode.quiet ∨ s.smc.mode = Mode.run) ∧
      (s.smc.mode ≠ m) ∧ (s.cmp.state = CmpState.loaded) ∧ (s.cmp.dest = some (CmpDest.direct q)))
    ∧ (∃ (s : State) (m : Mode) (n : Nat), (s.smc.inReset = false) ∧ (s.latched = false) ∧ (∀ (q : Pos),
      s.pcl.pending.get q = none) ∧ (n = 1 ∧ m = Mode.parked ∨ n = 2 ∧ m = Mode.quiet ∨ n = 3 ∧ m =
      Mode.run) ∧ (s.smc.mode = Mode.parked ∨ s.smc.mode = Mode.quiet ∨ s.smc.mode = Mode.run) ∧
      (s.smc.mode ≠ m) ∧ (s.cmp.state = CmpState.stopped) ∧ (m = Mode.parked))
    ∧ (∃ (s : State) (m : Mode) (n : Nat), (s.smc.inReset = false) ∧ (s.latched = false) ∧ (∀ (q : Pos),
      s.pcl.pending.get q = none) ∧ (n = 1 ∧ m = Mode.parked ∨ n = 2 ∧ m = Mode.quiet ∨ n = 3 ∧ m =
      Mode.run) ∧ (s.smc.mode = Mode.parked ∨ s.smc.mode = Mode.quiet ∨ s.smc.mode = Mode.run) ∧
      (s.smc.mode ≠ m) ∧ (s.cmp.state = CmpState.stopped) ∧ (s.smc.mode = Mode.parked))
    ∧ (∃ (s : State) (m : Mode) (n : Nat) (q : Pos) (qs : List Pos), (s.smc.inReset = false) ∧ (s.latched =
      false) ∧ (∀ (q : Pos), s.pcl.pending.get q = none) ∧ (n = 1 ∧ m = Mode.parked ∨ n = 2 ∧ m =
      Mode.quiet ∨ n = 3 ∧ m = Mode.run) ∧ (s.smc.mode = Mode.parked ∨ s.smc.mode = Mode.quiet ∨
      s.smc.mode = Mode.run) ∧ (s.smc.mode ≠ m) ∧ (s.smc.mode = Mode.parked ∨ m = Mode.parked) ∧
      (s.cmp.state = CmpState.unloaded) ∧ (s.cmp.waiters = q :: qs))
    ∧ (∃ (s : State) (m : Mode) (n : Nat) (b : Bank) (bs : List Bank), (s.smc.inReset = false) ∧ (s.latched
      = false) ∧ (∀ (q : Pos), s.pcl.pending.get q = none) ∧ (n = 1 ∧ m = Mode.parked ∨ n = 2 ∧ m =
      Mode.quiet ∨ n = 3 ∧ m = Mode.run) ∧ (s.smc.mode = Mode.parked ∨ s.smc.mode = Mode.quiet ∨
      s.smc.mode = Mode.run) ∧ (s.smc.mode ≠ m) ∧ (s.smc.mode = Mode.parked) ∧ (s.cmp.state =
      CmpState.unloaded) ∧ (s.cmp.waiters = []) ∧ (s.refillCandidates = b :: bs))
    ∧ (∃ (s : State) (m : Mode) (n : Nat), (s.smc.inReset = false) ∧ (s.latched = false) ∧ (∀ (q : Pos),
      s.pcl.pending.get q = none) ∧ (n = 1 ∧ m = Mode.parked ∨ n = 2 ∧ m = Mode.quiet ∨ n = 3 ∧ m =
      Mode.run) ∧ (s.smc.mode = Mode.parked ∨ s.smc.mode = Mode.quiet ∨ s.smc.mode = Mode.run) ∧
      (s.smc.mode ≠ m) ∧ (s.smc.mode = Mode.parked ∨ m = Mode.parked) ∧ (s.cmp.state = CmpState.unloaded)
      ∧ (s.cmp.waiters = []) ∧ (m = Mode.parked ∨ s.refillCandidates = []) ∧ (s.runTimer <
      s.cmpRow.minRun))
    ∧ (∃ (s : State) (m : Mode) (n : Nat), (s.smc.inReset = false) ∧ (s.latched = false) ∧ (∀ (q : Pos),
      s.pcl.pending.get q = none) ∧ (n = 1 ∧ m = Mode.parked ∨ n = 2 ∧ m = Mode.quiet ∨ n = 3 ∧ m =
      Mode.run) ∧ (s.smc.mode = Mode.parked ∨ s.smc.mode = Mode.quiet ∨ s.smc.mode = Mode.run) ∧
      (s.smc.mode ≠ m) ∧ (s.smc.mode = Mode.parked ∨ m = Mode.parked) ∧ (s.cmp.state = CmpState.unloaded)
      ∧ (s.cmp.waiters = []) ∧ (m = Mode.parked ∨ s.refillCandidates = []) ∧ (s.cmpRow.minRun ≤
      s.runTimer) ∧ (0 < s.cmpRow.minOff))
    ∧ (∃ (s : State) (m : Mode) (n : Nat) (b : Bank) (y : Session), (s.smc.inReset = false) ∧ (s.latched =
      false) ∧ (∀ (q : Pos), s.pcl.pending.get q = none) ∧ (n = 1 ∧ m = Mode.parked ∨ n = 2 ∧ m =
      Mode.quiet ∨ n = 3 ∧ m = Mode.run) ∧ (s.smc.mode = Mode.parked ∨ s.smc.mode = Mode.quiet ∨
      s.smc.mode = Mode.run) ∧ (s.smc.mode ≠ m) ∧ (m = Mode.parked) ∧ (s.cmp.state = CmpState.loaded) ∧
      (s.cmp.dest = some (CmpDest.refill b)) ∧ ((s.bank b).state = BankState.claimedCmp) ∧ ((s.bank
      b).session = some y) ∧ (y.holder = Holder.compressor) ∧ ((s.bank b).waiters = []) ∧ (s.cmp.waiters =
      []) ∧ (s.runTimer < s.cmpRow.minRun))
    ∧ (∃ (s : State) (m : Mode) (n : Nat) (b : Bank) (y : Session), (s.smc.inReset = false) ∧ (s.latched =
      false) ∧ (∀ (q : Pos), s.pcl.pending.get q = none) ∧ (n = 1 ∧ m = Mode.parked ∨ n = 2 ∧ m =
      Mode.quiet ∨ n = 3 ∧ m = Mode.run) ∧ (s.smc.mode = Mode.parked ∨ s.smc.mode = Mode.quiet ∨
      s.smc.mode = Mode.run) ∧ (s.smc.mode ≠ m) ∧ (m = Mode.parked) ∧ (s.cmp.state = CmpState.loaded) ∧
      (s.cmp.dest = some (CmpDest.refill b)) ∧ ((s.bank b).state = BankState.claimedCmp) ∧ ((s.bank
      b).session = some y) ∧ (y.holder = Holder.compressor) ∧ ((s.bank b).waiters = []) ∧ (s.cmp.waiters =
      []) ∧ (s.cmpRow.minRun ≤ s.runTimer) ∧ (0 < s.cmpRow.minOff))
    ∧ (∃ (s : State) (m : Mode) (n : Nat) (b : Bank) (y : Session) (q : Pos) (qs : List Pos), (s.smc.inReset
      = false) ∧ (s.latched = false) ∧ (∀ (q : Pos), s.pcl.pending.get q = none) ∧ (n = 1 ∧ m =
      Mode.parked ∨ n = 2 ∧ m = Mode.quiet ∨ n = 3 ∧ m = Mode.run) ∧ (s.smc.mode = Mode.parked ∨
      s.smc.mode = Mode.quiet ∨ s.smc.mode = Mode.run) ∧ (s.smc.mode ≠ m) ∧ (m = Mode.parked) ∧
      (s.cmp.state = CmpState.loaded) ∧ (s.cmp.dest = some (CmpDest.refill b)) ∧ ((s.bank b).state =
      BankState.claimedCmp) ∧ ((s.bank b).session = some y) ∧ (y.holder = Holder.compressor) ∧ ((s.bank
      b).waiters = []) ∧ (s.cmp.waiters = q :: qs))
    ∧ (∃ (s : State) (m : Mode) (n : Nat), (s.smc.inReset = false) ∧ (s.latched = false) ∧ (∀ (q : Pos),
      s.pcl.pending.get q = none) ∧ (n = 1 ∧ m = Mode.parked ∨ n = 2 ∧ m = Mode.quiet ∨ n = 3 ∧ m =
      Mode.run) ∧ (s.smc.mode = Mode.parked ∨ s.smc.mode = Mode.quiet ∨ s.smc.mode = Mode.run) ∧
      (s.smc.mode ≠ m) ∧ (s.chillerRow.fitted = false ∨ s.pcl.state = ChillerState.fault))
    ∧ (∃ (s : State) (m : Mode) (n : Nat), (s.smc.inReset = false) ∧ (s.latched = false) ∧ (∀ (q : Pos),
      s.pcl.pending.get q = none) ∧ (n = 1 ∧ m = Mode.parked ∨ n = 2 ∧ m = Mode.quiet ∨ n = 3 ∧ m =
      Mode.run) ∧ (s.smc.mode = Mode.parked ∨ s.smc.mode = Mode.quiet ∨ s.smc.mode = Mode.run) ∧
      (s.smc.mode ≠ m) ∧ (s.pcl.state = ChillerState.parked) ∧ (¬(s.chillerRow.fitted = true ∧ (m =
      Mode.run ∨ ∃ q, (s.pcl.demand.get q).isSome = true))))
    ∧ (∃ (s : State) (m : Mode) (n : Nat), (s.smc.inReset = false) ∧ (s.latched = false) ∧ (∀ (q : Pos),
      s.pcl.pending.get q = none) ∧ (n = 1 ∧ m = Mode.parked ∨ n = 2 ∧ m = Mode.quiet ∨ n = 3 ∧ m =
      Mode.run) ∧ (s.smc.mode = Mode.parked ∨ s.smc.mode = Mode.quiet ∨ s.smc.mode = Mode.run) ∧
      (s.smc.mode ≠ m) ∧ (s.pcl.state = ChillerState.parked) ∧ (s.chillerRow.fitted = true ∧ (m = Mode.run
      ∨ ∃ q, (s.pcl.demand.get q).isSome = true)))
    ∧ (∃ (s : State) (m : Mode) (n : Nat), (s.smc.inReset = false) ∧ (s.latched = false) ∧ (∀ (q : Pos),
      s.pcl.pending.get q = none) ∧ (n = 1 ∧ m = Mode.parked ∨ n = 2 ∧ m = Mode.quiet ∨ n = 3 ∧ m =
      Mode.run) ∧ (s.smc.mode = Mode.parked ∨ s.smc.mode = Mode.quiet ∨ s.smc.mode = Mode.run) ∧
      (s.smc.mode ≠ m) ∧ (s.chillerRow.fitted = true ∧ (s.pcl.state = ChillerState.pulldown ∨ s.pcl.state
      = ChillerState.ready)) ∧ (s.chillerRow.fitted = true ∧ (m = Mode.run ∨ ∃ q, (s.pcl.demand.get
      q).isSome = true)))
    ∧ (∃ (s : State) (m : Mode) (n : Nat), (s.smc.inReset = false) ∧ (s.latched = false) ∧ (∀ (q : Pos),
      s.pcl.pending.get q = none) ∧ (n = 1 ∧ m = Mode.parked ∨ n = 2 ∧ m = Mode.quiet ∨ n = 3 ∧ m =
      Mode.run) ∧ (s.smc.mode = Mode.parked ∨ s.smc.mode = Mode.quiet ∨ s.smc.mode = Mode.run) ∧
      (s.smc.mode ≠ m) ∧ (s.chillerRow.fitted = true ∧ (s.pcl.state = ChillerState.pulldown ∨ s.pcl.state
      = ChillerState.ready)) ∧ (¬(s.chillerRow.fitted = true ∧ (m = Mode.run ∨ ∃ q, (s.pcl.demand.get
      q).isSome = true))) ∧ (s.pcl.parkTimer ≠ none))
    ∧ (∃ (s : State) (m : Mode) (n : Nat), (s.smc.inReset = false) ∧ (s.latched = false) ∧ (∀ (q : Pos),
      s.pcl.pending.get q = none) ∧ (n = 1 ∧ m = Mode.parked ∨ n = 2 ∧ m = Mode.quiet ∨ n = 3 ∧ m =
      Mode.run) ∧ (s.smc.mode = Mode.parked ∨ s.smc.mode = Mode.quiet ∨ s.smc.mode = Mode.run) ∧
      (s.smc.mode ≠ m) ∧ (s.chillerRow.fitted = true ∧ (s.pcl.state = ChillerState.pulldown ∨ s.pcl.state
      = ChillerState.ready)) ∧ (¬(s.chillerRow.fitted = true ∧ (m = Mode.run ∨ ∃ q, (s.pcl.demand.get
      q).isSome = true))) ∧ (s.pcl.parkTimer = none) ∧ (0 < s.chillerRow.parkDelay))
    ∧ (∃ (s : State) (m : Mode) (n : Nat), (s.smc.inReset = false) ∧ (s.latched = false) ∧ (∀ (q : Pos),
      s.pcl.pending.get q = none) ∧ (n = 1 ∧ m = Mode.parked ∨ n = 2 ∧ m = Mode.quiet ∨ n = 3 ∧ m =
      Mode.run) ∧ (s.smc.mode = Mode.parked ∨ s.smc.mode = Mode.quiet ∨ s.smc.mode = Mode.run) ∧
      (s.smc.mode ≠ m) ∧ (s.chillerRow.fitted = true ∧ (s.pcl.state = ChillerState.pulldown ∨ s.pcl.state
      = ChillerState.ready)) ∧ (¬(s.chillerRow.fitted = true ∧ (m = Mode.run ∨ ∃ q, (s.pcl.demand.get
      q).isSome = true))) ∧ (s.pcl.parkTimer = none) ∧ (s.chillerRow.parkDelay = 0))
    ∧ (∃ (p : Pos) (x : SigRec) (s : State), (s.smc.inReset = false) ∧ (s.latched = false) ∧ (∀ (q : Pos),
      s.pcl.pending.get q = none) ∧ (x.level = false ∧ (s.ctx p).opened = true ∧ (s.posRow p).pulseWeight
      ≠ 0) ∧ (s.smc.mode = Mode.parked) ∧ ((s.posRow p).wakeEnable = true) ∧ ((s.posRow p).required =
      Category.c00) ∧ (s.cmp.state = CmpState.stopped) ∧ (s.smc.mode = Mode.parked))
    ∧ (∃ (p : Pos) (x : SigRec) (s : State), (s.smc.inReset = false) ∧ (s.latched = false) ∧ (∀ (q : Pos),
      s.pcl.pending.get q = none) ∧ (x.level = false ∧ (s.ctx p).opened = true ∧ (s.posRow p).pulseWeight
      ≠ 0) ∧ (s.smc.mode = Mode.parked) ∧ ((s.posRow p).wakeEnable = true) ∧ ((s.posRow p).required ≠
      Category.c00) ∧ (s.pcl.state = ChillerState.parked) ∧ (s.chillerRow.fitted = true ∧ (Mode.run =
      Mode.run ∨ ∃ q, (s.pcl.demand.get q).isSome = true)))
    ∧ (∃ (p : Pos) (x : SigRec) (s : State), (s.smc.inReset = false) ∧ (s.latched = false) ∧ (∀ (q : Pos),
      s.pcl.pending.get q = none) ∧ (x.level = false ∧ (s.ctx p).opened = true ∧ (s.posRow p).pulseWeight
      ≠ 0) ∧ (s.smc.mode = Mode.quiet) ∧ ((s.posRow p).required ≠ Category.c00) ∧ (s.pcl.state =
      ChillerState.parked) ∧ (s.chillerRow.fitted = true ∧ (Mode.run = Mode.run ∨ ∃ q, (s.pcl.demand.get
      q).isSome = true)))
    ∧ (∃ (s : State) (b : Bank) (bs : List Bank), (s.smc.inReset = false) ∧ (s.latched = false) ∧ (∀ (q :
      Pos), s.pcl.pending.get q = none) ∧ (s.smc.mode = Mode.parked) ∧ (s.stationRow.bankLowWake = true) ∧
      (s.smc.mode = Mode.parked) ∧ (s.cmp.state = CmpState.unloaded) ∧ (s.cmp.waiters = []) ∧
      (s.refillCandidates = b :: bs))
    ∧ (∃ (s : State), (s.smc.inReset = false) ∧ (s.latched = false) ∧ (∀ (q : Pos), s.pcl.pending.get q =
      none) ∧ (s.smc.mode = Mode.run) ∧ (s.smc.idleTimer ≠ none) ∧ (s.chillerRow.fitted = true ∧
      (s.pcl.state = ChillerState.pulldown ∨ s.pcl.state = ChillerState.ready)) ∧ (¬(s.chillerRow.fitted =
      true ∧ (Mode.quiet = Mode.run ∨ ∃ q, (s.pcl.demand.get q).isSome = true))) ∧ (s.pcl.parkTimer =
      none) ∧ (0 < s.chillerRow.parkDelay))
    ∧ (∃ (s : State), (s.smc.inReset = false) ∧ (s.latched = false) ∧ (∀ (q : Pos), s.pcl.pending.get q =
      none) ∧ (s.smc.mode = Mode.quiet) ∧ (s.smc.parkTimer ≠ none) ∧ (s.cmp.state = CmpState.stopped) ∧
      (Mode.parked = Mode.parked)) :=
  ⟨⟨(crowd w), .parked, 1, by decide +kernel⟩,
   ⟨.p2, (gl false), (crowd (mode .parked w)), by decide +kernel⟩,
   ⟨.p1, (gl false), (crowd (mode .parked w)), by decide +kernel⟩,
   ⟨.p1, (gl false), (crowd (mode .quiet w)), by decide +kernel⟩,
   ⟨(srow (fun r => { r with bankLowWake := true }) (crowd (mode .parked w))), by decide +kernel⟩,
   ⟨(smc (fun k => { k with idleTimer := some 0 }) (crowd w)), by decide +kernel⟩,
   ⟨(smc (fun k => { k with parkTimer := some 0 }) (crowd (mode .quiet w))), by decide +kernel⟩,
   ⟨(run .unloaded w), .quiet, 2,
     (by and_intros <;> first | decide +kernel | (intro q; cases q <;> decide +kernel))⟩,
   ⟨(run .priming w), .parked, 1,
     (by and_intros <;> first | decide +kernel | (intro q; cases q <;> decide +kernel))⟩,
   ⟨(cm (fun k => { k with dest := some (.direct .p2), holder := some (.p2, some 3) }) (run .loaded w)),
     .parked, 1, .p2, (by and_intros <;> first | decide +kernel | (intro q; cases q <;> decide +kernel))⟩,
   ⟨(cm (fun k => { k with held := some .supply }) (val (.bankPressure .b1) 2999 w)), .parked, 1,
     (by and_intros <;> first | decide +kernel | (intro q; cases q <;> decide +kernel))⟩,
   ⟨(val (.bankPressure .b1) 2999 (mode .parked w)), .quiet, 2,
     (by and_intros <;> first | decide +kernel | (intro q; cases q <;> decide +kernel))⟩,
   ⟨(cm (fun k => { k with waiters := [.p2, .p3] }) (run .unloaded w)), .parked, 1, .p2, [.p3],
     (by and_intros <;> first | decide +kernel | (intro q; cases q <;> decide +kernel))⟩,
   ⟨(run .unloaded (mode .parked w)), .quiet, 2, .b1, [],
     (by and_intros <;> first | decide +kernel | (intro q; cases q <;> decide +kernel))⟩,
   ⟨(run .unloaded w), .parked, 1,
     (by and_intros <;> first | decide +kernel | (intro q; cases q <;> decide +kernel))⟩,
   ⟨(pc (fun k => { k with state := .fault }) (cm (fun k => { k with startedAt := some 4940 }) (run
     .unloaded w))), .parked, 1,
     (by and_intros <;> first | decide +kernel | (intro q; cases q <;> decide +kernel))⟩,
   ⟨(cm (fun k => { k with dest := some (.refill .b1) }) (run .loaded (held .b1 .compressor true w))),
     .parked, 1, .b1, (ses .compressor true),
     (by and_intros <;> first | decide +kernel | (intro q; cases q <;> decide +kernel))⟩,
   ⟨(cm (fun k => { k with state := .loaded, startedAt := some 4940, dest := some (.refill .b1) }) (held
     .b1 .compressor true w)), .parked, 1, .b1, (ses .compressor true),
     (by and_intros <;> first | decide +kernel | (intro q; cases q <;> decide +kernel))⟩,
   ⟨(cm (fun k => { k with dest := some (.refill .b1), waiters := [.p3] }) (run .loaded (held .b1
     .compressor true w))), .parked, 1, .b1, (ses .compressor true), .p3, [],
     (by and_intros <;> first | decide +kernel | (intro q; cases q <;> decide +kernel))⟩,
   ⟨(pc (fun k => { k with state := .fault }) w), .quiet, 2,
     (by and_intros <;> first | decide +kernel | (intro q; cases q <;> decide +kernel))⟩,
   ⟨w, .quiet, 2,
     (by and_intros <;> first | decide +kernel | (intro q; cases q <;> decide +kernel) | (rintro ⟨_, h | ⟨q, h⟩⟩ <;> revert h <;> first | decide +kernel | (cases q <;> decide +kernel)))⟩,
   ⟨(pc (fun k => { k with reserve := 30000 }) (mode .quiet w)), .run, 3,
     (by and_intros <;> first | decide +kernel | (intro q; cases q <;> decide +kernel) | exact .inl (by decide +kernel))⟩,
   ⟨(pc (fun k => { k with state := .ready, parkTimer := some 5 }) (mode .quiet w)), .run, 3,
     (by and_intros <;> first | decide +kernel | (intro q; cases q <;> decide +kernel) | exact .inl (by decide +kernel))⟩,
   ⟨(pc (fun k => { k with state := .ready, parkTimer := some 5 }) (mode .quiet w)), .parked, 1,
     (by and_intros <;> first | decide +kernel | (intro q; cases q <;> decide +kernel) | (rintro ⟨_, h | ⟨q, h⟩⟩ <;> revert h <;> first | decide +kernel | (cases q <;> decide +kernel)))⟩,
   ⟨(pc (fun k => { k with state := .pulldown }) w), .quiet, 2,
     (by and_intros <;> first | decide +kernel | (intro q; cases q <;> decide +kernel) | (rintro ⟨_, h | ⟨q, h⟩⟩ <;> revert h <;> first | decide +kernel | (cases q <;> decide +kernel)))⟩,
   ⟨(chRow (fun r => { r with parkDelay := 0 }) (pc (fun k =>
     { k with state := .ready, stabilised := true }) w)), .quiet, 2,
     (by and_intros <;> first | decide +kernel | (intro q; cases q <;> decide +kernel) | (rintro ⟨_, h | ⟨q, h⟩⟩ <;> revert h <;> first | decide +kernel | (cases q <;> decide +kernel)))⟩,
   ⟨.p2, (gl false), (crowd (val (.bankPressure .b1) 2999 (mode .parked w))),
     (by and_intros <;> first | decide +kernel | (intro q; cases q <;> decide +kernel))⟩,
   ⟨.p1, (gl false), (crowd (mode .parked w)),
     (by and_intros <;> first | decide +kernel | (intro q; cases q <;> decide +kernel) | exact .inl (by decide +kernel))⟩,
   ⟨.p1, (gl false), (crowd (mode .quiet w)),
     (by and_intros <;> first | decide +kernel | (intro q; cases q <;> decide +kernel) | exact .inl (by decide +kernel))⟩,
   ⟨(srow (fun r => { r with bankLowWake := true }) (run .unloaded (mode .parked w))), .b1, [],
     (by and_intros <;> first | decide +kernel | (intro q; cases q <;> decide +kernel))⟩,
   ⟨(smc (fun k => { k with idleTimer := some 0 }) (pc (fun k => { k with state := .pulldown }) w)),
     (by and_intros <;> first | decide +kernel | (intro q; cases q <;> decide +kernel) | (rintro ⟨_, h | ⟨q, h⟩⟩ <;> revert h <;> first | decide +kernel | (cases q <;> decide +kernel)))⟩,
   ⟨(smc (fun k => { k with parkTimer := some 0 }) (mode .quiet w)),
     (by and_intros <;> first | decide +kernel | (intro q; cases q <;> decide +kernel))⟩⟩

theorem witness_ModeKept :
    (∃ (s : State) (n : Nat), (s.smc.inReset = false) ∧ (n = 0 ∨ 4 ≤ n))
    ∧ (∃ (s : State) (n : Nat), (s.smc.inReset = false) ∧ (1 ≤ n) ∧ (n ≤ 3) ∧ (s.smc.mode = Mode.configuring
      ∨ s.smc.mode = Mode.trip))
    ∧ (∃ (s : State) (n : Nat), (s.smc.inReset = false) ∧ (n = 1 ∧ s.smc.mode = Mode.parked ∨ n = 2 ∧
      s.smc.mode = Mode.quiet ∨ n = 3 ∧ s.smc.mode = Mode.run))
    ∧ (∃ (x : SigRec) (s : State), (s.smc.inReset = false) ∧ (x.level = true))
    ∧ (∃ (s : State), (s.smc.inReset = false) ∧ (s.smc.mode = Mode.run ∨ s.smc.mode = Mode.configuring ∨
      s.smc.mode = Mode.trip))
    ∧ (∃ (p : Pos) (s : State), (s.smc.inReset = false) ∧ ((s.ctx p).opened = false ∨ (s.posRow
      p).pulseWeight = 0 ∨ s.smc.mode = Mode.parked ∧ (s.posRow p).wakeEnable = false ∨ s.smc.mode =
      Mode.quiet ∧ (s.posRow p).required = Category.c00))
    ∧ (∃ (s : State), (s.smc.inReset = false) ∧ (s.smc.mode ≠ Mode.parked ∨ s.stationRow.bankLowWake =
      false))
    ∧ (∃ (s : State), (s.smc.inReset = false) ∧ (s.smc.idleTimer = none))
    ∧ (∃ (s : State), (s.smc.inReset = false) ∧ (s.smc.parkTimer = none))
    ∧ (∃ (s : State), (s.smc.inReset = false) ∧ (s.smc.mode = Mode.run) ∧ (∀ (q : Pos), (s.ctx
      q).state.descentSpan = false) ∧ (s.smc.idleTimer = none) ∧ (0 < s.stationRow.idleTime))
    ∧ (∃ (s : State), (s.smc.inReset = false) ∧ (s.smc.mode = Mode.run) ∧ (∀ (q : Pos), (s.ctx
      q).state.descentSpan = false) ∧ (s.smc.idleTimer = none) ∧ (s.stationRow.idleTime = 0))
    ∧ (∃ (s : State) (n : Nat), (s.smc.inReset = false) ∧ (s.smc.mode = Mode.run) ∧ (∀ (q : Pos), (s.ctx
      q).state.descentSpan = false) ∧ (s.smc.idleTimer = some n))
    ∧ (∃ (s : State), (s.smc.inReset = false) ∧ (s.smc.mode = Mode.run) ∧ (¬∀ (q : Pos), (s.ctx
      q).state.descentSpan = false))
    ∧ (∃ (s : State), (s.smc.inReset = false) ∧ (s.smc.mode = Mode.quiet) ∧ (∀ (q : Pos), (s.ctx
      q).state.descentSpan = false) ∧ (s.cmp.state = CmpState.stopped ∨ s.cmpRow.fitted = false) ∧
      (s.smc.parkTimer = none) ∧ (0 < s.stationRow.parkTime))
    ∧ (∃ (s : State), (s.smc.inReset = false) ∧ (s.smc.mode = Mode.quiet) ∧ ((¬∀ (q : Pos), (s.ctx
      q).state.descentSpan = false) ∨ ¬(s.cmp.state = CmpState.stopped ∨ s.cmpRow.fitted = false)))
    ∧ (∃ (s : State), (s.smc.inReset = false) ∧ (s.smc.mode = Mode.configuring ∨ s.smc.mode = Mode.parked
      ∨ s.smc.mode = Mode.trip)) :=
  ⟨⟨w, 4, by decide +kernel⟩,
   ⟨(tripped w), 3, by decide +kernel⟩,
   ⟨w, 3, by decide +kernel⟩,
   ⟨(gl true), (crowd (mode .quiet w)), by decide +kernel⟩,
   ⟨(crowd w), by decide +kernel⟩,
   ⟨.p1, (crowd (prow (fun r => { r with wakeEnable := false }) (mode .parked w))), by decide +kernel⟩,
   ⟨(mode .parked w), by decide +kernel⟩,
   ⟨w, by decide +kernel⟩,
   ⟨w, by decide +kernel⟩,
   ⟨(crowd w), (by and_intros <;> first | decide +kernel | (intro q; cases q <;> decide +kernel))⟩,
   ⟨(srow (fun r => { r with idleTime := 0 }) (crowd w)),
     (by and_intros <;> first | decide +kernel | (intro q; cases q <;> decide +kernel))⟩,
   ⟨(smc (fun k => { k with idleTimer := some 3 }) (crowd w)), 3,
     (by and_intros <;> first | decide +kernel | (intro q; cases q <;> decide +kernel))⟩,
   ⟨(smc (fun k => { k with idleTimer := some 3 }) (at1 .venting id (crowd w))),
     (by and_intros <;> first | decide +kernel | exact fun h => absurd (h .p1) (by decide +kernel))⟩,
   ⟨(crowd (mode .quiet w)),
     (by and_intros <;> first | decide +kernel | (intro q; cases q <;> decide +kernel))⟩,
   ⟨(smc (fun k => { k with parkTimer := some 3 }) (run .cooldown (crowd (mode .quiet w)))),
     (by and_intros <;> first | decide +kernel | exact .inl fun h => absurd (h .p1) (by decide +kernel) | exact .inr (by decide +kernel))⟩,
   ⟨(mode .parked w), by decide +kernel⟩⟩

theorem witness_TripLatch :
    (∃ (s : State), (s.smc.inReset = false) ∧ (s.latched = false))
    ∧ (∃ (s : State), (s.smc.inReset = false) ∧ (s.latched = true))
    ∧ (∃ (s : State), (s.smc.inReset = false) ∧ (0 < s.rif.reserved) ∧ (s.rif.ringOut ≠ none)) :=
  ⟨⟨({ w with mail := [.bQChange], rif := { w.rif with commands := [⟨.ventValve .p1, ActCommand.open, 1000⟩] } }),
     by decide +kernel⟩,
   ⟨(smc (fun k => { k with further := 255 }) (tripped w)), by decide +kernel⟩,
   ⟨({ w with rif := { w.rif with reserved := 1 } }), by decide +kernel⟩⟩

theorem witness_TableChanges :
    (∃ (s : State) (n : Nat), (s.smc.inReset = false) ∧ (n = 0 ∨ 10 ≤ n))
    ∧ (∃ (row : Nat) (bs : List Byte) (s : State) (r : Option NodeRow), (s.smc.inReset = false) ∧ (row < 64)
      ∧ (parseNodeRow bs = some r))
    ∧ (∃ (row : Nat) (bs : List Byte) (s : State), (s.smc.inReset = false) ∧ (64 ≤ row ∨ parseNodeRow bs =
      none))
    ∧ (∃ (bs : List Byte) (s : State) (r : StationRow), (s.smc.inReset = false) ∧ (parseStation bs = some
      r))
    ∧ (∃ (row : Nat) (bs : List Byte) (s : State), (s.smc.inReset = false) ∧ (row ≠ 0 ∨ parseStation bs =
      none))
    ∧ (∃ (row : Nat) (bs : List Byte) (s : State) (b : Bank) (r : BankRow), (s.smc.inReset = false) ∧ (row +
      1 = b.num) ∧ (parseBankRow bs = some r))
    ∧ (∃ (bs : List Byte) (s : State) (es : List Source), (s.smc.inReset = false) ∧ (parseSequence bs =
      some es))
    ∧ (∃ (row : Nat) (s : State), (s.smc.inReset = false) ∧ (6 ≤ row))
    ∧ (∃ (bs : List Byte) (s : State) (r : CmpRow), (s.smc.inReset = false) ∧ (parseCmpRow bs = some r))
    ∧ (∃ (bs : List Byte) (s : State) (r : ChillerRow), (s.smc.inReset = false) ∧ (parseChillerRow bs =
      some r))
    ∧ (∃ (bs : List Byte) (s : State) (a : CategoryRow) (b : CategoryRow) (c : CategoryRow),
      (s.smc.inReset = false) ∧ (parseCategories bs = some (a, b, c)))
    ∧ (∃ (row : Nat) (bs : List Byte) (s : State) (p : Pos) (r : PosRow), (s.smc.inReset = false) ∧ (row + 1
      = p.num) ∧ (parsePosRow bs = some r))
    ∧ (∃ (row : Nat) (bs : List Byte) (s : State) (r : FillTable), (s.smc.inReset = false) ∧ (parseFillRow
      s.tables.fillH35.copy.shadow row bs = some r))
    ∧ (∃ (row : Nat) (bs : List Byte) (s : State) (r : FillTable), (s.smc.inReset = false) ∧ (parseFillRow
      s.tables.fillH70.copy.shadow row bs = some r))
    ∧ (∃ (row : Nat) (bs : List Byte) (s : State) (r : Tariff), (s.smc.inReset = false) ∧ (parseTariffRow
      s.tables.tariff.shadow row bs = some r))
    ∧ (∃ (row : Nat) (bs : List Byte) (s : State), (s.smc.inReset = false) ∧ (row ≤ 3) ∧ (parseBankRow bs =
      none))
    ∧ (∃ (row : Nat) (bs : List Byte) (s : State), (s.smc.inReset = false) ∧ (row = 4 ∨ row = 5) ∧
      (parseSequence bs = none))
    ∧ (∃ (row : Nat) (bs : List Byte) (s : State), (s.smc.inReset = false) ∧ (row ≠ 0 ∨ parseCmpRow bs =
      none))
    ∧ (∃ (row : Nat) (bs : List Byte) (s : State), (s.smc.inReset = false) ∧ (2 ≤ row ∨ row = 0 ∧
      parseChillerRow bs = none ∨ row = 1 ∧ parseCategories bs = none))
    ∧ (∃ (row : Nat) (bs : List Byte) (s : State), (s.smc.inReset = false) ∧ (4 ≤ row ∨ parsePosRow bs =
      none))
    ∧ (∃ (row : Nat) (bs : List Byte) (s : State), (s.smc.inReset = false) ∧ (98 ≤ row ∨ parseFillRow
      s.tables.fillH35.copy.shadow row bs = none))
    ∧ (∃ (row : Nat) (bs : List Byte) (s : State), (s.smc.inReset = false) ∧ (98 ≤ row ∨ parseFillRow
      s.tables.fillH70.copy.shadow row bs = none))
    ∧ (∃ (row : Nat) (bs : List Byte) (s : State), (s.smc.inReset = false) ∧ (5 ≤ row ∨ parseTariffRow
      s.tables.tariff.shadow row bs = none))
    ∧ (∃ (s : State) (n : Nat), (s.smc.inReset = false) ∧ (n = 0 ∨ 10 ≤ n))
    ∧ (∃ (s : State) (n : Nat) (st : Status) (d : List Byte), (s.smc.inReset = false) ∧ (1 ≤ n) ∧ (n ≤ 9) ∧
      (s.objection n = some (st, d)))
    ∧ (∃ (s : State) (n : Nat), (s.smc.inReset = false) ∧ (1 ≤ n) ∧ (n ≤ 9) ∧ (s.objection n = none))
    ∧ (∃ (s : State), (s.smc.inReset = false) ∧ (s.smc.mode ≠ Mode.configuring))
    ∧ (∃ (s : State), (s.smc.inReset = false) ∧ (s.smc.mode = Mode.configuring) ∧ ((s.tables.commit
      2).complete = true))
    ∧ (∃ (s : State), (s.smc.inReset = false) ∧ (s.objection 1 = none))
    ∧ (∃ (s : State), (s.smc.inReset = false) ∧ (s.objection 5 = none))
    ∧ (∃ (s : State) (n : Nat), (s.smc.inReset = false) ∧ ((fun n => Option.any (fun x => Option.any (fun a
      => (List.take n s.tables.nodeMap.shadow).any fun o => Option.any ((fun a b => decide (a.role =
      b.role ∨ a.role.kind ≠ RoleKind.tenderSource ∧ b.role.kind ≠ RoleKind.tenderSource ∧ a.source =
      b.source ∧ a.channel = b.channel)) a) o) x) s.tables.nodeMap.shadow[n]?) n = true) ∧ (∀ m < n, (fun
      n => Option.any (fun x => Option.any (fun a => (List.take n s.tables.nodeMap.shadow).any fun o =>
      Option.any ((fun a b => decide (a.role = b.role ∨ a.role.kind ≠ RoleKind.tenderSource ∧ b.role.kind
      ≠ RoleKind.tenderSource ∧ a.source = b.source ∧ a.channel = b.channel)) a) o) x)
      s.tables.nodeMap.shadow[n]?) m = false))
    ∧ (∃ (s : State), (s.smc.inReset = false) ∧ (∀ n < s.tables.nodeMap.shadow.length, (fun n =>
      Option.any (fun x => Option.any (fun a => (List.take n s.tables.nodeMap.shadow).any fun o =>
      Option.any ((fun a b => decide (a.role = b.role ∨ a.role.kind ≠ RoleKind.tenderSource ∧ b.role.kind
      ≠ RoleKind.tenderSource ∧ a.source = b.source ∧ a.channel = b.channel)) a) o) x)
      s.tables.nodeMap.shadow[n]?) n = false) ∧ (¬(s.smc.mode = Mode.configuring ∨ s.smc.mode =
      Mode.parked)))
    ∧ (∃ (s : State) (q : Pos), (s.smc.inReset = false) ∧ (∀ n < s.tables.nodeMap.shadow.length, (fun n =>
      Option.any (fun x => Option.any (fun a => (List.take n s.tables.nodeMap.shadow).any fun o =>
      Option.any ((fun a b => decide (a.role = b.role ∨ a.role.kind ≠ RoleKind.tenderSource ∧ b.role.kind
      ≠ RoleKind.tenderSource ∧ a.source = b.source ∧ a.channel = b.channel)) a) o) x)
      s.tables.nodeMap.shadow[n]?) n = false) ∧ (s.smc.mode = Mode.configuring ∨ s.smc.mode = Mode.parked)
      ∧ ((s.ctx q).state.busySpan = true))
    ∧ (∃ (s : State), (s.smc.inReset = false) ∧ (∀ n < s.tables.nodeMap.shadow.length, (fun n =>
      Option.any (fun x => Option.any (fun a => (List.take n s.tables.nodeMap.shadow).any fun o =>
      Option.any ((fun a b => decide (a.role = b.role ∨ a.role.kind ≠ RoleKind.tenderSource ∧ b.role.kind
      ≠ RoleKind.tenderSource ∧ a.source = b.source ∧ a.channel = b.channel)) a) o) x)
      s.tables.nodeMap.shadow[n]?) n = false) ∧ (s.smc.mode = Mode.configuring ∨ s.smc.mode = Mode.parked)
      ∧ (∀ (q : Pos), (s.ctx q).state.busySpan = false))
    ∧ (∃ (s : State) (b : Bank), (s.smc.inReset = false) ∧ ((fun b => (s.tables.bank.shadow.rows.get
      b).configured = true ∧ ¬((s.tables.bank.shadow.rows.get b).floor < (s.tables.bank.shadow.rows.get
      b).refillStart ∧ (s.tables.bank.shadow.rows.get b).refillStart < (s.tables.bank.shadow.rows.get
      b).fillTo ∧ (s.tables.bank.shadow.rows.get b).fillTo ≤ (s.tables.bank.shadow.rows.get b).rated)) b)
      ∧ (∀ (d : Bank), d.num < b.num → ¬(fun b => (s.tables.bank.shadow.rows.get b).configured = true ∧
      ¬((s.tables.bank.shadow.rows.get b).floor < (s.tables.bank.shadow.rows.get b).refillStart ∧
      (s.tables.bank.shadow.rows.get b).refillStart < (s.tables.bank.shadow.rows.get b).fillTo ∧
      (s.tables.bank.shadow.rows.get b).fillTo ≤ (s.tables.bank.shadow.rows.get b).rated)) d))
    ∧ (∃ (s : State), (s.smc.inReset = false) ∧ (∀ (d : Bank), ¬(fun b => (s.tables.bank.shadow.rows.get
      b).configured = true ∧ ¬((s.tables.bank.shadow.rows.get b).floor < (s.tables.bank.shadow.rows.get
      b).refillStart ∧ (s.tables.bank.shadow.rows.get b).refillStart < (s.tables.bank.shadow.rows.get
      b).fillTo ∧ (s.tables.bank.shadow.rows.get b).fillTo ≤ (s.tables.bank.shadow.rows.get b).rated)) d)
      ∧ (¬(s.smc.mode = Mode.configuring ∨ s.smc.mode = Mode.parked)))
    ∧ (∃ (s : State) (b : Bank), (s.smc.inReset = false) ∧ (∀ (d : Bank), ¬(fun b =>
      (s.tables.bank.shadow.rows.get b).configured = true ∧ ¬((s.tables.bank.shadow.rows.get b).floor <
      (s.tables.bank.shadow.rows.get b).refillStart ∧ (s.tables.bank.shadow.rows.get b).refillStart <
      (s.tables.bank.shadow.rows.get b).fillTo ∧ (s.tables.bank.shadow.rows.get b).fillTo ≤
      (s.tables.bank.shadow.rows.get b).rated)) d) ∧ (s.smc.mode = Mode.configuring ∨ s.smc.mode =
      Mode.parked) ∧ ((fun b => (s.bankRow b).configured = true ∧ (s.tables.bank.shadow.rows.get
      b).configured = false ∧ ((s.bank b).waiters ≠ [] ∨ (s.bank b).state ≠ BankState.available ∧ (s.bank
      b).state ≠ BankState.isolated ∧ (s.bank b).state ≠ BankState.unconfigured)) b))
    ∧ (∃ (s : State), (s.smc.inReset = false) ∧ (∀ (d : Bank), ¬(fun b => (s.tables.bank.shadow.rows.get
      b).configured = true ∧ ¬((s.tables.bank.shadow.rows.get b).floor < (s.tables.bank.shadow.rows.get
      b).refillStart ∧ (s.tables.bank.shadow.rows.get b).refillStart < (s.tables.bank.shadow.rows.get
      b).fillTo ∧ (s.tables.bank.shadow.rows.get b).fillTo ≤ (s.tables.bank.shadow.rows.get b).rated)) d)
      ∧ (s.smc.mode = Mode.configuring ∨ s.smc.mode = Mode.parked) ∧ (∀ (d : Bank), ¬(fun b => (s.bankRow
      b).configured = true ∧ (s.tables.bank.shadow.rows.get b).configured = false ∧ ((s.bank b).waiters ≠
      [] ∨ (s.bank b).state ≠ BankState.available ∧ (s.bank b).state ≠ BankState.isolated ∧ (s.bank
      b).state ≠ BankState.unconfigured)) d))
    ∧ (∃ (s : State), (s.smc.inReset = false) ∧ (10000 < s.tables.compressor.shadow.suctionMin +
      s.tables.compressor.shadow.hysteresis))
    ∧ (∃ (s : State), (s.smc.inReset = false) ∧ (s.tables.compressor.shadow.suctionMin +
      s.tables.compressor.shadow.hysteresis ≤ 10000) ∧ (¬(s.smc.mode = Mode.configuring ∨ s.smc.mode =
      Mode.parked)))
    ∧ (∃ (s : State), (s.smc.inReset = false) ∧ (s.tables.compressor.shadow.suctionMin +
      s.tables.compressor.shadow.hysteresis ≤ 10000) ∧ (s.smc.mode = Mode.configuring ∨ s.smc.mode =
      Mode.parked) ∧ ((s.cmp.state = CmpState.priming ∨ s.cmp.state = CmpState.unloaded ∨ s.cmp.state =
      CmpState.loaded) ∨ s.cmp.waiters ≠ []))
    ∧ (∃ (s : State), (s.smc.inReset = false) ∧ (s.tables.compressor.shadow.suctionMin +
      s.tables.compressor.shadow.hysteresis ≤ 10000) ∧ (s.smc.mode = Mode.configuring ∨ s.smc.mode =
      Mode.parked) ∧ (¬(s.cmp.state = CmpState.priming ∨ s.cmp.state = CmpState.unloaded ∨ s.cmp.state =
      CmpState.loaded)) ∧ (s.cmp.waiters = []))
    ∧ (∃ (s : State), (s.smc.inReset = false) ∧ (s.tables.precool.shadow.row0.fitted = true) ∧
      (¬(s.tables.precool.shadow.row0.readyOff < s.tables.precool.shadow.row0.readyOn ∧
      s.tables.precool.shadow.row0.readyOn ≤ s.tables.precool.shadow.row0.capacity)))
    ∧ (∃ (s : State), (s.smc.inReset = false) ∧ (s.tables.precool.shadow.row0.fitted = true) ∧
      (s.tables.precool.shadow.row0.readyOff < s.tables.precool.shadow.row0.readyOn ∧
      s.tables.precool.shadow.row0.readyOn ≤ s.tables.precool.shadow.row0.capacity) ∧
      (¬(s.tables.precool.shadow.c40.bound < s.tables.precool.shadow.c30.bound ∧
      s.tables.precool.shadow.c30.bound < s.tables.precool.shadow.c20.bound ∧ ∀ c ∈
      [s.tables.precool.shadow.c40, s.tables.precool.shadow.c30, s.tables.precool.shadow.c20], c.target <
      c.bound ∧ c.threshold ≤ s.tables.precool.shadow.row0.capacity)))
    ∧ (∃ (s : State), (s.smc.inReset = false) ∧ (s.tables.precool.shadow.row0.fitted = false ∨
      (s.tables.precool.shadow.row0.readyOff < s.tables.precool.shadow.row0.readyOn ∧
      s.tables.precool.shadow.row0.readyOn ≤ s.tables.precool.shadow.row0.capacity) ∧
      s.tables.precool.shadow.c40.bound < s.tables.precool.shadow.c30.bound ∧
      s.tables.precool.shadow.c30.bound < s.tables.precool.shadow.c20.bound ∧ ∀ c ∈
      [s.tables.precool.shadow.c40, s.tables.precool.shadow.c30, s.tables.precool.shadow.c20], c.target <
      c.bound ∧ c.threshold ≤ s.tables.precool.shadow.row0.capacity))
    ∧ (∃ (s : State) (p : Pos), (s.smc.inReset = false) ∧ ((fun p => Option.any (fun c => decide (c.rank ≤
      (s.tables.position.shadow.get p).required.rank)) (s.tables.position.shadow.get p).fallback = true)
      p) ∧ (∀ (q : Pos), q.num < p.num → ¬(fun p => Option.any (fun c => decide (c.rank ≤
      (s.tables.position.shadow.get p).required.rank)) (s.tables.position.shadow.get p).fallback = true)
      q))
    ∧ (∃ (s : State), (s.smc.inReset = false) ∧ (∀ (q : Pos), ¬(fun p => Option.any (fun c => decide
      (c.rank ≤ (s.tables.position.shadow.get p).required.rank)) (s.tables.position.shadow.get p).fallback
      = true) q) ∧ (¬(s.smc.mode = Mode.configuring ∨ s.smc.mode = Mode.parked)))
    ∧ (∃ (s : State) (p : Pos), (s.smc.inReset = false) ∧ (∀ (q : Pos), ¬(fun p => Option.any (fun c =>
      decide (c.rank ≤ (s.tables.position.shadow.get p).required.rank)) (s.tables.position.shadow.get
      p).fallback = true) q) ∧ (s.smc.mode = Mode.configuring ∨ s.smc.mode = Mode.parked) ∧ ((s.ctx
      p).state.busySpan = true))
    ∧ (∃ (s : State), (s.smc.inReset = false) ∧ (∀ (q : Pos), ¬(fun p => Option.any (fun c => decide
      (c.rank ≤ (s.tables.position.shadow.get p).required.rank)) (s.tables.position.shadow.get p).fallback
      = true) q) ∧ (s.smc.mode = Mode.configuring ∨ s.smc.mode = Mode.parked) ∧ (∀ (q : Pos), (s.ctx
      q).state.busySpan = false))
    ∧ (∃ (s : State), (s.smc.inReset = false) ∧ (¬(List.Pairwise (fun x1 x2 => x1 < x2) (s.tables.fill
      PClass.h35).copy.shadow.volEdges ∧ List.Pairwise (fun x1 x2 => x1 < x2) (s.tables.fill
      PClass.h35).copy.shadow.ambEdges ∧ List.Pairwise (fun x1 x2 => x1 < x2) (s.tables.fill
      PClass.h35).copy.shadow.p0Edges)))
    ∧ (∃ (s : State), (s.smc.inReset = false) ∧ (List.Pairwise (fun x1 x2 => x1 < x2) (s.tables.fill
      PClass.h35).copy.shadow.volEdges ∧ List.Pairwise (fun x1 x2 => x1 < x2) (s.tables.fill
      PClass.h35).copy.shadow.ambEdges ∧ List.Pairwise (fun x1 x2 => x1 < x2) (s.tables.fill
      PClass.h35).copy.shadow.p0Edges) ∧ (¬((s.tables.fill PClass.h35).copy.shadow.params.nonCommCap ≤
      3850 ∧ (s.tables.fill PClass.h35).copy.shadow.params.upperBand < (s.tables.fill
      PClass.h35).copy.shadow.params.abortBand)))
    ∧ (∃ (s : State) (i : Nat), (s.smc.inReset = false) ∧ (List.Pairwise (fun x1 x2 => x1 < x2)
      (s.tables.fill PClass.h35).copy.shadow.volEdges ∧ List.Pairwise (fun x1 x2 => x1 < x2)
      (s.tables.fill PClass.h35).copy.shadow.ambEdges ∧ List.Pairwise (fun x1 x2 => x1 < x2)
      (s.tables.fill PClass.h35).copy.shadow.p0Edges) ∧ ((s.tables.fill
      PClass.h35).copy.shadow.params.nonCommCap ≤ 3850 ∧ (s.tables.fill
      PClass.h35).copy.shadow.params.upperBand < (s.tables.fill PClass.h35).copy.shadow.params.abortBand)
      ∧ ((fun i => Option.any (fun cs => cs.any fun c => decide (3850 < c.pEnd)) (s.tables.fill
      PClass.h35).copy.shadow.cells[i]?) i = true) ∧ (∀ j < i, (fun i => Option.any (fun cs => cs.any fun
      c => decide (3850 < c.pEnd)) (s.tables.fill PClass.h35).copy.shadow.cells[i]?) j = false))
    ∧ (∃ (s : State), (s.smc.inReset = false) ∧ (List.Pairwise (fun x1 x2 => x1 < x2) (s.tables.fill
      PClass.h35).copy.shadow.volEdges ∧ List.Pairwise (fun x1 x2 => x1 < x2) (s.tables.fill
      PClass.h35).copy.shadow.ambEdges ∧ List.Pairwise (fun x1 x2 => x1 < x2) (s.tables.fill
      PClass.h35).copy.shadow.p0Edges) ∧ ((s.tables.fill PClass.h35).copy.shadow.params.nonCommCap ≤ 3850
      ∧ (s.tables.fill PClass.h35).copy.shadow.params.upperBand < (s.tables.fill
      PClass.h35).copy.shadow.params.abortBand) ∧ (∀ i < (s.tables.fill
      PClass.h35).copy.shadow.cells.length, (fun i => Option.any (fun cs => cs.any fun c => decide (3850 <
      c.pEnd)) (s.tables.fill PClass.h35).copy.shadow.cells[i]?) i = false) ∧ ((s.tables.fill
      PClass.h35).older ≠ none))
    ∧ (∃ (s : State), (s.smc.inReset = false) ∧ (List.Pairwise (fun x1 x2 => x1 < x2) (s.tables.fill
      PClass.h35).copy.shadow.volEdges ∧ List.Pairwise (fun x1 x2 => x1 < x2) (s.tables.fill
      PClass.h35).copy.shadow.ambEdges ∧ List.Pairwise (fun x1 x2 => x1 < x2) (s.tables.fill
      PClass.h35).copy.shadow.p0Edges) ∧ ((s.tables.fill PClass.h35).copy.shadow.params.nonCommCap ≤ 3850
      ∧ (s.tables.fill PClass.h35).copy.shadow.params.upperBand < (s.tables.fill
      PClass.h35).copy.shadow.params.abortBand) ∧ (∀ i < (s.tables.fill
      PClass.h35).copy.shadow.cells.length, (fun i => Option.any (fun cs => cs.any fun c => decide (3850 <
      c.pEnd)) (s.tables.fill PClass.h35).copy.shadow.cells[i]?) i = false) ∧ ((s.tables.fill
      PClass.h35).older = none))
    ∧ (∃ (s : State), (s.smc.inReset = false) ∧ (¬(List.Pairwise (fun x1 x2 => x1 < x2) (s.tables.fill
      PClass.h70).copy.shadow.volEdges ∧ List.Pairwise (fun x1 x2 => x1 < x2) (s.tables.fill
      PClass.h70).copy.shadow.ambEdges ∧ List.Pairwise (fun x1 x2 => x1 < x2) (s.tables.fill
      PClass.h70).copy.shadow.p0Edges)))
    ∧ (∃ (s : State), (s.smc.inReset = false) ∧ (List.Pairwise (fun x1 x2 => x1 < x2) (s.tables.fill
      PClass.h70).copy.shadow.volEdges ∧ List.Pairwise (fun x1 x2 => x1 < x2) (s.tables.fill
      PClass.h70).copy.shadow.ambEdges ∧ List.Pairwise (fun x1 x2 => x1 < x2) (s.tables.fill
      PClass.h70).copy.shadow.p0Edges) ∧ (¬((s.tables.fill PClass.h70).copy.shadow.params.nonCommCap ≤
      7700 ∧ (s.tables.fill PClass.h70).copy.shadow.params.upperBand < (s.tables.fill
      PClass.h70).copy.shadow.params.abortBand)))
    ∧ (∃ (s : State) (i : Nat), (s.smc.inReset = false) ∧ (List.Pairwise (fun x1 x2 => x1 < x2)
      (s.tables.fill PClass.h70).copy.shadow.volEdges ∧ List.Pairwise (fun x1 x2 => x1 < x2)
      (s.tables.fill PClass.h70).copy.shadow.ambEdges ∧ List.Pairwise (fun x1 x2 => x1 < x2)
      (s.tables.fill PClass.h70).copy.shadow.p0Edges) ∧ ((s.tables.fill
      PClass.h70).copy.shadow.params.nonCommCap ≤ 7700 ∧ (s.tables.fill
      PClass.h70).copy.shadow.params.upperBand < (s.tables.fill PClass.h70).copy.shadow.params.abortBand)
      ∧ ((fun i => Option.any (fun cs => cs.any fun c => decide (7700 < c.pEnd)) (s.tables.fill
      PClass.h70).copy.shadow.cells[i]?) i = true) ∧ (∀ j < i, (fun i => Option.any (fun cs => cs.any fun
      c => decide (7700 < c.pEnd)) (s.tables.fill PClass.h70).copy.shadow.cells[i]?) j = false))
    ∧ (∃ (s : State), (s.smc.inReset = false) ∧ (List.Pairwise (fun x1 x2 => x1 < x2) (s.tables.fill
      PClass.h70).copy.shadow.volEdges ∧ List.Pairwise (fun x1 x2 => x1 < x2) (s.tables.fill
      PClass.h70).copy.shadow.ambEdges ∧ List.Pairwise (fun x1 x2 => x1 < x2) (s.tables.fill
      PClass.h70).copy.shadow.p0Edges) ∧ ((s.tables.fill PClass.h70).copy.shadow.params.nonCommCap ≤ 7700
      ∧ (s.tables.fill PClass.h70).copy.shadow.params.upperBand < (s.tables.fill
      PClass.h70).copy.shadow.params.abortBand) ∧ (∀ i < (s.tables.fill
      PClass.h70).copy.shadow.cells.length, (fun i => Option.any (fun cs => cs.any fun c => decide (7700 <
      c.pEnd)) (s.tables.fill PClass.h70).copy.shadow.cells[i]?) i = false) ∧ ((s.tables.fill
      PClass.h70).older ≠ none))
    ∧ (∃ (s : State), (s.smc.inReset = false) ∧ (List.Pairwise (fun x1 x2 => x1 < x2) (s.tables.fill
      PClass.h70).copy.shadow.volEdges ∧ List.Pairwise (fun x1 x2 => x1 < x2) (s.tables.fill
      PClass.h70).copy.shadow.ambEdges ∧ List.Pairwise (fun x1 x2 => x1 < x2) (s.tables.fill
      PClass.h70).copy.shadow.p0Edges) ∧ ((s.tables.fill PClass.h70).copy.shadow.params.nonCommCap ≤ 7700
      ∧ (s.tables.fill PClass.h70).copy.shadow.params.upperBand < (s.tables.fill
      PClass.h70).copy.shadow.params.abortBand) ∧ (∀ i < (s.tables.fill
      PClass.h70).copy.shadow.cells.length, (fun i => Option.any (fun cs => cs.any fun c => decide (7700 <
      c.pEnd)) (s.tables.fill PClass.h70).copy.shadow.cells[i]?) i = false) ∧ ((s.tables.fill
      PClass.h70).older = none))
    ∧ (∃ (s : State), (s.smc.inReset = false) ∧ (¬(s.tables.tariff.shadow.bands.head? = some 0 ∧
      List.Pairwise (fun x1 x2 => x1 < x2) s.tables.tariff.shadow.bands)))
    ∧ (∃ (s : State), (s.smc.inReset = false) ∧ (s.tables.tariff.shadow.bands.head? = some 0 ∧
      List.Pairwise (fun x1 x2 => x1 < x2) s.tables.tariff.shadow.bands))
    ∧ (∃ (s : State), (s.smc.inReset = false) ∧ ((fun n => s.objection n = none ∧ (s.smc.mode ≠
      Mode.configuring ∨ (s.tables.commit n).complete = false)) 1) ∧ (s.rif.ringOut ≠ none))
    ∧ (∃ (s : State), (s.smc.inReset = false) ∧ ((fun n => s.objection n = none ∧ (s.smc.mode ≠
      Mode.configuring ∨ (s.tables.commit n).complete = false)) 3))
    ∧ (∃ (s : State), (s.smc.inReset = false) ∧ ((fun n => s.objection n = none ∧ (s.smc.mode ≠
      Mode.configuring ∨ (s.tables.commit n).complete = false)) 4) ∧ (s.cmpRow.fitted = true) ∧
      (s.tables.compressor.shadow.fitted = false))
    ∧ (∃ (s : State), (s.smc.inReset = false) ∧ ((fun n => s.objection n = none ∧ (s.smc.mode ≠
      Mode.configuring ∨ (s.tables.commit n).complete = false)) 4) ∧ (s.cmpRow.fitted = false) ∧
      (s.tables.compressor.shadow.fitted = true))
    ∧ (∃ (s : State), (s.smc.inReset = false) ∧ ((fun n => s.objection n = none ∧ (s.smc.mode ≠
      Mode.configuring ∨ (s.tables.commit n).complete = false)) 4) ∧ (s.cmpRow.fitted =
      s.tables.compressor.shadow.fitted))
    ∧ (∃ (s : State), (s.smc.inReset = false) ∧ ((fun n => s.objection n = none ∧ (s.smc.mode ≠
      Mode.configuring ∨ (s.tables.commit n).complete = false)) 5) ∧ (∀ (q : Pos), s.pcl.pending.get q =
      none) ∧ (s.chillerRow.fitted = false) ∧ (s.tables.precool.shadow.row0.fitted = false))
    ∧ (∃ (s : State), (s.smc.inReset = false) ∧ ((fun n => s.objection n = none ∧ (s.smc.mode ≠
      Mode.configuring ∨ (s.tables.commit n).complete = false)) 5) ∧ (∀ (q : Pos), s.pcl.pending.get q =
      none) ∧ (s.chillerRow.fitted = true) ∧ (s.tables.precool.shadow.row0.fitted = false))
    ∧ (∃ (s : State), (s.smc.inReset = false) ∧ ((fun n => s.objection n = none ∧ (s.smc.mode ≠
      Mode.configuring ∨ (s.tables.commit n).complete = false)) 5) ∧ (∀ (q : Pos), s.pcl.pending.get q =
      none) ∧ (s.chillerRow.fitted = false) ∧ (s.tables.precool.shadow.row0.fitted = true) ∧ (s.usable
      Role.chillerFault = true ∧ s.level Role.chillerFault = true))
    ∧ (∃ (s : State), (s.smc.inReset = false) ∧ ((fun n => s.objection n = none ∧ (s.smc.mode ≠
      Mode.configuring ∨ (s.tables.commit n).complete = false)) 5) ∧ (∀ (q : Pos), s.pcl.pending.get q =
      none) ∧ (s.chillerRow.fitted = false) ∧ (s.tables.precool.shadow.row0.fitted = true) ∧ (¬(s.usable
      Role.chillerFault = true ∧ s.level Role.chillerFault = true)) ∧ (¬(s.latched = false ∧ (s.smc.mode =
      Mode.run ∨ ∃ q, (s.pcl.demand.get q).isSome = true))))
    ∧ (∃ (s : State), (s.smc.inReset = false) ∧ ((fun n => s.objection n = none ∧ (s.smc.mode ≠
      Mode.configuring ∨ (s.tables.commit n).complete = false)) 5) ∧ (∀ (q : Pos), s.pcl.pending.get q =
      none) ∧ (s.chillerRow.fitted = false) ∧ (s.tables.precool.shadow.row0.fitted = true) ∧ (¬(s.usable
      Role.chillerFault = true ∧ s.level Role.chillerFault = true)) ∧ (s.latched = false ∧ (s.smc.mode =
      Mode.run ∨ ∃ q, (s.pcl.demand.get q).isSome = true)))
    ∧ (∃ (s : State), (s.smc.inReset = false) ∧ ((fun n => s.objection n = none ∧ (s.smc.mode ≠
      Mode.configuring ∨ (s.tables.commit n).complete = false)) 5) ∧ (∀ (q : Pos), s.pcl.pending.get q =
      none) ∧ (s.chillerRow.fitted = true) ∧ (s.tables.precool.shadow.row0.fitted = true) ∧ (s.pcl.state =
      ChillerState.fault ∨ s.pcl.state = ChillerState.parked ∧ ¬(s.latched = false ∧ (s.smc.mode =
      Mode.run ∨ ∃ q, (s.pcl.demand.get q).isSome = true))))
    ∧ (∃ (s : State), (s.smc.inReset = false) ∧ ((fun n => s.objection n = none ∧ (s.smc.mode ≠
      Mode.configuring ∨ (s.tables.commit n).complete = false)) 5) ∧ (∀ (q : Pos), s.pcl.pending.get q =
      none) ∧ (s.chillerRow.fitted = true) ∧ (s.tables.precool.shadow.row0.fitted = true) ∧ (s.pcl.state =
      ChillerState.pulldown ∨ s.pcl.state = ChillerState.ready) ∧ (s.latched = false ∧ (s.smc.mode =
      Mode.run ∨ ∃ q, (s.pcl.demand.get q).isSome = true)))
    ∧ (∃ (s : State), (s.smc.inReset = false) ∧ ((fun n => s.objection n = none ∧ (s.smc.mode ≠
      Mode.configuring ∨ (s.tables.commit n).complete = false)) 5) ∧ (∀ (q : Pos), s.pcl.pending.get q =
      none) ∧ (s.chillerRow.fitted = true) ∧ (s.tables.precool.shadow.row0.fitted = true) ∧ (s.pcl.state =
      ChillerState.pulldown ∨ s.pcl.state = ChillerState.ready) ∧ (¬(s.latched = false ∧ (s.smc.mode =
      Mode.run ∨ ∃ q, (s.pcl.demand.get q).isSome = true))) ∧ (s.pcl.parkTimer ≠ none))
    ∧ (∃ (s : State), (s.smc.inReset = false) ∧ ((fun n => s.objection n = none ∧ (s.smc.mode ≠
      Mode.configuring ∨ (s.tables.commit n).complete = false)) 5) ∧ (∀ (q : Pos), s.pcl.pending.get q =
      none) ∧ (s.chillerRow.fitted = true) ∧ (s.tables.precool.shadow.row0.fitted = true) ∧ (s.pcl.state =
      ChillerState.pulldown ∨ s.pcl.state = ChillerState.ready) ∧ (¬(s.latched = false ∧ (s.smc.mode =
      Mode.run ∨ ∃ q, (s.pcl.demand.get q).isSome = true))) ∧ (s.pcl.parkTimer = none) ∧ (0 <
      s.tables.precool.shadow.row0.parkDelay))
    ∧ (∃ (s : State) (p : Pos) (c : Category) (x : CategoryRow), (s.smc.inReset = false) ∧ ((fun n =>
      s.objection n = none ∧ (s.smc.mode ≠ Mode.configuring ∨ (s.tables.commit n).complete = false)) 5) ∧
      (s.tables.precool.shadow.category c = some x) ∧ (s.pcl.pending.get p = some c) ∧
      (s.tables.precool.shadow.row0.fitted = true) ∧ (s.chillerRow.fitted = true) ∧ (s.pcl.state =
      ChillerState.ready) ∧ (s.pcl.stabilised = true) ∧ (s.latched = false ∧ (s.smc.mode = Mode.run ∨ ∃ q,
      (s.pcl.demand.get q).isSome = true)) ∧ (s.tables.precool.shadow.row0.readyOff ≤ min s.pcl.reserve
      s.tables.precool.shadow.row0.capacity) ∧ (s.mapped Role.chillerFault = false ∨ s.usable
      Role.chillerFault = true) ∧ (x.threshold ≤ min s.pcl.reserve s.tables.precool.shadow.row0.capacity))
    ∧ (∃ (s : State) (p : Pos) (c : Category) (x : CategoryRow), (s.smc.inReset = false) ∧ ((fun n =>
      s.objection n = none ∧ (s.smc.mode ≠ Mode.configuring ∨ (s.tables.commit n).complete = false)) 5) ∧
      (s.tables.precool.shadow.category c = some x) ∧ (s.pcl.pending.get p = some c) ∧
      (s.tables.precool.shadow.row0.fitted = true) ∧ (s.chillerRow.fitted = true) ∧ (s.pcl.state =
      ChillerState.ready) ∧ (s.pcl.stabilised = true) ∧ (s.latched = false ∧ (s.smc.mode = Mode.run ∨ ∃ q,
      (s.pcl.demand.get q).isSome = true)) ∧ (s.tables.precool.shadow.row0.readyOff ≤ min s.pcl.reserve
      s.tables.precool.shadow.row0.capacity) ∧ (¬(s.mapped Role.chillerFault = false ∨ s.usable
      Role.chillerFault = true) ∨ min s.pcl.reserve s.tables.precool.shadow.row0.capacity < x.threshold))
    ∧ (∃ (s : State), (s.smc.inReset = false) ∧ ((fun n => s.objection n = none ∧ (s.smc.mode ≠
      Mode.configuring ∨ (s.tables.commit n).complete = false)) 6))
    ∧ (∃ (s : State), (s.smc.inReset = false) ∧ ((fun n => s.objection n = none ∧ (s.smc.mode ≠
      Mode.configuring ∨ (s.tables.commit n).complete = false)) 7))
    ∧ (∃ (s : State), (s.smc.inReset = false) ∧ ((fun n => s.objection n = none ∧ (s.smc.mode ≠
      Mode.configuring ∨ (s.tables.commit n).complete = false)) 8))
    ∧ (∃ (s : State), (s.smc.inReset = false) ∧ ((fun n => s.objection n = none ∧ (s.smc.mode ≠
      Mode.configuring ∨ (s.tables.commit n).complete = false)) 9) ∧ (s.tariff.rollover =
      s.tables.tariff.shadow.rollover ∨ s.ret.clock = none))
    ∧ (∃ (s : State) (n : Nat), (s.smc.inReset = false) ∧ ((fun n => s.objection n = none ∧ (s.smc.mode ≠
      Mode.configuring ∨ (s.tables.commit n).complete = false)) 9) ∧ (s.ret.clock = some n) ∧
      (s.tariff.rollover ≠ s.tables.tariff.shadow.rollover) ∧ (s.ret.heldDay = some (((↑n : Int) -
      (↑s.tables.tariff.shadow.rollover : Int) * 60) / 86400)))
    ∧ (∃ (s : State) (n : Nat), (s.smc.inReset = false) ∧ ((fun n => s.objection n = none ∧ (s.smc.mode ≠
      Mode.configuring ∨ (s.tables.commit n).complete = false)) 9) ∧ (s.ret.clock = some n) ∧
      (s.tariff.rollover ≠ s.tables.tariff.shadow.rollover) ∧ (s.ret.heldDay ≠ some (((↑n : Int) -
      (↑s.tables.tariff.shadow.rollover : Int) * 60) / 86400)))
    ∧ (∃ (s : State), (s.smc.inReset = false) ∧ ((fun n => s.objection n = none ∧ (s.smc.mode ≠
      Mode.configuring ∨ (s.tables.commit n).complete = false)) 5) ∧ (∀ (q : Pos), s.pcl.pending.get q =
      none) ∧ (s.chillerRow.fitted = true) ∧ (s.tables.precool.shadow.row0.fitted = true) ∧ (s.pcl.state =
      ChillerState.pulldown ∨ s.pcl.state = ChillerState.ready) ∧ (¬(s.latched = false ∧ (s.smc.mode =
      Mode.run ∨ ∃ q, (s.pcl.demand.get q).isSome = true))) ∧ (s.pcl.parkTimer = none) ∧
      (s.tables.precool.shadow.row0.parkDelay = 0)) :=
  ⟨⟨w, 10, by decide +kernel⟩,
   ⟨63, (printNodeRow (some (node 7 .gasDetect))), w, (some (node 7 .gasDetect)), by decide +kernel⟩,
   ⟨64, (printNodeRow (some (node 7 .gasDetect))), w, by decide +kernel⟩,
   ⟨(printStation .dflt), w, .dflt, by decide +kernel⟩,
   ⟨1, (printStation .dflt), w, by decide +kernel⟩,
   ⟨3, (printBankRow (w.bankRow .b1)), w, .b4, (w.bankRow .b1), by decide +kernel⟩,
   ⟨(printSequence [.compressor]), w, [.compressor], by decide +kernel⟩,
   ⟨6, w, by decide +kernel⟩,
   ⟨(printCmpRow w.cmpRow), w, w.cmpRow, by decide +kernel⟩,
   ⟨(printChillerRow w.chillerRow), w, w.chillerRow, by decide +kernel⟩,
   ⟨(printCategories .dflt), w, ⟨-400, -330, 0⟩, ⟨-300, -260, 0⟩, ⟨-200, -170, 0⟩, by decide +kernel⟩,
   ⟨3, (printPosRow (w.posRow .p1)), w, .p4, (w.posRow .p1), by decide +kernel⟩,
   ⟨0, (printFillRow fillTable 0), w, fillTable, by decide +kernel⟩,
   ⟨97, (printFillRow fillTable 97), w, fillTable, by decide +kernel⟩,
   ⟨4, (printTariffRow w.tariff 4), w, w.tariff, by decide +kernel⟩,
   ⟨3, [], w, by decide +kernel⟩,
   ⟨4, [9], w, by decide +kernel⟩,
   ⟨1, (printCmpRow w.cmpRow), w, by decide +kernel⟩,
   ⟨2, [], w, by decide +kernel⟩,
   ⟨4, (printPosRow (w.posRow .p1)), w, by decide +kernel⟩,
   ⟨98, (printFillRow fillTable 97), w, by decide +kernel⟩,
   ⟨98, [], w, by decide +kernel⟩,
   ⟨5, (printTariffRow w.tariff 4), w, by decide +kernel⟩,
   ⟨w, 0, by decide +kernel⟩,
   ⟨w, 3, .state, [], by decide +kernel⟩,
   ⟨pk, 9, by decide +kernel⟩,
   ⟨(srow (fun r => { r with mbTrip := 3 }) w), by decide +kernel⟩,
   ⟨(updTables (fun t => { t with station := ⟨t.station.active, t.station.shadow, 0⟩ })
     { w with smc := State.reset.smc, pins := State.reset.pins }), by decide +kernel⟩,
   ⟨(mode .parked (inv .b1 7 (mt (fun m => { m with baseline := some 4 }) w))), by decide +kernel⟩,
   ⟨(chRow (fun r => { r with bq := 2000 }) (inv .b1 7 w)), by decide +kernel⟩,
   ⟨(shMap 60 (some (node 10 .gasDetect)) pk), 60, by decide +kernel⟩,
   ⟨w, by decide +kernel⟩,
   ⟨(at1 .hangUp id pk), .p1, by decide +kernel⟩,
   ⟨pk, (by and_intros <;> first | decide +kernel | (intro q; cases q <;> decide +kernel))⟩,
   ⟨(shBank .b2 (fun r => { r with floor := r.refillStart }) (shBank .b4 (fun r =>
     { r with configured := true }) w)), .b2,
     (by and_intros <;> first | decide +kernel | (intro q; cases q <;> decide +kernel))⟩,
   ⟨w, (by and_intros <;> first | decide +kernel | (intro q; cases q <;> decide +kernel))⟩,
   ⟨(shBank .b1 (fun r => { r with configured := false }) (held .b1 .compressor true pk)), .b1,
     (by and_intros <;> first | decide +kernel | (intro q; cases q <;> decide +kernel))⟩,
   ⟨(shBank .b2 (fun r => { r with configured := false, floor := 9000 }) (held .b1 .compressor true pk)),
     (by and_intros <;> first | decide +kernel | (intro q; cases q <;> decide +kernel))⟩,
   ⟨(shCmp (fun r => { r with suctionMin := 10000, hysteresis := 1 }) w), by decide +kernel⟩,
   ⟨(shCmp (fun r => { r with suctionMin := 9999, hysteresis := 1 }) w), by decide +kernel⟩,
   ⟨(run .unloaded pk), by decide +kernel⟩,
   ⟨(run .cooldown pk), by decide +kernel⟩,
   ⟨(shRow0 (fun r => { r with readyOn := 50001 }) w), by decide +kernel⟩,
   ⟨(shCold (fun t => { t with c20 := { t.c20 with threshold := 50001 } }) w), by decide +kernel⟩,
   ⟨(shCold (fun t => { t with c20 := { t.c20 with threshold := 50000 } }) w), by decide +kernel⟩,
   ⟨(shPos .p3 (fun r => { r with required := .c40, fallback := some .c40 }) w), .p3,
     (by and_intros <;> first | decide +kernel | (intro q; cases q <;> decide +kernel))⟩,
   ⟨(mode .quiet w), (by and_intros <;> first | decide +kernel | (intro q; cases q <;> decide +kernel))⟩,
   ⟨(at1 .main id pk), .p1,
     (by and_intros <;> first | decide +kernel | (intro q; cases q <;> decide +kernel))⟩,
   ⟨(crowd (mode .configuring w)),
     (by and_intros <;> first | decide +kernel | (intro q; cases q <;> decide +kernel))⟩,
   ⟨(gen35 (shFill (fun t => { t with ambEdges := [0, 100, 100, 300, 400] })) w), by decide +kernel⟩,
   ⟨(gen35 (shFill (fun t => { t with params := { t.params with nonCommCap := 3851 } })) w), by
     decide +kernel⟩,
   ⟨(gen35 (shFill (fun t =>
     { t with params := { t.params with nonCommCap := 3850 }, cells := List.replicate 95 (List.replicate 5 ⟨2850, 3850⟩) ++ [[⟨0, 0⟩, ⟨0, 3851⟩]] }))
     w), 95, by decide +kernel⟩,
   ⟨(gen35 (fun g =>
     { shFill (fun t => { t with cells := List.replicate 96 (List.replicate 5 ⟨2850, 3850⟩), params := { t.params with nonCommCap := 3850 } }) g with older := some ⟨1, fillTable, 1⟩ })
     w), by decide +kernel⟩,
   ⟨(gen35 (shFill (fun t =>
     { t with cells := List.replicate 96 (List.replicate 5 ⟨2850, 3850⟩), params := { t.params with nonCommCap := 3850 } }))
     w), by decide +kernel⟩,
   ⟨(gen70 (shFill (fun t => { t with ambEdges := [0, 100, 100, 300, 400] })) w), by decide +kernel⟩,
   ⟨(gen70 (shFill (fun t => { t with params := { t.params with nonCommCap := 7701 } })) w), by
     decide +kernel⟩,
   ⟨(gen70 (shFill (fun t =>
     { t with params := { t.params with nonCommCap := 7700 }, cells := List.replicate 95 (List.replicate 5 ⟨2850, 7700⟩) ++ [[⟨0, 0⟩, ⟨0, 7701⟩]] }))
     w), 95, by decide +kernel⟩,
   ⟨(gen70 (fun g =>
     { shFill (fun t => { t with cells := List.replicate 96 (List.replicate 5 ⟨2850, 7700⟩), params := { t.params with nonCommCap := 7700 } }) g with older := some ⟨1, fillTable, 1⟩ })
     w), by decide +kernel⟩,
   ⟨(gen70 (shFill (fun t =>
     { t with cells := List.replicate 96 (List.replicate 5 ⟨2850, 7700⟩), params := { t.params with nonCommCap := 7700 } }))
     w), by decide +kernel⟩,
   ⟨(shTar (fun t => { t with bands := [0, 5, 5] }) w), by decide +kernel⟩,
   ⟨(shTar (fun t => { t with bands := [0, 5, 6] }) w), by decide +kernel⟩,
   ⟨({ pk with rif := { pk.rif with commands := [⟨.ventValve .p1, ActCommand.open, 1000⟩] } }), by
     decide +kernel⟩,
   ⟨(bk .b2 (fun r => { r with state := .isolated, cause := some .signal }) (shBank .b1 (fun r =>
     { r with configured := false }) (shBank .b3 (fun r =>
     { r with configured := true, volume := 700, floor := 1, refillStart := 2, fillTo := 3, rated := 4 })
     pk))), by decide +kernel⟩,
   ⟨(cm (fun k => { k with held := some .supply }) (shCmp (fun r => { r with fitted := false }) pk)), by
     decide +kernel⟩,
   ⟨(cmpRow (fun r => { r with fitted := false }) pk), by decide +kernel⟩,
   ⟨(cm (fun k => { k with held := some .supply }) pk), by decide +kernel⟩,
   ⟨(shRow0 (fun r => { r with fitted := false }) (chRow (fun r => { r with fitted := false }) w)),
     (by and_intros <;> first | decide +kernel | (intro q; cases q <;> decide +kernel))⟩,
   ⟨(shRow0 (fun r => { r with fitted := false }) (pc (fun k =>
     { k with state := .ready, stabilised := true, parkTimer := some 5, reserve := 9 }) pk)),
     (by and_intros <;> first | decide +kernel | (intro q; cases q <;> decide +kernel))⟩,
   ⟨(chRow (fun r => { r with fitted := false }) (lev .chillerFault true w)),
     (by and_intros <;> first | decide +kernel | (intro q; cases q <;> decide +kernel))⟩,
   ⟨(chRow (fun r => { r with fitted := false }) pk),
     (by and_intros <;> first | decide +kernel | (intro q; cases q <;> decide +kernel) | (rintro ⟨_, h | ⟨q, h⟩⟩ <;> revert h <;> first | decide +kernel | (cases q <;> decide +kernel)))⟩,
   ⟨(chRow (fun r => { r with fitted := false }) w),
     (by and_intros <;> first | decide +kernel | (intro q; cases q <;> decide +kernel) | exact .inl (by decide +kernel))⟩,
   ⟨(shRow0 (fun r => { r with capacity := 31000 }) (pc (fun k =>
     { k with state := .fault, reserve := 40000 }) w)),
     (by and_intros <;> first | decide +kernel | (intro q; cases q <;> decide +kernel) | exact .inl (by decide +kernel))⟩,
   ⟨(pc (fun k => { k with state := .pulldown, reserve := 30000, parkTimer := some 4 }) w),
     (by and_intros <;> first | decide +kernel | (intro q; cases q <;> decide +kernel) | exact .inl (by decide +kernel))⟩,
   ⟨(pc (fun k => { k with state := .pulldown, reserve := 30000, parkTimer := some 4 }) pk),
     (by and_intros <;> first | decide +kernel | (intro q; cases q <;> decide +kernel) | (rintro ⟨_, h | ⟨q, h⟩⟩ <;> revert h <;> first | decide +kernel | (cases q <;> decide +kernel)))⟩,
   ⟨(pc (fun k => { k with state := .ready, reserve := 30000 }) pk),
     (by and_intros <;> first | decide +kernel | (intro q; cases q <;> decide +kernel) | (rintro ⟨_, h | ⟨q, h⟩⟩ <;> revert h <;> first | decide +kernel | (cases q <;> decide +kernel)))⟩,
   ⟨(pc (fun k =>
     { k with state := .ready, stabilised := true, reserve := 20000, pending := k.pending.set .p2 (some .c40) })
     w), .p2, .c40, ⟨-400, -330, 20000⟩,
     (by and_intros <;> first | decide +kernel | exact .inl (by decide +kernel))⟩,
   ⟨(pc (fun k =>
     { k with state := .ready, stabilised := true, reserve := 20000, pending := k.pending.set .p2 (some .c40) })
     (shCold (fun t => { t with c40 := { t.c40 with threshold := 20001 } }) w)), .p2, .c40, ⟨-400, -330,
     20001⟩, (by and_intros <;> first | decide +kernel | exact .inl (by decide +kernel))⟩,
   ⟨(crowd pk), by decide +kernel⟩,
   ⟨(gen35 (fun g =>
     { shFill (fun t => { t with cells := List.replicate 96 (List.replicate 5 ⟨2850, 3850⟩), params := { t.params with nonCommCap := 3850 } }) g with holders := 2 })
     w), by decide +kernel⟩,
   ⟨w, by decide +kernel⟩,
   ⟨w, by decide +kernel⟩,
   ⟨(shTar (fun t => { t with rollover := 10 })
     { w with ret := { w.ret with clock := some 600, heldDay := some 0 } }), 600, by decide +kernel⟩,
   ⟨(shTar (fun t => { t with rollover := 11 }) (accts [some acct, none]
     { w with ret := { w.ret with clock := some 659, heldDay := some 0 } })), 659, by decide +kernel⟩,
   ⟨(shRow0 (fun r => { r with parkDelay := 0 }) (pc (fun k =>
     { k with state := .ready, stabilised := true, reserve := 30000 }) pk)),
     (by and_intros <;> first | decide +kernel | (intro q; cases q <;> decide +kernel) | (rintro ⟨_, h | ⟨q, h⟩⟩ <;> revert h <;> first | decide +kernel | (cases q <;> decide +kernel)))⟩⟩

theorem witness_ReadRequests :
    (∃ (s : State) (n : Nat), (s.smc.inReset = false) ∧ (n = 0 ∨ 10 ≤ n))
    ∧ (∃ (copy : Nat) (s : State) (n : Nat), (s.smc.inReset = false) ∧ (1 ≤ n) ∧ (n ≤ 9) ∧ (2 ≤ copy))
    ∧ (∃ (row : Nat) (copy : Nat) (s : State) (r : Option NodeRow), (s.smc.inReset = false) ∧ (copy ≤ 1) ∧
      ((if copy = 0 then s.tables.nodeMap.active else s.tables.nodeMap.shadow)[row]? = some r))
    ∧ (∃ (row : Nat) (copy : Nat) (s : State), (s.smc.inReset = false) ∧ (copy ≤ 1) ∧ ((if copy = 0 then
      s.tables.nodeMap.active else s.tables.nodeMap.shadow).length ≤ row))
    ∧ (∃ (row : Nat) (copy : Nat) (s : State), (s.smc.inReset = false) ∧ (copy ≤ 1) ∧ (row = 0))
    ∧ (∃ (row : Nat) (copy : Nat) (s : State) (b : Bank), (s.smc.inReset = false) ∧ (copy ≤ 1) ∧ (row + 1 =
      b.num))
    ∧ (∃ (row : Nat) (copy : Nat) (s : State), (s.smc.inReset = false) ∧ (copy ≤ 1) ∧ (row = 4))
    ∧ (∃ (row : Nat) (copy : Nat) (s : State), (s.smc.inReset = false) ∧ (copy ≤ 1) ∧ (row = 5))
    ∧ (∃ (row : Nat) (copy : Nat) (s : State), (s.smc.inReset = false) ∧ (copy ≤ 1) ∧ (row = 1))
    ∧ (∃ (row : Nat) (copy : Nat) (s : State) (p : Pos), (s.smc.inReset = false) ∧ (copy ≤ 1) ∧ (row + 1 =
      p.num))
    ∧ (∃ (row : Nat) (copy : Nat) (s : State), (s.smc.inReset = false) ∧ (copy ≤ 1) ∧ (row < 98))
    ∧ (∃ (row : Nat) (copy : Nat) (s : State), (s.smc.inReset = false) ∧ (copy ≤ 1) ∧ (row < 5))
    ∧ (∃ (row : Nat) (copy : Nat) (s : State), (s.smc.inReset = false) ∧ (copy ≤ 1) ∧ (1 ≤ row))
    ∧ (∃ (row : Nat) (copy : Nat) (s : State), (s.smc.inReset = false) ∧ (copy ≤ 1) ∧ (6 ≤ row))
    ∧ (∃ (row : Nat) (copy : Nat) (s : State), (s.smc.inReset = false) ∧ (copy ≤ 1) ∧ (2 ≤ row))
    ∧ (∃ (row : Nat) (copy : Nat) (s : State), (s.smc.inReset = false) ∧ (copy ≤ 1) ∧ (4 ≤ row))
    ∧ (∃ (row : Nat) (copy : Nat) (s : State), (s.smc.inReset = false) ∧ (copy ≤ 1) ∧ (98 ≤ row))
    ∧ (∃ (row : Nat) (copy : Nat) (s : State), (s.smc.inReset = false) ∧ (copy ≤ 1) ∧ (5 ≤ row))
    ∧ (∃ (s : State) (n : Nat), (s.smc.inReset = false) ∧ (n = 0 ∨ 11 ≤ n))
    ∧ (∃ (index : Nat) (unit : Nat) (second : Nat) (s : State) (n : Nat), (s.smc.inReset = false) ∧ (n ≠ 0) ∧ (n ≤
      10) ∧ (s.item n index unit second = none))
    ∧ (∃ (index : Nat) (sect : Nat) (s : State) (p : Pos), (s.smc.inReset = false) ∧ (index = p.num) ∧ (sect =
      0))
    ∧ (∃ (index : Nat) (sect : Nat) (s : State) (p : Pos), (s.smc.inReset = false) ∧ (index = p.num) ∧ (1 ≤
      sect))
    ∧ (∃ (index : Nat) (sect : Nat) (s : State), (s.smc.inReset = false) ∧ (index = 0) ∧ (sect = 0))
    ∧ (∃ (index : Nat) (s : State), (s.smc.inReset = false) ∧ (index = 0))
    ∧ (∃ (index : Nat) (unit : Nat) (second : Nat) (s : State) (o : Role) (row : Nat) (x : NodeRow),
      (s.smc.inReset = false) ∧ ((index, unit, second) = o.code) ∧ (s.rowOf o = some (row, x)) ∧ (o.kind =
      RoleKind.analogue ∨ o.kind = RoleKind.count))
    ∧ (∃ (index : Nat) (unit : Nat) (second : Nat) (s : State) (o : Role) (row : Nat) (x : NodeRow),
      (s.smc.inReset = false) ∧ ((index, unit, second) = o.code) ∧ (s.rowOf o = some (row, x)) ∧ (o.kind =
      RoleKind.digital))
    ∧ (∃ (index : Nat) (unit : Nat) (second : Nat) (s : State) (o : Role) (row : Nat) (x : NodeRow),
      (s.smc.inReset = false) ∧ ((index, unit, second) = o.code) ∧ (s.rowOf o = some (row, x)) ∧ (o.kind =
      RoleKind.vehicle))
    ∧ (∃ (index : Nat) (unit : Nat) (second : Nat) (s : State) (o : Role), (s.smc.inReset = false) ∧ ((index,
      unit, second) = o.code) ∧ (o.kind.isInput = true) ∧ (s.rowOf o = none))
    ∧ (∃ (index : Nat) (unit : Nat) (second : Nat) (s : State) (o : Role), (s.smc.inReset = false) ∧ ((index,
      unit, second) = o.code) ∧ (o.kind.isInput = false))
    ∧ (∃ (index : Nat) (s : State) (b : Bank), (s.smc.inReset = false) ∧ (index = b.num))
    ∧ (∃ (index : Nat) (s : State) (p : Pos), (s.smc.inReset = false) ∧ (index = p.num)) :=
  ⟨⟨w, 10, by decide +kernel⟩,
   ⟨2, w, 9, by decide +kernel⟩,
   ⟨63, 0, w, none, by decide +kernel⟩,
   ⟨64, 1, w, by decide +kernel⟩,
   ⟨0, 0, w, by decide +kernel⟩,
   ⟨3, 1, w, .b4, by decide +kernel⟩,
   ⟨4, 1, w, by decide +kernel⟩,
   ⟨5, 0, w, by decide +kernel⟩,
   ⟨1, 0, w, by decide +kernel⟩,
   ⟨3, 0, w, .p4, by decide +kernel⟩,
   ⟨97, 1, w, by decide +kernel⟩,
   ⟨4, 1, w, by decide +kernel⟩,
   ⟨1, 1, w, by decide +kernel⟩,
   ⟨6, 1, w, by decide +kernel⟩,
   ⟨2, 1, w, by decide +kernel⟩,
   ⟨4, 1, w, by decide +kernel⟩,
   ⟨98, 1, w, by decide +kernel⟩,
   ⟨5, 1, w, by decide +kernel⟩,
   ⟨w, 11, by decide +kernel⟩,
   ⟨5, 0, 0, w, 10, by decide +kernel⟩,
   ⟨4, 0, ({ w with ret := { w.ret with totaliser := .all 1234567 } }), .p4, by decide +kernel⟩,
   ⟨4, 1, w, .p4, by decide +kernel⟩,
   ⟨0, 0, ({ w with rif := { w.rif with overrun := true } }), by decide +kernel⟩,
   ⟨0, w, by decide +kernel⟩,
   ⟨10, 1, 0, w, (.bankPressure .b1), 10, (node 20 (.bankPressure .b1)), by decide +kernel⟩,
   ⟨21, 0, 0, (lev .gasDetect true w), .gasDetect, 25, (node 35 .gasDetect), by decide +kernel⟩,
   ⟨5, 1, 0, (rec (.vehicle .p1) (fun x => { x with vehicle := veh 500 (-20) .halt }) w), (.vehicle .p1),
     5, (node 15 (.vehicle .p1)), by decide +kernel⟩,
   ⟨14, 0, 0, w, .dischargePressure, by decide +kernel⟩,
   ⟨12, 1, 5, w, (.bankValve .b1 .compressor), by decide +kernel⟩,
   ⟨1, (wait .b1 [.p2] (held .b1 (.pos .p1) true w)), .b1, by decide +kernel⟩,
   ⟨1, (bill tctx (at1 .main (fun c => { c with selection := some sel, soc := some 500 }) w)), .p1, by
     decide +kernel⟩⟩

/-- A CARD fill in progress at P1, the clock UNSET. -/
def cardFill : State :=
  { w with ret := { w.ret with
      clock := none
      records := [trec]
      accounts := [some acct, none]
      reserved := w.ret.reserved.set .p1 true
      snapshots := w.ret.snapshots.set .p1 (some { snap with kind := .card, account := 0 }) } }

theorem witness_Restarts :
    (∃ (l : Lines) (s : State), (l.loopOpen = false) ∧ (s.ret.clock = none) ∧ (∀ (p : Pos),
      s.ret.snapshots.get p = none) ∧ (s.ret.history = []) ∧ (s.ret.runSeconds + l.downSeconds < 2 ^ 32))
    ∧ (∃ (l : Lines) (s : State), (l.loopOpen = false) ∧ (s.ret.clock = none) ∧ (∀ (p : Pos),
      s.ret.snapshots.get p = none) ∧ (s.ret.history = []) ∧ (s.ret.runSeconds + l.downSeconds < 2 ^ 32) ∧
      (s.smc.inReset = false))
    ∧ (∃ (n : Nat) (c : Instr) (l : Lines) (s : State), (l.loopOpen = false) ∧ (s.smc.inReset = true) ∧ (c
      = Instr.powerOn true l ∨ c = Instr.supplyDip l ∨ (c = Instr.commandRestart l ∧ s.smc.inReset =
      false)) ∧ (s.ret.clock = some n) ∧ (∀ (p : Pos), s.ret.snapshots.get p = none) ∧ (s.ret.runSeconds + l.downSeconds < 2 ^ 32) ∧ (n
      + l.downSeconds < 2 ^ 32))
    ∧ (∃ (l : Lines) (s : State), (l.loopOpen = true) ∧ (s.ret.clock = none) ∧ (s.smc.inReset = true) ∧
      (∀ (p : Pos), s.ret.snapshots.get p = none))
    ∧ (∃ (l : Lines) (s : State), (l.loopOpen = true) ∧ (s.ret.clock = none) ∧ (s.smc.inReset = false) ∧
      (∀ (p : Pos), s.ret.snapshots.get p = none))
    ∧ (∃ (p : Pos) (x : Snapshot) (c : Instr) (l : Lines) (s : State), (s.ret.snapshots.get p = some x) ∧
      (∀ (q : Pos), q ≠ p → s.ret.snapshots.get q = none) ∧ (s.ret.reserved.get p = true) ∧ (c =
      Instr.powerOn true l ∨ c = Instr.supplyDip l ∨ (c = Instr.commandRestart l ∧ s.smc.inReset = false)) ∧
      (s.smc.inReset = true) ∧ (l.loopOpen = false) ∧
      (s.ret.clock = none) ∧ (x.kind = TenderKind.fleet) ∧ (∀ n ∈ List.map Account.used (List.filterMap id
      s.ret.accounts), n + 200000 < 2 ^ 32) ∧ (x.cap ≤ 200000))
    ∧ (∃ (p : Pos) (x : Snapshot) (c : Instr) (l : Lines) (s : State), (s.ret.snapshots.get p = some x) ∧
      (∀ (q : Pos), q ≠ p → s.ret.snapshots.get q = none) ∧ (s.ret.reserved.get p = true) ∧ (s.ret.clock =
      none) ∧ (x.kind = TenderKind.card) ∧ (s.smc.inReset = true) ∧ (c = Instr.powerOn true l ∨ c =
      Instr.supplyDip l ∨ (c = Instr.commandRestart l ∧ s.smc.inReset = false)))
    ∧ (∃ (p : Pos) (x : Snapshot) (c : Instr) (l : Lines) (s : State), (s.ret.snapshots.get p = some x) ∧
      (∀ (q : Pos), q ≠ p → s.ret.snapshots.get q = none) ∧ (s.ret.reserved.get p = true) ∧ (s.ret.clock =
      none) ∧ (x.kind = TenderKind.card) ∧ (c = Instr.commandRestart l ∧ s.smc.inReset = false)) :=
  ⟨⟨⟨3, false, 5⟩, (tripped (crowd { w with ret := { w.ret with clock := none } })),
     (by and_intros <;> first | decide +kernel | (intro q; cases q <;> decide +kernel))⟩,
   ⟨⟨3, false, 5⟩, (crowd { w with ret := { w.ret with clock := none } }),
     (by and_intros <;> first | decide +kernel | (intro q; cases q <;> decide +kernel))⟩,
   ⟨86394, (.supplyDip ⟨3, false, 5⟩), ⟨3, false, 5⟩, (accts [some acct, none]
     { w with smc := { w.smc with inReset := true }, ret := { w.ret with clock := some 86394, heldDay := some 0, history := [1405, 1406] } }),
     (by and_intros <;> first | decide +kernel | (intro q; cases q <;> decide +kernel))⟩,
   ⟨⟨3, true, 5⟩, (smc (fun k => { k with inReset := true })
     (crowd { w with ret := { w.ret with clock := none } })),
     (by and_intros <;> first | decide +kernel | (intro q; cases q <;> decide +kernel))⟩,
   ⟨⟨3, true, 5⟩, (crowd { w with ret := { w.ret with clock := none } }),
     (by and_intros <;> first | decide +kernel | (intro q; cases q <;> decide +kernel))⟩,
   ⟨.p1, snap, (.supplyDip ⟨3, false, 5⟩), ⟨3, false, 5⟩,
     (accts [some { acct with holds := [⟨.p1, 4999⟩] }, some acct2] (recs [trec]
       (live { w with smc := { w.smc with inReset := true }, ret := { w.ret with clock := none } }))),
     (by and_intros <;> first | decide +kernel | (intro q; cases q <;> decide +kernel))⟩,
   ⟨.p1, { snap with kind := .card, account := 0 }, (.supplyDip ⟨3, false, 5⟩), ⟨3, false, 5⟩,
     (smc (fun k => { k with inReset := true }) cardFill),
     (by and_intros <;> first | decide +kernel | (intro q; cases q <;> decide +kernel))⟩,
   ⟨.p1, { snap with kind := .card, account := 0 }, (.commandRestart ⟨3, false, 5⟩), ⟨3, false, 5⟩, cardFill,
     (by and_intros <;> first | decide +kernel | (intro q; cases q <;> decide +kernel))⟩⟩

end Sys2Proof.Tests
end

section
/-! The density evaluation (R20 to R22): the ranges of its clamped inputs and of its denominator, and the
bounds of the quotient that follow from them. -/

namespace Sys2Proof.Machine

open Sys2Proof

/-! ### The clamped inputs (R20) -/

theorem le_clampInt {lo hi : Int} (h : lo ≤ hi) (x : Int) : lo ≤ clampInt lo hi x := by
  unfold clampInt
  split
  · exact le_rfl
  · split <;> omega

theorem clampInt_le {lo hi : Int} (h : lo ≤ hi) (x : Int) : clampInt lo hi x ≤ hi := by
  unfold clampInt
  split
  · exact h
  · split <;> omega

theorem densityP_le (p : Int) : densityP p ≤ 10000 := by
  have h := clampInt_le (lo := 0) (hi := 10000) (by decide) p
  unfold densityP
  omega

@[simp] theorem densityP_zero : densityP 0 = 0 := rfl

@[simp] theorem densityP_one : densityP 1 = 1 := rfl

theorem le_kelvin (c : Int) : 2132 ≤ kelvin c := by
  have h := le_clampInt (lo := -600) (hi := 1000) (by decide) c
  unfold kelvin
  omega

theorem kelvin_le (c : Int) : kelvin c ≤ 3732 := by
  have h := clampInt_le (lo := -600) (hi := 1000) (by decide) c
  unfold kelvin
  omega

/-! ### The denominator (R21) -/

/-- The lower bound is that of the temperature alone: the compressibility term only adds to it. -/
theorem le_densityD (bq : Nat) (p c : Int) : 213200 ≤ densityD bq p c := by
  have ht := le_kelvin c
  unfold densityD
  omega

/-- At an admissible B_q the compressibility term is at most 40 mK for each 0.01 MPa. -/
theorem densityD_le {bq : Nat} (hb : bq ≤ 4000) (p c : Int) :
    densityD bq p c ≤ 373200 + 40 * densityP p := by
  have ht := kelvin_le c
  have hterm : bq * densityP p ≤ 4000 * densityP p := Nat.mul_le_mul_right _ hb
  unfold densityD
  omega

/-! ### The quotient (R22) -/

theorem density_eq (bq : Nat) (p c : Int) :
    density bq p c = 2424800 * densityP p / densityD bq p c := rfl

/-- The dividend passes 32 bits but not 24,248,000,000. -/
theorem density_dividend_le (p : Int) : 2424800 * densityP p ≤ 24248000000 :=
  Nat.mul_le_mul_left 2424800 (densityP_le p)

/-- The largest dividend over the smallest denominator. -/
theorem density_le (bq : Nat) (p c : Int) : density bq p c ≤ 113733 :=
  calc density bq p c
    _ ≤ 24248000000 / 213200 :=
        Nat.div_le_div (density_dividend_le p) (le_densityD bq p c) (by decide)
    _ = 113733 := by decide

@[simp] theorem density_zero (bq : Nat) (c : Int) : density bq 0 c = 0 := by
  simp [density_eq]

theorem le_density_one {bq : Nat} (hb : bq ≤ 4000) (c : Int) : 6 ≤ density bq 1 c := by
  have hpos := le_densityD bq 1 c
  have hD := densityD_le hb 1 c
  rw [densityP_one] at hD
  rw [density_eq, densityP_one, Nat.le_div_iff_mul_le (by omega)]
  omega

theorem density_one_le (bq : Nat) (c : Int) : density bq 1 c ≤ 11 := by
  have hD := le_densityD bq 1 c
  rw [density_eq, densityP_one, Nat.div_le_iff_le_mul_add_pred (by omega)]
  omega

/-- Settles O10: the figures of R20 to R22, each bound taken from those of the clamped inputs and of the
denominator, and each corner of the ranges evaluated. -/
theorem densityLaw : Obligations.DensityLaw := by
  intro bq p c hb pc t
  have hpc : pc ≤ 10000 := densityP_le p
  have hD : densityD bq p c ≤ 373200 + 40 * pc := densityD_le hb p c
  have hcold : densityD 0 p (-600) = 213200 := by
    rw [densityD, Nat.zero_mul]
    rfl
  exact ⟨⟨hpc, le_kelvin c, kelvin_le c⟩,
    ⟨rfl, Nat.mul_le_mul hb hpc⟩,
    ⟨le_densityD bq p c, by omega⟩,
    ⟨hcold, by decide⟩,
    ⟨density_eq bq p c, density_dividend_le p⟩,
    ⟨density_le bq p c, by decide⟩,
    density_zero bq c,
    le_density_one hb c, density_one_le bq c⟩

end Sys2Proof.Machine
end

section
/-! The band of a value (R96): the two edges beside it, and that they determine it. -/

namespace Sys2Proof.Machine

open Sys2Proof

theorem bandOf_le_length (es : List Int) (v : Int) : bandOf es v ≤ es.length := by
  induction es with
  | nil => simp [bandOf]
  | cons a es ih =>
    by_cases ha : a ≤ v
    · simpa [bandOf, ha] using ih
    · simp [bandOf, ha]

/-- The edges up to the one that opens the band are at or below the value. -/
theorem edge_le_of_lt_bandOf {es : List Int} {v : Int} {i : Nat} (hi : i < bandOf es v) {e : Int}
    (he : es[i]? = some e) : e ≤ v := by
  induction es generalizing i with
  | nil => simp at he
  | cons a es ih =>
    by_cases ha : a ≤ v
    · cases i with
      | zero => simp_all
      | succ i => exact ih (by simpa [bandOf, ha] using hi) (by simpa using he)
    · simp [bandOf, ha] at hi

/-- The edge that opens the next band, where there is one, is above the value. -/
theorem lt_edge_bandOf {es : List Int} {v e : Int} (he : es[bandOf es v]? = some e) : v < e := by
  induction es with
  | nil => simp at he
  | cons a es ih =>
    by_cases ha : a ≤ v
    · exact ih (by simpa [bandOf, ha] using he)
    · have hae : a = e := by simpa [bandOf, ha] using he
      omega

/-- A number that is not past the edges, has only edges at or below the value before it and an edge
above the value (or none) at it, is the band: the edge at the smaller of the two numbers would
otherwise be both at or below the value and above it. -/
theorem bandOf_eq_of_edges {es : List Int} {v : Int} {k : Nat} (hk : k ≤ es.length)
    (hbelow : ∀ i, i < k → ∀ e, es[i]? = some e → e ≤ v)
    (habove : ∀ e, es[k]? = some e → v < e) : bandOf es v = k := by
  have hlen := bandOf_le_length es v
  rcases Nat.lt_trichotomy (bandOf es v) k with hlt | heq | hgt
  · have he := List.getElem?_eq_getElem (Nat.lt_of_lt_of_le hlt hk)
    exact absurd (hbelow _ hlt _ he) (Int.not_le.mpr (lt_edge_bandOf he))
  · exact heq
  · have he := List.getElem?_eq_getElem (Nat.lt_of_lt_of_le hgt hlen)
    exact absurd (edge_le_of_lt_bandOf hgt he) (Int.not_le.mpr (habove _ he))

/-- Settles O12: the band has the property by the lemmas on its two edges, and only one number has it.
The ascending order makes the last edge taken the last at or below the value; the equivalence itself
does not need it. -/
theorem bandOfValue : Obligations.BandOfValue := by
  intro es v k _
  constructor
  · rintro rfl
    exact ⟨bandOf_le_length es v, fun _ hi _ he => edge_le_of_lt_bandOf hi he,
      fun _ he => lt_edge_bandOf he⟩
  · rintro ⟨hk, hbelow, habove⟩
    exact bandOf_eq_of_edges hk hbelow habove

end Sys2Proof.Machine
end

section
/-! The amount of a mass (R160), and the contexts it is latched in: a tender's at acceptance (R159) and at
a lowered cap (R161). -/

namespace Sys2Proof.Machine

open Sys2Proof

/-! ### The amount (R160) -/

theorem amountOf_eq (g price : Nat) : amountOf g price = (g * price + 50000) / 100000 := rfl

/-- The half unit alone does not make a unit. -/
@[simp] theorem amountOf_zero (price : Nat) : amountOf 0 price = 0 := by
  simp [amountOf_eq]

theorem amountOf_le_amountOf {g h : Nat} (hgh : g ≤ h) (price : Nat) :
    amountOf g price ≤ amountOf h price :=
  Nat.div_le_div_right (Nat.add_le_add_right (Nat.mul_le_mul_right price hgh) 50000)

/-! ### Tender contexts -/

@[simp] theorem updAccount_bil (id : Nat) (f : Account → Account) (s : State) :
    (updAccount id f s).bil = s.bil := rfl

@[simp] theorem updSnapshot_bil (p : Pos) (f : Snapshot → Snapshot) (s : State) :
    (updSnapshot p f s).bil = s.bil := rfl

theorem tenderContext_hold_of_fleet (s : State) {t : TenderIn} (txn : Nat) (ht : t.kind = .fleet) :
    (s.tenderContext t txn).hold = amountOf (s.tenderCap t) (s.tenderPrice t) :=
  if_pos ht

/-- A lowered cap changes a FLEET context in its cap and its hold, and no other context: the changes to
the snapshot and to the account are in the retained part. -/
theorem lowerTenderCap_bil_of_fleet {p : Pos} {k : TenderCtx} {s : State} (cap : Nat)
    (hk : s.bil.get p = some k) (hf : k.kind = .fleet) :
    (lowerTenderCap p cap s).bil =
      s.bil.set p (some { k with cap := cap, hold := amountOf cap k.price }) := by
  simp [lowerTenderCap, hk, hf]

/-- Settles O13: the function is the quotient of R160, and the two holds and the settlement are its
values by what each latches. -/
theorem amountOfMass : Obligations.AmountOfMass := by
  refine ⟨amountOf_eq, ?product, amountOf_zero, fun _ _ price hgh => amountOf_le_amountOf hgh price,
    by decide, fun s _ n ht => tenderContext_hold_of_fleet s n ht, ?lowered, fun _ => rfl⟩
  case product =>
    intro g price hg hprice
    exact Nat.mul_le_mul hg hprice
  case lowered =>
    intro p cap k s hk hf
    rw [lowerTenderCap_bil_of_fleet cap hk hf, PerPos.get_set_same, Option.map_some]

end Sys2Proof.Machine
end

section
/-! What the commands leave alone: every command but the few of SMC, BIL and TXQ and the restarts is quiet
(Laws/Quiet), and those few keep the commands that wait and either the station part or the transaction
queue. The laws of R170, R201 and R204 follow, and that every command answers. -/

namespace Sys2Proof.Machine

open Sys2Proof

/-! ### Small frames -/

/-- What BIL and TXQ leave alone. -/
def State.station (s : State) : List Instr × Smc × Pins := (s.pending, s.smc, s.pins)

/-- What SMC leaves alone. -/
def State.places (s : State) : List Instr × List TxnRecord × PerPos Bool :=
  (s.pending, s.ret.records, s.ret.reserved)

theorem station_iff (s t : State) :
    t.station = s.station ↔ t.pending = s.pending ∧ t.smc = s.smc ∧ t.pins = s.pins := by
  simp [State.station]

theorem places_iff (s t : State) : t.places = s.places ↔
    t.pending = s.pending ∧ t.ret.records = s.ret.records ∧ t.ret.reserved = s.ret.reserved := by
  simp [State.places]

theorem station_of_quiet {s t : State} (h : t.quiet = s.quiet) : t.station = s.station := by
  obtain ⟨hp, hm, hn, -, -⟩ := (quiet_iff s t).mp h
  exact (station_iff s t).mpr ⟨hp, hm, hn⟩

theorem places_of_quiet {s t : State} (h : t.quiet = s.quiet) : t.places = s.places := by
  obtain ⟨hp, -, -, hr, hv⟩ := (quiet_iff s t).mp h
  exact (places_iff s t).mpr ⟨hp, hr, hv⟩

/-! ### RIF, the tables and the accounts are quiet -/

@[simp] theorem clearOverrun_quiet (code : Nat) (s : State) : (clearOverrun code s).quiet = s.quiet := by
  simp [clearOverrun]

@[simp] theorem readItemRequest_quiet (rq : Req) (code index unit second sect : Nat) (s : State) :
    (readItemRequest rq code index unit second sect s).quiet = s.quiet := by
  unfold readItemRequest
  split
  · simp
  · split
    · simp
    · split <;> simp

@[simp] theorem tableReadRequest_quiet (rq : Req) (table row copy : Nat) (s : State) :
    (tableReadRequest rq table row copy s).quiet = s.quiet := by
  unfold tableReadRequest
  split
  · simp
  · split
    · simp
    · split <;> simp

@[simp] theorem tableWriteRequest_quiet (rq : Req) (table row : Nat) (bs : List Byte) (s : State) :
    (tableWriteRequest rq table row bs s).quiet = s.quiet := by
  unfold tableWriteRequest
  split
  · simp
  · split
    · exact reply_quiet ..
    · exact reply_quiet ..

@[simp] theorem tableDiscardRequest_quiet (rq : Req) (table : Nat) (s : State) :
    (tableDiscardRequest rq table s).quiet = s.quiet := by
  unfold tableDiscardRequest
  split <;> simp

@[simp] theorem observe_quiet (f : Frame) (s : State) : (observe f s).quiet = s.quiet := by
  unfold observe
  split <;> simp

@[simp] theorem serveRequest_quiet (f : Frame) (s : State) : (serveRequest f s).quiet = s.quiet := by
  simp only [serveRequest]
  split
  · simp
  · split
    · simp
    · split <;> simp

@[simp] theorem takeRequest_quiet (f : Frame) (s : State) : (takeRequest f s).quiet = s.quiet := by
  unfold takeRequest
  split <;> simp

@[simp] theorem takeIn_quiet (f : Frame) (bc : Bool) (s : State) : (takeIn f bc s).quiet = s.quiet := by
  unfold takeIn
  split
  · rfl
  · split <;> simp

@[simp] theorem refuseActuate_quiet (n : Nat) (f : Frame) (s : State) :
    (refuseActuate n f s).quiet = s.quiet := by
  simp [refuseActuate]

@[simp] theorem actuateFilter_quiet (f : Frame) (bs : List Byte) (s : State) :
    (actuateFilter f bs s).quiet = s.quiet := by
  unfold actuateFilter
  split
  · split
    · rfl
    · split <;> simp
  · split <;> simp

@[simp] theorem dispatch_quiet (f : Frame) (bs : List Byte) (s : State) :
    (dispatch f bs s).quiet = s.quiet := by
  unfold dispatch
  split
  · simp
  · split
    · simp
    · split <;> simp

@[simp] theorem frameArrival_quiet (bs : List Byte) (s : State) : (frameArrival bs s).quiet = s.quiet := by
  unfold frameArrival takeFrame
  split
  · simp
  · split
    · rfl
    · split <;> simp

@[simp] theorem restartDue_quiet (s : State) : (restartDue s).quiet = s.quiet := rfl

@[simp] theorem sendDone_quiet (s : State) : (sendDone s).quiet = s.quiet := by
  unfold sendDone
  split <;> simp

@[simp] theorem rifTrip_quiet (s : State) : (rifTrip s).quiet = s.quiet := by simp [rifTrip]

@[simp] theorem restartRequested_quiet (rq : Req) (s : State) : (restartRequested rq s).quiet = s.quiet := by
  simp [restartRequested]

@[simp] theorem causeClearRequest_quiet (rq : Req) (s : State) :
    (causeClearRequest rq s).quiet = s.quiet := by
  simp [causeClearRequest, updRet_quiet]

@[simp] theorem checkDay_quiet (s : State) : (checkDay s).quiet = s.quiet := by
  unfold checkDay
  split
  · rfl
  · split <;> simp [rollover, updRet_quiet]

@[simp] theorem crystalSecond_quiet (s : State) : (crystalSecond s).quiet = s.quiet := by
  simp [crystalSecond, updRet_quiet]

@[simp] theorem clockSecond_quiet (s : State) : (clockSecond s).quiet = s.quiet := by simp [clockSecond]

@[simp] theorem timeSetRequest_quiet (rq : Req) (t : Nat) (s : State) :
    (timeSetRequest rq t s).quiet = s.quiet := by
  unfold timeSetRequest
  split <;> simp [updRet_quiet]

@[simp] theorem updAccount_quiet (id : Nat) (f : Account → Account) (s : State) :
    (updAccount id f s).quiet = s.quiet := rfl

theorem onAccount_quiet (rq : Req) (code id : Nat) (s : State) (f : Account → State)
    (h : ∀ a, (f a).quiet = s.quiet) : (onAccount rq code id s f).quiet = s.quiet := by
  unfold onAccount
  split
  · simp
  · split <;> simp [h]

@[simp] theorem accountSet_quiet (rq : Req) (id cls allowance : Nat) (s : State) :
    (accountSet rq id cls allowance s).quiet = s.quiet := by
  unfold accountSet
  split
  · simp
  · split
    · split <;> simp
    · split <;> simp [updRet_quiet]

@[simp] theorem accountCredit_quiet (rq : Req) (id amount : Nat) (s : State) :
    (accountCredit rq id amount s).quiet = s.quiet :=
  onAccount_quiet _ _ _ _ _ fun _ => by split <;> simp

@[simp] theorem accountWithdraw_quiet (rq : Req) (id amount : Nat) (s : State) :
    (accountWithdraw rq id amount s).quiet = s.quiet :=
  onAccount_quiet _ _ _ _ _ fun _ => by
    split
    · simp
    · split <;> simp

@[simp] theorem setBlocked_quiet (rq : Req) (code id : Nat) (b : Bool) (s : State) :
    (setBlocked rq code id b s).quiet = s.quiet :=
  onAccount_quiet _ _ _ _ _ fun _ => by simp

@[simp] theorem accountRemove_quiet (rq : Req) (id : Nat) (s : State) :
    (accountRemove rq id s).quiet = s.quiet :=
  onAccount_quiet _ _ _ _ _ fun _ => by split <;> simp [updRet_quiet]

@[simp] theorem accountRead_quiet (rq : Req) (id : Nat) (s : State) : (accountRead rq id s).quiet = s.quiet :=
  onAccount_quiet _ _ _ _ _ fun _ => by simp

@[simp] theorem txnReadRequest_quiet (rq : Req) (s : State) : (txnReadRequest rq s).quiet = s.quiet := by
  unfold txnReadRequest
  split <;> simp

@[simp] theorem updSnapshot_quiet (p : Pos) (f : Snapshot → Snapshot) (s : State) :
    (updSnapshot p f s).quiet = s.quiet := rfl

@[simp] theorem lowerTenderCap_quiet (p : Pos) (cap : Nat) (s : State) :
    (lowerTenderCap p cap s).quiet = s.quiet := by
  unfold lowerTenderCap
  split
  · rfl
  · simp only [onlyIf_quiet, updAccount_quiet, updSnapshot_quiet]
    split <;> rfl

@[simp] theorem fillEnd_quiet (node : Nat) (p : Pos) (txn reference billed amount : Nat) (c : Bool)
    (s : State) : (fillEnd node p txn reference billed amount c s).quiet = s.quiet := by
  simp [fillEnd]

@[simp] theorem settle_quiet (x : Settlement) (s : State) : (settle x s).quiet = s.quiet := by
  unfold settle
  split <;> simp

/-! ### A commit is quiet but for the mode it may complete -/

theorem clearFigures_quiet (s : State) : (clearFigures s).quiet = s.quiet := by
  unfold clearFigures
  rw [forEach_quiet _ _ _ dropBaseline_quiet, forEach_quiet _ _ _ clearInventory_quiet]

@[simp] theorem applyNodeMap_quiet (s : State) : (applyNodeMap s).quiet = s.quiet := by
  simp only [applyNodeMap, evalIfStopped_quiet, closeAll_quiet, updRif_quiet, tellAbsent, postAll_quiet,
    clearFigures_quiet]
  rfl

@[simp] theorem configureBank_quiet (b : Bank) (s : State) : (configureBank b s).quiet = s.quiet := by
  unfold configureBank
  split <;> simp

@[simp] theorem applyBankRow_quiet (old : BankTable) (b : Bank) (s : State) :
    (applyBankRow old b s).quiet = s.quiet := by
  simp only [applyBankRow]
  split <;> simp

@[simp] theorem applyBank_quiet (old : BankTable) (s : State) : (applyBank old s).quiet = s.quiet := by
  simp [applyBank, forEach_quiet]

@[simp] theorem applyPrecool_quiet (old : ChillerRow) (s : State) :
    (applyPrecool old s).quiet = s.quiet := by
  simp [applyPrecool]

@[simp] theorem applyTariff_quiet (old : Tariff) (s : State) : (applyTariff old s).quiet = s.quiet := by
  simp [applyTariff]

@[simp] theorem applyCommit_quiet (table : Nat) (old s : State) :
    (applyCommit table old s).quiet = s.quiet := by
  unfold applyCommit
  split <;> simp

/-! ### SMC: the modes (R201) -/

@[simp] theorem descentTimers_places (s : State) : (descent s).places = s.places := by
  unfold descent
  split <;> rfl

@[simp] theorem descent_pins (s : State) : (descent s).pins = s.pins := by
  unfold descent
  split <;> rfl

/-- R203: a descent report changes the descent timers alone. -/
theorem descent_smc (s : State) :
    (descent s).smc.mode = s.smc.mode ∧ (descent s).smc.latch = s.smc.latch
      ∧ (descent s).smc.inReset = s.smc.inReset := by
  unfold descent
  split <;> exact ⟨rfl, rfl, rfl⟩

@[simp] theorem setMode_places (m : Mode) (s : State) : (setMode m s).places = s.places := rfl

@[simp] theorem changeMode_places (m : Mode) (s : State) : (changeMode m s).places = s.places := by
  unfold changeMode
  split
  · rfl
  · rw [places_of_quiet (pclModeChange_quiet _), places_of_quiet (cmpModeChange_quiet _ _),
      places_of_quiet (evalAllAvailability_quiet _), descentTimers_places, setMode_places]

/-- R201: what a change of mode leaves of SMC and of the master isolation output. -/
theorem changeMode_smc {m : Mode} {s : State} (h : s.smc.mode ≠ m) :
    (changeMode m s).smc.mode = m ∧ (changeMode m s).smc.latch = s.smc.latch
      ∧ (changeMode m s).smc.inReset = s.smc.inReset
      ∧ (changeMode m s).pins.masterIsolation = m.energises := by
  have hq : (changeMode m s).quiet = (descent (setMode m s)).quiet := by
    rw [changeMode, if_neg h, pclModeChange_quiet, cmpModeChange_quiet, evalAllAvailability_quiet]
  obtain ⟨-, hsmc, hpins, -, -⟩ := (quiet_iff _ _).mp hq
  obtain ⟨hmode, hlatch, hreset⟩ := descent_smc (setMode m s)
  rw [hsmc, hpins, descent_pins]
  exact ⟨hmode, hlatch, hreset, rfl⟩

@[simp] theorem judgeSet_places (s : State) : (judgeSet s).places = s.places := by
  unfold judgeSet onlyIf
  split <;> simp

@[simp] theorem takeCommit_places (table : Nat) (s : State) : (takeCommit table s).places = s.places := by
  rw [takeCommit, judgeSet_places, places_of_quiet (applyCommit_quiet _ _ _)]
  rfl

/-! ### SMC: the trip latch (R204) -/

@[simp] theorem setLatch_places (c : TripCause) (s : State) : (setLatch c s).places = s.places := by
  simp [setLatch, State.places, setMode]

@[simp] theorem tripOn_places (c : TripCause) (s : State) : (tripOn c s).places = s.places := by
  unfold tripOn
  split
  · rfl
  · simp

/-- R204: with the first cause the latch is set, the mode is TRIP and the output released. -/
theorem setLatch_smc (c : TripCause) (s : State) :
    (setLatch c s).smc = { s.smc with
        mode := .trip, latch := some ⟨c, s.ret.clock⟩, idleTimer := none, parkTimer := none }
      ∧ (setLatch c s).pins.masterIsolation = false := by
  constructor <;> simp [setLatch, setMode, Mode.energises]

/-! ### BIL and TXQ leave the station part -/

@[simp] theorem releasePlace_station (p : Pos) (s : State) : (releasePlace p s).station = s.station := rfl

@[simp] theorem placeRecord_station (r : TxnRecord) (s : State) :
    (placeRecord r s).station = s.station := by
  simp only [placeRecord]
  split
  · rw [station_of_quiet (notice_quiet _ _ _ _)]
    rfl
  · rfl

@[simp] theorem placeHold_station (p : Pos) (c : TenderCtx) (s : State) :
    (placeHold p c s).station = s.station := by
  unfold placeHold
  split <;> rfl

@[simp] theorem acceptTender_station (t : TenderIn) (s : State) :
    (acceptTender t s).station = s.station := by
  simp only [acceptTender]
  rw [station_of_quiet (noticeTo_quiet _ _ _ _ _), station_of_quiet (authorise_quiet _ _ _ _ _)]
  exact placeHold_station _ _ _

@[simp] theorem takeTender_station (source : Nat) (bc : Bool) (pos kind reference account amount : Nat)
    (s : State) : (takeTender source bc pos kind reference account amount s).station = s.station := by
  have reject r : (rejectTender source pos reference r s).station = s.station :=
    station_of_quiet (noticeTo_quiet _ _ _ _ _)
  simp only [takeTender]
  split
  · rfl
  · split
    · split <;> simp [reject]
    · exact reject _

@[simp] theorem cancelTender_station (p : Pos) (s : State) : (cancelTender p s).station = s.station := by
  simp only [cancelTender]
  split
  · rfl
  · split
    · rfl
    · simp [State.station, fillEnd, releasePlace]

@[simp] theorem settleSummary_station (sum : FillSummary) (s : State) :
    (settleSummary sum s).station = s.station := by
  simp only [settleSummary]
  split
  · rfl
  · rename_i c _
    exact (station_of_quiet (releaseGen_quiet sum.pclass sum.gen _)).trans
      ((placeRecord_station _ _).trans (station_of_quiet (settle_quiet _ _)))

@[simp] theorem txnReleaseRequest_station (rq : Req) (n : Nat) (s : State) :
    (txnReleaseRequest rq n s).station = s.station := by
  simp only [txnReleaseRequest]
  split
  · exact station_of_quiet (reply_quiet _ _ _ _ _)
  · split
    · rw [station_of_quiet (reply_quiet _ _ _ _ _)]
      rfl
    · exact station_of_quiet (reply_quiet _ _ _ _ _)

@[simp] theorem settleSnapshot_station (p : Pos) (s : State) :
    (settleSnapshot p s).station = s.station := by
  unfold settleSnapshot
  split
  · rfl
  · rw [placeRecord_station, station_of_quiet (settle_quiet _ _)]

@[simp] theorem settleSnapshots_station (s : State) : (settleSnapshots s).station = s.station :=
  forEach_keeps (fun t => t.station = s.station) _ (fun p t h => (settleSnapshot_station p t).trans h) _ s rfl

end Sys2Proof.Machine
end

section
/-! Every command, by what it leaves alone; the laws of R170, R201 and R204 and that every command answers. -/

namespace Sys2Proof.Machine

open Sys2Proof

/-! ### Commands in general -/

/-- The commands that leave the mode and the latch, the hard lines and the transaction queue alone: all but
those of SMC that act on the mode or the latch, those of BIL and TXQ that take or free a place, a commit
(which may complete the required set) and the restarts. -/
def quietCommand : Instr → Bool
  | .tableCommit .. | .modeSet .. | .tripRequest .. | .txnRelease .. | .tender .. | .cancelled ..
  | .fillSummary .. | .smcHolsterTransition .. | .bankLow | .descentReport | .idleTimerExpiry
  | .parkTimeExpiry | .tripCause .. | .tripLoopOpen | .supplyMonitorTrip | .powerOn .. | .supplyDip ..
  | .commandRestart .. => false
  | _ => true

/-- What is kept by the effect of a command is kept by the command: in reset nothing changes. -/
theorem running_keeps {P : State → Prop} {f : State → State} {s t : State} (h : running s f = .next t)
    (hs : P s) (hf : P s → P (f s)) : P t := by
  obtain ⟨-, rfl⟩ | ⟨-, rfl⟩ := running_spec s t f h
  · exact hs
  · exact hf hs

theorem running_quiet {f : State → State} {s t : State} (h : running s f = .next t)
    (hf : (f s).quiet = s.quiet) : t.quiet = s.quiet :=
  running_keeps (P := fun u => u.quiet = s.quiet) h rfl fun _ => hf

theorem exec_quiet {c : Instr} {s t : State} (hc : quietCommand c = true) (h : exec c s = .next t) :
    t.quiet = s.quiet := by
  cases c
  case stationClockAdvance =>
    obtain rfl : (if s.smc.inReset then crystalSecond s else clockSecond s) = t :=
      Host.Outcome.next.inj h
    split <;> simp
  case compressorClaim b => exact running_quiet (f := fun u => (claimForCompressor b u).2) h (by simp)
  case bankWithdraw p => exact running_quiet (f := fun u => (withdrawBank p u).2) h (by simp)
  case outputWithdraw p => exact running_quiet (f := fun u => (withdrawOutput p u).2) h (by simp)
  all_goals
    first
    | exact Bool.noConfusion hc
    | exact running_quiet h (by simp)

/-! ### The restarts (R200, R204, R205) -/

/-- The restarted part before the trip loop is judged: the commands that wait stand, the latch is clear, the
mode is that of R200 with its master isolation output, and no reservation is left. -/
structure BroughtUp (s t : State) : Prop where
  pending : t.pending = s.pending
  latch : t.smc.latch = none
  mode : t.smc.mode ≠ .trip
  isolation : t.pins.masterIsolation = t.smc.mode.energises
  reserved : t.ret.reserved = .all false

theorem restartMode_ne_trip (t : Tables) : restartMode t ≠ .trip := by
  unfold restartMode
  split <;> decide

/-- What is brought up before its trip loop is judged (R204). -/
def beforeLoop (t : Tables) (r : Retained) (l : Lines) (s : State) : State :=
  checkDay (settleSnapshots (ageHistory (closeAll (bringUp t.restart r l s))))

theorem restart_eq (t : Tables) (r : Retained) (l : Lines) (s : State) :
    restart t r l s = judgeLoop (beforeLoop t r l s) := rfl

theorem beforeLoop_station (t : Tables) (r : Retained) (l : Lines) (s : State) :
    (beforeLoop t r l s).station = (bringUp t.restart r l s).station := by
  rw [beforeLoop, station_of_quiet (checkDay_quiet _), settleSnapshots_station,
    station_of_quiet (ageHistory_quiet _), station_of_quiet (closeAll_quiet _)]

theorem beforeLoop_broughtUp (t : Tables) (r : Retained) (l : Lines) (s : State) :
    BroughtUp s (beforeLoop t r l s) := by
  obtain ⟨hpending, hsmc, hpins⟩ := (station_iff _ _).mp (beforeLoop_station t r l s)
  refine ⟨hpending, by rw [hsmc]; rfl, by rw [hsmc]; exact restartMode_ne_trip _,
    by rw [hsmc, hpins]; rfl, ?_⟩
  obtain ⟨-, -, -, -, hreserved⟩ := (quiet_iff _ _).mp (checkDay_quiet
    (settleSnapshots (ageHistory (closeAll (bringUp t.restart r l s)))))
  exact hreserved.trans rfl

/-- The three restarts, by the tables and the retained domain they start with. -/
theorem exec_restart {c : Instr} {s t : State} (h : exec c s = .next t)
    (hc : (∃ d l, c = .powerOn d l) ∨ (∃ l, c = .supplyDip l) ∨ ∃ l, c = .commandRestart l) :
    t = s ∨ ∃ (tb : Tables) (r : Retained) (l : Lines), t = restart tb r l s ∧
      (r.records = s.ret.records ∧ r.reserved = s.ret.reserved ∧ r.accounts = s.ret.accounts ∨ r = retainLost) := by
  rcases hc with ⟨d, l, rfl⟩ | ⟨l, rfl⟩ | ⟨l, rfl⟩
  · obtain rfl : powerOn d l s = t := Host.Outcome.next.inj h
    cases d
    · exact .inr ⟨_, _, _, rfl, .inr rfl⟩
    · exact .inr ⟨_, _, _, rfl, .inl ⟨rfl, rfl, rfl⟩⟩
  · obtain rfl : supplyDip l s = t := Host.Outcome.next.inj h
    refine .inr ⟨_, _, _, rfl, .inl ?_⟩
    unfold keepTrip
    split <;> exact ⟨rfl, rfl, rfl⟩
  · obtain ⟨-, rfl⟩ | ⟨-, rfl⟩ := running_spec s t (commandRestart l) h
    · exact .inl rfl
    · refine .inr ⟨_, _, _, rfl, .inl ?_⟩
      unfold keepTrip
      split <;> exact ⟨rfl, rfl, rfl⟩

end Sys2Proof.Machine
end

section
/-! The laws of R170, R201 and R204, and that every command answers. -/

namespace Sys2Proof.Machine

open Sys2Proof

/-! ### Steps -/

/-- A step takes a command on the state with a shorter queue or mail list, or lets the time base pass. -/
theorem step_cases {s t : State} (h : step s = .next t) :
    (∃ c q m, exec c { s with pending := q, mail := m } = .next t) ∨ t = tickInReset s ∨ t = tick s := by
  unfold step at h
  split at h
  · next c rest _ => exact .inl ⟨c, rest, s.mail, h⟩
  · unfold idle at h
    split at h
    · exact .inr (.inl (Host.Outcome.next.inj h).symm)
    · split at h
      · next m rest _ => exact .inl ⟨m, s.pending, rest, h⟩
      · split at h
        · next i _ _ => exact .inl ⟨i, s.pending, s.mail, h⟩
        · exact .inr (.inr (Host.Outcome.next.inj h).symm)

/-- A law that the two queues of commands do not touch is kept by every step when every command keeps it and
the time base does. -/
theorem keptByStep_of {law : State → Prop}
    (hqueue : ∀ (s : State) q m, law s → law { s with pending := q, mail := m })
    (hexec : ∀ c s t, law s → exec c s = .next t → law t)
    (htick : ∀ s, law s → law (tick s)) (hreset : ∀ s, law s → law (tickInReset s)) :
    KeptByStep law := by
  intro s t hs h
  obtain ⟨c, q, m, hc⟩ | rfl | rfl := step_cases h
  · exact hexec c _ t (hqueue s q m hs) hc
  · exact hreset s hs
  · exact htick s hs

@[simp] theorem tickInReset_quiet (s : State) : (tickInReset s).quiet = s.quiet := by
  simp only [tickInReset]
  split
  · rw [crystalSecond_quiet]
    rfl
  · rfl

/-- A tick changes the descent timers of SMC, and nothing else that quiet commands leave alone. -/
theorem tick_quiet (s : State) : (tick s).quiet = { s with smc := s.smc.tick }.quiet := by
  simp only [tick]
  split
  · rw [post_quiet, clockSecond_quiet]
    rfl
  · rfl

/-! ### R170: the transaction queue -/

theorem queueLaw_of_places {s t : State} (h : t.places = s.places) (hs : s.queueLaw) : t.queueLaw := by
  obtain ⟨-, hr, hv⟩ := (places_iff s t).mp h
  simpa [State.queueLaw, State.reservations, hr, hv] using hs

theorem countP_set_true (v : PerPos Bool) (p : Pos) :
    (v.set p true).toList.countP id ≤ v.toList.countP id + 1 := by
  obtain ⟨a, b, c, d⟩ := v
  cases p <;> revert a b c d <;> decide

theorem countP_set_false (v : PerPos Bool) (p : Pos) :
    (v.set p false).toList.countP id + (if v.get p then 1 else 0) = v.toList.countP id := by
  obtain ⟨a, b, c, d⟩ := v
  cases p <;> revert a b c d <;> decide

theorem releasePlace_queueLaw (p : Pos) {s : State} (hs : s.queueLaw) : (releasePlace p s).queueLaw := by
  have h := countP_set_false s.ret.reserved p
  simp only [State.queueLaw, State.reservations, releasePlace, updRet_ret] at *
  omega

/-- R176: a record takes the place of its reservation. -/
theorem placeRecord_queueLaw (r : TxnRecord) {s : State} (hs : s.queueLaw) :
    (placeRecord r s).queueLaw := by
  simp only [placeRecord]
  split
  · rename_i hres
    have h := countP_set_false s.ret.reserved r.pos
    rw [if_pos hres] at h
    refine queueLaw_of_places (places_of_quiet (notice_quiet _ _ _ _)) ?_
    simp only [State.queueLaw, State.reservations, releasePlace, updRet_ret, List.length_append,
      List.length_singleton] at *
    omega
  · exact hs

theorem reservePlace_queueLaw (p : Pos) {s : State} (hfree : s.placeFree = true) :
    (reservePlace p s).queueLaw := by
  have h := countP_set_true s.ret.reserved p
  have hlt : s.ret.records.length + s.ret.reserved.toList.countP id < Config.recordPlaces :=
    of_decide_eq_true hfree
  simp only [State.queueLaw, State.reservations, reservePlace, updRet_ret]
  omega

theorem placeHold_places (p : Pos) (c : TenderCtx) (s : State) :
    (placeHold p c s).places = s.places := by
  unfold placeHold
  split <;> rfl

theorem acceptTender_queueLaw (t : TenderIn) {s : State} (hfree : s.placeFree = true) :
    (acceptTender t s).queueLaw := by
  simp only [acceptTender]
  refine queueLaw_of_places ?_ (reservePlace_queueLaw t.pos hfree)
  rw [places_of_quiet (noticeTo_quiet _ _ _ _ _), places_of_quiet (authorise_quiet _ _ _ _ _)]
  exact placeHold_places _ _ _

/-- R157, check 8: a tender that nothing stands against finds a free place. -/
theorem placeFree_of_tenderRefusal {s : State} {t : TenderIn} (h : s.tenderRefusal t = none) :
    s.placeFree = true := by
  unfold State.tenderRefusal at h
  split at h <;> [simp at h; skip]
  split at h <;> [simp at h; skip]
  split at h <;> [simp at h; skip]
  split at h <;> [simp at h; skip]
  split at h <;> [simp at h; skip]
  simpa using h

theorem takeTender_queueLaw (source : Nat) (bc : Bool) (pos kind reference account amount : Nat)
    {s : State} (hs : s.queueLaw) :
    (takeTender source bc pos kind reference account amount s).queueLaw := by
  have reject r : (rejectTender source pos reference r s).queueLaw :=
    queueLaw_of_places (places_of_quiet (noticeTo_quiet _ _ _ _ _)) hs
  simp only [takeTender]
  split
  · exact hs
  · split
    · split
      · exact reject _
      · exact acceptTender_queueLaw _ (placeFree_of_tenderRefusal ‹_›)
    · exact reject _

theorem cancelTender_queueLaw (p : Pos) {s : State} (hs : s.queueLaw) : (cancelTender p s).queueLaw := by
  have hrel := releasePlace_queueLaw p hs
  simp only [cancelTender]
  split
  · exact hs
  · split
    · exact queueLaw_of_places rfl hrel
    · exact queueLaw_of_places (by simp [State.places, fillEnd]) hrel

theorem settleSummary_queueLaw (sum : FillSummary) {s : State} (hs : s.queueLaw) :
    (settleSummary sum s).queueLaw := by
  simp only [settleSummary]
  split
  · exact hs
  · rename_i c _
    have hplaced := placeRecord_queueLaw (s.recordOf sum c)
      (queueLaw_of_places (places_of_quiet (settle_quiet (c.settlement sum.pos sum.masses.fillG) s)) hs)
    exact queueLaw_of_places (places_of_quiet (releaseGen_quiet sum.pclass sum.gen _)) hplaced

theorem txnReleaseRequest_queueLaw (rq : Req) (n : Nat) {s : State} (hs : s.queueLaw) :
    (txnReleaseRequest rq n s).queueLaw := by
  simp only [txnReleaseRequest]
  split
  · exact queueLaw_of_places (places_of_quiet (reply_quiet _ _ _ _ _)) hs
  · split
    · refine queueLaw_of_places (places_of_quiet (reply_quiet _ _ _ _ _)) ?_
      rename_i hrec _
      simp only [State.queueLaw, State.reservations, hrec, List.length_cons, updRet_ret] at *
      omega
    · exact queueLaw_of_places (places_of_quiet (reply_quiet _ _ _ _ _)) hs

theorem settleSnapshot_queueLaw (p : Pos) {s : State} (hs : s.queueLaw) :
    (settleSnapshot p s).queueLaw := by
  unfold settleSnapshot
  split
  · exact hs
  · exact placeRecord_queueLaw _ (queueLaw_of_places (places_of_quiet (settle_quiet _ _)) hs)

/-- R169, R177: a restart places a record for a reservation, and frees what is left. -/
theorem settleSnapshots_queueLaw {s : State} (hs : s.queueLaw) : (settleSnapshots s).queueLaw := by
  have h : (forEach Pos.all settleSnapshot s).queueLaw :=
    forEach_keeps State.queueLaw _ (fun p t ht => settleSnapshot_queueLaw p ht) _ s hs
  simp only [State.queueLaw, State.reservations, settleSnapshots, dropStray, updRet_ret] at *
  have hnone : (PerPos.all false).toList.countP id = 0 := rfl
  omega

theorem restart_queueLaw (t : Tables) (r : Retained) (l : Lines) {s : State}
    (hr : r.records.length + r.reserved.toList.countP id ≤ Config.recordPlaces) :
    (restart t r l s).queueLaw := by
  have hup : (bringUp t.restart r l s).queueLaw := hr
  have hbefore : (beforeLoop t r l s).queueLaw :=
    queueLaw_of_places (places_of_quiet (checkDay_quiet _)) (settleSnapshots_queueLaw
      (queueLaw_of_places (places_of_quiet (ageHistory_quiet _))
        (queueLaw_of_places (places_of_quiet (closeAll_quiet _)) hup)))
  rw [restart_eq, judgeLoop, onlyIf]
  split
  · exact queueLaw_of_places (tripOn_places _ _) hbefore
  · exact hbefore

theorem exec_restart_queueLaw {c : Instr} {s t : State} (hs : s.queueLaw) (h : exec c s = .next t)
    (hc : (∃ d l, c = .powerOn d l) ∨ (∃ l, c = .supplyDip l) ∨ ∃ l, c = .commandRestart l) :
    t.queueLaw := by
  obtain rfl | ⟨tb, r, l, rfl, ⟨hrec, hres, -⟩ | rfl⟩ := exec_restart h hc
  · exact hs
  · exact restart_queueLaw tb r l (by rw [hrec, hres]; exact hs)
  · exact restart_queueLaw tb _ l (by decide)

/-- SMC's commands leave the places of the transaction queue. -/
theorem running_places {f : State → State} {s t : State} (h : running s f = .next t)
    (hf : (f s).places = s.places) : t.places = s.places :=
  running_keeps (P := fun u => u.places = s.places) h rfl fun _ => hf

@[simp] theorem modeSetRequest_places (rq : Req) (n : Nat) (s : State) :
    (modeSetRequest rq n s).places = s.places := by
  have hreply st (u : State) : (reply rq 16 st [] u).places = u.places :=
    places_of_quiet (reply_quiet _ _ _ _ _)
  unfold modeSetRequest
  split
  · exact hreply _ _
  · split <;> simp [hreply]

@[simp] theorem smcHolster_places (p : Pos) (s : State) : (smcHolster p s).places = s.places := by
  unfold smcHolster
  split <;> simp

theorem onlyIf_places {c : Bool} {f : State → State} {s : State} (h : (f s).places = s.places) :
    (onlyIf c f s).places = s.places := by
  cases c <;> simp [h]

@[simp] theorem tableCommitRequest_places (rq : Req) (table : Nat) (s : State) :
    (tableCommitRequest rq table s).places = s.places := by
  have hreply st bs (u : State) : (reply rq 5 st bs u).places = u.places :=
    places_of_quiet (reply_quiet _ _ _ _ _)
  simp only [tableCommitRequest]
  split
  · exact hreply _ _ _
  · split <;> simp [hreply]

@[simp] theorem loopOpens_places (s : State) : (loopOpens s).places = s.places := by
  rw [loopOpens, tripOn_places]
  rfl

@[simp] theorem supplyTrip_places (s : State) : (supplyTrip s).places = s.places :=
  (show (supplyTrip s).places = (tripOn .supply s).places from rfl).trans (tripOn_places _ _)

@[simp] theorem tripRequested_places (rq : Req) (s : State) : (tripRequested rq s).places = s.places := by
  rw [tripRequested, places_of_quiet (reply_quiet _ _ _ _ _), tripOn_places]

theorem exec_queueLaw (c : Instr) (s t : State) (hs : s.queueLaw) (h : exec c s = .next t) :
    t.queueLaw := by
  cases hq : quietCommand c
  case true => exact queueLaw_of_places (places_of_quiet (exec_quiet hq h)) hs
  case false =>
    cases c
    case tableCommit => exact queueLaw_of_places (running_places h (by simp)) hs
    case modeSet => exact queueLaw_of_places (running_places h (by simp)) hs
    case tripRequest => exact queueLaw_of_places (running_places h (by simp)) hs
    case smcHolsterTransition p x =>
      exact queueLaw_of_places (running_places h (smcHolster_places p (withRecord (.holster p) x s))) hs
    case bankLow => exact queueLaw_of_places (running_places h (onlyIf_places (by simp))) hs
    case descentReport => exact queueLaw_of_places (running_places h (by simp)) hs
    case idleTimerExpiry => exact queueLaw_of_places (running_places h (onlyIf_places (by simp))) hs
    case parkTimeExpiry => exact queueLaw_of_places (running_places h (onlyIf_places (by simp))) hs
    case tripCause => exact queueLaw_of_places (running_places h (by simp)) hs
    case tripLoopOpen => exact queueLaw_of_places (running_places h (by simp)) hs
    case supplyMonitorTrip => exact queueLaw_of_places (running_places h (by simp)) hs
    case tender => exact running_keeps h hs (takeTender_queueLaw _ _ _ _ _ _ _)
    case cancelled => exact running_keeps h hs (cancelTender_queueLaw _)
    case fillSummary => exact running_keeps h hs (settleSummary_queueLaw _)
    case txnRelease => exact running_keeps h hs (txnReleaseRequest_queueLaw _ _)
    case powerOn d l => exact exec_restart_queueLaw hs h (.inl ⟨d, l, rfl⟩)
    case supplyDip l => exact exec_restart_queueLaw hs h (.inr (.inl ⟨l, rfl⟩))
    case commandRestart l => exact exec_restart_queueLaw hs h (.inr (.inr ⟨l, rfl⟩))
    all_goals exact Bool.noConfusion hq

/-- Settles O5: no command takes the records and reservations past the places: only an accepted tender adds
one, where a place is free, and a record takes the place of its own reservation. -/
theorem queueLawKept : Obligations.QueueLawKept :=
  keptByStep_of (fun _ _ _ hs => hs) exec_queueLaw
    (fun s hs => queueLaw_of_places (places_of_quiet (s := { s with smc := s.smc.tick }) (tick_quiet s)) hs)
    (fun s hs => queueLaw_of_places (places_of_quiet (tickInReset_quiet s)) hs)

end Sys2Proof.Machine
end

section
/-! The mode, the latch and the master isolation output (R201, R204), and that every command answers. -/

namespace Sys2Proof.Machine

open Sys2Proof

/-! ### R201, R204 -/

/-- The two laws together: each alone is not kept, since the changes of mode out of PARKED, QUIET and RUN
leave the latch clear only because it was clear in those modes. -/
def State.modeLaws (s : State) : Prop := s.tripModeLaw ∧ s.isolationLaw

/-- The laws speak of the station part alone. -/
theorem modeLaws_of_station {s t : State} (h : t.station = s.station) (hs : s.modeLaws) : t.modeLaws := by
  obtain ⟨-, hsmc, hpins⟩ := (station_iff s t).mp h
  simpa [State.modeLaws, State.tripModeLaw, State.isolationLaw, State.latched, hsmc, hpins] using hs

/-- A change of the mode's timers is none to the laws. -/
theorem modeLaws_of_timers {s t : State} (hs : s.modeLaws) (hmode : t.smc.mode = s.smc.mode)
    (hlatch : t.smc.latch = s.smc.latch) (hreset : t.smc.inReset = s.smc.inReset)
    (hpins : t.pins = s.pins) : t.modeLaws := by
  simpa [State.modeLaws, State.tripModeLaw, State.isolationLaw, State.latched, hmode, hlatch, hreset,
    hpins] using hs

theorem latched_of_latch {s t : State} (h : t.smc.latch = s.smc.latch) : t.latched = s.latched := by
  simp [State.latched, h]

/-- R201: a change between modes other than TRIP. -/
theorem changeMode_modeLaws {m : Mode} {s : State} (hs : s.modeLaws) (hm : m ≠ .trip)
    (hold : s.smc.mode ≠ .trip) : (changeMode m s).modeLaws := by
  by_cases h : s.smc.mode = m
  · rwa [changeMode, if_pos h]
  · obtain ⟨hmode, hlatch, -, hpins⟩ := changeMode_smc h
    have hclear : s.latched ≠ true := mt hs.1.mp hold
    refine ⟨?_, fun _ => by rw [hmode, hpins]⟩
    simp [State.tripModeLaw, latched_of_latch hlatch, hmode, hm, hclear]

theorem setLatch_modeLaws (c : TripCause) (s : State) : (setLatch c s).modeLaws := by
  obtain ⟨hsmc, hpins⟩ := setLatch_smc c s
  simp [State.modeLaws, State.tripModeLaw, State.isolationLaw, State.latched, hsmc, hpins, Mode.energises]

theorem tripOn_modeLaws (c : TripCause) {s : State} (hs : s.modeLaws) : (tripOn c s).modeLaws := by
  unfold tripOn
  split
  · exact modeLaws_of_timers hs rfl rfl rfl rfl
  · exact setLatch_modeLaws c s

/-- R205: in reset the output is released whatever the mode; the latch is that of the trip. -/
theorem supplyTrip_modeLaws {s : State} (hs : s.modeLaws) : (supplyTrip s).modeLaws :=
  ⟨(tripOn_modeLaws .supply hs).1, fun h => Bool.noConfusion h⟩

theorem loopOpens_modeLaws {s : State} (hs : s.modeLaws) : (loopOpens s).modeLaws :=
  tripOn_modeLaws .loop (s := { s with pins := { s.pins with loopOpen := true } }) hs

theorem tripRequested_modeLaws (rq : Req) {s : State} (hs : s.modeLaws) :
    (tripRequested rq s).modeLaws :=
  modeLaws_of_station (station_of_quiet (reply_quiet _ _ _ _ _)) (tripOn_modeLaws .request hs)

/-- R201: MODE-SET names PARKED, QUIET and RUN. -/
theorem namedMode_ne_trip {n : Nat} {m : Mode} (h : namedMode n = some m) : m ≠ .trip := by
  unfold namedMode at h
  split at h <;> cases h <;> decide

theorem modeSetRequest_modeLaws (rq : Req) (n : Nat) {s : State} (hs : s.modeLaws) :
    (modeSetRequest rq n s).modeLaws := by
  have replied st (u : State) (hu : u.modeLaws) : (reply rq 16 st [] u).modeLaws :=
    modeLaws_of_station (station_of_quiet (reply_quiet _ _ _ _ _)) hu
  unfold modeSetRequest
  split
  · exact replied _ _ hs
  · split
    · exact replied _ _ hs
    · exact replied _ _ hs
    · exact replied _ _ (changeMode_modeLaws hs (namedMode_ne_trip ‹_›) ‹_›)

/-- R202: a wake leads to QUIET or RUN, out of PARKED or QUIET. -/
theorem wakeMode_modes {s : State} {p : Pos} {m : Mode} (h : s.wakeMode p = some m) :
    m ≠ .trip ∧ s.smc.mode ≠ .trip := by
  simp only [State.wakeMode] at h
  split at h
  · cases h
  · split at h
    · next hparked =>
      rw [hparked]
      split at h
      · obtain rfl := Option.some.inj h
        split <;> decide
      · cases h
    · next hquiet =>
      rw [hquiet]
      split at h
      · cases h
      · obtain rfl := Option.some.inj h
        decide
    · cases h

theorem smcHolster_modeLaws (p : Pos) {s : State} (hs : s.modeLaws) : (smcHolster p s).modeLaws := by
  unfold smcHolster
  split
  · next hwake =>
    obtain ⟨hm, hold⟩ := wakeMode_modes hwake
    exact changeMode_modeLaws hs hm hold
  · exact hs

/-- R202, R203, R200: a change that a report makes out of one mode into another, neither of them TRIP. -/
theorem onlyIf_changeMode_modeLaws {old new : Mode} (hold : old ≠ .trip) (hnew : new ≠ .trip) (b : Bool)
    {s : State} (hs : s.modeLaws) : (onlyIf (s.smc.mode == old && b) (changeMode new) s).modeLaws := by
  unfold onlyIf
  split
  · next h =>
    have hmode : s.smc.mode = old := by simpa using (Bool.and_eq_true_iff.mp h).1
    exact changeMode_modeLaws hs hnew (hmode ▸ hold)
  · exact hs

theorem descent_modeLaws {s : State} (hs : s.modeLaws) : (descent s).modeLaws := by
  obtain ⟨hmode, hlatch, hreset⟩ := descent_smc s
  exact modeLaws_of_timers hs hmode hlatch hreset (descent_pins s)

theorem tableCommitRequest_modeLaws (rq : Req) (table : Nat) {s : State} (hs : s.modeLaws) :
    (tableCommitRequest rq table s).modeLaws := by
  have replied st bs (u : State) (hu : u.modeLaws) : (reply rq 5 st bs u).modeLaws :=
    modeLaws_of_station (station_of_quiet (reply_quiet _ _ _ _ _)) hu
  have applied : (applyCommit table s (updTables (fun t => t.commit table) s)).modeLaws :=
    modeLaws_of_station (station_of_quiet (applyCommit_quiet _ _ _)) hs
  simp only [tableCommitRequest]
  split
  · exact replied _ _ _ hs
  · split
    · exact replied _ _ _ hs
    · exact replied _ _ _ (onlyIf_changeMode_modeLaws (by decide) (by decide) _ applied)

theorem restart_modeLaws (t : Tables) (r : Retained) (l : Lines) (s : State) :
    (restart t r l s).modeLaws := by
  have hup := beforeLoop_broughtUp t r l s
  have hbefore : (beforeLoop t r l s).modeLaws :=
    ⟨by simp [State.tripModeLaw, State.latched, hup.latch, hup.mode], fun _ => hup.isolation⟩
  rw [restart_eq, judgeLoop, onlyIf]
  split
  · exact tripOn_modeLaws .loop hbefore
  · exact hbefore

theorem exec_restart_modeLaws {c : Instr} {s t : State} (hs : s.modeLaws) (h : exec c s = .next t)
    (hc : (∃ d l, c = .powerOn d l) ∨ (∃ l, c = .supplyDip l) ∨ ∃ l, c = .commandRestart l) :
    t.modeLaws := by
  obtain rfl | ⟨tb, r, l, rfl, -⟩ := exec_restart h hc
  · exact hs
  · exact restart_modeLaws tb r l s

theorem running_station {f : State → State} {s t : State} (h : running s f = .next t)
    (hf : (f s).station = s.station) : t.station = s.station :=
  running_keeps (P := fun u => u.station = s.station) h rfl fun _ => hf

theorem exec_modeLaws (c : Instr) (s t : State) (hs : s.modeLaws) (h : exec c s = .next t) :
    t.modeLaws := by
  cases hq : quietCommand c
  case true => exact modeLaws_of_station (station_of_quiet (exec_quiet hq h)) hs
  case false =>
    cases c
    case tableCommit => exact running_keeps h hs (tableCommitRequest_modeLaws _ _)
    case modeSet => exact running_keeps h hs (modeSetRequest_modeLaws _ _)
    case tripRequest => exact running_keeps h hs (tripRequested_modeLaws _)
    case smcHolsterTransition p x =>
      exact running_keeps h hs (smcHolster_modeLaws p (s := withRecord (.holster p) x s))
    case bankLow => exact running_keeps h hs (onlyIf_changeMode_modeLaws (by decide) (by decide) _)
    case descentReport => exact running_keeps h hs descent_modeLaws
    case idleTimerExpiry =>
      exact running_keeps h hs (onlyIf_changeMode_modeLaws (by decide) (by decide) _)
    case parkTimeExpiry =>
      exact running_keeps h hs (onlyIf_changeMode_modeLaws (by decide) (by decide) _)
    case tripCause => exact running_keeps h hs (tripOn_modeLaws _)
    case tripLoopOpen => exact running_keeps h hs loopOpens_modeLaws
    case supplyMonitorTrip => exact running_keeps h hs supplyTrip_modeLaws
    case tender => exact modeLaws_of_station (running_station h (by simp)) hs
    case cancelled => exact modeLaws_of_station (running_station h (by simp)) hs
    case fillSummary => exact modeLaws_of_station (running_station h (by simp)) hs
    case txnRelease => exact modeLaws_of_station (running_station h (by simp)) hs
    case powerOn d l => exact exec_restart_modeLaws hs h (.inl ⟨d, l, rfl⟩)
    case supplyDip l => exact exec_restart_modeLaws hs h (.inr (.inl ⟨l, rfl⟩))
    case commandRestart l => exact exec_restart_modeLaws hs h (.inr (.inr ⟨l, rfl⟩))
    all_goals exact Bool.noConfusion hq

/-- Settles O6: only SMC's commands, a commit that completes the set and the restarts act on the mode, the
latch or the output, and each acts on all three together. -/
theorem isolationFollowsTheMode : Obligations.IsolationFollowsTheMode :=
  keptByStep_of (law := State.modeLaws) (fun _ _ _ hs => hs) exec_modeLaws
    (fun s hs => modeLaws_of_station (s := { s with smc := s.smc.tick }) (station_of_quiet (tick_quiet s))
      (modeLaws_of_timers hs rfl rfl rfl rfl))
    (fun s hs => modeLaws_of_station (station_of_quiet (tickInReset_quiet s)) hs)

/-! ### Every command answers -/

/-- Every command but the two restarts that end a reset and the crystal's second is of the shape that takes
nothing in reset. -/
theorem exec_eq_running {c : Instr} (hp : ∀ d l, c ≠ .powerOn d l) (hd : ∀ l, c ≠ .supplyDip l)
    (hk : c ≠ .stationClockAdvance) (s : State) : ∃ f, exec c s = running s f := by
  cases c
  case powerOn d l => exact absurd rfl (hp d l)
  case supplyDip l => exact absurd rfl (hd l)
  case stationClockAdvance => exact absurd rfl hk
  case compressorClaim b => exact ⟨fun u => (claimForCompressor b u).2, rfl⟩
  case bankWithdraw p => exact ⟨fun u => (withdrawBank p u).2, rfl⟩
  case outputWithdraw p => exact ⟨fun u => (withdrawOutput p u).2, rfl⟩
  all_goals exact ⟨_, rfl⟩

/-- No arm of `exec` is a fault or a refusal. -/
theorem exec_answers (c : Instr) (s : State) : ∃ t, exec c s = .next t := by
  cases c <;> exact ⟨_, rfl⟩

/-- The commands that wait stand at every command: no unit touches them, nor a restart (log 29). -/
theorem exec_pending {c : Instr} {s t : State} (h : exec c s = .next t) : t.pending = s.pending := by
  have of_quiet {u : State} (hu : u.quiet = s.quiet) : u.pending = s.pending :=
    ((quiet_iff s u).mp hu).1
  have of_places {u : State} (hu : u.places = s.places) : u.pending = s.pending :=
    ((places_iff s u).mp hu).1
  have of_station {u : State} (hu : u.station = s.station) : u.pending = s.pending :=
    ((station_iff s u).mp hu).1
  have of_restart (hc : (∃ d l, c = .powerOn d l) ∨ (∃ l, c = .supplyDip l) ∨
      ∃ l, c = .commandRestart l) : t.pending = s.pending := by
    obtain rfl | ⟨tb, r, l, rfl, -⟩ := exec_restart h hc
    · rfl
    · rw [restart_eq, judgeLoop, onlyIf]
      split
      · rw [((places_iff _ _).mp (tripOn_places .loop _)).1]
        exact (beforeLoop_broughtUp tb r l s).pending
      · exact (beforeLoop_broughtUp tb r l s).pending
  cases hq : quietCommand c
  case true => exact of_quiet (exec_quiet hq h)
  case false =>
    cases c
    case smcHolsterTransition p x =>
      exact of_places (running_places h (smcHolster_places p (withRecord (.holster p) x s)))
    case bankLow => exact of_places (running_places h (onlyIf_places (by simp)))
    case idleTimerExpiry => exact of_places (running_places h (onlyIf_places (by simp)))
    case parkTimeExpiry => exact of_places (running_places h (onlyIf_places (by simp)))
    case tender => exact of_station (running_station h (by simp))
    case cancelled => exact of_station (running_station h (by simp))
    case fillSummary => exact of_station (running_station h (by simp))
    case txnRelease => exact of_station (running_station h (by simp))
    case powerOn d l => exact of_restart (.inl ⟨d, l, rfl⟩)
    case supplyDip l => exact of_restart (.inr (.inl ⟨l, rfl⟩))
    case commandRestart l => exact of_restart (.inr (.inr ⟨l, rfl⟩))
    all_goals
      first
      | exact Bool.noConfusion hq
      | exact of_places (running_places h (by simp))

/-- Settles O2. -/
theorem everyCommandAnswers : Obligations.EveryCommandAnswers := by
  constructor
  · intro c s
    obtain ⟨t, h⟩ := exec_answers c s
    exact ⟨t, h, exec_pending h⟩
  · intro c s hreset hp hd hk
    obtain ⟨f, h⟩ := exec_eq_running hp hd hk s
    rw [h, running, if_pos hreset]

end Sys2Proof.Machine
end

section
/-! What an event of SIG, BKM, CMP, PCL, FIL or MTR can lead to: commands, notices and replies queued at the
ring interface, a reserve within its bound, and changes of what the laws do not speak of. The relation is
stated once and proved once for every operation of these units; the laws of the ring interface, the reserve
and the funds are each an induction on it. -/

namespace Sys2Proof.Machine

open Sys2Proof

/-! ### The relation -/

/-- The figures of a snapshot that the laws of a tender speak of (R173). -/
def Snapshot.tender (x : Snapshot) : TenderKind × Nat × Nat × Nat := (x.kind, x.account, x.price, x.cap)

/-- What the laws of the ring interface and of the reserve speak of. -/
structure RingPart where
  nodeMap : List (Option NodeRow)
  chiller : ChillerRow
  rif     : Rif
  reserve : Nat
  latch   : Option TripInfo

/-- What the laws of the funds and of the tenders speak of. -/
structure FundsPart where
  accounts  : List (Option Account)
  reserved  : PerPos Bool
  snapshots : PerPos (Option (TenderKind × Nat × Nat × Nat))
  bil       : PerPos (Option TenderCtx)

def State.ringPart (s : State) : RingPart :=
  ⟨s.tables.nodeMap.active, s.chillerRow, s.rif, s.pcl.reserve, s.smc.latch⟩

def State.fundsPart (s : State) : FundsPart :=
  ⟨s.ret.accounts, s.ret.reserved, s.ret.snapshots.map (Option.map Snapshot.tender), s.bil⟩

def State.kept (s : State) : RingPart × FundsPart := (s.ringPart, s.fundsPart)

/-- What an event can lead to that, but for the ring interface's queues and the reserve, keeps `keep`. -/
inductive Event {α : Type} (keep : State → α) (s : State) : State → Prop where
  | start : Event keep s s
  | other {t u : State} : Event keep s t → keep u = keep t → Event keep s u
  | actuate {t : State} (r : Role) (c : ActCommand) (v : Nat) :
      Event keep s t → r.isActuator = true → Event keep s (actuate r c v t)
  | noticeTo {t : State} (d : Nat) (k : NoticeKind) (n : Nat) (bs : List Byte) :
      Event keep s t → Event keep s (noticeTo d k n bs t)
  | reply {t : State} (rq : Req) (n : Nat) (st : Status) (bs : List Byte) :
      Event keep s t → Event keep s (reply rq n st bs t)
  | reserve {t : State} (n : Nat) :
      Event keep s t → (t.reserveLaw → (setReserve n t).reserveLaw) → Event keep s (setReserve n t)

theorem Event.trans {α : Type} {keep : State → α} {s t u : State} (h : Event keep s t)
    (h' : Event keep t u) : Event keep s u := by
  induction h' with
  | start => exact h
  | other _ he ih => exact ih.other he
  | actuate r c v _ hr ih => exact ih.actuate r c v hr
  | noticeTo d k n bs _ ih => exact ih.noticeTo d k n bs
  | reply rq n st bs _ ih => exact ih.reply rq n st bs
  | reserve n _ hn ih => exact ih.reserve n hn

/-- An event of SIG, BKM, CMP, PCL, FIL or MTR. -/
abbrev UnitEvent (s t : State) : Prop := Event State.kept s t

/-- An event of these units or of BIL. -/
abbrev RingEvent (s t : State) : Prop := Event State.ringPart s t

theorem UnitEvent.ringEvent {s t : State} (h : UnitEvent s t) : RingEvent s t := by
  induction h with
  | start => exact .start
  | other _ he ih => exact ih.other (congrArg Prod.fst he)
  | actuate r c v _ hr ih => exact ih.actuate r c v hr
  | noticeTo d k n bs _ ih => exact ih.noticeTo d k n bs
  | reply rq n st bs _ ih => exact ih.reply rq n st bs
  | reserve n _ hn ih => exact ih.reserve n hn

section Operations

variable {s t : State}

/-! ### Control -/

theorem onlyIf_event (c : Bool) (f : State → State) (h : UnitEvent s t) (hf : UnitEvent s (f t)) :
    UnitEvent s (onlyIf c f t) := by
  cases c
  · exact h
  · exact hf

theorem forEach_event {α : Type} (xs : List α) (f : α → State → State)
    (hf : ∀ x u, UnitEvent s u → UnitEvent s (f x u)) (h : UnitEvent s t) : UnitEvent s (forEach xs f t) :=
  forEach_keeps (UnitEvent s) f hf xs t h

theorem seeing_event (r : Role) (x : SigRec) (f : State → State)
    (h : UnitEvent s (f (withRecord r x t))) : UnitEvent s (seeing r x f t) :=
  h.other rfl

/-! ### State updates -/

theorem post_event (m : Instr) (h : UnitEvent s t) : UnitEvent s (post m t) := h.other rfl

theorem postAll_event (ms : List Instr) (h : UnitEvent s t) : UnitEvent s (postAll ms t) := h.other rfl

theorem setRecord_event (r : Role) (x : SigRec) (h : UnitEvent s t) : UnitEvent s (setRecord r x t) :=
  h.other rfl

theorem withRecord_event (r : Role) (x : SigRec) (h : UnitEvent s t) : UnitEvent s (withRecord r x t) :=
  h.other rfl

theorem updCtx_event (p : Pos) (f : Ctx → Ctx) (h : UnitEvent s t) : UnitEvent s (updCtx p f t) :=
  h.other rfl

theorem updTimers_event (p : Pos) (f : PosTimers → PosTimers) (h : UnitEvent s t) :
    UnitEvent s (updTimers p f t) := h.other rfl

theorem updBank_event (b : Bank) (f : BankRec → BankRec) (h : UnitEvent s t) :
    UnitEvent s (updBank b f t) := h.other rfl

theorem updMeter_event (p : Pos) (f : MeterCtx → MeterCtx) (h : UnitEvent s t) :
    UnitEvent s (updMeter p f t) := h.other rfl

theorem updCmp_event (f : Cmp → Cmp) (h : UnitEvent s t) : UnitEvent s (updCmp f t) := h.other rfl

theorem updPcl_event (f : Pcl → Pcl) (h : UnitEvent s t) (hf : (f t.pcl).reserve = t.pcl.reserve) :
    UnitEvent s (updPcl f t) :=
  h.other (by simp [State.kept, State.ringPart, State.fundsPart, State.chillerRow, hf])

/-! ### The ring interface -/

theorem notice_event (k : NoticeKind) (n : Nat) (bs : List Byte) (h : UnitEvent s t) :
    UnitEvent s (notice k n bs t) := h.noticeTo _ k n bs

theorem close_event {r : Role} (h : UnitEvent s t) (hr : r.isActuator = true) : UnitEvent s (close r t) :=
  h.actuate r .close 0 hr

theorem openFull_event {r : Role} (h : UnitEvent s t) (hr : r.isActuator = true) :
    UnitEvent s (openFull r t) := h.actuate r .open 1000 hr

theorem closeAll_event (h : UnitEvent s t) : UnitEvent s (closeAll t) := by
  have hroles : ∀ r ∈ t.actuatorRoles, r.isActuator = true := fun r hr => (List.mem_filter.mp hr).2
  unfold closeAll
  generalize t.actuatorRoles = rs at hroles ⊢
  induction rs generalizing t with
  | nil => exact h
  | cons r rs ih =>
    exact ih (close_event h (hroles r (by simp))) fun q hq => hroles q (by simp [hq])

end Operations

end Sys2Proof.Machine
end

section
/-! Every operation of SIG, BKM, CMP, PCL, MTR and FIL is a unit event. Each is put together from the events of
the operations it calls. -/

namespace Sys2Proof.Machine

open Sys2Proof

section Operations

variable {s t : State}

theorem updRet_event (f : Retained → Retained) (h : UnitEvent s t)
    (hf : (updRet f t).kept = t.kept) : UnitEvent s (updRet f t) := h.other hf

/-! ### Signals -/

theorem loseSignal_event (row : Nat) (x : NodeRow) (before : Quality) (after : Quality) (h : UnitEvent s t) :
    UnitEvent s (loseSignal row x before after t) := by
  simp only [loseSignal]
  repeat' split
  all_goals apply_rules [postAll_event, notice_event]

theorem limitEvent_event (row : Nat) (x : NodeRow) (before : Region) (after : Region) (v : Int)
    (h : UnitEvent s t) :
    UnitEvent s (limitEvent row x before after v t) := by
  simp only [limitEvent]
  repeat' split
  all_goals apply_rules [postAll_event, notice_event]

theorem edgeEvent_event (row : Nat) (x : NodeRow) (level : Bool) (h : UnitEvent s t) :
    UnitEvent s (edgeEvent row x level t) := by
  simp only [edgeEvent]
  repeat' split
  all_goals apply_rules [postAll_event, notice_event]

theorem badFrame_event (row : Nat) (x : NodeRow) (h : UnitEvent s t) :
    UnitEvent s (badFrame row x t) := by
  simp only [badFrame]
  apply_rules [postAll_event, loseSignal_event, setRecord_event]

theorem sampleAnalogue_event (r : Role) (code : Nat) (v : Int) (h : UnitEvent s t) :
    UnitEvent s (sampleAnalogue r code v t) := by
  simp only [sampleAnalogue]
  repeat' split
  all_goals apply_rules [badFrame_event, limitEvent_event, setRecord_event, postAll_event]

theorem sampleDigital_event (r : Role) (code : Nat) (v : Int) (h : UnitEvent s t) :
    UnitEvent s (sampleDigital r code v t) := by
  simp only [sampleDigital]
  repeat' split
  all_goals apply_rules [badFrame_event, setRecord_event, postAll_event, edgeEvent_event]

theorem countFrame_event (r : Role) (code : Nat) (n : Nat) (h : UnitEvent s t) :
    UnitEvent s (countFrame r code n t) := by
  simp only [countFrame]
  repeat' split
  all_goals apply_rules [badFrame_event, postAll_event, setRecord_event]

theorem vehDataFrame_event (r : Role) (d : VehData) (h : UnitEvent s t) :
    UnitEvent s (vehDataFrame r d t) := by
  simp only [vehDataFrame]
  repeat' split
  all_goals apply_rules [postAll_event, setRecord_event]

theorem freshnessExpiry_event (r : Role) (h : UnitEvent s t) :
    UnitEvent s (freshnessExpiry r t) := by
  simp only [freshnessExpiry]
  repeat' split
  all_goals apply_rules [postAll_event, loseSignal_event, setRecord_event]

/-! ### Banks -/

theorem evalInventory_event (b : Bank) (h : UnitEvent s t) :
    UnitEvent s (evalInventory b t) := by
  simp only [evalInventory]
  repeat' split
  all_goals apply_rules [updBank_event]

theorem clearInventory_event (b : Bank) (h : UnitEvent s t) :
    UnitEvent s (clearInventory b t) := by
  simp only [clearInventory]
  apply_rules [updBank_event]

theorem closeDraw_event (b : Bank) (p : Pos) (x : Session) (h : UnitEvent s t) :
    UnitEvent s (closeDraw b p x t) := by
  simp only [closeDraw]
  repeat' split
  all_goals apply_rules [updBank_event, notice_event, onlyIf_event, post_event]

theorem closeSession_event (b : Bank) (h : UnitEvent s t) :
    UnitEvent s (closeSession b t) := by
  simp only [closeSession]
  repeat' split
  all_goals apply_rules [closeDraw_event, updBank_event]

theorem leaveBankLists_event (p : Pos) (h : UnitEvent s t) : UnitEvent s (leaveBankLists p t) :=
  h.other rfl

theorem grantBank_event (b : Bank) (p : Pos) (h : UnitEvent s t) :
    UnitEvent s (grantBank b p t) := by
  simp only [grantBank]
  apply_rules [leaveBankLists_event, updBank_event]

theorem announce_event (b : Bank) (h : UnitEvent s t) :
    UnitEvent s (announce b t) := by
  simp only [announce]
  apply_rules [postAll_event]

theorem yieldBank_event (b : Bank) (h : UnitEvent s t) :
    UnitEvent s (yieldBank b t) := by
  simp only [yieldBank]
  apply_rules [post_event, close_event, closeSession_event]

theorem joinList_event (b : Bank) (p : Pos) (h : UnitEvent s t) :
    UnitEvent s (joinList b p t) := by
  simp only [joinList]
  repeat' split
  all_goals apply_rules [updBank_event, leaveBankLists_event]

theorem claimBank_event (p : Pos) (b : Bank) (h : UnitEvent s t) :
    UnitEvent s (claimBank p b t).2 := by
  simp only [claimBank]
  repeat' split
  all_goals apply_rules [grantBank_event, yieldBank_event, joinList_event]

theorem claimForCompressor_event (b : Bank) (h : UnitEvent s t) :
    UnitEvent s (claimForCompressor b t).2 := by
  unfold claimForCompressor
  split
  · exact h.other rfl
  · exact h

theorem withdrawBank_event (p : Pos) (h : UnitEvent s t) :
    UnitEvent s (withdrawBank p t).2 := by
  simp only [withdrawBank]
  repeat' split
  all_goals apply_rules [leaveBankLists_event]

theorem passBank_event (b : Bank) (h : UnitEvent s t) :
    UnitEvent s (passBank b t) := by
  simp only [passBank]
  repeat' split
  all_goals apply_rules [post_event, grantBank_event, announce_event, updBank_event]

theorem holderValve_isActuator (b : Bank) (x : Holder) : (holderValve b x).isActuator = true := by
  cases x <;> rfl

theorem releaseBank_event (b : Bank) (x : Holder) (h : UnitEvent s t) :
    UnitEvent s (releaseBank b x t) := by
  unfold releaseBank
  split
  · exact passBank_event b (close_event (closeSession_event b h) (holderValve_isActuator b x))
  · exact h

theorem tellLost_event (b : Bank) (c : LostCause) (h : UnitEvent s t) :
    UnitEvent s (tellLost b c t) := by
  simp only [tellLost]
  repeat' split
  all_goals apply_rules [post_event]

theorem cancelWaiters_event (b : Bank) (h : UnitEvent s t) :
    UnitEvent s (cancelWaiters b t) := by
  simp only [cancelWaiters]
  apply_rules [postAll_event, updBank_event]

theorem closeBankValves_event (b : Bank) (h : UnitEvent s t) :
    UnitEvent s (forEach (bankValves b) close t) := by
  simp only [bankValves, forEach_cons, forEach_nil]
  repeat' apply close_event
  all_goals first | exact h | rfl

theorem isolateBank_event (b : Bank) (c : IsoCause) (h : UnitEvent s t) :
    UnitEvent s (isolateBank b c t) := by
  simp only [isolateBank]
  split
  · exact h
  · have hclosed := closeBankValves_event b
      (cancelWaiters_event b (tellLost_event b (.isolated c) (closeSession_event b h)))
    exact notice_event _ _ _ (updBank_event b _ hclosed)

theorem overPressureCheck_event (b : Bank) (h : UnitEvent s t) :
    UnitEvent s (overPressureCheck b t) := by
  simp only [overPressureCheck]
  repeat' split
  all_goals apply_rules [isolateBank_event]

theorem bankSignalValue_event (b : Bank) (sg : BankSignal) (h : UnitEvent s t) :
    UnitEvent s (bankSignalValue b sg t) := by
  simp only [bankSignalValue]
  repeat' split
  all_goals apply_rules [evalInventory_event, overPressureCheck_event]

theorem bankSignalQuality_event (b : Bank) (sg : BankSignal) (h : UnitEvent s t) :
    UnitEvent s (bankSignalQuality b sg t) := by
  simp only [bankSignalQuality]
  repeat' split
  all_goals apply_rules [updBank_event, clearInventory_event, evalInventory_event]

theorem invalidateOpen_event (b : Bank) (h : UnitEvent s t) :
    UnitEvent s (invalidateOpen b t) := by
  simp only [invalidateOpen]
  apply_rules [updBank_event]

theorem bQChangeBank_event (b : Bank) (h : UnitEvent s t) :
    UnitEvent s (bQChangeBank b t) := by
  simp only [bQChangeBank]
  repeat' split
  all_goals apply_rules [updBank_event, invalidateOpen_event]

theorem bQChange_event (h : UnitEvent s t) : UnitEvent s (bQChange t) :=
  forEach_event _ _ (fun b _ => bQChangeBank_event b) (h.other rfl)

theorem positionClaim_event (p : Pos) (b : Bank) (h : UnitEvent s t) :
    UnitEvent s (positionClaim p b t) := by
  have hc := claimBank_event p b h
  unfold positionClaim
  split <;> rename_i e <;> rw [e] at hc
  · exact post_event _ hc
  · exact hc

theorem bankIncrement_event (p : Pos) (mg : Nat) (a : Attribution) (h : UnitEvent s t) :
    UnitEvent s (bankIncrement p mg a t) := by
  simp only [bankIncrement]
  repeat' split
  all_goals apply_rules [updBank_event]

theorem tripClaim_event (b : Bank) (h : UnitEvent s t) :
    UnitEvent s (tripClaim b t) := by
  simp only [tripClaim]
  apply_rules [tellLost_event, closeSession_event]

theorem freeBank_event (b : Bank) (h : UnitEvent s t) :
    UnitEvent s (freeBank b t) := by
  simp only [freeBank]
  apply_rules [updBank_event]

theorem bkmTrip_event (h : UnitEvent s t) : UnitEvent s (bkmTrip t) := by
  have hclaims := forEach_event t.claimedBanks tripClaim (fun b _ => tripClaim_event b) h
  have hlists := forEach_event Bank.all cancelWaiters (fun b _ => cancelWaiters_event b) hclaims
  have hfreed := forEach_event t.claimedBanks freeBank (fun b _ => freeBank_event b) hlists
  exact forEach_event _ _ (fun b _ => announce_event b) hfreed

theorem bankIsolateRequest_event (rq : Req) (n : Nat) (h : UnitEvent s t) :
    UnitEvent s (bankIsolateRequest rq n t) := by
  simp only [bankIsolateRequest]
  repeat' split
  all_goals apply_rules [Event.reply, isolateBank_event]

theorem bankReturnRequest_event (rq : Req) (n : Nat) (h : UnitEvent s t) :
    UnitEvent s (bankReturnRequest rq n t) := by
  simp only [bankReturnRequest]
  repeat' split
  all_goals apply_rules [Event.reply, announce_event, updBank_event]

/-! ### The compressor -/

theorem cmpReport_event (h : UnitEvent s t) :
    UnitEvent s (cmpReport t) := by
  simp only [cmpReport]
  apply_rules [postAll_event]

theorem cmpGoto_event (st : CmpState) (h : UnitEvent s t) :
    UnitEvent s (cmpGoto st t) := by
  simp only [cmpGoto]
  apply_rules [onlyIf_event, cmpReport_event, updCmp_event]

theorem ageHistory_event (h : UnitEvent s t) :
    UnitEvent s (ageHistory t) := by
  simp only [ageHistory]
  apply_rules [updRet_event]

theorem startCompressor_event (h : UnitEvent s t) :
    UnitEvent s (startCompressor t) := by
  simp only [startCompressor]
  apply_rules [updRet_event, ageHistory_event, updCmp_event, cmpGoto_event, Event.actuate]

theorem holdStart_event (r : HeldReason) (h : UnitEvent s t) :
    UnitEvent s (holdStart r t) := by
  simp only [holdStart]
  repeat' split
  all_goals apply_rules [notice_event, updCmp_event]

theorem endEpisode_event (h : UnitEvent s t) :
    UnitEvent s (endEpisode t) := by
  simp only [endEpisode]
  apply_rules [updCmp_event]

theorem noteRefillWant_event (h : UnitEvent s t) :
    UnitEvent s (noteRefillWant t) := by
  simp only [noteRefillWant]
  apply_rules [onlyIf_event, post_event, updCmp_event]

theorem startEval_event (h : UnitEvent s t) :
    UnitEvent s (startEval t) := by
  simp only [startEval]
  repeat' split
  all_goals apply_rules [noteRefillWant_event, startCompressor_event, holdStart_event, endEpisode_event]

theorem evalIfStopped_event (h : UnitEvent s t) :
    UnitEvent s (evalIfStopped t) := by
  simp only [evalIfStopped]
  apply_rules [onlyIf_event, startEval_event]

theorem enterCooldown_event (h : UnitEvent s t) :
    UnitEvent s (enterCooldown t) := by
  simp only [enterCooldown]
  repeat' split
  all_goals apply_rules [cmpGoto_event, updCmp_event, startEval_event]

theorem grantOutput_event (p : Pos) (h : UnitEvent s t) :
    UnitEvent s (grantOutput p t) := by
  simp only [grantOutput]
  apply_rules [cmpGoto_event, updCmp_event]

theorem claimRefill_event : ∀ (bs : List Bank) {t u : State}, UnitEvent s t →
    claimRefill bs t = some u → UnitEvent s u
  | [], _, _, _, hu => by simp [claimRefill] at hu
  | b :: bs, t, u, h, hu => by
    have hc := claimForCompressor_event b h
    unfold claimRefill at hu
    split at hu <;> rename_i e <;> rw [e] at hc
    · obtain rfl := Option.some.inj hu
      exact (cmpGoto_event _ (updCmp_event _ hc)).actuate _ _ _ rfl
    · exact claimRefill_event bs hc hu

theorem normalStop_event (h : UnitEvent s t) :
    UnitEvent s (normalStop t) := by
  simp only [normalStop]
  apply_rules [enterCooldown_event, close_event]

theorem stopIfDue_event (ranOut : Bool) (h : UnitEvent s t) :
    UnitEvent s (stopIfDue ranOut t) := by
  simp only [stopIfDue]
  repeat' split
  all_goals apply_rules [normalStop_event]

theorem tellGranted_event (h : UnitEvent s t) :
    UnitEvent s (tellGranted t) := by
  simp only [tellGranted]
  repeat' split
  all_goals apply_rules [post_event]

theorem chooseTarget_event (ranOut : Bool) (h : UnitEvent s t) : UnitEvent s (chooseTarget ranOut t) := by
  unfold chooseTarget
  split
  · exact grantOutput_event _ h
  · split
    · split
      · exact claimRefill_event _ h ‹_›
      · exact stopIfDue_event ranOut h
    · exact stopIfDue_event ranOut h

theorem targetChoice_event (ranOut : Bool) (h : UnitEvent s t) :
    UnitEvent s (targetChoice ranOut t) := by
  simp only [targetChoice]
  apply_rules [chooseTarget_event, tellGranted_event]

theorem enterUnloaded_event (h : UnitEvent s t) :
    UnitEvent s (enterUnloaded t) := by
  simp only [enterUnloaded]
  apply_rules [chooseTarget_event, cmpGoto_event, updCmp_event, tellGranted_event]

theorem chooseIfUnloaded_event (h : UnitEvent s t) :
    UnitEvent s (chooseIfUnloaded t) := by
  simp only [chooseIfUnloaded]
  apply_rules [onlyIf_event, targetChoice_event]

theorem endRefill_event (b : Bank) (h : UnitEvent s t) :
    UnitEvent s (endRefill b t) := by
  simp only [endRefill]
  apply_rules [enterUnloaded_event, releaseBank_event]

theorem releaseRefill_event (h : UnitEvent s t) :
    UnitEvent s (releaseRefill t) := by
  simp only [releaseRefill]
  repeat' split
  all_goals apply_rules [releaseBank_event]

theorem loseOutput_event (c : LostCause) (h : UnitEvent s t) :
    UnitEvent s (loseOutput c t) := by
  simp only [loseOutput]
  repeat' split
  all_goals apply_rules [post_event]

theorem dropDestination_event (c : LostCause) (h : UnitEvent s t) :
    UnitEvent s (dropDestination c t) := by
  simp only [dropDestination]
  apply_rules [updCmp_event, loseOutput_event, releaseRefill_event]

theorem supplyStop_event (h : UnitEvent s t) :
    UnitEvent s (supplyStop t) := by
  simp only [supplyStop]
  apply_rules [close_event, dropDestination_event, updCmp_event, enterCooldown_event, notice_event]

theorem signalStop_event (r : Role) (h : UnitEvent s t) :
    UnitEvent s (signalStop r t) := by
  simp only [signalStop]
  apply_rules [enterCooldown_event, notice_event, close_event, dropDestination_event]

theorem cancelOutputWaiters_event (h : UnitEvent s t) :
    UnitEvent s (cancelOutputWaiters t) := by
  simp only [cancelOutputWaiters]
  apply_rules [updCmp_event, postAll_event]

theorem lockout_event (cause : LockCause) (temp : Option Int) (h : UnitEvent s t) :
    UnitEvent s (lockout cause temp t) := by
  simp only [lockout]
  split
  · exact h
  · have hfreed := cancelOutputWaiters_event (dropDestination_event (.lockout cause) h)
    exact notice_event _ _ _ (cmpGoto_event _ (updCmp_event _ (close_event hfreed rfl)))

theorem completePriming_event (h : UnitEvent s t) :
    UnitEvent s (completePriming t) := by
  simp only [completePriming]
  apply_rules [onlyIf_event, enterUnloaded_event]

theorem bankAtCmp_event (b : Bank) (ends : Bool) (h : UnitEvent s t) :
    UnitEvent s (bankAtCmp b ends t) := by
  simp only [bankAtCmp]
  repeat' split
  all_goals apply_rules [endRefill_event, chooseIfUnloaded_event]

theorem cmpValue_event (r : Role) (h : UnitEvent s t) :
    UnitEvent s (cmpValue r t) := by
  simp only [cmpValue]
  repeat' split
  all_goals apply_rules [onlyIf_event, supplyStop_event, lockout_event, bankAtCmp_event]

theorem cmpQuality_event (r : Role) (h : UnitEvent s t) : UnitEvent s (cmpQuality r t) := by
  unfold cmpQuality
  split
  · exact onlyIf_event _ _ h (supplyStop_event h)
  · exact onlyIf_event _ _ h (signalStop_event _ h)
  · split
    · exact signalStop_event _ h
    · exact completePriming_event h
  · exact bankAtCmp_event _ _ h
  · exact h

theorem runningTransition_event (level : Bool) (h : UnitEvent s t) :
    UnitEvent s (runningTransition level t) := by
  simp only [runningTransition]
  repeat' split
  all_goals apply_rules [lockout_event, completePriming_event]

theorem cmpSignal_event (r : Role) (a : Arrival) (h : UnitEvent s t) : UnitEvent s (cmpSignal r a t) := by
  unfold cmpSignal
  split
  · exact onlyIf_event _ _ h (startEval_event h)
  · split
    · exact cmpValue_event r h
    · exact cmpQuality_event r h
    · split
      · exact runningTransition_event _ h
      · exact h
    · split
      · exact completePriming_event h
      · exact h

theorem joinOutput_event (p : Pos) (h : UnitEvent s t) :
    UnitEvent s (joinOutput p t) := by
  simp only [joinOutput]
  repeat' split
  all_goals apply_rules [updCmp_event]

theorem claimOutput_event (p : Pos) (h : UnitEvent s t) :
    UnitEvent s (claimOutput p t).2 := by
  simp only [claimOutput]
  repeat' split
  all_goals apply_rules [grantOutput_event, releaseBank_event, joinOutput_event, startEval_event]

theorem releaseOutput_event (p : Pos) (h : UnitEvent s t) :
    UnitEvent s (releaseOutput p t) := by
  simp only [releaseOutput]
  repeat' split
  all_goals apply_rules [enterUnloaded_event]

theorem withdrawOutput_event (p : Pos) (h : UnitEvent s t) : UnitEvent s (withdrawOutput p t).2 := by
  unfold withdrawOutput
  split
  · exact h.other rfl
  · split <;> exact h

theorem outputClaim_event (p : Pos) (h : UnitEvent s t) : UnitEvent s (outputClaim p t) := by
  have hc := claimOutput_event p h
  unfold outputClaim
  split <;> rename_i e
  · exact claimOutput_event p (post_event _ h)
  · rw [e] at hc
    exact hc

theorem cmpAnnouncement_event (h : UnitEvent s t) :
    UnitEvent s (cmpAnnouncement t) := by
  simp only [cmpAnnouncement]
  repeat' split
  all_goals apply_rules [startEval_event, targetChoice_event]

theorem refillGone_event (b : Bank) (h : UnitEvent s t) :
    UnitEvent s (refillGone b t) := by
  simp only [refillGone]
  repeat' split
  all_goals apply_rules [enterUnloaded_event]

theorem primeExpiry_event (h : UnitEvent s t) :
    UnitEvent s (primeExpiry t) := by
  simp only [primeExpiry]
  apply_rules [onlyIf_event, lockout_event]

theorem minRunExpiry_event (h : UnitEvent s t) :
    UnitEvent s (minRunExpiry t) := by
  simp only [minRunExpiry]
  apply_rules [onlyIf_event, targetChoice_event]

theorem offExpiry_event (h : UnitEvent s t) :
    UnitEvent s (offExpiry t) := by
  simp only [offExpiry]
  repeat' split
  all_goals apply_rules [updCmp_event, startEval_event, cmpGoto_event]

theorem historyAgeing_event (h : UnitEvent s t) :
    UnitEvent s (historyAgeing t) := by
  simp only [historyAgeing]
  repeat' split
  all_goals apply_rules [evalIfStopped_event, ageHistory_event]

theorem cmpModeChange_event (old : Mode) (h : UnitEvent s t) :
    UnitEvent s (cmpModeChange old t) := by
  simp only [cmpModeChange]
  repeat' split
  all_goals apply_rules [startEval_event, targetChoice_event, endRefill_event]

theorem cmpCommitted_event (was : Bool) (h : UnitEvent s t) :
    UnitEvent s (cmpCommitted was t) := by
  simp only [cmpCommitted]
  repeat' split
  all_goals apply_rules [evalIfStopped_event, updCmp_event, startEval_event, cmpReport_event, onlyIf_event,
    close_event]

theorem leaveLockout_event (h : UnitEvent s t) :
    UnitEvent s (leaveLockout t) := by
  simp only [leaveLockout]
  repeat' split
  all_goals apply_rules [updCmp_event, cmpGoto_event, startEval_event]

theorem lockoutClearRequest_event (rq : Req) (h : UnitEvent s t) :
    UnitEvent s (lockoutClearRequest rq t) := by
  simp only [lockoutClearRequest]
  repeat' split
  all_goals apply_rules [Event.reply, leaveLockout_event]

/-! ### Precooling -/

theorem setPending_event (p : Pos) (c : Option Category) (h : UnitEvent s t) :
    UnitEvent s (setPending p c t) := by
  simp only [setPending]
  apply_rules [updPcl_event]

theorem reEvaluateAt_event (p : Pos) (h : UnitEvent s t) : UnitEvent s (reEvaluateAt p t) := by
  unfold reEvaluateAt
  split
  · exact h
  · exact onlyIf_event _ _ h (post_event _ (setPending_event p none h))

theorem reEvaluate_event (h : UnitEvent s t) : UnitEvent s (reEvaluate t) :=
  forEach_event _ _ (fun p _ => reEvaluateAt_event p) h

theorem requestAdmission_event (p : Pos) (c : Category) (h : UnitEvent s t) :
    UnitEvent s (requestAdmission p c t).2 := by
  simp only [requestAdmission]
  repeat' split
  all_goals apply_rules [setPending_event]

theorem admissionRequest_event (p : Pos) (c : Category) (h : UnitEvent s t) :
    UnitEvent s (admissionRequest p c t) := by
  have hc := requestAdmission_event p c h
  unfold admissionRequest
  split <;> rename_i e <;> rw [e] at hc
  · exact post_event _ hc
  · exact hc

theorem admissionCancel_event (p : Pos) (h : UnitEvent s t) :
    UnitEvent s (admissionCancel p t) := by
  simp only [admissionCancel]
  apply_rules [setPending_event]

theorem chillerTo_event (st : ChillerState) (h : UnitEvent s t) :
    UnitEvent s (chillerTo st t) := by
  simp only [chillerTo]
  apply_rules [updPcl_event]

theorem enterReady_event (h : UnitEvent s t) :
    UnitEvent s (enterReady t) := by
  simp only [enterReady]
  repeat' split
  all_goals apply_rules [updPcl_event]

theorem applyThresholds_event (h : UnitEvent s t) :
    UnitEvent s (applyThresholds t) := by
  simp only [applyThresholds]
  repeat' split
  all_goals apply_rules [onlyIf_event, enterReady_event, chillerTo_event]

theorem startChiller_event (h : UnitEvent s t) :
    UnitEvent s (startChiller t) := by
  simp only [startChiller]
  repeat' split
  all_goals apply_rules [openFull_event, enterReady_event, chillerTo_event]

theorem stopPark_event (h : UnitEvent s t) :
    UnitEvent s (stopPark t) := by
  simp only [stopPark]
  apply_rules [updPcl_event]

theorem parkChiller_event (h : UnitEvent s t) :
    UnitEvent s (parkChiller t) := by
  simp only [parkChiller]
  apply_rules [stopPark_event, chillerTo_event, close_event]

theorem beginPark_event (h : UnitEvent s t) :
    UnitEvent s (beginPark t) := by
  simp only [beginPark]
  repeat' split
  all_goals apply_rules [parkChiller_event, updPcl_event]

theorem runEval_event (h : UnitEvent s t) :
    UnitEvent s (runEval t) := by
  simp only [runEval]
  repeat' split
  all_goals apply_rules [onlyIf_event, startChiller_event, stopPark_event, beginPark_event]

theorem enterChillerFault_event (c : ChillerCause) (h : UnitEvent s t) :
    UnitEvent s (enterChillerFault c t) := by
  simp only [enterChillerFault]
  repeat' split
  all_goals apply_rules [updPcl_event, stopPark_event, chillerTo_event, close_event, notice_event]

theorem leaveChillerFault_event (h : UnitEvent s t) :
    UnitEvent s (leaveChillerFault t) := by
  simp only [leaveChillerFault]
  repeat' split
  all_goals apply_rules [runEval_event, updPcl_event, chillerTo_event]

theorem chillerFaultDelivery_event (h : UnitEvent s t) :
    UnitEvent s (chillerFaultDelivery t) := by
  simp only [chillerFaultDelivery]
  repeat' split
  all_goals apply_rules [reEvaluate_event, enterChillerFault_event, leaveChillerFault_event]

theorem stabilised_event (h : UnitEvent s t) :
    UnitEvent s (stabilised t) := by
  simp only [stabilised]
  repeat' split
  all_goals apply_rules [reEvaluate_event, updPcl_event]

theorem parkExpiry_event (h : UnitEvent s t) :
    UnitEvent s (parkExpiry t) := by
  simp only [parkExpiry]
  repeat' split
  all_goals apply_rules [parkChiller_event]

/-- R81: the step clamps the reserve to the capacity. -/
theorem reserveAfter_le (r : ChillerRow) (runs : Bool) (n : Nat) : reserveAfter r runs n ≤ r.capacity := by
  have hle := clampInt_le (lo := 0) (hi := (r.capacity : Int)) (by omega)
    ((n : Int) + (if runs then r.recovery else 0) - r.loss)
  unfold reserveAfter
  push_cast at hle ⊢
  omega

theorem reserveStep_event (h : UnitEvent s t) : UnitEvent s (reserveStep t) := by
  unfold reserveStep
  split
  · exact reEvaluate_event (applyThresholds_event (h.reserve _ fun _ _ => reserveAfter_le _ _ _))
  · exact h

/-- R82: cold that is consumed only lowers the reserve. -/
theorem coldConsumption_event (p : Pos) (i : Increment) (h : UnitEvent s t) :
    UnitEvent s (coldConsumption p i t) := by
  unfold coldConsumption
  split
  · exact h
  · exact reEvaluate_event (applyThresholds_event
      (h.reserve _ fun hlaw hfit => (Nat.sub_le _ _).trans (hlaw hfit)))

theorem setMonitor_event (p : Pos) (m : Monitor) (h : UnitEvent s t) :
    UnitEvent s (setMonitor p m t) := by
  simp only [setMonitor]
  apply_rules [updPcl_event]

theorem enterMonitor_event (p : Pos) (h : UnitEvent s t) :
    UnitEvent s (enterMonitor p t) := by
  simp only [enterMonitor]
  repeat' split
  all_goals apply_rules [setMonitor_event]

theorem idleMonitor_event (p : Pos) (h : UnitEvent s t) :
    UnitEvent s (idleMonitor p t) := by
  simp only [idleMonitor]
  apply_rules [setMonitor_event]

theorem settleDemand_event (p : Pos) (h : UnitEvent s t) :
    UnitEvent s (settleDemand p t) := by
  simp only [settleDemand]
  repeat' split
  all_goals apply_rules [idleMonitor_event, setPending_event, onlyIf_event, enterMonitor_event]

theorem categoryReport_event (p : Pos) (c : Option Category) (entry : Bool) (h : UnitEvent s t) :
    UnitEvent s (categoryReport p c entry t) := by
  simp only [categoryReport]
  repeat' split
  all_goals apply_rules [updPcl_event, reEvaluate_event, runEval_event, settleDemand_event]

theorem sourceReport_event (p : Pos) (x : Source) (h : UnitEvent s t) :
    UnitEvent s (sourceReport p x t) := by
  simp only [sourceReport]
  apply_rules [updPcl_event]

theorem settleExpiry_event (p : Pos) (h : UnitEvent s t) :
    UnitEvent s (settleExpiry p t) := by
  simp only [settleExpiry]
  repeat' split
  all_goals apply_rules [setMonitor_event]

theorem outletArrival_event (p : Pos) (a : Arrival) (h : UnitEvent s t) :
    UnitEvent s (outletArrival p a t) := by
  simp only [outletArrival]
  repeat' split
  all_goals apply_rules [setMonitor_event]

theorem excursionExpiry_event (p : Pos) (h : UnitEvent s t) :
    UnitEvent s (excursionExpiry p t) := by
  simp only [excursionExpiry]
  repeat' split
  all_goals apply_rules [post_event, setMonitor_event]

theorem pclTrip_event (h : UnitEvent s t) :
    UnitEvent s (pclTrip t) := by
  simp only [pclTrip]
  repeat' split
  all_goals apply_rules [stopPark_event, chillerTo_event]

theorem pclModeChange_event (h : UnitEvent s t) :
    UnitEvent s (pclModeChange t) := by
  simp only [pclModeChange]
  apply_rules [reEvaluate_event, runEval_event]

/-- What R74 resets of PCL at a change of the fitted flag. -/
theorem zeroReserve_event (h : UnitEvent s t) :
    UnitEvent s (updPcl (fun k => { k with reserve := 0, cause := none }) t) :=
  (updPcl_event (fun k => { k with cause := none }) h rfl).reserve 0 fun _ _ => Nat.zero_le _

theorem unfitChiller_event (h : UnitEvent s t) : UnitEvent s (unfitChiller t) :=
  zeroReserve_event (stopPark_event (chillerTo_event _ (close_event h rfl)))

theorem fitChiller_event (h : UnitEvent s t) : UnitEvent s (fitChiller t) := by
  have hzero := zeroReserve_event (stopPark_event (chillerTo_event .parked h))
  simp only [fitChiller]
  split
  · exact enterChillerFault_event _ hzero
  · exact runEval_event hzero

theorem refitChiller_event (h : UnitEvent s t) : UnitEvent s (refitChiller t) :=
  runEval_event (applyThresholds_event (h.reserve _ fun _ _ => Nat.min_le_right _ _))

theorem pclCommitted_event (was : Bool) (h : UnitEvent s t) :
    UnitEvent s (pclCommitted was t) := by
  simp only [pclCommitted]
  repeat' split
  all_goals apply_rules [reEvaluate_event, unfitChiller_event, fitChiller_event, refitChiller_event]

/-! ### Metering -/

/-- R149: the three masses are no figures of the tender. -/
theorem writeSnapshot_event (p : Pos) (h : UnitEvent s t) : UnitEvent s (writeSnapshot p t) := by
  refine h.other ?_
  have hsame : (t.ret.snapshots.set p ((t.ret.snapshots.get p).map fun x =>
      { x with fill := (t.meter p).fill, afterRun := (t.meter p).afterRun,
               unattr := (t.meter p).unattr })).map (Option.map Snapshot.tender)
        = t.ret.snapshots.map (Option.map Snapshot.tender) := by
    obtain ⟨a, b, c, d⟩ := t.ret.snapshots
    cases p <;> simp [PerPos.map, PerPos.set, PerPos.get, Function.comp_def, Snapshot.tender] <;> rfl
  simp [writeSnapshot, State.kept, State.ringPart, State.fundsPart, State.chillerRow, hsame]

theorem addTotal_event (p : Pos) (mg : Nat) (h : UnitEvent s t) :
    UnitEvent s (addTotal p mg t) := by
  simp only [addTotal]
  apply_rules [updRet_event]

theorem fillIncrement_event (p : Pos) (mg : Nat) (a : Attribution) (u : Bool) (h : UnitEvent s t) :
    UnitEvent s (fillIncrement p mg a u t) := by
  simp only [fillIncrement]
  apply_rules [writeSnapshot_event, updMeter_event, postAll_event]

theorem outsideIncrement_event (p : Pos) (mg : Nat) (count : Nat) (h : UnitEvent s t) :
    UnitEvent s (outsideIncrement p mg count t) := by
  simp only [outsideIncrement]
  repeat' split
  all_goals apply_rules [updMeter_event, notice_event, postAll_event]

theorem acceptIncrement_event (p : Pos) (mg : Nat) (count : Nat) (u : Bool) (h : UnitEvent s t) :
    UnitEvent s (acceptIncrement p mg count u t) := by
  simp only [acceptIncrement]
  repeat' split
  all_goals apply_rules [addTotal_event, outsideIncrement_event, fillIncrement_event]

theorem meterFault_event (p : Pos) (baseline : Nat) (count : Nat) (h : UnitEvent s t) :
    UnitEvent s (meterFault p baseline count t) := by
  simp only [meterFault]
  apply_rules [post_event, notice_event, updMeter_event]

theorem takeCount_event (p : Pos) (count : Nat) (u : Bool) (h : UnitEvent s t) :
    UnitEvent s (takeCount p count u t) := by
  simp only [takeCount]
  repeat' split
  all_goals apply_rules [updMeter_event, meterFault_event, acceptIncrement_event]

theorem meterCount_event (p : Pos) (h : UnitEvent s t) :
    UnitEvent s (meterCount p t) := by
  simp only [meterCount]
  apply_rules [takeCount_event]

theorem dropBaseline_event (p : Pos) (h : UnitEvent s t) :
    UnitEvent s (dropBaseline p t) := by
  simp only [dropBaseline]
  apply_rules [updMeter_event]

theorem meterQuality_event (p : Pos) (h : UnitEvent s t) :
    UnitEvent s (meterQuality p t) := by
  simp only [meterQuality]
  repeat' split
  all_goals apply_rules [dropBaseline_event]

theorem openFigures_event (p : Pos) (h : UnitEvent s t) :
    UnitEvent s (openFigures p t) := by
  simp only [openFigures]
  apply_rules [updMeter_event]

theorem closeFigures_event (p : Pos) (h : UnitEvent s t) :
    UnitEvent s (closeFigures p t) := by
  simp only [closeFigures]
  apply_rules [updMeter_event]

theorem clearAlarms_event (p : Pos) (h : UnitEvent s t) :
    UnitEvent s (clearAlarms p t) := by
  simp only [clearAlarms]
  apply_rules [updMeter_event]

/-! ### Filling -/

theorem goState_event (p : Pos) (st : PState) (h : UnitEvent s t) : UnitEvent s (goState p st t) :=
  onlyIf_event _ _ (h.other rfl) (post_event _ (h.other rfl))

theorem evalAvailability_event (p : Pos) (h : UnitEvent s t) :
    UnitEvent s (evalAvailability p t) := by
  simp only [evalAvailability]
  repeat' split
  all_goals apply_rules [goState_event]

theorem evalAllAvailability_event (h : UnitEvent s t) : UnitEvent s (evalAllAvailability t) :=
  forEach_event _ _ (fun p _ => evalAvailability_event p) h

theorem toIdle_event (p : Pos) (h : UnitEvent s t) :
    UnitEvent s (toIdle p t) := by
  simp only [toIdle]
  repeat' split
  all_goals apply_rules [goState_event]

theorem closeFlow_event (p : Pos) (h : UnitEvent s t) :
    UnitEvent s (closeFlow p t) := by
  simp only [closeFlow]
  apply_rules [close_event]

theorem closeDrawn_event (p : Pos) (h : UnitEvent s t) :
    UnitEvent s (closeDrawn p t) := by
  simp only [closeDrawn]
  repeat' split
  all_goals apply_rules [close_event]

theorem openDrawn_event (p : Pos) (h : UnitEvent s t) :
    UnitEvent s (openDrawn p t) := by
  simp only [openDrawn]
  repeat' split
  all_goals apply_rules [openFull_event]

theorem setOpening_event (p : Pos) (n : Nat) (h : UnitEvent s t) :
    UnitEvent s (setOpening p n t) := by
  simp only [setOpening]
  apply_rules [Event.actuate, updCtx_event]

theorem openFlow_event (p : Pos) (h : UnitEvent s t) :
    UnitEvent s (openFlow p t) := by
  simp only [openFlow]
  apply_rules [Event.actuate, openFull_event, openDrawn_event]

theorem markFault_event (p : Pos) (f : FaultCause) (h : UnitEvent s t) :
    UnitEvent s (markFault p f t) := by
  simp only [markFault]
  apply_rules [updCtx_event]

theorem enterFault_event (p : Pos) (h : UnitEvent s t) :
    UnitEvent s (enterFault p t) := by
  simp only [enterFault]
  apply_rules [notice_event, goState_event, closeFlow_event]

theorem faultNow_event (p : Pos) (f : FaultCause) (h : UnitEvent s t) :
    UnitEvent s (faultNow p f t) := by
  simp only [faultNow]
  apply_rules [enterFault_event, updCtx_event]

theorem endHangUp_event (p : Pos) (h : UnitEvent s t) :
    UnitEvent s (endHangUp p t) := by
  simp only [endHangUp]
  repeat' split
  all_goals apply_rules [enterFault_event, toIdle_event]

theorem enterHangUp_event (p : Pos) (h : UnitEvent s t) : UnitEvent s (enterHangUp p t) :=
  have hgone := goState_event p .hangUp h
  onlyIf_event _ _ hgone (endHangUp_event p hgone)

theorem ventDone_event (p : Pos) (h : UnitEvent s t) :
    UnitEvent s (ventDone p t) := by
  simp only [ventDone]
  repeat' split
  all_goals apply_rules [enterFault_event, enterHangUp_event]

theorem enterVenting_event (p : Pos) (h : UnitEvent s t) :
    UnitEvent s (enterVenting p t) := by
  simp only [enterVenting]
  repeat' split
  all_goals apply_rules [goState_event, ventDone_event, updTimers_event, openFull_event]

/-- The holder counts of the fill tables are no part of the laws (R97, R98). -/
theorem setFill_kept (k : PClass) (f : FillCopy) (u : State) :
    (updTables (fun x => x.setFill k f) u).kept = u.kept := by
  cases k <;> rfl

theorem latchGen_event (k : PClass) (h : UnitEvent s t) : UnitEvent s (latchGen k t) :=
  h.other (setFill_kept k _ t)

theorem releaseGen_event (k : PClass) (gen : Nat) (h : UnitEvent s t) :
    UnitEvent s (releaseGen k gen t) :=
  h.other (setFill_kept k ((t.tables.fill k).release gen) t)

theorem leaveEnding_event (p : Pos) (h : UnitEvent s t) :
    UnitEvent s (leaveEnding p t) := by
  simp only [leaveEnding]
  repeat' split
  all_goals apply_rules [goState_event, postAll_event, updCtx_event, closeFigures_event, enterHangUp_event,
    enterVenting_event]

theorem tryLeave_event (p : Pos) (h : UnitEvent s t) :
    UnitEvent s (tryLeave p t) := by
  simp only [tryLeave]
  apply_rules [onlyIf_event, leaveEnding_event]

theorem releaseAwaited_event (p : Pos) (b : Bank) (h : UnitEvent s t) :
    UnitEvent s (releaseAwaited p b t) :=
  releaseBank_event b _ (onlyIf_event _ _ h (updCtx_event p _ h))

theorem releaseSource_event (p : Pos) (h : UnitEvent s t) :
    UnitEvent s (releaseSource p t) := by
  simp only [releaseSource]
  repeat' split
  all_goals apply_rules [updCtx_event, releaseAwaited_event, releaseOutput_event]

theorem dropWait_event (p : Pos) (h : UnitEvent s t) : UnitEvent s (dropWait p t) := by
  have withdrawn {u : State} (hu : UnitEvent s u) :
      UnitEvent s (match withdrawOutput p u with
        | (.holding, v) => releaseOutput p v
        | (.withdrawn, v) => v) := by
    have hw := withdrawOutput_event p hu
    split <;> rename_i e <;> rw [e] at hw
    · exact releaseOutput_event p hw
    · exact hw
  simp only [dropWait]
  split
  · exact h
  · apply withdrawn
    have hb := withdrawBank_event p (updCtx_event p (fun c => { c with waitOn := none }) h)
    split <;> rename_i e <;> rw [e] at hb
    · exact releaseAwaited_event p _ hb
    · exact hb

theorem endFill_event (p : Pos) (r : EndReason) (h : UnitEvent s t) : UnitEvent s (endFill p r t) := by
  simp only [endFill]
  split
  · exact h
  · have hclosed := closeDrawn_event p (closeFlow_event p (updCtx_event p (fun c =>
      { c with endReason := some r, endTime := t.ret.clock, opening := 0 }) h))
    have hfreed := admissionCancel_event p (dropWait_event p (releaseSource_event p hclosed))
    have htold := onlyIf_event (t.ctx p).fromMain (post (.mainLeaveReport p)) hfreed
      (post_event _ hfreed)
    exact tryLeave_event p (goState_event p .ending (updCtx_event p _ htold))

theorem faultEvent_event (p : Pos) (f : FaultCause) (r : EndReason) (h : UnitEvent s t) :
    UnitEvent s (faultEvent p f r t) := by
  simp only [faultEvent]
  repeat' split
  all_goals apply_rules [faultNow_event, endFill_event, markFault_event]

theorem claimEntry_event (p : Pos) (x : Source) (h : UnitEvent s t) : UnitEvent s (claimEntry p x t).2 := by
  unfold claimEntry
  split
  · have hw := withdrawOutput_event p h
    split <;> rename_i e <;> rw [e] at hw
    · exact hw
    · exact claimBank_event p _ hw
  · have hw := withdrawBank_event p h
    split <;> rename_i e <;> rw [e] at hw
    · exact hw
    · exact claimOutput_event p hw

theorem withdrawEntry_event (p : Pos) (x : Source) (h : UnitEvent s t) :
    UnitEvent s (withdrawEntry p x t) := by
  simp only [withdrawEntry]
  repeat' split
  all_goals apply_rules [withdrawBank_event, withdrawOutput_event]

theorem walkFree_event (p : Pos) : ∀ (xs : List Source) {t : State}, UnitEvent s t →
    UnitEvent s (walkFree p xs t).2
  | [], _, h => h
  | x :: xs, t, h => by
    have hc := claimEntry_event p x h
    unfold walkFree
    split <;> rename_i e <;> rw [e] at hc
    · exact hc
    · exact hc
    · exact walkFree_event p xs (withdrawEntry_event p x hc)
    · exact walkFree_event p xs hc

theorem walkWait_event (p : Pos) (xs : List Source) (h : UnitEvent s t) :
    UnitEvent s (walkWait p xs t).2 := by
  cases xs with
  | nil => exact h
  | cons x xs =>
    have hc := claimEntry_event p x h
    simp only [walkWait]
    split <;> rename_i e <;> rw [e] at hc <;> exact hc

theorem walk_event (p : Pos) (h : UnitEvent s t) : UnitEvent s (walk p t).2 := by
  have hf := walkFree_event p
    (((t.sequence (t.posRow p).pclass).filter (t.suitable p)).filter t.isFree) h
  simp only [walk]
  split <;> rename_i e <;> rw [e] at hf
  · exact hf
  · exact walkWait_event p _ hf

theorem takeSource_event (p : Pos) (x : Source) (h : UnitEvent s t) :
    UnitEvent s (takeSource p x t) := by
  simp only [takeSource]
  apply_rules [post_event, updCtx_event]

theorem startPulse_event (p : Pos) (h : UnitEvent s t) :
    UnitEvent s (startPulse p t) := by
  simp only [startPulse]
  apply_rules [setOpening_event, openFull_event, openDrawn_event, goState_event, updTimers_event]

theorem anchorRamp_event (p : Pos) (h : UnitEvent s t) :
    UnitEvent s (anchorRamp p t) := by
  simp only [anchorRamp]
  apply_rules [updCtx_event]

theorem beginMain_event (p : Pos) (h : UnitEvent s t) :
    UnitEvent s (beginMain p t) := by
  simp only [beginMain]
  apply_rules [post_event, goState_event, openFlow_event, onlyIf_event, anchorRamp_event]

theorem enterBankWait_event (p : Pos) (x : Source) (st : WaitStage) (h : UnitEvent s t) :
    UnitEvent s (enterBankWait p x st t) :=
  (goState_event p .bankWait (closeFlow_event p h)).other rfl

theorem enterStage_event (p : Pos) (st : WaitStage) (h : UnitEvent s t) :
    UnitEvent s (enterStage p st t) := by
  simp only [enterStage]
  repeat' split
  all_goals apply_rules [startPulse_event, beginMain_event]

theorem walkStage_event (p : Pos) (st : WaitStage) (h : UnitEvent s t) : UnitEvent s (walkStage p st t) := by
  have hw := walk_event p h
  unfold walkStage
  split
  · exact h
  · split <;> rename_i e <;> rw [e] at hw
    · exact enterStage_event p st (takeSource_event p _ hw)
    · exact enterBankWait_event p _ st hw
    · exact endFill_event p _ hw

theorem setCauses_event (p : Pos) (halt : Bool) (h : UnitEvent s t) :
    UnitEvent s (setCauses p halt t) := by
  simp only [setCauses]
  repeat' split
  all_goals apply_rules [updCtx_event]

theorem pauseIn_event (p : Pos) (r : ResumeStage) (h : UnitEvent s t) :
    UnitEvent s (pauseIn p r t) := by
  simp only [pauseIn]
  apply_rules [goState_event, updCtx_event]

theorem goMain_event (p : Pos) (h : UnitEvent s t) :
    UnitEvent s (goMain p t) := by
  simp only [goMain]
  repeat' split
  all_goals apply_rules [updTimers_event, pauseIn_event, walkStage_event]

theorem enterLeakCheck_event (p : Pos) (h : UnitEvent s t) : UnitEvent s (enterLeakCheck p t) := by
  have href := updCtx_event p (fun c => { c with leakRef := t.nozzle p }) h
  simp only [enterLeakCheck]
  split
  · exact pauseIn_event p _ href
  · exact updTimers_event p _ (goState_event p _ href)

theorem takePause_event (p : Pos) (h : UnitEvent s t) :
    UnitEvent s (takePause p t) := by
  simp only [takePause]
  repeat' split
  all_goals apply_rules [pauseIn_event, releaseSource_event, closeFlow_event, updTimers_event, post_event,
    closeDrawn_event]

theorem resumeMain_event (p : Pos) (h : UnitEvent s t) :
    UnitEvent s (resumeMain p t) := by
  simp only [resumeMain]
  repeat' split
  all_goals apply_rules [updCtx_event, beginMain_event, goMain_event]

theorem resumeStage_event (p : Pos) (h : UnitEvent s t) : UnitEvent s (resumeStage p t) := by
  unfold resumeStage
  split
  · split
    · exact walkStage_event p .pulse h
    · exact enterLeakCheck_event p h
    · exact resumeMain_event p h
  · exact h

theorem followCauses_event (p : Pos) (h : UnitEvent s t) :
    UnitEvent s (followCauses p t) := by
  simp only [followCauses]
  repeat' split
  all_goals apply_rules [takePause_event, resumeStage_event]

theorem reviewCauses_event (p : Pos) (halt : Bool) (h : UnitEvent s t) :
    UnitEvent s (reviewCauses p halt t) := by
  simp only [reviewCauses]
  repeat' split
  all_goals apply_rules [followCauses_event, setCauses_event]

theorem leaveBankWait_event (p : Pos) (x : Source) (h : UnitEvent s t) :
    UnitEvent s (leaveBankWait p x t) := by
  simp only [leaveBankWait]
  repeat' split
  all_goals apply_rules [takeSource_event, pauseIn_event, releaseSource_event, enterStage_event]

theorem freshWalk_event (p : Pos) (h : UnitEvent s t) : UnitEvent s (freshWalk p t) := by
  have hw := walk_event p h
  unfold freshWalk
  split
  · exact h
  · split <;> rename_i e <;> rw [e] at hw
    · exact leaveBankWait_event p _ hw
    · exact updCtx_event p _ hw
    · exact endFill_event p _ hw

theorem serveWaiters_event (h : UnitEvent s t) : UnitEvent s (serveWaiters t) := by
  refine forEach_event _ _ (fun p u hu => ?_) h
  split
  · exact freshWalk_event p hu
  · exact hu

theorem walkOn_event (p : Pos) (h : UnitEvent s t) : UnitEvent s (walkOn p t) := by
  have hw := walk_event p h
  unfold walkOn
  split
  · exact h
  · split <;> rename_i e <;> rw [e] at hw
    · exact openDrawn_event p (takeSource_event p _ hw)
    · exact post_event _ (enterBankWait_event p _ .main hw)
    · exact endFill_event p _ hw

theorem switchSource_event (p : Pos) (h : UnitEvent s t) :
    UnitEvent s (switchSource p t) := by
  simp only [switchSource]
  apply_rules [walkOn_event, releaseSource_event]

theorem makeLookup_event (p : Pos) (h : UnitEvent s t) :
    UnitEvent s (makeLookup p t) := by
  simp only [makeLookup]
  apply_rules [updCtx_event]

theorem setCategory_event (p : Pos) (c : Category) (x : Selection) (h : UnitEvent s t) :
    UnitEvent s (setCategory p c x t) := by
  simp only [setCategory]
  apply_rules [post_event, updCtx_event]

theorem event_of_eq {α : Type} {a : α} {x : α × State} {u : State} (e : x = (a, u))
    (h : UnitEvent s x.2) : UnitEvent s u := by
  rwa [e] at h

theorem precoolExpired_event (wait : State → State) (hwait : ∀ u, UnitEvent s u → UnitEvent s (wait u))
    (p : Pos) (h : UnitEvent s t) : UnitEvent s (precoolExpired wait p t) := by
  have hstop := admissionCancel_event p (updTimers_event p (fun x => { x with precool := none }) h)
  simp only [precoolExpired]
  split
  · split
    · exact endFill_event p _ hstop
    · have hset c y := updCtx_event p (fun k => { k with fellBack := true })
        (setCategory_event p c y hstop)
      split
      · exact goMain_event p (reviewCauses_event p _ (hset _ _))
      · split <;> rename_i e
        · exact goMain_event p (event_of_eq e (requestAdmission_event p _ (reviewCauses_event p _ (hset _ _))))
        · exact hwait _ (event_of_eq e (requestAdmission_event p _ (reviewCauses_event p _ (hset _ _))))
  · exact endFill_event p _ hstop

theorem precoolWait_event : ∀ (n : Nat) (p : Pos) {t : State}, UnitEvent s t →
    UnitEvent s (precoolWait n p t)
  | 0, _, _, h => h
  | n + 1, p, t, h => by
    have hin := updTimers_event p
      (fun x => { x with precool := startSeconds (t.params p).precoolWait }) (goState_event p .precoolWait h)
    simp only [precoolWait]
    split
    · exact precoolExpired_event _ (fun u hu => precoolWait_event n p hu) p hin
    · exact hin

theorem askAdmission_event (p : Pos) (h : UnitEvent s t) : UnitEvent s (askAdmission p t) := by
  simp only [askAdmission]
  split
  · exact goMain_event p h
  · have hr := requestAdmission_event p (t.ctx p).category h
    split <;> rename_i e <;> rw [e] at hr
    · exact goMain_event p hr
    · exact precoolWait_event 2 p hr

theorem dropLink_event (p : Pos) (d : DropCause) (h : UnitEvent s t) :
    UnitEvent s (dropLink p d t) := by
  simp only [dropLink]
  apply_rules [notice_event, updCtx_event]

theorem dropAndCheck_event (p : Pos) (d : DropCause) (h : UnitEvent s t) :
    UnitEvent s (dropAndCheck p d t) := by
  simp only [dropAndCheck]
  apply_rules [dropLink_event, onlyIf_event, endFill_event]

theorem judgeMismatch_event (p : Pos) (h : UnitEvent s t) :
    UnitEvent s (judgeMismatch p t) := by
  simp only [judgeMismatch]
  repeat' split
  all_goals apply_rules [updTimers_event]

theorem keepLink_event (p : Pos) (h : UnitEvent s t) :
    UnitEvent s (keepLink p t) := by
  simp only [keepLink]
  apply_rules [updCtx_event]

theorem judgeLink_event (p : Pos) (h : UnitEvent s t) :
    UnitEvent s (judgeLink p t) := by
  simp only [judgeLink]
  repeat' split
  all_goals apply_rules [updCtx_event, judgeMismatch_event, keepLink_event, dropLink_event]

theorem enterPulse_event (p : Pos) (h : UnitEvent s t) :
    UnitEvent s (enterPulse p t) := by
  simp only [enterPulse]
  repeat' split
  all_goals apply_rules [updCtx_event, goState_event, setCauses_event, pauseIn_event, walkStage_event]

theorem authorise_event (p : Pos) (txn : Nat) (kind : TenderKind) (cap : Nat) (h : UnitEvent s t) :
    UnitEvent s (authorise p txn kind cap t) := by
  simp only [authorise]
  split
  all_goals apply_rules [updCtx_event, latchGen_event, openFigures_event, post_event, goState_event,
    enterPulse_event]

/-! ### The fill engine's events -/

theorem cancelFill_event (p : Pos) (h : UnitEvent s t) :
    UnitEvent s (cancelFill p t) := by
  simp only [cancelFill]
  repeat' split
  all_goals apply_rules [toIdle_event, releaseGen_event, post_event, closeFigures_event, updCtx_event]

theorem holsterTransition_event (p : Pos) (h : UnitEvent s t) :
    UnitEvent s (holsterTransition p t) := by
  simp only [holsterTransition]
  repeat' split
  all_goals apply_rules [goState_event, cancelFill_event, endHangUp_event, onlyIf_event, endFill_event]

theorem coupledTransition_event (p : Pos) (h : UnitEvent s t) :
    UnitEvent s (coupledTransition p t) := by
  simp only [coupledTransition]
  repeat' split
  all_goals apply_rules [enterPulse_event, onlyIf_event, endFill_event]

theorem rampStep_event (p : Pos) (target : Int) (h : UnitEvent s t) :
    UnitEvent s (rampStep p target t) := by
  simp only [rampStep]
  repeat' split
  all_goals apply_rules [setOpening_event]

theorem switchByNozzle_event (p : Pos) (h : UnitEvent s t) :
    UnitEvent s (switchByNozzle p t) := by
  simp only [switchByNozzle]
  repeat' split
  all_goals apply_rules [onlyIf_event, switchSource_event]

theorem nozzleInMain_event (p : Pos) (h : UnitEvent s t) :
    UnitEvent s (nozzleInMain p t) := by
  simp only [nozzleInMain]
  repeat' split
  all_goals apply_rules [endFill_event, updCtx_event, switchByNozzle_event, onlyIf_event, rampStep_event]

theorem nozzleInVenting_event (p : Pos) (h : UnitEvent s t) :
    UnitEvent s (nozzleInVenting p t) := by
  simp only [nozzleInVenting]
  repeat' split
  all_goals apply_rules [ventDone_event, updTimers_event, close_event]

theorem ceilingCheck_event (p : Pos) (h : UnitEvent s t) :
    UnitEvent s (ceilingCheck p t) := by
  simp only [ceilingCheck]
  apply_rules [onlyIf_event, faultEvent_event]

theorem nozzlePressure_event (p : Pos) (h : UnitEvent s t) :
    UnitEvent s (nozzlePressure p t) := by
  simp only [nozzlePressure]
  repeat' split
  all_goals apply_rules [ceilingCheck_event, nozzleInVenting_event, judgeMismatch_event, nozzleInMain_event]

theorem bankPressureAt_event (b : Bank) (a : Arrival) (p : Pos) (h : UnitEvent s t) :
    UnitEvent s (bankPressureAt b a p t) := by
  simp only [bankPressureAt]
  repeat' split
  all_goals apply_rules [onlyIf_event, switchSource_event]

theorem filBankPressure_event (b : Bank) (a : Arrival) (h : UnitEvent s t) :
    UnitEvent s (filBankPressure b a t) :=
  forEach_event _ _ (fun p _ => bankPressureAt_event b a p) h

theorem applyCommand_event (p : Pos) (f : VehicleFields) (h : UnitEvent s t) :
    UnitEvent s (applyCommand p f t) := by
  simp only [applyCommand]
  apply_rules [setCauses_event]

theorem vehicleData_event (p : Pos) (h : UnitEvent s t) :
    UnitEvent s (vehicleData p t) := by
  simp only [vehicleData]
  repeat' split
  all_goals apply_rules [judgeLink_event, applyCommand_event, updCtx_event, endFill_event, followCauses_event]

theorem signalQuality_event (p : Pos) (h : UnitEvent s t) :
    UnitEvent s (signalQuality p t) := by
  simp only [signalQuality]
  apply_rules [reviewCauses_event]

theorem releaseUnwanted_event (p : Pos) (x : Source) (h : UnitEvent s t) :
    UnitEvent s (releaseUnwanted p x t) := by
  simp only [releaseUnwanted]
  repeat' split
  all_goals apply_rules [releaseAwaited_event, releaseOutput_event]

theorem granted_event (p : Pos) (x : Source) (h : UnitEvent s t) :
    UnitEvent s (granted p x t) := by
  simp only [granted]
  repeat' split
  all_goals apply_rules [leaveBankWait_event, releaseUnwanted_event]

theorem waitEnded_event (p : Pos) (x : Source) (h : UnitEvent s t) :
    UnitEvent s (waitEnded p x t) := by
  simp only [waitEnded]
  repeat' split
  all_goals apply_rules [freshWalk_event, updCtx_event]

theorem lostInPulse_event (p : Pos) (h : UnitEvent s t) :
    UnitEvent s (lostInPulse p t) := by
  simp only [lostInPulse]
  apply_rules [walkStage_event, closeFlow_event, updTimers_event]

theorem clearAwaited_event (p : Pos) (b : Bank) (h : UnitEvent s t) :
    UnitEvent s (clearAwaited p b t) := by
  simp only [clearAwaited]
  apply_rules [updCtx_event]

theorem clearLost_event (p : Pos) (x : Source) (h : UnitEvent s t) :
    UnitEvent s (clearLost p x t) := by
  simp only [clearLost]
  repeat' split
  all_goals apply_rules [clearAwaited_event]

theorem lost_event (p : Pos) (x : Source) (h : UnitEvent s t) :
    UnitEvent s (lost p x t) := by
  simp only [lost]
  repeat' split
  all_goals apply_rules [clearLost_event, updCtx_event, lostInPulse_event, walkOn_event, tryLeave_event,
    waitEnded_event]

theorem sessionOutcome_event (p : Pos) (b : Bank) (o : DrawOutcome) (h : UnitEvent s t) :
    UnitEvent s (sessionOutcome p b o t) := by
  simp only [sessionOutcome]
  repeat' split
  all_goals apply_rules [tryLeave_event, clearAwaited_event, updCtx_event]

theorem admitted_event (p : Pos) (c : Category) (h : UnitEvent s t) :
    UnitEvent s (admitted p c t) := by
  simp only [admitted]
  repeat' split
  all_goals apply_rules [goMain_event]

theorem reRate_event (p : Pos) (old : Category) (new : Category) (x : Selection) (outlet : Int)
    (h : UnitEvent s t) :
    UnitEvent s (reRate p old new x outlet t) := by
  simp only [reRate]
  repeat' split
  all_goals apply_rules [anchorRamp_event, updCtx_event, setCategory_event, notice_event, endFill_event,
    reviewCauses_event]

theorem reRateRequest_event (p : Pos) (c : Category) (outlet : Int) (h : UnitEvent s t) :
    UnitEvent s (reRateRequest p c outlet t) := by
  simp only [reRateRequest]
  repeat' split
  all_goals apply_rules [endFill_event, reRate_event]

theorem unauthorisedFlow_event (p : Pos) (h : UnitEvent s t) :
    UnitEvent s (unauthorisedFlow p t) := by
  simp only [unauthorisedFlow]
  repeat' split
  all_goals apply_rules [faultEvent_event]

theorem massReport_event (p : Pos) (mass : Nat) (uncertain : Bool) (h : UnitEvent s t) :
    UnitEvent s (massReport p mass uncertain t) := by
  simp only [massReport]
  apply_rules [onlyIf_event, updMeter_event, endFill_event]

theorem expire_event (p : Pos) (left : PosTimers → Option Nat) (stop : PosTimers → PosTimers)
    (f : State → State) (hf : ∀ u, UnitEvent s u → UnitEvent s (f u)) (h : UnitEvent s t) :
    UnitEvent s (expire p left stop f t) := by
  unfold expire
  split
  · exact hf _ (updTimers_event p stop h)
  · exact h

theorem fillExpiry_event (p : Pos) (h : UnitEvent s t) : UnitEvent s (fillExpiry p t) :=
  expire_event p _ _ _ (fun _ => endFill_event p _) h

theorem pulseEnd_event (p : Pos) (h : UnitEvent s t) : UnitEvent s (pulseEnd p t) := by
  have hfreed := releaseSource_event p
    (updCtx_event p (fun c => { c with opening := 0 }) (closeFlow_event p h))
  simp only [pulseEnd]
  repeat' split
  all_goals apply_rules [endFill_event, enterLeakCheck_event, updCtx_event]

theorem pulseExpiry_event (p : Pos) (h : UnitEvent s t) : UnitEvent s (pulseExpiry p t) :=
  expire_event p _ _ _ (fun _ => pulseEnd_event p) h

theorem endPending_event (p : Pos) (h : UnitEvent s t) :
    UnitEvent s (endPending p t) := by
  simp only [endPending]
  apply_rules [updCtx_event]

theorem leakEnd_event (p : Pos) (h : UnitEvent s t) :
    UnitEvent s (leakEnd p t) := by
  simp only [leakEnd]
  repeat' split
  all_goals apply_rules [endFill_event, makeLookup_event, endPending_event, askAdmission_event]

theorem leakExpiry_event (p : Pos) (h : UnitEvent s t) : UnitEvent s (leakExpiry p t) :=
  expire_event p _ _ _ (fun _ => leakEnd_event p) h

theorem precoolExpiry_event (p : Pos) (h : UnitEvent s t) : UnitEvent s (precoolExpiry p t) :=
  expire_event p _ _ _ (fun _ => precoolExpired_event _ (fun _ => precoolWait_event 1 p) p) h

theorem bankWaitExpiry_event (p : Pos) (h : UnitEvent s t) : UnitEvent s (bankWaitExpiry p t) :=
  expire_event p _ _ _ (fun _ => endFill_event p _) h

theorem pauseExpiry_event (p : Pos) (h : UnitEvent s t) : UnitEvent s (pauseExpiry p t) :=
  expire_event p _ _ _ (fun _ => endFill_event p _) h

theorem vehicleExpiry_event (p : Pos) (h : UnitEvent s t) : UnitEvent s (vehicleExpiry p t) :=
  expire_event p _ _ _ (fun _ => dropAndCheck_event p _) h

theorem mismatchExpiry_event (p : Pos) (h : UnitEvent s t) : UnitEvent s (mismatchExpiry p t) :=
  expire_event p _ _ _ (fun _ => dropAndCheck_event p _) h

theorem afterRunExpiry_event (p : Pos) (h : UnitEvent s t) : UnitEvent s (afterRunExpiry p t) :=
  expire_event p _ _ _ (fun _ => tryLeave_event p) h

theorem ventFault_event (p : Pos) (h : UnitEvent s t) :
    UnitEvent s (ventFault p t) := by
  simp only [ventFault]
  apply_rules [enterFault_event, updCtx_event]

theorem ventExpiry_event (p : Pos) (h : UnitEvent s t) : UnitEvent s (ventExpiry p t) :=
  expire_event p _ _ _ (fun _ => ventFault_event p) h

theorem tripPosition_event (p : Pos) (h : UnitEvent s t) :
    UnitEvent s (tripPosition p t) := by
  simp only [tripPosition]
  repeat' split
  all_goals apply_rules [goState_event, ventDone_event, updTimers_event, endFill_event]

theorem filTrip_event (h : UnitEvent s t) : UnitEvent s (filTrip t) :=
  forEach_event _ _ (fun p _ => tripPosition_event p) h

theorem setOpened_event (p : Pos) (b : Bool) (h : UnitEvent s t) :
    UnitEvent s (setOpened p b t) := by
  simp only [setOpened]
  apply_rules [evalAvailability_event, updCtx_event]

theorem leaveFault_event (p : Pos) (h : UnitEvent s t) :
    UnitEvent s (leaveFault p t) := by
  simp only [leaveFault]
  apply_rules [updCtx_event, close_event, setOpened_event, goState_event, clearAlarms_event]

theorem positionOpenRequest_event (rq : Req) (n : Nat) (h : UnitEvent s t) :
    UnitEvent s (positionOpenRequest rq n t) := by
  unfold positionOpenRequest
  split
  · exact h.reply rq 48 .range []
  · split
    · split
      · exact leaveFault_event _ (h.reply rq 48 .ok [])
      · exact h.reply rq 48 .state []
    · exact setOpened_event _ _ (h.reply rq 48 .ok [])

theorem positionCloseRequest_event (rq : Req) (n : Nat) (h : UnitEvent s t) :
    UnitEvent s (positionCloseRequest rq n t) := by
  simp only [positionCloseRequest]
  repeat' split
  all_goals apply_rules [Event.reply, setOpened_event]

theorem positionStopRequest_event (rq : Req) (n : Nat) (h : UnitEvent s t) :
    UnitEvent s (positionStopRequest rq n t) := by
  simp only [positionStopRequest]
  repeat' split
  all_goals apply_rules [Event.reply, endFill_event]

theorem lowerCap_event (p : Pos) (f : FillId) (cap : Nat) (h : UnitEvent s t) :
    UnitEvent s (lowerCap p f cap t) := by
  simp only [lowerCap]
  apply_rules [post_event, updCtx_event, onlyIf_event, endFill_event]

theorem positionLimitRequest_event (rq : Req) (n : Nat) (cap : Nat) (h : UnitEvent s t) :
    UnitEvent s (positionLimitRequest rq n cap t) := by
  simp only [positionLimitRequest]
  repeat' split
  all_goals apply_rules [Event.reply, lowerCap_event]

end Operations

end Sys2Proof.Machine
end

section
/-! The commands that are unit events, and the laws of the reserve (R81, R82) and of the ring interface (R188 to
R191): each is kept by an event, and each of the few other commands keeps it for a reason of its own. -/

namespace Sys2Proof.Machine

open Sys2Proof

/-! ### Requests and SMC -/

section Operations

variable {s t : State}

theorem descent_event (h : UnitEvent s t) : UnitEvent s (descent t) := by
  unfold descent
  split
  · exact h.other rfl
  · exact h.other rfl
  · exact h

theorem changeMode_event (m : Mode) (h : UnitEvent s t) : UnitEvent s (changeMode m t) := by
  unfold changeMode
  split
  · exact h
  · exact pclModeChange_event (cmpModeChange_event _ (evalAllAvailability_event (descent_event (h.other rfl))))

theorem onlyIf_changeMode_event (c : Bool) (m : Mode) (h : UnitEvent s t) :
    UnitEvent s (onlyIf c (changeMode m) t) := onlyIf_event c _ h (changeMode_event m h)

theorem modeSetRequest_event (rq : Req) (n : Nat) (h : UnitEvent s t) :
    UnitEvent s (modeSetRequest rq n t) := by
  unfold modeSetRequest
  split
  · exact h.reply _ _ _ _
  · split
    · exact h.reply _ _ _ _
    · exact h.reply _ _ _ _
    · exact (changeMode_event _ h).reply _ _ _ _

theorem smcHolster_event (p : Pos) (h : UnitEvent s t) : UnitEvent s (smcHolster p t) := by
  unfold smcHolster
  split
  · exact changeMode_event _ h
  · exact h

theorem causeClearRequest_event (rq : Req) (h : UnitEvent s t) : UnitEvent s (causeClearRequest rq t) :=
  Event.reply rq 19 .ok [] (updRet_event _ h rfl)

theorem tableReadRequest_event (rq : Req) (table row copy : Nat) (h : UnitEvent s t) :
    UnitEvent s (tableReadRequest rq table row copy t) := by
  unfold tableReadRequest
  split
  · exact h.reply _ _ _ _
  · split
    · exact h.reply _ _ _ _
    · split <;> exact h.reply _ _ _ _

/-- R195: a row written to a shadow copy is no change of an active copy. -/
theorem writeRow_active {tb tb' : Tables} {table row : Nat} {bs : List Byte}
    (h : tb.writeRow table row bs = some tb') :
    tb'.nodeMap.active = tb.nodeMap.active ∧ tb'.precool.active = tb.precool.active := by
  unfold Tables.writeRow at h
  split at h <;> first
    | (obtain ⟨c, hc, rfl⟩ := Option.map_eq_some_iff.mp h
       first
       | exact ⟨rfl, rfl⟩
       | (obtain ⟨x, -, rfl⟩ := Option.map_eq_some_iff.mp hc
          exact ⟨rfl, rfl⟩))
    | cases h

theorem tableWriteRequest_event (rq : Req) (table row : Nat) (bs : List Byte) (h : UnitEvent s t) :
    UnitEvent s (tableWriteRequest rq table row bs t) := by
  unfold tableWriteRequest
  split
  · exact h.reply _ _ _ _
  · split
    · next hw =>
      obtain ⟨hnode, hprecool⟩ := writeRow_active hw
      refine Event.reply rq 3 .ok [] (h.other ?_)
      simp [State.kept, State.ringPart, State.fundsPart, State.chillerRow, hnode, hprecool]
    · exact h.reply _ _ _ _

theorem discard_kept (table : Nat) (u : State) : (updTables (fun x => x.discard table) u).kept = u.kept := by
  simp only [updTables, Tables.discard]
  split <;> rfl

theorem tableDiscardRequest_event (rq : Req) (table : Nat) (h : UnitEvent s t) :
    UnitEvent s (tableDiscardRequest rq table t) := by
  unfold tableDiscardRequest
  split
  · exact h.reply _ _ _ _
  · exact Event.reply rq 4 .ok [] (h.other (discard_kept table t))

theorem onAccount_event (rq : Req) (code id : Nat) (f : Account → State) (h : UnitEvent s t)
    (hf : ∀ a, UnitEvent s (f a)) : UnitEvent s (onAccount rq code id t f) := by
  unfold onAccount
  split
  · exact h.reply _ _ _ _
  · split
    · exact h.reply _ _ _ _
    · exact hf _

theorem accountRead_event (rq : Req) (id : Nat) (h : UnitEvent s t) : UnitEvent s (accountRead rq id t) :=
  onAccount_event rq 70 id _ h fun _ => h.reply _ _ _ _

theorem txnReadRequest_event (rq : Req) (h : UnitEvent s t) : UnitEvent s (txnReadRequest rq t) := by
  unfold txnReadRequest
  split <;> exact h.reply _ _ _ _

theorem txnReleaseRequest_event (rq : Req) (n : Nat) (h : UnitEvent s t) :
    UnitEvent s (txnReleaseRequest rq n t) := by
  simp only [txnReleaseRequest]
  split
  · exact h.reply _ _ _ _
  · split
    · exact Event.reply _ _ _ _ (updRet_event _ h rfl)
    · exact h.reply _ _ _ _

end Operations

/-! ### The commands that are unit events -/

/-- All but those of RIF, those of BIL that change accounts or tenders, the commits, the trip and the
restarts. -/
def unitCommand : Instr → Bool
  | .frameArrival .. | .ringOutSendDone | .readItem .. | .tableCommit .. | .tripRequest ..
  | .restartRequest .. | .timeSet .. | .accountSet .. | .accountCredit .. | .accountWithdraw ..
  | .accountBlock .. | .accountUnblock .. | .accountRemove .. | .tender .. | .loweredCap .. | .cancelled ..
  | .fillSummary .. | .stationClockAdvance | .tripCause .. | .tripLoopOpen | .supplyMonitorTrip | .rifTrip
  | .powerOn .. | .supplyDip .. | .commandRestart .. => false
  | _ => true

theorem running_event {f : State → State} {s t : State} (h : running s f = .next t)
    (hf : UnitEvent s (f s)) : UnitEvent s t :=
  running_keeps (P := UnitEvent s) h .start fun _ => hf

theorem running_seeing_event {r : Role} {x : SigRec} {f : State → State} {s t : State}
    (h : running s (seeing r x f) = .next t) (hf : ∀ u, UnitEvent s u → UnitEvent s (f u)) :
    UnitEvent s t :=
  running_event h (seeing_event r x f (hf _ (withRecord_event r x .start)))

theorem exec_event {c : Instr} {s t : State} (hc : unitCommand c = true) (h : exec c s = .next t) :
    UnitEvent s t := by
  cases c
  case tableRead => exact running_event h (tableReadRequest_event _ _ _ _ .start)
  case tableWrite => exact running_event h (tableWriteRequest_event _ _ _ _ .start)
  case tableDiscard => exact running_event h (tableDiscardRequest_event _ _ .start)
  case modeSet => exact running_event h (modeSetRequest_event _ _ .start)
  case causeClear => exact running_event h (causeClearRequest_event _ .start)
  case bankIsolate => exact running_event h (bankIsolateRequest_event _ _ .start)
  case bankReturn => exact running_event h (bankReturnRequest_event _ _ .start)
  case lockoutClear => exact running_event h (lockoutClearRequest_event _ .start)
  case positionOpen => exact running_event h (positionOpenRequest_event _ _ .start)
  case positionClose => exact running_event h (positionCloseRequest_event _ _ .start)
  case positionStop => exact running_event h (positionStopRequest_event _ _ .start)
  case positionLimit => exact running_event h (positionLimitRequest_event _ _ _ .start)
  case accountRead => exact running_event h (accountRead_event _ _ .start)
  case txnRead => exact running_event h (txnReadRequest_event _ .start)
  case txnRelease => exact running_event h (txnReleaseRequest_event _ _ .start)
  case sampleAnalogue => exact running_event h (sampleAnalogue_event _ _ _ .start)
  case sampleDigital => exact running_event h (sampleDigital_event _ _ _ .start)
  case count => exact running_event h (countFrame_event _ _ _ .start)
  case vehData => exact running_event h (vehDataFrame_event _ _ .start)
  case freshnessExpiry => exact running_event h (freshnessExpiry_event _ .start)
  case bankSignalValue => exact running_seeing_event h fun _ => bankSignalValue_event _ _
  case bankSignalQuality => exact running_seeing_event h fun _ => bankSignalQuality_event _ _
  case bankIsolateSignal => exact running_event h (isolateBank_event _ _ .start)
  case bQChange => exact running_event h (bQChange_event .start)
  case positionClaim => exact running_event h (positionClaim_event _ _ .start)
  case compressorClaim => exact running_event (f := fun u => (claimForCompressor _ u).2) h (claimForCompressor_event _ .start)
  case bankWithdraw => exact running_event (f := fun u => (withdrawBank _ u).2) h (withdrawBank_event _ .start)
  case bankRelease => exact running_event h (releaseBank_event _ _ .start)
  case bankIncrementReport => exact running_event h (bankIncrement_event _ _ _ .start)
  case bkmTrip => exact running_event h (bkmTrip_event .start)
  case cmpSignalArrival => exact running_seeing_event h fun _ => cmpSignal_event _ _
  case cmpIsolate => exact running_event h (lockout_event _ _ .start)
  case cmpBankAnnouncement => exact running_event h (cmpAnnouncement_event .start)
  case outputClaim => exact running_event h (outputClaim_event _ .start)
  case outputRelease => exact running_event h (releaseOutput_event _ .start)
  case outputWithdraw => exact running_event (f := fun u => (withdrawOutput _ u).2) h (withdrawOutput_event _ .start)
  case yielded => exact running_event h (refillGone_event _ .start)
  case cmpBankLost => exact running_event h (refillGone_event _ .start)
  case primeTimerExpiry => exact running_event h (primeExpiry_event .start)
  case minimumRunExpiry => exact running_event h (minRunExpiry_event .start)
  case offTimerExpiry => exact running_event h (offExpiry_event .start)
  case startHistoryAgeing => exact running_event h (historyAgeing_event .start)
  case cmpTrip => exact running_event h (lockout_event _ _ .start)
  case reserveStep => exact running_event h (reserveStep_event .start)
  case coldConsumption => exact running_event h (coldConsumption_event _ _ .start)
  case categoryReport => exact running_event h (categoryReport_event _ _ _ .start)
  case sourceReport => exact running_event h (sourceReport_event _ _ .start)
  case admissionRequest => exact running_event h (admissionRequest_event _ _ .start)
  case admissionCancel => exact running_event h (admissionCancel_event _ .start)
  case mainEntryReport => exact running_event h (enterMonitor_event _ .start)
  case mainLeaveReport => exact running_event h (idleMonitor_event _ .start)
  case outletTempArrival => exact running_seeing_event h fun _ => outletArrival_event _ _
  case settleTimerExpiry => exact running_event h (settleExpiry_event _ .start)
  case excursionTimerExpiry => exact running_event h (excursionExpiry_event _ .start)
  case stabilisationTimerExpiry => exact running_event h (stabilised_event .start)
  case parkTimerExpiry => exact running_event h (parkExpiry_event .start)
  case chillerFaultDelivery => exact running_seeing_event h fun _ => chillerFaultDelivery_event
  case chillerIsolate => exact running_event h (enterChillerFault_event _ .start)
  case pclTrip => exact running_event h (pclTrip_event .start)
  case filHolsterTransition => exact running_seeing_event h fun _ => holsterTransition_event _
  case filCoupledTransition => exact running_seeing_event h fun _ => coupledTransition_event _
  case filNozzlePressure => exact running_seeing_event h fun _ => nozzlePressure_event _
  case filBankPressure => exact running_seeing_event h fun _ => filBankPressure_event _ _
  case filVehdata => exact running_seeing_event h fun _ => vehicleData_event _
  case filSignalQuality => exact running_seeing_event h fun _ => signalQuality_event _
  case positionIsolate => exact running_event h (faultEvent_event _ _ _ .start)
  case filGranted => exact running_event h (granted_event _ _ .start)
  case filBankAnnouncement => exact running_event h (serveWaiters_event .start)
  case compressorStateReport => exact running_event h (serveWaiters_event .start)
  case waitCancelled => exact running_event h (waitEnded_event _ _ .start)
  case filLost => exact running_event h (lost_event _ _ .start)
  case sessionOutcome => exact running_event h (sessionOutcome_event _ _ _ .start)
  case admitted => exact running_event h (admitted_event _ _ .start)
  case reRateRequest => exact running_event h (reRateRequest_event _ _ _ .start)
  case meterFaultReport => exact running_event h (faultEvent_event _ _ _ .start)
  case unauthorisedFlowReport => exact running_event h (unauthorisedFlow_event _ .start)
  case filMassReport => exact running_event h (massReport_event _ _ _ .start)
  case fillTimerExpiry => exact running_event h (fillExpiry_event _ .start)
  case pulseTimerExpiry => exact running_event h (pulseExpiry_event _ .start)
  case leakCheckTimerExpiry => exact running_event h (leakExpiry_event _ .start)
  case precoolWaitTimerExpiry => exact running_event h (precoolExpiry_event _ .start)
  case bankWaitTimerExpiry => exact running_event h (bankWaitExpiry_event _ .start)
  case pauseTimerExpiry => exact running_event h (pauseExpiry_event _ .start)
  case vehicleTimerExpiry => exact running_event h (vehicleExpiry_event _ .start)
  case mismatchTimerExpiry => exact running_event h (mismatchExpiry_event _ .start)
  case afterRunTimerExpiry => exact running_event h (afterRunExpiry_event _ .start)
  case ventTimerExpiry => exact running_event h (ventExpiry_event _ .start)
  case filTrip => exact running_event h (filTrip_event .start)
  case meterCount => exact running_seeing_event h fun _ => meterCount_event _
  case meterQualityChange => exact running_seeing_event h fun _ => meterQuality_event _
  case smcHolsterTransition => exact running_seeing_event h fun _ => smcHolster_event _
  case bankLow => exact running_event h (onlyIf_changeMode_event _ _ .start)
  case descentReport => exact running_event h (descent_event .start)
  case idleTimerExpiry => exact running_event h (onlyIf_changeMode_event _ _ .start)
  case parkTimeExpiry => exact running_event h (onlyIf_changeMode_event _ _ .start)
  all_goals exact Bool.noConfusion hc

end Sys2Proof.Machine
end

section
/-! The other commands by what they keep: RIF's leave everything but the ring interface and the mail alone, BIL's
and the commits are ring events, and the trip and the restarts are put together from them. The law of the reserve
(R81, R82) follows. -/

namespace Sys2Proof.Machine

open Sys2Proof

/-! ### RIF changes the ring interface and the mail -/

/-- The part of the state that RIF's commands leave alone. -/
def State.outsideRif (s : State) : State := { s with rif := .start 0, mail := [] }

theorem outsideRif_of_onlyRif {s t : State} (h : t = { s with rif := t.rif }) :
    t.outsideRif = s.outsideRif := by
  rw [h]
  rfl

@[simp] theorem updRif_outsideRif (f : Rif → Rif) (s : State) : (updRif f s).outsideRif = s.outsideRif := rfl

@[simp] theorem post_outsideRif (i : Instr) (s : State) : (post i s).outsideRif = s.outsideRif := rfl

@[simp] theorem kick_outsideRif (s : State) : (kick s).outsideRif = s.outsideRif :=
  outsideRif_of_onlyRif (kick_onlyRif s)

@[simp] theorem chooseNext_outsideRif (s : State) : (chooseNext s).outsideRif = s.outsideRif :=
  outsideRif_of_onlyRif (chooseNext_onlyRif s)

@[simp] theorem reply_outsideRif (rq : Req) (n : Nat) (st : Status) (bs : List Byte) (s : State) :
    (reply rq n st bs s).outsideRif = s.outsideRif := outsideRif_of_onlyRif (reply_onlyRif rq n st bs s)

@[simp] theorem noticeTo_outsideRif (d : Nat) (k : NoticeKind) (n : Nat) (bs : List Byte) (s : State) :
    (noticeTo d k n bs s).outsideRif = s.outsideRif := outsideRif_of_onlyRif (noticeTo_onlyRif d k n bs s)

@[simp] theorem actuate_outsideRif (r : Role) (c : ActCommand) (v : Nat) (s : State) :
    (actuate r c v s).outsideRif = s.outsideRif := outsideRif_of_onlyRif (actuate_onlyRif r c v s)

@[simp] theorem closeAll_outsideRif (s : State) : (closeAll s).outsideRif = s.outsideRif :=
  outsideRif_of_onlyRif (closeAll_onlyRif s)

@[simp] theorem forward_outsideRif (bs : List Byte) (s : State) : (forward bs s).outsideRif = s.outsideRif :=
  outsideRif_of_onlyRif (forward_onlyRif bs s)

@[simp] theorem observe_outsideRif (f : Frame) (s : State) : (observe f s).outsideRif = s.outsideRif := by
  unfold observe
  split <;> rfl

@[simp] theorem serveRequest_outsideRif (f : Frame) (s : State) :
    (serveRequest f s).outsideRif = s.outsideRif := by
  simp only [serveRequest]
  split
  · simp
  · split
    · simp
    · split <;> simp

@[simp] theorem takeRequest_outsideRif (f : Frame) (s : State) :
    (takeRequest f s).outsideRif = s.outsideRif := by
  unfold takeRequest
  split <;> simp

@[simp] theorem takeIn_outsideRif (f : Frame) (bc : Bool) (s : State) :
    (takeIn f bc s).outsideRif = s.outsideRif := by
  unfold takeIn
  split
  · rfl
  · split <;> simp

@[simp] theorem refuseActuate_outsideRif (n : Nat) (f : Frame) (s : State) :
    (refuseActuate n f s).outsideRif = s.outsideRif := by
  simp [refuseActuate]

@[simp] theorem actuateFilter_outsideRif (f : Frame) (bs : List Byte) (s : State) :
    (actuateFilter f bs s).outsideRif = s.outsideRif := by
  unfold actuateFilter
  split
  · split
    · rfl
    · split <;> simp
  · split <;> simp

@[simp] theorem dispatch_outsideRif (f : Frame) (bs : List Byte) (s : State) :
    (dispatch f bs s).outsideRif = s.outsideRif := by
  unfold dispatch
  split
  · simp
  · split
    · simp
    · split <;> simp

@[simp] theorem frameArrival_outsideRif (bs : List Byte) (s : State) :
    (frameArrival bs s).outsideRif = s.outsideRif := by
  unfold frameArrival takeFrame
  split
  · rfl
  · split
    · rfl
    · split <;> simp

@[simp] theorem sendDone_outsideRif (s : State) : (sendDone s).outsideRif = s.outsideRif := by
  unfold sendDone onlyIf
  split
  · rfl
  · rw [chooseNext_outsideRif]
    split <;> rfl

@[simp] theorem readItemRequest_outsideRif (rq : Req) (code index unit second sect : Nat) (s : State) :
    (readItemRequest rq code index unit second sect s).outsideRif = s.outsideRif := by
  unfold readItemRequest clearOverrun onlyIf
  split
  · simp
  · split
    · simp
    · split
      · simp
      · rw [reply_outsideRif]
        split <;> rfl

@[simp] theorem restartRequested_outsideRif (rq : Req) (s : State) :
    (restartRequested rq s).outsideRif = s.outsideRif := by
  simp [restartRequested]

@[simp] theorem rifTrip_outsideRif (s : State) : (rifTrip s).outsideRif = s.outsideRif := rfl

/-- The commands of RIF. -/
def rifCommand : Instr → Bool
  | .frameArrival .. | .ringOutSendDone | .readItem .. | .restartRequest .. | .rifTrip => true
  | _ => false

theorem exec_outsideRif {c : Instr} {s t : State} (hc : rifCommand c = true) (h : exec c s = .next t) :
    t.outsideRif = s.outsideRif := by
  have keeps {f : State → State} (hf : running s f = .next t) (he : (f s).outsideRif = s.outsideRif) :
      t.outsideRif = s.outsideRif :=
    running_keeps (P := fun u => u.outsideRif = s.outsideRif) hf rfl fun _ => he
  cases c
  case frameArrival => exact keeps h (by simp)
  case ringOutSendDone => exact keeps h (by simp)
  case readItem => exact keeps h (by simp)
  case restartRequest => exact keeps h (by simp)
  case rifTrip => exact keeps h (by simp)
  all_goals exact Bool.noConfusion hc

/-! ### BIL's commands are ring events -/

section Operations

variable {s t : State}

theorem updRet_ringEvent (f : Retained → Retained) (h : RingEvent s t) : RingEvent s (updRet f t) :=
  h.other rfl

theorem updAccount_ringEvent (id : Nat) (f : Account → Account) (h : RingEvent s t) :
    RingEvent s (updAccount id f t) := h.other rfl

/-- A unit's operation within an event of BIL. -/
theorem RingEvent.unit {u : State} (h : RingEvent s t) (hu : UnitEvent t u) : RingEvent s u :=
  h.trans hu.ringEvent

theorem placeRecord_ringEvent (r : TxnRecord) (h : RingEvent s t) : RingEvent s (placeRecord r t) := by
  simp only [placeRecord]
  split
  · exact Event.noticeTo _ _ _ _ (h.other rfl)
  · exact h

theorem placeHold_ringEvent (p : Pos) (c : TenderCtx) (h : RingEvent s t) :
    RingEvent s (placeHold p c t) := by
  unfold placeHold
  split
  · exact h
  · exact h.other rfl

theorem acceptTender_ringEvent (x : TenderIn) (h : RingEvent s t) : RingEvent s (acceptTender x t) := by
  have hplaced := placeHold_ringEvent x.pos (t.tenderContext x (nextTxn t.ret.txnCounter))
    (updRet_ringEvent (fun r => { r with txnCounter := nextTxn t.ret.txnCounter })
      (updRet_ringEvent (fun r => { r with reserved := r.reserved.set x.pos true }) h))
  refine Event.noticeTo _ _ _ _ (Event.trans ?_ (UnitEvent.ringEvent (authorise_event _ _ _ _ .start)))
  exact hplaced.other rfl

theorem takeTender_ringEvent (source : Nat) (bc : Bool) (pos kind reference account amount : Nat)
    (h : RingEvent s t) : RingEvent s (takeTender source bc pos kind reference account amount t) := by
  simp only [takeTender]
  split
  · exact h
  · split
    · split
      · exact h.noticeTo _ _ _ _
      · exact acceptTender_ringEvent _ h
    · exact h.noticeTo _ _ _ _

theorem lowerTenderCap_ringEvent (p : Pos) (cap : Nat) (h : RingEvent s t) :
    RingEvent s (lowerTenderCap p cap t) := by
  simp only [lowerTenderCap, onlyIf]
  split
  · exact h
  · split <;> exact h.other rfl

theorem settle_ringEvent (x : Settlement) (h : RingEvent s t) : RingEvent s (settle x t) := by
  unfold settle
  split
  · exact h.other rfl
  · exact h.noticeTo _ _ _ _

theorem cancelTender_ringEvent (p : Pos) (h : RingEvent s t) : RingEvent s (cancelTender p t) := by
  have hfreed : RingEvent s (releasePlace p t) := h.other rfl
  simp only [cancelTender]
  split
  · exact h
  · split
    · exact hfreed.other rfl
    · exact (Event.noticeTo _ _ _ _ hfreed).other rfl

theorem settleSummary_ringEvent (sum : FillSummary) (h : RingEvent s t) :
    RingEvent s (settleSummary sum t) := by
  simp only [settleSummary]
  split
  · exact h
  · next c _ =>
    have hplaced := placeRecord_ringEvent (t.recordOf sum c)
      (settle_ringEvent (c.settlement sum.pos sum.masses.fillG) h)
    exact (RingEvent.unit hplaced (releaseGen_event sum.pclass sum.gen .start)).other rfl

theorem checkDay_ringEvent (h : RingEvent s t) : RingEvent s (checkDay t) := by
  unfold checkDay
  split
  · exact h
  · split
    · exact h
    · exact Event.noticeTo _ _ _ _ (updRet_ringEvent _ h)

theorem clockSecond_ringEvent (h : RingEvent s t) : RingEvent s (clockSecond t) :=
  checkDay_ringEvent (updRet_ringEvent _ h)

theorem timeSetRequest_ringEvent (rq : Req) (n : Nat) (h : RingEvent s t) :
    RingEvent s (timeSetRequest rq n t) := by
  unfold timeSetRequest
  split
  · exact h.reply _ _ _ _
  · exact Event.reply _ _ _ _ (checkDay_ringEvent (updRet_ringEvent _ h))

theorem onAccount_ringEvent (rq : Req) (code id : Nat) (f : Account → State) (h : RingEvent s t)
    (hf : ∀ a, RingEvent s (f a)) : RingEvent s (onAccount rq code id t f) := by
  unfold onAccount
  split
  · exact h.reply _ _ _ _
  · split
    · exact h.reply _ _ _ _
    · exact hf _

theorem accountSet_ringEvent (rq : Req) (id cls allowance : Nat) (h : RingEvent s t) :
    RingEvent s (accountSet rq id cls allowance t) := by
  unfold accountSet
  split
  · exact h.reply _ _ _ _
  · split
    · split
      · exact Event.reply _ _ _ _ (updAccount_ringEvent id _ h)
      · exact h.reply _ _ _ _
    · split
      · exact Event.reply _ _ _ _ (updRet_ringEvent _ h)
      · exact h.reply _ _ _ _

theorem accountCredit_ringEvent (rq : Req) (id amount : Nat) (h : RingEvent s t) :
    RingEvent s (accountCredit rq id amount t) :=
  onAccount_ringEvent _ _ _ _ h fun _ => by
    split
    · exact h.reply _ _ _ _
    · exact Event.reply _ _ _ _ (updAccount_ringEvent id _ h)

theorem accountWithdraw_ringEvent (rq : Req) (id amount : Nat) (h : RingEvent s t) :
    RingEvent s (accountWithdraw rq id amount t) :=
  onAccount_ringEvent _ _ _ _ h fun _ => by
    split
    · exact h.reply _ _ _ _
    · split
      · exact h.reply _ _ _ _
      · exact Event.reply _ _ _ _ (updAccount_ringEvent id _ h)

theorem setBlocked_ringEvent (rq : Req) (code id : Nat) (b : Bool) (h : RingEvent s t) :
    RingEvent s (setBlocked rq code id b t) :=
  onAccount_ringEvent _ _ _ _ h fun _ => Event.reply _ _ _ _ (updAccount_ringEvent id _ h)

theorem accountRemove_ringEvent (rq : Req) (id : Nat) (h : RingEvent s t) :
    RingEvent s (accountRemove rq id t) :=
  onAccount_ringEvent _ _ _ _ h fun _ => by
    split
    · exact Event.reply _ _ _ _ (updRet_ringEvent _ h)
    · exact h.reply _ _ _ _

theorem settleSnapshot_ringEvent (p : Pos) (h : RingEvent s t) : RingEvent s (settleSnapshot p t) := by
  unfold settleSnapshot
  split
  · exact h
  · exact placeRecord_ringEvent _ (settle_ringEvent _ h)

theorem settleSnapshots_ringEvent (h : RingEvent s t) : RingEvent s (settleSnapshots t) :=
  (forEach_keeps (RingEvent s) _ (fun p _ => settleSnapshot_ringEvent p) Pos.all t h).other rfl

end Operations

/-- BIL's commands. -/
def bilCommand : Instr → Bool
  | .timeSet .. | .accountSet .. | .accountCredit .. | .accountWithdraw .. | .accountBlock ..
  | .accountUnblock .. | .accountRemove .. | .tender .. | .loweredCap .. | .cancelled .. | .fillSummary ..
  | .stationClockAdvance => true
  | _ => false

theorem exec_ringEvent {c : Instr} {s t : State} (hc : (bilCommand c || unitCommand c) = true)
    (h : exec c s = .next t) : RingEvent s t := by
  rcases Bool.or_eq_true_iff.mp hc with hb | hu
  · have running {f : State → State} (hf : running s f = .next t) (he : RingEvent s (f s)) :
        RingEvent s t :=
      running_keeps (P := RingEvent s) hf .start fun _ => he
    cases c
    case timeSet => exact running h (timeSetRequest_ringEvent _ _ .start)
    case accountSet => exact running h (accountSet_ringEvent _ _ _ _ .start)
    case accountCredit => exact running h (accountCredit_ringEvent _ _ _ .start)
    case accountWithdraw => exact running h (accountWithdraw_ringEvent _ _ _ .start)
    case accountBlock => exact running h (setBlocked_ringEvent _ _ _ _ .start)
    case accountUnblock => exact running h (setBlocked_ringEvent _ _ _ _ .start)
    case accountRemove => exact running h (accountRemove_ringEvent _ _ .start)
    case tender => exact running h (takeTender_ringEvent _ _ _ _ _ _ _ .start)
    case loweredCap => exact running h (lowerTenderCap_ringEvent _ _ .start)
    case cancelled => exact running h (cancelTender_ringEvent _ .start)
    case fillSummary => exact running h (settleSummary_ringEvent _ .start)
    case stationClockAdvance =>
      obtain rfl : (if s.smc.inReset then crystalSecond s else clockSecond s) = t :=
        Host.Outcome.next.inj h
      split
      · exact updRet_ringEvent _ .start
      · exact clockSecond_ringEvent .start
    all_goals exact Bool.noConfusion hb
  · exact (exec_event hu h).ringEvent

/-! ### The tick, and the restarts before the trip loop is judged -/

/-- The tick's timers are no part of the laws of the ring interface and the reserve. -/
theorem tick_ringEvent (s : State) : RingEvent s (tick s) := by
  have haged : RingEvent s { tickTimers s with ticks := (s.ticks + 1) % 10 } := Event.start.other rfl
  simp only [tick]
  split
  · exact (clockSecond_ringEvent haged).other rfl
  · exact haged

theorem tickInReset_ringEvent (s : State) : RingEvent s (tickInReset s) := by
  have haged : RingEvent s { s with ticks := (s.ticks + 1) % 10 } := Event.start.other rfl
  simp only [tickInReset]
  split
  · exact updRet_ringEvent _ haged
  · exact haged

theorem beforeLoop_ringEvent (tb : Tables) (r : Retained) (l : Lines) (s : State) :
    RingEvent (bringUp tb.restart r l s) (beforeLoop tb r l s) :=
  checkDay_ringEvent (settleSnapshots_ringEvent (updRet_ringEvent _ (closeAll_event .start).ringEvent))

/-! ### The commits -/

section Operations

variable {s t : State}

theorem configureBank_event (b : Bank) (h : UnitEvent s t) : UnitEvent s (configureBank b t) := by
  unfold configureBank
  split
  · exact announce_event b (updBank_event b _ h)
  · exact h

theorem applyBankRow_event (old : BankTable) (b : Bank) (h : UnitEvent s t) :
    UnitEvent s (applyBankRow old b t) := by
  simp only [applyBankRow]
  split
  · exact clearInventory_event b (updBank_event b _ h)
  · have heval := evalInventory_event b (configureBank_event b h)
    exact overPressureCheck_event b (onlyIf_event _ _ heval (invalidateOpen_event b heval))

theorem applyBank_event (old : BankTable) (h : UnitEvent s t) : UnitEvent s (applyBank old t) :=
  evalIfStopped_event (forEach_event _ _ (fun b _ => applyBankRow_event old b) h)

theorem applyPrecool_event (old : ChillerRow) (h : UnitEvent s t) : UnitEvent s (applyPrecool old t) :=
  onlyIf_event _ _ (pclCommitted_event old.fitted h) (post_event _ (pclCommitted_event old.fitted h))

theorem applyTariff_ringEvent (old : Tariff) (h : RingEvent s t) : RingEvent s (applyTariff old t) := by
  unfold applyTariff onlyIf
  split
  · exact checkDay_ringEvent h
  · exact h

/-- A commit of another table than the node map is applied by ring events. -/
theorem applyCommit_ringEvent {table : Nat} (old : State) (hn : table ≠ 1) (h : RingEvent s t) :
    RingEvent s (applyCommit table old t) := by
  unfold applyCommit
  split
  · exact absurd rfl hn
  · exact h.unit (applyBank_event _ .start)
  · exact h.unit (cmpCommitted_event _ .start)
  · exact h.unit (applyPrecool_event _ .start)
  · exact h.unit (evalAllAvailability_event .start)
  · exact applyTariff_ringEvent _ h
  · exact h

/-- R5: the records and figures go first, which the laws do not speak of; then the commands that wait in RIF are
dropped, and the CLOSEs and a start evaluation follow. -/
theorem applyNodeMap_events (s : State) : ∃ t, t.kept = s.kept ∧
    UnitEvent (updRif (fun r => { r with commands := [] }) t) (applyNodeMap s) := by
  refine ⟨tellAbsent s.sig (clearFigures { s with sig := recordsOf s.nodeRows }), ?_,
    evalIfStopped_event (closeAll_event .start)⟩
  have hbanks := forEach_keeps (fun u => u.kept = s.kept) clearInventory (fun _ _ hu => hu) Bank.all
    { s with sig := recordsOf s.nodeRows } rfl
  exact forEach_keeps (fun u => u.kept = s.kept) dropBaseline (fun _ _ hu => hu) Pos.all _ hbanks

theorem judgeSet_event (h : UnitEvent s t) : UnitEvent s (judgeSet t) :=
  onlyIf_changeMode_event _ _ h

end Operations

end Sys2Proof.Machine
end

section
/-! The law of the reserve (R81, R82): a ring event keeps it, a commit of the precool table clamps the reserve to
the new capacity (R74), and a restart begins with a reserve of 0. -/

namespace Sys2Proof.Machine

open Sys2Proof

/-- The law speaks of the active row 0 and of the reserve. -/
theorem reserveLaw_congr {s t : State} (hrow : t.chillerRow = s.chillerRow)
    (hres : t.pcl.reserve = s.pcl.reserve) (hs : s.reserveLaw) : t.reserveLaw := by
  simpa [State.reserveLaw, hrow, hres] using hs

theorem reserveLaw_of_outsideRif {s t : State} (h : t.outsideRif = s.outsideRif) (hs : s.reserveLaw) :
    t.reserveLaw :=
  reserveLaw_congr (congrArg State.chillerRow h :) (congrArg (fun u : State => u.pcl.reserve) h :) hs

theorem reserveLaw_of_ringPart {s t : State} (h : t.ringPart = s.ringPart) (hs : s.reserveLaw) :
    t.reserveLaw :=
  reserveLaw_congr (congrArg RingPart.chiller h :) (congrArg RingPart.reserve h :) hs

theorem RingEvent.reserveLaw {s t : State} (h : RingEvent s t) (hs : s.reserveLaw) : t.reserveLaw := by
  induction h with
  | start => exact hs
  | other _ he ih => exact reserveLaw_of_ringPart he ih
  | actuate r c v _ _ ih => exact reserveLaw_of_outsideRif (actuate_outsideRif r c v _) ih
  | noticeTo d k n bs _ ih => exact reserveLaw_of_outsideRif (noticeTo_outsideRif d k n bs _) ih
  | reply rq n st bs _ ih => exact reserveLaw_of_outsideRif (reply_outsideRif rq n st bs _) ih
  | reserve n _ hn ih => exact hn ih

theorem UnitEvent.reserveLaw {s t : State} (h : UnitEvent s t) (hs : s.reserveLaw) : t.reserveLaw :=
  h.ringEvent.reserveLaw hs

/-! ### The trip and the restarts -/

theorem tripOn_reserveLaw (c : TripCause) {s : State} (hs : s.reserveLaw) : (tripOn c s).reserveLaw := by
  unfold tripOn
  split
  · exact hs
  · exact reserveLaw_congr (by simp [setLatch, setMode, State.chillerRow]) (by simp [setLatch, setMode]) hs

/-- R75: after a restart the reserve is 0. -/
theorem restart_reserveLaw (tb : Tables) (r : Retained) (l : Lines) (s : State) :
    (restart tb r l s).reserveLaw := by
  have hup : (bringUp tb.restart r l s).reserveLaw := fun _ => Nat.zero_le _
  have hbefore := (beforeLoop_ringEvent tb r l s).reserveLaw hup
  rw [restart_eq, judgeLoop, onlyIf]
  split
  · exact tripOn_reserveLaw .loop hbefore
  · exact hbefore

/-! ### The commits -/

/-- R74: whatever the reserve was, the application of a commit leaves it within the new capacity, or the chiller
unfitted. -/
theorem pclCommitted_reserveLaw (was : Bool) (s : State) : (pclCommitted was s).reserveLaw := by
  have zero (u : State) : (updPcl (fun k => { k with reserve := 0, cause := none }) u).reserveLaw :=
    fun _ => Nat.zero_le _
  unfold pclCommitted
  refine (reEvaluate_event .start).reserveLaw ?_
  split
  · exact zero _
  · simp only [fitChiller]
    split
    · exact (enterChillerFault_event _ .start).reserveLaw (zero _)
    · exact (runEval_event .start).reserveLaw (zero _)
  · have hclamped : (setReserve (min s.pcl.reserve s.chillerRow.capacity) s).reserveLaw :=
      fun _ => Nat.min_le_right _ _
    exact (runEval_event (applyThresholds_event .start)).reserveLaw hclamped
  · next hfit => exact fun h => absurd (h.symm.trans hfit) (by decide)

theorem commit_precool {table : Nat} (tb : Tables) (h : table ≠ 5) :
    (tb.commit table).precool = tb.precool := by
  unfold Tables.commit
  split <;> first | rfl | exact absurd rfl h

theorem applyCommit_reserveLaw (table : Nat) {s : State} (hs : s.reserveLaw) :
    (applyCommit table s (updTables (fun x => x.commit table) s)).reserveLaw := by
  by_cases h5 : table = 5
  · subst h5
    exact (onlyIf_event _ _ .start (post_event _ .start)).reserveLaw (pclCommitted_reserveLaw _ _)
  · have htaken : (updTables (fun x => x.commit table) s).reserveLaw :=
      reserveLaw_congr (s := s) (by simp [State.chillerRow, commit_precool s.tables h5]) rfl hs
    by_cases h1 : table = 1
    · subst h1
      obtain ⟨u, hu, hend⟩ := applyNodeMap_events (updTables (fun x => x.commit 1) s)
      have hu' : u.reserveLaw := reserveLaw_of_ringPart (congrArg Prod.fst hu) htaken
      exact hend.reserveLaw (reserveLaw_congr (s := u) rfl rfl hu')
    · exact (applyCommit_ringEvent s h1 .start).reserveLaw htaken

theorem tableCommitRequest_reserveLaw (rq : Req) (table : Nat) {s : State} (hs : s.reserveLaw) :
    (tableCommitRequest rq table s).reserveLaw := by
  have replied st bs (u : State) (hu : u.reserveLaw) : (reply rq 5 st bs u).reserveLaw :=
    reserveLaw_of_outsideRif (reply_outsideRif rq 5 st bs u) hu
  simp only [tableCommitRequest]
  split
  · exact replied _ _ _ hs
  · split
    · exact replied _ _ _ hs
    · exact replied _ _ _ ((judgeSet_event .start).reserveLaw (applyCommit_reserveLaw table hs))

/-! ### Every command -/

theorem exec_reserveLaw (c : Instr) (s t : State) (hs : s.reserveLaw) (h : exec c s = .next t) :
    t.reserveLaw := by
  cases hring : bilCommand c || unitCommand c
  case true => exact (exec_ringEvent hring h).reserveLaw hs
  case false =>
    cases hrif : rifCommand c
    case true => exact reserveLaw_of_outsideRif (exec_outsideRif hrif h) hs
    case false =>
      have restarted (hc : (∃ d l, c = .powerOn d l) ∨ (∃ l, c = .supplyDip l) ∨
          ∃ l, c = .commandRestart l) : t.reserveLaw := by
        obtain rfl | ⟨tb, r, l, rfl, -⟩ := exec_restart h hc
        · exact hs
        · exact restart_reserveLaw tb r l s
      cases c
      case tableCommit => exact running_keeps h hs (tableCommitRequest_reserveLaw _ _)
      case tripRequest rq =>
        exact running_keeps h hs fun hs =>
          reserveLaw_of_outsideRif (reply_outsideRif rq 17 .ok [] _) (tripOn_reserveLaw .request hs)
      case tripCause c => exact running_keeps h hs (tripOn_reserveLaw c)
      case tripLoopOpen =>
        exact running_keeps h hs (tripOn_reserveLaw .loop (s := { s with pins := { s.pins with loopOpen := true } }))
      case supplyMonitorTrip => exact running_keeps h hs fun hs => tripOn_reserveLaw .supply hs
      case powerOn d l => exact restarted (.inl ⟨d, l, rfl⟩)
      case supplyDip l => exact restarted (.inr (.inl ⟨l, rfl⟩))
      case commandRestart l => exact restarted (.inr (.inr ⟨l, rfl⟩))
      all_goals first | exact Bool.noConfusion hring | exact Bool.noConfusion hrif

/-- Settles O8: the reserve changes only within its bound, and a commit of another capacity clamps it. -/
theorem reserveWithinCapacity : Obligations.ReserveWithinCapacity :=
  keptByStep_of (fun _ _ _ hs => hs) exec_reserveLaw (fun s hs => (tick_ringEvent s).reserveLaw hs)
    (fun s hs => (tickInReset_ringEvent s).reserveLaw hs)

end Sys2Proof.Machine
end

section
/-! The laws of the ring interface's queues (R188 to R191), each on its own: the arbiter only drains the queues, an
operation that queues keeps their bounds, and the CLOSEs of a trip leave no opening command behind. O7 follows. -/

namespace Sys2Proof.Machine

open Sys2Proof

/-! ### The arbiter drains the queues (R192) -/

/-- What the arbiter's choice can do to the queues. A frame refused at egress may add a notice. -/
structure Rif.Drains (r r' : Rif) : Prop where
  transit : r'.transit.length ≤ r.transit.length
  replies : r'.placesTaken ≤ r.placesTaken
  notices : r.notices.length ≤ Config.noticePlaces → r'.notices.length ≤ Config.noticePlaces
  commands : r'.commands <:+ r.commands
  tripTaken : r'.tripTaken = r.tripTaken

theorem Rif.Drains.refl (r : Rif) : r.Drains r := ⟨le_rfl, le_rfl, id, List.suffix_rfl, rfl⟩

theorem Rif.Drains.trans {r r' r'' : Rif} (h : r.Drains r') (h' : r'.Drains r'') : r.Drains r'' :=
  ⟨h'.transit.trans h.transit, h'.replies.trans h.replies, h'.notices ∘ h.notices,
    h'.commands.trans h.commands, h'.tripTaken.trans h.tripTaken⟩

theorem sendReplyOrNotice_drains (s : State) : s.rif.Drains (sendReplyOrNotice s).rif := by
  unfold sendReplyOrNotice
  split
  · next y ys hreplies =>
    exact ⟨le_rfl, by simp [Rif.placesTaken, hreplies], id, List.suffix_rfl, rfl⟩
  · next n ns _ hnotices =>
    refine ⟨le_rfl, le_rfl, fun h => ?_, List.suffix_rfl, rfl⟩
    rw [hnotices, List.length_cons] at h
    exact Nat.le_of_succ_le h
  · exact ⟨le_rfl, le_rfl, id, List.suffix_rfl, rfl⟩

@[simp] theorem pushNotice_transit (n : Notice) (r : Rif) : (r.pushNotice n).transit = r.transit := by
  unfold Rif.pushNotice
  split <;> rfl

@[simp] theorem pushNotice_commands (n : Notice) (r : Rif) : (r.pushNotice n).commands = r.commands := by
  unfold Rif.pushNotice
  split <;> rfl

@[simp] theorem pushNotice_placesTaken (n : Notice) (r : Rif) :
    (r.pushNotice n).placesTaken = r.placesTaken := by
  unfold Rif.pushNotice
  split <;> rfl

@[simp] theorem pushNotice_tripTaken (n : Notice) (r : Rif) : (r.pushNotice n).tripTaken = r.tripTaken := by
  unfold Rif.pushNotice
  split <;> rfl

theorem pushNotice_drains (n : Notice) (r : Rif) : r.Drains (r.pushNotice n) :=
  ⟨by simp, by simp, pushNotice_bound n r, by simp, by simp⟩

theorem dropRefused_drains (s : State) (f : Frame) (r : Rif) : r.Drains (dropRefused s f r) := by
  unfold dropRefused
  split
  · exact pushNotice_drains _ r
  · exact .refl r

theorem arbitrate_drains : ∀ (n : Nat) (s : State), s.rif.Drains (arbitrate n s).rif
  | 0, s => ⟨le_rfl, le_rfl, id, List.suffix_rfl, rfl⟩
  | n + 1, s => by
    unfold arbitrate
    split
    · next e es hcommands =>
      have hpop : s.rif.Drains { s.rif with commands := es } :=
        ⟨le_rfl, le_rfl, id, hcommands ▸ List.suffix_cons e es, rfl⟩
      split
      · exact ⟨le_rfl, le_rfl, id, hcommands ▸ List.suffix_cons e es, rfl⟩
      · exact hpop.trans (arbitrate_drains n { s with rif := { s.rif with commands := es } })
    · next t ts _ htransit =>
      have hshorter : ts.length ≤ s.rif.transit.length := by
        rw [htransit]
        exact Nat.le_succ _
      split
      · exact sendReplyOrNotice_drains s
      · split
        · next f _ =>
          have hpop : s.rif.Drains { s.rif with transit := ts } :=
            ⟨hshorter, le_rfl, id, List.suffix_rfl, rfl⟩
          exact (hpop.trans (dropRefused_drains s f _)).trans
            (arbitrate_drains n { s with rif := dropRefused s f { s.rif with transit := ts } })
        · exact ⟨hshorter, le_rfl, id, List.suffix_rfl, rfl⟩
    · exact sendReplyOrNotice_drains s

theorem chooseNext_drains (s : State) : s.rif.Drains (chooseNext s).rif := arbitrate_drains _ s

theorem kick_drains (s : State) : s.rif.Drains (kick s).rif := by
  unfold kick
  split
  · exact chooseNext_drains s
  · exact .refl _

/-! ### The two laws and what they read -/

/-- Each of the two laws of RIF that holds in `s` holds in `t`. -/
structure KeepsQueues (s t : State) : Prop where
  ring : s.ringLaw → t.ringLaw
  trip : s.tripQueueLaw → t.tripQueueLaw

theorem KeepsQueues.refl (s : State) : KeepsQueues s s := ⟨id, id⟩

theorem KeepsQueues.trans {s t u : State} (h : KeepsQueues s t) (h' : KeepsQueues t u) : KeepsQueues s u :=
  ⟨h'.ring ∘ h.ring, h'.trip ∘ h.trip⟩

theorem actuatorRoles_congr {s t : State} (h : t.tables.nodeMap.active = s.tables.nodeMap.active) :
    t.actuatorRoles = s.actuatorRoles := by
  simp [State.actuatorRoles, State.nodeRows, h]

theorem tripHeld_congr {s t : State} (hlatch : t.smc.latch = s.smc.latch)
    (htaken : t.rif.tripTaken = s.rif.tripTaken) : t.tripHeld = s.tripHeld := by
  simp [State.tripHeld, State.latched, hlatch, htaken]

theorem ringLaw_of_drains {s t : State} (h : s.rif.Drains t.rif) (hs : s.ringLaw) : t.ringLaw :=
  ⟨h.transit.trans hs.transit, h.replies.trans hs.replies, h.notices hs.notices,
    hs.oneEntry.sublist (h.commands.sublist.map _)⟩

/-- The law of the trip reads the commands, the actuator roles and whether the filters act in trip. -/
theorem tripQueueLaw_of_sublist {s t : State} (hcommands : t.rif.commands ⊆ s.rif.commands)
    (hmap : t.tables.nodeMap.active = s.tables.nodeMap.active) (hheld : t.tripHeld = s.tripHeld)
    (hs : s.tripQueueLaw) : t.tripQueueLaw where
  mapped e he := actuatorRoles_congr hmap ▸ hs.mapped e (hcommands he)
  held ht e he := hs.held (hheld ▸ ht) e (hcommands he)

/-- The queues drained, and nothing else that the laws read changed. -/
theorem keepsQueues_of_drains {s t : State} (h : s.rif.Drains t.rif)
    (hmap : t.tables.nodeMap.active = s.tables.nodeMap.active) (hlatch : t.smc.latch = s.smc.latch) :
    KeepsQueues s t :=
  ⟨ringLaw_of_drains h,
    tripQueueLaw_of_sublist h.commands.subset hmap (tripHeld_congr hlatch h.tripTaken)⟩

theorem keepsQueues_of_ringPart {s t : State} (h : t.ringPart = s.ringPart) : KeepsQueues s t := by
  have hrif : t.rif = s.rif := (congrArg RingPart.rif h :)
  exact keepsQueues_of_drains (hrif ▸ .refl _) (congrArg RingPart.nodeMap h :)
    (congrArg RingPart.latch h :)

theorem post_keepsQueues (i : Instr) (s : State) : KeepsQueues s (post i s) := keepsQueues_of_ringPart rfl

/-- A change of RIF that only drains its queues. -/
theorem updRif_keepsQueues {f : Rif → Rif} {s : State} (h : s.rif.Drains (f s.rif)) :
    KeepsQueues s (updRif f s) := keepsQueues_of_drains h rfl rfl

/-- A change of RIF's counters and flags. -/
theorem counted_keepsQueues {f : Rif → Rif} {s : State} (htransit : (f s.rif).transit = s.rif.transit)
    (hreplies : (f s.rif).placesTaken = s.rif.placesTaken) (hnotices : (f s.rif).notices = s.rif.notices)
    (hcommands : (f s.rif).commands = s.rif.commands) (htaken : (f s.rif).tripTaken = s.rif.tripTaken) :
    KeepsQueues s (updRif f s) :=
  updRif_keepsQueues
    ⟨htransit ▸ le_rfl, hreplies ▸ le_rfl, fun h => hnotices ▸ h, hcommands ▸ List.suffix_rfl, htaken⟩

theorem kick_keepsQueues (s : State) : KeepsQueues s (kick s) :=
  keepsQueues_of_drains (kick_drains s) (by simp) (by simp)

/-! ### Queueing -/

theorem pushNotice_keepsQueues (n : Notice) (s : State) : KeepsQueues s (updRif (Rif.pushNotice n) s) :=
  updRif_keepsQueues (pushNotice_drains n s.rif)

theorem noticeTo_keepsQueues (d : Nat) (k : NoticeKind) (n : Nat) (bs : List Byte) (s : State) :
    KeepsQueues s (noticeTo d k n bs s) := (pushNotice_keepsQueues _ s).trans (kick_keepsQueues _)

theorem pushReply_keeps (y : Reply) (r : Rif) : (r.pushReply y).transit = r.transit
    ∧ (r.pushReply y).notices = r.notices ∧ (r.pushReply y).commands = r.commands
    ∧ (r.pushReply y).tripTaken = r.tripTaken := by
  unfold Rif.pushReply
  split
  · exact ⟨rfl, rfl, rfl, rfl⟩
  · split <;> exact ⟨rfl, rfl, rfl, rfl⟩

/-- R191: a reply fills a place that was reserved, or a free one. -/
theorem pushReply_keepsQueues (y : Reply) (s : State) : KeepsQueues s (updRif (Rif.pushReply y) s) := by
  obtain ⟨htransit, hnotices, hcommands, htaken⟩ := pushReply_keeps y s.rif
  refine ⟨fun hs => ⟨?_, pushReply_bound y s.rif hs.replies, ?_, ?_⟩, fun hs =>
    tripQueueLaw_of_sublist (s := s) (hcommands ▸ List.Subset.refl _) rfl (tripHeld_congr rfl htaken) hs⟩
  · exact (congrArg List.length htransit).trans_le hs.transit
  · exact (congrArg List.length hnotices).trans_le hs.notices
  · exact (congrArg (List.map CmdEntry.role) hcommands : _) ▸ hs.oneEntry

theorem reply_keepsQueues (rq : Req) (n : Nat) (st : Status) (bs : List Byte) (s : State) :
    KeepsQueues s (reply rq n st bs s) := (pushReply_keepsQueues _ s).trans (kick_keepsQueues _)

/-- R188: a forwarded frame joins the transit buffer only while it has a place. -/
theorem forward_keepsQueues (bs : List Byte) (s : State) : KeepsQueues s (forward bs s) := by
  unfold forward
  split
  · next hroom =>
    have hjoined : KeepsQueues s (updRif (fun r => { r with transit := r.transit ++ [bs] }) s) := by
      refine ⟨fun hs => ⟨?_, hs.replies, hs.notices, hs.oneEntry⟩, fun hs => ⟨hs.mapped, hs.held⟩⟩
      simpa [updRif] using Nat.succ_le_of_lt hroom
    exact hjoined.trans (kick_keepsQueues _)
  · exact counted_keepsQueues rfl rfl rfl rfl rfl

/-- R190: an entry of the queue after a command for a role is that command or an entry of another role. -/
theorem mem_enqueue {x e : CmdEntry} {q : List CmdEntry} (h : e ∈ enqueue x q) :
    e = x ∨ (e ∈ q ∧ e.role ≠ x.role) := by
  unfold enqueue at h
  split at h
  · next hnone =>
    rcases List.mem_append.mp h with hq | hx
    · exact .inr ⟨hq, by simpa using List.find?_eq_none.mp hnone e hq⟩
    · exact .inl (List.mem_singleton.mp hx)
  · split at h
    · rcases List.mem_append.mp h with hq | hx
      · obtain ⟨hmem, hne⟩ := List.mem_filter.mp hq
        exact .inr ⟨hmem, by simpa using hne⟩
      · exact .inl (List.mem_singleton.mp hx)
    · obtain ⟨y, hy, rfl⟩ := List.mem_map.mp h
      by_cases hrole : y.role = x.role
      · exact .inl (if_pos (by simp [hrole]))
      · rw [if_neg (by simp [hrole])]
        exact .inr ⟨hy, hrole⟩

/-- A role with a row is one of the row order. -/
theorem mem_actuatorRoles {s : State} {r : Role} (hmap : s.mapped r = true) (hact : r.isActuator = true) :
    r ∈ s.actuatorRoles := by
  obtain ⟨x, hx⟩ := Option.isSome_iff_exists.mp hmap
  have hrole : x.2.role = r := by simpa using List.find?_some hx
  exact List.mem_filter.mpr ⟨List.mem_map.mpr ⟨x, List.mem_of_find?_eq_some hx, hrole⟩, hact⟩

theorem mapped_of_mem_actuatorRoles {s : State} {r : Role} (h : r ∈ s.actuatorRoles) :
    s.mapped r = true := by
  obtain ⟨x, hx, hrole⟩ := List.mem_map.mp (List.mem_filter.mp h).1
  exact List.find?_isSome.mpr ⟨x, hx, by simp [hrole]⟩

/-- R190: a command for a role, as it is queued before the arbiter chooses. -/
def queued (r : Role) (c : ActCommand) (v : Nat) (s : State) : State :=
  updRif (fun x => { x with commands := enqueue (heldEntry s.tripHeld ⟨r, c, v⟩) x.commands }) s

theorem actuate_of_mapped {r : Role} {s : State} (h : s.mapped r = true) (c : ActCommand) (v : Nat) :
    actuate r c v s = kick (queued r c v s) := if_pos h

theorem queued_ringLaw (r : Role) (c : ActCommand) (v : Nat) {s : State} (hs : s.ringLaw) :
    (queued r c v s).ringLaw := ⟨hs.transit, hs.replies, hs.notices, enqueue_nodup _ _ hs.oneEntry⟩

theorem queued_mapped {r : Role} (c : ActCommand) (v : Nat) {s : State} (hact : r.isActuator = true)
    (hmap : s.mapped r = true) (hs : ∀ e ∈ s.rif.commands, e.role ∈ s.actuatorRoles) :
    ∀ e ∈ (queued r c v s).rif.commands, e.role ∈ (queued r c v s).actuatorRoles := by
  intro e he
  rcases mem_enqueue he with rfl | ⟨hq, -⟩
  · rw [heldEntry_role]
    exact mem_actuatorRoles hmap hact
  · exact hs e hq

theorem queued_keepsQueues {r : Role} (c : ActCommand) (v : Nat) {s : State} (hact : r.isActuator = true)
    (hmap : s.mapped r = true) : KeepsQueues s (queued r c v s) := by
  refine ⟨queued_ringLaw r c v, fun hs => ⟨queued_mapped c v hact hmap hs.mapped, fun ht e he => ?_⟩⟩
  rcases mem_enqueue he with rfl | ⟨hq, -⟩
  · rw [show s.tripHeld = true from ht]
    exact heldEntry_trip _
  · exact hs.held ht e hq

theorem actuate_keepsQueues {r : Role} (c : ActCommand) (v : Nat) (s : State)
    (hact : r.isActuator = true) : KeepsQueues s (actuate r c v s) := by
  by_cases hmap : s.mapped r = true
  · rw [actuate_of_mapped hmap]
    exact (queued_keepsQueues c v hact hmap).trans (kick_keepsQueues _)
  · rw [actuate, if_neg hmap]
    exact .refl s

theorem RingEvent.keepsQueues {s t : State} (h : RingEvent s t) : KeepsQueues s t := by
  induction h with
  | start => exact .refl s
  | other _ he ih => exact ih.trans (keepsQueues_of_ringPart he)
  | actuate r c v _ hr ih => exact ih.trans (actuate_keepsQueues c v _ hr)
  | noticeTo d k n bs _ ih => exact ih.trans (noticeTo_keepsQueues d k n bs _)
  | reply rq n st bs _ ih => exact ih.trans (reply_keepsQueues rq n st bs _)
  | reserve n _ _ ih => exact ih.trans (keepsQueues_of_drains (.refl _) rfl rfl)

/-! ### RIF's commands -/

theorem serveRequest_keepsQueues (f : Frame) (s : State) : KeepsQueues s (serveRequest f s) := by
  simp only [serveRequest]
  split
  · exact reply_keepsQueues _ _ _ _ s
  · split
    · exact reply_keepsQueues _ _ _ _ s
    · split
      · exact post_keepsQueues _ s
      · exact reply_keepsQueues _ _ _ _ s

/-- R191: a REQUEST reserves a place only while there is one. -/
theorem takeRequest_keepsQueues (f : Frame) (s : State) : KeepsQueues s (takeRequest f s) := by
  unfold takeRequest
  split
  · next hroom =>
    have htaken : KeepsQueues s (updRif (fun r => { r with reserved := r.reserved + 1 }) s) := by
      refine ⟨fun hs => ⟨hs.transit, ?_, hs.notices, hs.oneEntry⟩, fun hs => ⟨hs.mapped, hs.held⟩⟩
      simpa [updRif, Rif.placesTaken, Nat.add_assoc] using Nat.succ_le_of_lt hroom
    exact htaken.trans (serveRequest_keepsQueues f _)
  · exact counted_keepsQueues rfl rfl rfl rfl rfl

theorem observe_keepsQueues (f : Frame) (s : State) : KeepsQueues s (observe f s) := by
  unfold observe
  split
  · exact post_keepsQueues _ s
  · exact .refl s

theorem takeIn_keepsQueues (f : Frame) (bc : Bool) (s : State) : KeepsQueues s (takeIn f bc s) := by
  unfold takeIn
  split
  · exact .refl s
  · split
    · exact takeRequest_keepsQueues f s
    · exact post_keepsQueues _ s
    · exact .refl s

theorem refuseActuate_keepsQueues (n : Nat) (f : Frame) (s : State) :
    KeepsQueues s (refuseActuate n f s) := (pushNotice_keepsQueues _ s).trans (kick_keepsQueues _)

theorem actuateFilter_keepsQueues (f : Frame) (bs : List Byte) (s : State) :
    KeepsQueues s (actuateFilter f bs s) := by
  unfold actuateFilter
  split
  · split
    · exact .refl s
    · split
      · exact refuseActuate_keepsQueues 1 f s
      · exact forward_keepsQueues bs s
  · split
    · exact refuseActuate_keepsQueues 0 f s
    · exact forward_keepsQueues bs s

theorem dispatch_keepsQueues (f : Frame) (bs : List Byte) (s : State) :
    KeepsQueues s (dispatch f bs s) := by
  unfold dispatch
  split
  · exact takeIn_keepsQueues f false s
  · split
    · exact actuateFilter_keepsQueues f bs s
    · split
      · exact (takeIn_keepsQueues f true s).trans (forward_keepsQueues bs _)
      · exact forward_keepsQueues bs s

theorem frameArrival_keepsQueues (bs : List Byte) (s : State) : KeepsQueues s (frameArrival bs s) := by
  unfold frameArrival takeFrame
  split
  · exact counted_keepsQueues rfl rfl rfl rfl rfl
  · split
    · exact .refl s
    · split
      · exact (observe_keepsQueues _ s).trans (dispatch_keepsQueues _ bs _)
      · exact (counted_keepsQueues rfl rfl rfl rfl rfl).trans (dispatch_keepsQueues _ bs _)

theorem sendDone_keepsQueues (s : State) : KeepsQueues s (sendDone s) := by
  have hdue (c : Bool) : KeepsQueues s (onlyIf c restartDue s) := by
    cases c
    · exact .refl s
    · exact keepsQueues_of_ringPart rfl
  unfold sendDone
  split
  · exact .refl s
  · exact (hdue _).trans (keepsQueues_of_drains (chooseNext_drains _) (by simp) (by simp))

theorem readItemRequest_keepsQueues (rq : Req) (code index unit second sect : Nat) (s : State) :
    KeepsQueues s (readItemRequest rq code index unit second sect s) := by
  have hcleared : KeepsQueues s (clearOverrun code s) := by
    unfold clearOverrun onlyIf
    split
    · exact counted_keepsQueues rfl rfl rfl rfl rfl
    · exact .refl s
  unfold readItemRequest
  split
  · exact reply_keepsQueues _ _ _ _ s
  · split
    · exact reply_keepsQueues _ _ _ _ s
    · split
      · exact reply_keepsQueues _ _ _ _ s
      · exact hcleared.trans (reply_keepsQueues _ _ _ _ _)

/-- R198: at RIF_TRIP every entry is held as one that does not open. -/
theorem rifTrip_keepsQueues (s : State) : KeepsQueues s (rifTrip s) := by
  refine ⟨fun hs => ⟨hs.transit, hs.replies, hs.notices, ?_⟩, fun hs => ⟨?_, ?_⟩⟩
  · have hroles : (s.rif.commands.map (heldEntry true)).map CmdEntry.role
        = s.rif.commands.map CmdEntry.role := by simp
    exact hroles ▸ hs.oneEntry
  · intro e he
    obtain ⟨x, hx, rfl⟩ := List.mem_map.mp he
    rw [heldEntry_role]
    exact hs.mapped x hx
  · intro _ e he
    obtain ⟨x, _, rfl⟩ := List.mem_map.mp he
    exact heldEntry_trip x

theorem exec_rif_keepsQueues {c : Instr} {s t : State} (hc : rifCommand c = true)
    (h : exec c s = .next t) : KeepsQueues s t := by
  have keeps {f : State → State} (hf : running s f = .next t) (he : KeepsQueues s (f s)) :
      KeepsQueues s t := running_keeps (P := KeepsQueues s) hf (.refl s) fun _ => he
  cases c
  case frameArrival bs => exact keeps h (frameArrival_keepsQueues bs s)
  case ringOutSendDone => exact keeps h (sendDone_keepsQueues s)
  case readItem => exact keeps h (readItemRequest_keepsQueues _ _ _ _ _ _ s)
  case restartRequest => exact keeps h ((pushReply_keepsQueues _ s).trans (kick_keepsQueues _))
  case rifTrip => exact keeps h (rifTrip_keepsQueues s)
  all_goals exact Bool.noConfusion hc

/-! ### The CLOSEs of a trip (R204) -/

theorem opens_close (r : Role) (v : Nat) (trip : Bool) : (heldEntry trip ⟨r, .close, v⟩).opens = false := by
  cases trip <;> rfl

/-- A CLOSE for each role of a list leaves no opening command but for other roles. -/
theorem forEach_close_opens (rs : List Role) {s : State} (hmap : ∀ r ∈ rs, s.mapped r = true)
    (hopen : ∀ e ∈ s.rif.commands, e.opens = true → e.role ∈ rs) :
    ∀ e ∈ (forEach rs close s).rif.commands, e.opens = false := by
  induction rs generalizing s with
  | nil =>
    intro e he
    exact Bool.eq_false_iff.mpr fun h => absurd (hopen e he h) (by simp)
  | cons r rs ih =>
    have hmapped : s.mapped r = true := hmap r (by simp)
    have hclose : close r s = kick (queued r .close 0 s) := actuate_of_mapped hmapped .close 0
    refine ih (s := close r s) (fun q hq => ?_) (fun e he hopens => ?_)
    · simpa [State.mapped, State.rowOf, State.nodeRows] using hmap q (by simp [hq])
    · rw [hclose] at he
      rcases mem_enqueue ((kick_drains _).commands.subset he) with rfl | ⟨hq, hne⟩
      · rw [opens_close] at hopens
        cases hopens
      · rw [heldEntry_role] at hne
        exact (List.mem_cons.mp (hopen e hq hopens)).resolve_left hne

/-- R204: after the CLOSEs of the trip no queued command opens, whatever was queued before. -/
theorem closeAll_opens {s : State} (hmap : ∀ e ∈ s.rif.commands, e.role ∈ s.actuatorRoles) :
    ∀ e ∈ (closeAll s).rif.commands, e.opens = false :=
  forEach_close_opens _ (fun _ hr => mapped_of_mem_actuatorRoles hr) fun e he _ => hmap e he

/-- Each queued command is for a role with a row: what the law of the trip says before the latch is judged. -/
def State.commandsMapped (s : State) : Prop := ∀ e ∈ s.rif.commands, e.role ∈ s.actuatorRoles

theorem close_commandsMapped {r : Role} {s : State} (hact : r.isActuator = true)
    (hs : s.commandsMapped) : (close r s).commandsMapped := by
  by_cases hmap : s.mapped r = true
  · have hclose : close r s = kick (queued r .close 0 s) := actuate_of_mapped hmap .close 0
    intro e he
    rw [actuatorRoles_congr (congrArg (fun x : Tables => x.nodeMap.active) (close_tables r s))]
    rw [hclose] at he
    exact queued_mapped .close 0 hact hmap hs e ((kick_drains _).commands.subset he)
  · rwa [close, actuate, if_neg hmap]

theorem forEach_close_commandsMapped (rs : List Role) (hact : ∀ r ∈ rs, r.isActuator = true) {s : State}
    (hs : s.commandsMapped) : (forEach rs close s).commandsMapped := by
  induction rs generalizing s with
  | nil => exact hs
  | cons r rs ih =>
    exact ih (fun q hq => hact q (by simp [hq])) (s := close r s)
      (close_commandsMapped (hact r (by simp)) hs)

theorem closeAll_commandsMapped {s : State} (hs : s.commandsMapped) : (closeAll s).commandsMapped :=
  forEach_close_commandsMapped _ (fun _ hr => (List.mem_filter.mp hr).2) hs

theorem closeAll_tripQueueLaw {s : State} (hs : s.commandsMapped) : (closeAll s).tripQueueLaw :=
  ⟨closeAll_commandsMapped hs, fun _ => closeAll_opens hs⟩

/-- R204: the latch set and the master isolation output released, before the CLOSEs. -/
def latching (c : TripCause) (s : State) : State :=
  { s with
    smc := { s.smc with latch := some ⟨c, s.ret.clock⟩ }
    pins := { s.pins with masterIsolation := false } }

theorem setLatch_eq (c : TripCause) (s : State) : setLatch c s =
    notice .trip 0 (tripData c s.ret.clock)
      (postAll tripMessages (setMode .trip (closeAll (latching c s)))) := rfl

theorem setLatch_keepsQueues (c : TripCause) (s : State) : KeepsQueues s (setLatch c s) := by
  have hclosed : KeepsQueues s (closeAll (latching c s)) :=
    ⟨fun hs => (closeAll_event .start).ringEvent.keepsQueues.ring (s := latching c s)
      ⟨hs.transit, hs.replies, hs.notices, hs.oneEntry⟩,
    fun hs => closeAll_tripQueueLaw (s := latching c s) hs.mapped⟩
  have htold : KeepsQueues (closeAll (latching c s))
      (postAll tripMessages (setMode .trip (closeAll (latching c s)))) := keepsQueues_of_ringPart rfl
  rw [setLatch_eq]
  exact (hclosed.trans htold).trans (noticeTo_keepsQueues _ _ _ _ _)

theorem tripOn_keepsQueues (c : TripCause) (s : State) : KeepsQueues s (tripOn c s) := by
  unfold tripOn
  split
  · exact keepsQueues_of_ringPart rfl
  · exact setLatch_keepsQueues c s

/-! ### The commits and the restarts -/

theorem commit_nodeMap {table : Nat} (tb : Tables) (h : table ≠ 1) :
    (tb.commit table).nodeMap = tb.nodeMap := by
  unfold Tables.commit
  split <;> first | rfl | exact absurd rfl h

/-- R5: with the queue dropped, the entries of the old node map are gone. -/
theorem applyNodeMap_laws (s : State) :
    (s.ringLaw → (applyNodeMap s).ringLaw) ∧ (applyNodeMap s).tripQueueLaw := by
  obtain ⟨u, hu, hend⟩ := applyNodeMap_events s
  have hrif : u.rif = s.rif := (congrArg (fun k => k.1.rif) hu :)
  refine ⟨fun hs => hend.ringEvent.keepsQueues.ring ?_, hend.ringEvent.keepsQueues.trip ?_⟩
  · have hring : u.ringLaw := ringLaw_of_drains (hrif ▸ .refl _) hs
    exact ⟨hring.transit, hring.replies, hring.notices, List.nodup_nil⟩
  · exact ⟨fun _ he => (by cases he), fun _ _ he => (by cases he)⟩

theorem applyCommit_keepsQueues (table : Nat) (s : State) :
    KeepsQueues s (applyCommit table s (updTables (fun x => x.commit table) s)) := by
  by_cases h1 : table = 1
  · subst h1
    obtain ⟨hring, htrip⟩ := applyNodeMap_laws (updTables (fun x => x.commit 1) s)
    exact ⟨fun hs => hring ⟨hs.transit, hs.replies, hs.notices, hs.oneEntry⟩, fun _ => htrip⟩
  · have htaken : KeepsQueues s (updTables (fun x => x.commit table) s) :=
      keepsQueues_of_drains (.refl _) (by simp [commit_nodeMap s.tables h1]) rfl
    exact htaken.trans (applyCommit_ringEvent s h1 .start).keepsQueues

theorem tableCommitRequest_keepsQueues (rq : Req) (table : Nat) (s : State) :
    KeepsQueues s (tableCommitRequest rq table s) := by
  simp only [tableCommitRequest]
  split
  · exact reply_keepsQueues _ _ _ _ s
  · split
    · exact reply_keepsQueues _ _ _ _ s
    · exact ((applyCommit_keepsQueues table s).trans (judgeSet_event .start).ringEvent.keepsQueues).trans
        (reply_keepsQueues _ _ _ _ _)

theorem restart_queueLaws (tb : Tables) (r : Retained) (l : Lines) (s : State) :
    (restart tb r l s).ringLaw ∧ (restart tb r l s).tripQueueLaw := by
  have hloop : KeepsQueues (beforeLoop tb r l s) (restart tb r l s) := by
    rw [restart_eq, judgeLoop, onlyIf]
    split
    · exact tripOn_keepsQueues .loop _
    · exact .refl _
  have hup := (beforeLoop_ringEvent tb r l s).keepsQueues.trans hloop
  exact ⟨hup.ring ⟨Nat.zero_le _, Nat.zero_le _, Nat.zero_le _, List.nodup_nil⟩,
    hup.trip ⟨fun _ he => (by cases he), fun _ _ he => (by cases he)⟩⟩

/-! ### Every command -/

theorem exec_keepsQueues (c : Instr) (s t : State) (h : exec c s = .next t) : KeepsQueues s t := by
  have keeps {f : State → State} (hf : running s f = .next t) (he : KeepsQueues s (f s)) :
      KeepsQueues s t := running_keeps (P := KeepsQueues s) hf (.refl s) fun _ => he
  cases hring : bilCommand c || unitCommand c
  case true => exact (exec_ringEvent hring h).keepsQueues
  case false =>
    cases hrif : rifCommand c
    case true => exact exec_rif_keepsQueues hrif h
    case false =>
      have restarted (hc : (∃ d l, c = .powerOn d l) ∨ (∃ l, c = .supplyDip l) ∨
          ∃ l, c = .commandRestart l) : KeepsQueues s t := by
        obtain rfl | ⟨tb, r, l, rfl, -⟩ := exec_restart h hc
        · exact .refl _
        · obtain ⟨hr, ht⟩ := restart_queueLaws tb r l s
          exact ⟨fun _ => hr, fun _ => ht⟩
      cases c
      case tableCommit => exact keeps h (tableCommitRequest_keepsQueues _ _ s)
      case tripRequest rq =>
        exact keeps h ((tripOn_keepsQueues .request s).trans (reply_keepsQueues rq 17 .ok [] _))
      case tripCause c => exact keeps h (tripOn_keepsQueues c s)
      case tripLoopOpen =>
        have hopen : KeepsQueues s { s with pins := { s.pins with loopOpen := true } } :=
          keepsQueues_of_ringPart rfl
        exact keeps h (hopen.trans (tripOn_keepsQueues .loop _))
      case supplyMonitorTrip =>
        exact keeps h ((tripOn_keepsQueues .supply s).trans (keepsQueues_of_ringPart rfl))
      case powerOn d l => exact restarted (.inl ⟨d, l, rfl⟩)
      case supplyDip l => exact restarted (.inr (.inl ⟨l, rfl⟩))
      case commandRestart l => exact restarted (.inr (.inr ⟨l, rfl⟩))
      all_goals first | exact Bool.noConfusion hring | exact Bool.noConfusion hrif

/-- Settles O7: each command keeps each of the two laws, as does the tick. -/
theorem ringLawsKept : Obligations.RingLawsKept := by
  refine ⟨keptByStep_of (fun _ _ _ hs => ⟨hs.transit, hs.replies, hs.notices, hs.oneEntry⟩) ?_ ?_ ?_,
    keptByStep_of (fun _ _ _ hs => ⟨hs.mapped, hs.held⟩) ?_ ?_ ?_⟩
  · exact fun c s t hs h => (exec_keepsQueues c s t h).ring hs
  · exact fun s => (tick_ringEvent s).keepsQueues.ring
  · exact fun s => (tickInReset_ringEvent s).keepsQueues.ring
  · exact fun c s t hs h => (exec_keepsQueues c s t h).trip hs
  · exact fun s => (tick_ringEvent s).keepsQueues.trip
  · exact fun s => (tickInReset_ringEvent s).keepsQueues.trip

end Sys2Proof.Machine
end

section
/-! The density against its two arguments, with the figures built on it (R25, R29, R30), and the caps of a tender
against what they bound (R158, R162). O11 and O14 follow. -/

namespace Sys2Proof.Machine

open Sys2Proof

/-! ### The clamped inputs and the denominator, as functions -/

theorem clampInt_le_clampInt {lo hi : Int} (h : lo ≤ hi) {x y : Int} (hxy : x ≤ y) :
    clampInt lo hi x ≤ clampInt lo hi y := by
  simp only [clampInt]
  split_ifs <;> omega

theorem densityP_le_densityP {p q : Int} (h : p ≤ q) : densityP p ≤ densityP q :=
  Int.toNat_le_toNat (clampInt_le_clampInt (by decide) h)

theorem kelvin_le_kelvin {c d : Int} (h : c ≤ d) : kelvin c ≤ kelvin d :=
  Int.toNat_le_toNat (Int.add_le_add_right (clampInt_le_clampInt (by decide) h) 2732)

theorem densityD_le_densityD (bq : Nat) (p : Int) {c d : Int} (h : c ≤ d) :
    densityD bq p c ≤ densityD bq p d :=
  Nat.add_le_add_right (Nat.mul_le_mul_left 100 (kelvin_le_kelvin h)) _

/-- The denominator grows more slowly than the pressure: the temperature's term, at least 213200, outweighs the
rounding of the other, which is below one for each unit of the larger pressure. -/
theorem densityP_mul_densityD_le (bq : Nat) (c : Int) {p q : Int} (h : p ≤ q) :
    densityP p * densityD bq q c ≤ densityP q * densityD bq p c := by
  have hpq := densityP_le_densityP h
  have hq := densityP_le q
  have hqt : densityP q ≤ 100 * kelvin c := by
    have ht := le_kelvin c
    omega
  rcases Nat.eq_or_lt_of_le hpq with heq | hlt
  · simp [densityD, heq]
  · simp only [densityD]
    generalize densityP p = x at *
    generalize densityP q = y at *
    have hdown : 100 * (bq * y / 100) ≤ bq * y := Nat.mul_div_le _ _
    have hup : bq * x < 100 * (bq * x / 100) + 100 := by omega
    generalize bq * y / 100 = m at *
    generalize bq * x / 100 = n at *
    generalize 100 * kelvin c = a at *
    have hm : x * (100 * m) ≤ x * (bq * y) := Nat.mul_le_mul_left x hdown
    have hn : y * (bq * x) ≤ y * (100 * n + 100) := Nat.mul_le_mul_left y hup.le
    have hround : x * m ≤ y * n + y := by linarith
    have hgrow : (x + 1) * a ≤ y * a := Nat.mul_le_mul_right a hlt
    linarith

/-! ### The density (R22) -/

theorem div_le_div_of_cross {a b c d : Nat} (hb : 0 < b) (hd : 0 < d) (h : a * d ≤ c * b) :
    a / b ≤ c / d := by
  rw [Nat.le_div_iff_mul_le hd]
  refine Nat.le_of_mul_le_mul_right ?_ hb
  calc a / b * d * b
    _ = a / b * b * d := Nat.mul_right_comm _ _ _
    _ ≤ a * d := Nat.mul_le_mul_right d (Nat.div_mul_le_self a b)
    _ ≤ c * b := h

theorem densityD_pos (bq : Nat) (p c : Int) : 0 < densityD bq p c :=
  Nat.lt_of_lt_of_le (by decide) (le_densityD bq p c)

theorem density_le_of_pressure_le (bq : Nat) {p q : Int} (c : Int) (h : p ≤ q) :
    density bq p c ≤ density bq q c := by
  refine div_le_div_of_cross (densityD_pos bq p c) (densityD_pos bq q c) ?_
  rw [Nat.mul_assoc, Nat.mul_assoc]
  exact Nat.mul_le_mul_left _ (densityP_mul_densityD_le bq c h)

theorem density_le_of_temperature_le (bq : Nat) (p : Int) {c d : Int} (h : c ≤ d) :
    density bq p d ≤ density bq p c :=
  Nat.div_le_div_left (densityD_le_densityD bq p h) (densityD_pos bq p c)

/-- The warmest and least dense case of R29: B_q 4000 at the nominal pressure of H35. -/
theorem le_refDensity {bq : Nat} (hb : bq ≤ 4000) (k : PClass) : 19819 ≤ refDensity bq k := by
  have hD (p : Int) : bq * densityP p / 100 ≤ 40 * densityP p := by
    have hterm : bq * densityP p ≤ 4000 * densityP p := Nat.mul_le_mul_right _ hb
    omega
  have hkelvin : kelvin 150 = 2882 := by decide
  have hpos := densityD_pos bq (Config.nominal k) 150
  rw [refDensity, density_eq, Nat.le_div_iff_mul_le hpos, densityD, hkelvin]
  have hterm := hD (Config.nominal k)
  cases k
  · have hp : densityP (Config.nominal .h35) = 3500 := by decide
    rw [hp] at hterm ⊢
    omega
  · have hp : densityP (Config.nominal .h70) = 7000 := by decide
    rw [hp] at hterm ⊢
    omega

theorem inventoryOf_le (bq : Nat) {v : Nat} (hv : v ≤ 20000) (p c : Int) :
    inventoryOf bq v p c ≤ 2274660 :=
  Nat.div_le_div_right (c := 1000) (Nat.mul_le_mul (density_le bq p c) hv)

@[simp] theorem stateOfCharge_zero (bq : Nat) (k : PClass) (c : Int) : stateOfCharge bq k 0 c = 0 := by
  simp [stateOfCharge, clampNat]

theorem stateOfCharge_eq_min (bq : Nat) (k : PClass) (p c : Int) :
    stateOfCharge bq k p c = min 1200 (density bq p c * 1000 / refDensity bq k) := by
  unfold stateOfCharge clampNat
  split <;> omega

/-- Settles O11: the quotient's dividend rises with the pressure faster than its divisor, and only the divisor
rises with the temperature. -/
theorem densityAndInventory : Obligations.DensityAndInventory :=
  ⟨⟨fun bq _ _ c _ h => density_le_of_pressure_le bq c h,
    fun bq p _ _ _ h => density_le_of_temperature_le bq p h⟩,
    fun bq _ p c _ hv => ⟨rfl, inventoryOf_le bq hv p c⟩,
    fun _ k hb => le_refDensity hb k,
    fun bq k p c _ => ⟨stateOfCharge_eq_min bq k p c, stateOfCharge_zero bq k c⟩⟩

/-! ### Caps (R158, R162) -/

/-- What an amount buys costs no more than the amount: rounding the mass down leaves less than the half unit that
rounding the amount half up could add. -/
theorem amountOf_gramsFor_le (amount price : Nat) : amountOf (gramsFor amount price) price ≤ amount := by
  have hbought : gramsFor amount price * price ≤ amount * 100000 := Nat.div_mul_le_self _ _
  rw [amountOf_eq]
  omega

theorem amountOf_cardCap_le (most amount price : Nat) : amountOf (cardCap most amount price) price ≤ amount :=
  (amountOf_le_amountOf (Nat.min_le_right _ _) price).trans (amountOf_gramsFor_le amount price)

theorem fleetCap_le_gramsFor (most price : Nat) (a : Account) :
    fleetCap most price a ≤ gramsFor a.available price :=
  (Nat.min_le_right _ _).trans (Nat.min_le_right _ _)

theorem amountOf_fleetCap_le (most price : Nat) (a : Account) :
    amountOf (fleetCap most price a) price ≤ a.available :=
  (amountOf_le_amountOf (fleetCap_le_gramsFor most price a) price).trans (amountOf_gramsFor_le _ _)

/-- Settles O14: each cap is the smallest of what bounds it, and amounts rise with the mass. -/
theorem capsWithinBounds : Obligations.CapsWithinBounds :=
  ⟨fun most amount price _ => ⟨Nat.min_le_left _ _, amountOf_cardCap_le most amount price⟩,
    fun most price a _ => ⟨Nat.min_le_left _ _, (Nat.min_le_right _ _).trans (Nat.min_le_left _ _),
      amountOf_fleetCap_le most price a⟩,
    fun x => ⟨Nat.min_le_left _ _, Nat.min_le_right _ _,
      amountOf_le_amountOf (Nat.min_le_right _ _) x.price⟩⟩

end Sys2Proof.Machine
end

section
/-! The law of the funds (R161 to R163, R169). What it speaks of is changed by the events of BIL alone: a tender
opens a hold, a lowered cap shrinks it, and a cancellation, a settlement or a restart closes it. O9 follows. -/

namespace Sys2Proof.Machine

open Sys2Proof

/-! ### The law and what it reads -/

/-- The funds are covered, and every tender context is. -/
structure State.covered (s : State) : Prop where
  funds : s.fundsLaw
  tender : s.tenderLaw

theorem tenderLaw_congr {s t : State} (h : t.fundsPart = s.fundsPart) (hs : s.tenderLaw) :
    t.tenderLaw := by
  obtain ⟨haccounts, hreserved, hsnapshots, hbil⟩ := FundsPart.mk.inj h
  have hsnap (p : Pos) :
      (t.ret.snapshots.get p).map Snapshot.tender = (s.ret.snapshots.get p).map Snapshot.tender := by
    simpa using congrArg (PerPos.get · p) hsnapshots
  refine ⟨?_, ?_, ?_, ?_, ?_⟩
  · rw [hbil, hreserved]
    exact hs.place
  · intro p k hk
    obtain ⟨x, hx⟩ := hs.live p k (hbil ▸ hk)
    have hmap := hsnap p
    rw [hx, Option.map_some, Option.map_eq_some_iff] at hmap
    obtain ⟨y, hy, -⟩ := hmap
    exact ⟨y, hy⟩
  · intro p y hy
    have hmap := hsnap p
    rw [hy, Option.map_some, eq_comm, Option.map_eq_some_iff] at hmap
    obtain ⟨x, hx, hxy⟩ := hmap
    obtain ⟨k, hk, hkind, haccount, hprice, hcap⟩ := hs.snapshot p x hx
    simp only [Snapshot.tender, Prod.mk.injEq] at hxy
    obtain ⟨h1, h2, h3, h4⟩ := hxy
    exact ⟨k, hbil ▸ hk, h1 ▸ hkind, h2 ▸ haccount, h3 ▸ hprice, h4 ▸ hcap⟩
  · rw [hbil, haccounts]
    exact hs.hold
  · rw [hbil, haccounts]
    exact hs.stray

theorem covered_congr {s t : State} (h : t.fundsPart = s.fundsPart) (hs : s.covered) : t.covered := by
  have haccounts : t.ret.accounts = s.ret.accounts := (congrArg FundsPart.accounts h :)
  exact ⟨⟨haccounts ▸ hs.funds.covered, haccounts ▸ hs.funds.uniqueIds⟩, tenderLaw_congr h hs.tender⟩

theorem fundsPart_of_outsideRif {s t : State} (h : t.outsideRif = s.outsideRif) :
    t.fundsPart = s.fundsPart := (congrArg State.fundsPart h :)

theorem UnitEvent.fundsPart_eq {s t : State} (h : UnitEvent s t) : t.fundsPart = s.fundsPart := by
  induction h with
  | start => rfl
  | other _ he ih => exact (congrArg Prod.snd he).trans ih
  | actuate r c v _ _ ih => exact (fundsPart_of_outsideRif (actuate_outsideRif r c v _)).trans ih
  | noticeTo d k n bs _ ih => exact (fundsPart_of_outsideRif (noticeTo_outsideRif d k n bs _)).trans ih
  | reply rq n st bs _ ih => exact (fundsPart_of_outsideRif (reply_outsideRif rq n st bs _)).trans ih
  | reserve n _ _ ih => exact ih

theorem UnitEvent.covered {s t : State} (h : UnitEvent s t) : s.covered → t.covered :=
  covered_congr h.fundsPart_eq

theorem reply_covered (rq : Req) (n : Nat) (st : Status) (bs : List Byte) {s : State} (hs : s.covered) :
    (reply rq n st bs s).covered := covered_congr (fundsPart_of_outsideRif (reply_outsideRif rq n st bs s)) hs

theorem noticeTo_covered (d : Nat) (k : NoticeKind) (n : Nat) (bs : List Byte) {s : State}
    (hs : s.covered) : (noticeTo d k n bs s).covered :=
  covered_congr (fundsPart_of_outsideRif (noticeTo_outsideRif d k n bs s)) hs

/-! ### Accounts (R163) -/

/-- Every account changed by a function. -/
def mapAccounts (f : Account → Account) (s : State) : State :=
  updRet (fun r => { r with accounts := r.accounts.map (Option.map f) }) s

theorem updAccount_eq (id : Nat) (f : Account → Account) (s : State) :
    updAccount id f s = mapAccounts (fun a => if a.id = id then f a else a) s := rfl

theorem some_mem_map {f : Account → Account} {a : Account} {xs : List (Option Account)} :
    some a ∈ xs.map (Option.map f) ↔ ∃ b, some b ∈ xs ∧ f b = a := by
  simp [List.mem_map, Option.map_eq_some_iff]

theorem ids_map {f : Account → Account} (hid : ∀ a, (f a).id = a.id) (xs : List (Option Account)) :
    ((xs.map (Option.map f)).filterMap id).map Account.id = (xs.filterMap id).map Account.id := by
  induction xs with
  | nil => rfl
  | cons o xs ih => cases o <;> simp_all

theorem account_spec {s : State} {n : Nat} {a : Account} (h : s.account n = some a) :
    some a ∈ s.ret.accounts ∧ a.id = n := by
  obtain ⟨o, ho, hbind⟩ := List.exists_of_findSome?_eq_some h
  obtain ⟨b, rfl, hb⟩ := Option.bind_eq_some_iff.mp hbind
  split at hb
  · next hid =>
    obtain rfl := Option.some.inj hb
    exact ⟨ho, hid⟩
  · cases hb

/-- R163: an id names one account. -/
theorem State.fundsLaw.account_unique {s : State} (hs : s.fundsLaw) {a b : Account}
    (ha : some a ∈ s.ret.accounts) (hb : some b ∈ s.ret.accounts) (h : a.id = b.id) : a = b :=
  List.inj_on_of_nodup_map hs.uniqueIds (List.mem_filterMap.mpr ⟨some a, ha, rfl⟩)
    (List.mem_filterMap.mpr ⟨some b, hb, rfl⟩) h

/-- A change of accounts that keeps their ids and holds, and covers the holds. -/
theorem mapAccounts_covered {f : Account → Account} {s : State} (hid : ∀ a, (f a).id = a.id)
    (hholds : ∀ a, (f a).holds = a.holds)
    (hbalance : ∀ a, some a ∈ s.ret.accounts → a.held ≤ a.balance → a.held ≤ (f a).balance)
    (hs : s.covered) : (mapAccounts f s).covered := by
  refine ⟨⟨?_, ?_⟩, ⟨hs.tender.place, hs.tender.live, hs.tender.snapshot, ?_, ?_⟩⟩
  · intro a ha
    obtain ⟨b, hb, rfl⟩ := some_mem_map.mp ha
    rw [Account.held, hholds]
    exact hbalance b hb (hs.funds.covered b hb)
  · exact (congrArg List.Nodup (ids_map hid s.ret.accounts)).mpr hs.funds.uniqueIds
  · intro p k hk hkind
    obtain ⟨hhold, a, ha, haid, hfilter⟩ := hs.tender.hold p k hk hkind
    exact ⟨hhold, f a, some_mem_map.mpr ⟨a, ha, rfl⟩, (hid a).trans haid, (hholds a).symm ▸ hfilter⟩
  · intro a h ha hh
    obtain ⟨b, hb, rfl⟩ := some_mem_map.mp ha
    obtain ⟨k, hk, hkind, haccount⟩ := hs.tender.stray b h hb (hholds b ▸ hh)
    exact ⟨k, hk, hkind, haccount.trans (hid b).symm⟩

theorem updAccount_covered {n : Nat} {f : Account → Account} {s : State} (hid : ∀ a, (f a).id = a.id)
    (hholds : ∀ a, (f a).holds = a.holds)
    (hbalance : ∀ a, some a ∈ s.ret.accounts → a.id = n → a.held ≤ a.balance → a.held ≤ (f a).balance)
    (hs : s.covered) : (updAccount n f s).covered := by
  rw [updAccount_eq]
  refine mapAccounts_covered (fun a => ?_) (fun a => ?_) (fun a ha hheld => ?_) hs
  · split
    · exact hid a
    · rfl
  · split
    · exact hholds a
    · rfl
  · split
    · next heq => exact hbalance a ha heq hheld
    · exact hheld

/-! ### Account requests (R163 to R166) -/

theorem onAccount_covered {rq : Req} {code n : Nat} {s : State} {f : Account → State} (hs : s.covered)
    (hf : ∀ a, s.account n = some a → (f a).covered) : (onAccount rq code n s f).covered := by
  unfold onAccount
  split
  · exact reply_covered _ _ _ _ hs
  · split
    · exact reply_covered _ _ _ _ hs
    · next a ha => exact hf a ha

theorem filterMap_fillSlot_perm (a : Account) {xs : List (Option Account)} (h : none ∈ xs) :
    ((fillSlot a xs).filterMap id).Perm (a :: xs.filterMap id) := by
  induction xs with
  | nil => cases h
  | cons o xs ih =>
    cases o with
    | none => exact .refl _
    | some b => exact ((ih (by simpa using h)).cons b).trans (.swap a b _)

theorem mem_accounts_iff {a : Account} {xs : List (Option Account)} :
    a ∈ xs.filterMap id ↔ some a ∈ xs := by
  simp [List.mem_filterMap]

theorem account_eq_none {s : State} {n : Nat} (h : s.account n = none) {a : Account}
    (ha : some a ∈ s.ret.accounts) : a.id ≠ n := by
  intro hid
  have hnone := List.findSome?_eq_none_iff.mp h (some a) ha
  simp [hid] at hnone

/-- R164: an account that opens has no hold. -/
theorem fillSlot_covered {a : Account} {s : State} (hid : s.account a.id = none) (hholds : a.holds = [])
    (hslot : none ∈ s.ret.accounts) (hs : s.covered) :
    (updRet (fun r => { r with accounts := fillSlot a r.accounts }) s).covered := by
  have hperm := filterMap_fillSlot_perm a hslot
  have hmem (b : Account) : some b ∈ fillSlot a s.ret.accounts ↔ b = a ∨ some b ∈ s.ret.accounts := by
    rw [← mem_accounts_iff, hperm.mem_iff, List.mem_cons, mem_accounts_iff]
  refine ⟨⟨?_, ?_⟩, ⟨hs.tender.place, hs.tender.live, hs.tender.snapshot, ?_, ?_⟩⟩
  · intro b hb
    rcases (hmem b).mp hb with rfl | hold
    · simp [Account.held, hholds]
    · exact hs.funds.covered b hold
  · refine (hperm.map Account.id).nodup_iff.mpr (List.nodup_cons.mpr ⟨fun hin => ?_, hs.funds.uniqueIds⟩)
    obtain ⟨b, hb, hbid⟩ := List.mem_map.mp hin
    exact account_eq_none hid (mem_accounts_iff.mp hb) hbid
  · intro p k hk hkind
    obtain ⟨hhold, b, hb, hrest⟩ := hs.tender.hold p k hk hkind
    exact ⟨hhold, b, (hmem b).mpr (.inr hb), hrest⟩
  · intro b h hb hh
    rcases (hmem b).mp hb with rfl | hold
    · rw [hholds] at hh
      cases hh
    · exact hs.tender.stray b h hold hh

theorem accountSet_covered (rq : Req) (n cls allowance : Nat) {s : State} (hs : s.covered) :
    (accountSet rq n cls allowance s).covered := by
  unfold accountSet
  split
  · exact reply_covered _ _ _ _ hs
  · split
    · split
      · exact reply_covered _ _ _ _
          (updAccount_covered (fun _ => rfl) (fun _ => rfl) (fun _ _ _ h => h) hs)
      · exact reply_covered _ _ _ _ hs
    · next hnone =>
      split
      · next hslot =>
        obtain ⟨o, ho, hisNone⟩ := List.any_eq_true.mp hslot
        obtain rfl : o = none := by simpa using hisNone
        exact reply_covered _ _ _ _ (fillSlot_covered hnone rfl ho hs)
      · exact reply_covered _ _ _ _ hs

theorem accountCredit_covered (rq : Req) (n amount : Nat) {s : State} (hs : s.covered) :
    (accountCredit rq n amount s).covered :=
  onAccount_covered hs fun a _ => by
    split
    · exact reply_covered _ _ _ _ hs
    · exact reply_covered _ _ _ _ (updAccount_covered (fun _ => rfl) (fun _ => rfl)
        (fun _ _ _ h => Nat.le_add_right_of_le h) hs)

/-- R165: a withdrawal leaves the holds in the balance. -/
theorem accountWithdraw_covered (rq : Req) (n amount : Nat) {s : State} (hs : s.covered) :
    (accountWithdraw rq n amount s).covered :=
  onAccount_covered hs fun a ha => by
    obtain ⟨hmem, hid⟩ := account_spec ha
    split
    · exact reply_covered _ _ _ _ hs
    · split
      · exact reply_covered _ _ _ _ hs
      · next havailable =>
        refine reply_covered _ _ _ _ (updAccount_covered (fun _ => rfl) (fun _ => rfl)
          (fun b hb hbid hheld => ?_) hs)
        obtain rfl := hs.funds.account_unique hb hmem (hbid.trans hid.symm)
        rw [Account.available] at havailable
        exact Nat.le_sub_of_add_le (by omega)

theorem setBlocked_covered (rq : Req) (code n : Nat) (b : Bool) {s : State} (hs : s.covered) :
    (setBlocked rq code n b s).covered :=
  onAccount_covered hs fun _ _ =>
    reply_covered _ _ _ _ (updAccount_covered (fun _ => rfl) (fun _ => rfl) (fun _ _ _ h => h) hs)

/-- The accounts of other ids. -/
def withoutAccount (n : Nat) (xs : List (Option Account)) : List (Option Account) :=
  xs.map (fun o => o.bind (fun b => if b.id = n then none else some b))

theorem filterMap_withoutAccount (n : Nat) (xs : List (Option Account)) :
    (withoutAccount n xs).filterMap id = (xs.filterMap id).filter (fun b => b.id ≠ n) := by
  induction xs with
  | nil => rfl
  | cons o xs ih =>
    cases o with
    | none => exact ih
    | some b => by_cases h : b.id = n <;> simp_all [withoutAccount]

theorem some_mem_withoutAccount {n : Nat} {a : Account} {xs : List (Option Account)} :
    some a ∈ withoutAccount n xs ↔ some a ∈ xs ∧ a.id ≠ n := by
  rw [← mem_accounts_iff, filterMap_withoutAccount, List.mem_filter, mem_accounts_iff]
  simp

/-- R164: an account that goes has no hold. -/
theorem withoutAccount_covered {n : Nat} {s : State}
    (hempty : ∀ a, some a ∈ s.ret.accounts → a.id = n → a.holds = []) (hs : s.covered) :
    (updRet (fun r => { r with accounts := withoutAccount n r.accounts }) s).covered := by
  refine ⟨⟨?_, ?_⟩, ⟨hs.tender.place, hs.tender.live, hs.tender.snapshot, ?_, ?_⟩⟩
  · exact fun a ha => hs.funds.covered a (some_mem_withoutAccount.mp ha).1
  · refine (congrArg (fun xs => (List.map Account.id xs).Nodup) (filterMap_withoutAccount n _)).mpr ?_
    exact hs.funds.uniqueIds.sublist (List.filter_sublist.map _)
  · intro p k hk hkind
    obtain ⟨hhold, a, ha, haid, hfilter⟩ := hs.tender.hold p k hk hkind
    refine ⟨hhold, a, some_mem_withoutAccount.mpr ⟨ha, fun hn => ?_⟩, haid, hfilter⟩
    rw [hempty a ha hn] at hfilter
    cases hfilter
  · exact fun a h ha hh => hs.tender.stray a h (some_mem_withoutAccount.mp ha).1 hh

theorem accountRemove_covered (rq : Req) (n : Nat) {s : State} (hs : s.covered) :
    (accountRemove rq n s).covered :=
  onAccount_covered hs fun a ha => by
    obtain ⟨hmem, hid⟩ := account_spec ha
    split
    · next hclear =>
      have hholds : a.holds = [] := List.isEmpty_iff.mp (Bool.and_eq_true_iff.mp hclear).1
      refine reply_covered _ _ _ _ (withoutAccount_covered (n := n) (fun b hb hbid => ?_) hs)
      rw [hs.funds.account_unique hb hmem (hbid.trans hid.symm), hholds]
    · exact reply_covered _ _ _ _ hs

/-! ### The day (R167) -/

theorem checkDay_covered {s : State} (hs : s.covered) : (checkDay s).covered := by
  unfold checkDay
  split
  · exact hs
  · split
    · exact hs
    · next d _ _ =>
      have hused : (mapAccounts (fun a => { a with used := 0 })
          (updRet (fun r => { r with heldDay := some d }) s)).covered :=
        mapAccounts_covered (fun _ => rfl) (fun _ => rfl) (fun _ _ h => h)
          (covered_congr (s := s) rfl hs)
      exact noticeTo_covered _ _ _ _ hused

theorem clockSecond_covered {s : State} (hs : s.covered) : (clockSecond s).covered :=
  checkDay_covered (covered_congr (s := s) rfl hs)

theorem timeSetRequest_covered (rq : Req) (n : Nat) {s : State} (hs : s.covered) :
    (timeSetRequest rq n s).covered := by
  unfold timeSetRequest
  split
  · exact reply_covered _ _ _ _ hs
  · exact reply_covered _ _ _ _ (checkDay_covered (covered_congr (s := s) rfl hs))

/-! ### Holds -/

theorem held_append (a : Account) (h : Hold) :
    Account.held { a with holds := a.holds ++ [h] } = a.held + h.amount := by
  simp [Account.held]

/-- The holds of an account are those of a position and the others. -/
theorem held_eq_filter_add (p : Pos) (a : Account) :
    a.held = ((a.holds.filter (fun h => h.pos = p)).map Hold.amount).sum + (dropHold p a).held := by
  simp only [Account.held, dropHold]
  induction a.holds with
  | nil => rfl
  | cons h hs ih => by_cases hp : h.pos = p <;> simp [hp, ih] <;> omega

/-- R163: of an account that carries one hold for a position, the rest of the holds. -/
theorem held_of_hold {p : Pos} {n : Nat} {a : Account}
    (h : a.holds.filter (fun x => x.pos = p) = [⟨p, n⟩]) : a.held = n + (dropHold p a).held := by
  rw [held_eq_filter_add p a, h]
  simp

theorem dropHold_eq_self {p : Pos} {a : Account} (h : ∀ x ∈ a.holds, x.pos ≠ p) : dropHold p a = a := by
  have hall : a.holds.filter (fun x => x.pos != p) = a.holds :=
    List.filter_eq_self.mpr fun x hx => by simpa using h x hx
  simp [dropHold, hall]

/-! ### The end of a tender context (R161, R162) -/

/-- A position's tender context, reservation and snapshot emptied, with a change of the accounts. -/
def emptied (f : Account → Account) (p : Pos) (s : State) : State :=
  { releasePlace p (mapAccounts f s) with bil := s.bil.set p none }

/-- The holds of the position go from every account, and what is left of each balance covers the rest. -/
theorem emptied_covered {f : Account → Account} {p : Pos} {s : State} (hid : ∀ a, (f a).id = a.id)
    (hholds : ∀ a, some a ∈ s.ret.accounts → (f a).holds = (dropHold p a).holds)
    (hbalance : ∀ a, some a ∈ s.ret.accounts → (dropHold p a).held ≤ (f a).balance) (hs : s.covered) :
    (emptied f p s).covered := by
  have hother {q : Pos} {k : TenderCtx} (hk : (s.bil.set p none).get q = some k) :
      q ≠ p ∧ s.bil.get q = some k := by
    by_cases hq : q = p
    · subst hq
      simp at hk
    · exact ⟨hq, by rwa [PerPos.get_set_ne _ _ hq] at hk⟩
  refine ⟨⟨?_, ?_⟩, ⟨?_, ?_, ?_, ?_, ?_⟩⟩
  · intro a ha
    obtain ⟨b, hb, rfl⟩ := some_mem_map.mp ha
    rw [Account.held, hholds b hb]
    exact hbalance b hb
  · exact (congrArg List.Nodup (ids_map hid s.ret.accounts)).mpr hs.funds.uniqueIds
  · intro q hq
    obtain ⟨k, hk⟩ := Option.isSome_iff_exists.mp hq
    obtain ⟨hne, hk'⟩ := hother hk
    exact (PerPos.get_set_ne _ _ hne).trans (hs.tender.place q (by simp [hk']))
  · intro q k hk
    obtain ⟨hne, hk'⟩ := hother hk
    obtain ⟨x, hx⟩ := hs.tender.live q k hk'
    exact ⟨x, (PerPos.get_set_ne _ _ hne).trans hx⟩
  · intro q x hx
    have hq : q ≠ p := by
      rintro rfl
      simp [emptied, releasePlace, updRet] at hx
    obtain ⟨k, hk, hrest⟩ := hs.tender.snapshot q x ((PerPos.get_set_ne _ _ hq).symm.trans hx)
    exact ⟨k, (PerPos.get_set_ne _ _ hq).trans hk, hrest⟩
  · intro q k hk hkind
    obtain ⟨hne, hk'⟩ := hother hk
    obtain ⟨hhold, a, ha, haid, hfilter⟩ := hs.tender.hold q k hk' hkind
    refine ⟨hhold, f a, some_mem_map.mpr ⟨a, ha, rfl⟩, (hid a).trans haid, ?_⟩
    rw [hholds a ha, dropHold, List.filter_filter, ← hfilter]
    refine List.filter_congr fun h _ => ?_
    by_cases hh : h.pos = q <;> simp [hh, hne]
  · intro a h ha hh
    obtain ⟨b, hb, rfl⟩ := some_mem_map.mp ha
    rw [hholds b hb] at hh
    obtain ⟨hmem, hpos⟩ := List.mem_filter.mp hh
    obtain ⟨k, hk, hkind, haccount⟩ := hs.tender.stray b h hb hmem
    exact ⟨k, (PerPos.get_set_ne _ _ (by simpa using hpos)).trans hk, hkind, haccount.trans (hid b).symm⟩

/-- R163: the accounts other than that of a position's FLEET context hold nothing for it. -/
theorem State.tenderLaw.no_hold {s : State} (hs : s.tenderLaw) {p : Pos} {a : Account}
    (ha : some a ∈ s.ret.accounts)
    (hk : ∀ k, s.bil.get p = some k → k.kind = .fleet → k.account ≠ a.id) : ∀ x ∈ a.holds, x.pos ≠ p := by
  rintro x hx rfl
  obtain ⟨k, hk', hkind, haccount⟩ := hs.stray a x ha hx
  exact hk k hk' hkind haccount

/-- R162, CARD: no account is concerned. -/
theorem emptied_card_covered {p : Pos} {k : TenderCtx} {s : State} (hk : s.bil.get p = some k)
    (hkind : k.kind = .card) (hs : s.covered) : (emptied id p s).covered := by
  have hnone (a : Account) (ha : some a ∈ s.ret.accounts) : dropHold p a = a :=
    dropHold_eq_self (hs.tender.no_hold ha fun k' hk' hkind' => by
      obtain rfl := Option.some.inj (hk.symm.trans hk')
      rw [hkind] at hkind'
      cases hkind')
  refine emptied_covered (fun _ => rfl) (fun a ha => ?_) (fun a ha => ?_) hs
  · rw [hnone a ha, id]
  · rw [hnone a ha]
    exact hs.funds.covered a ha

/-- R162, FLEET: the hold goes, and no more than it from the balance. -/
theorem emptied_fleet_covered {f : Account → Account} {p : Pos} {k : TenderCtx} {s : State}
    (hk : s.bil.get p = some k) (hkind : k.kind = .fleet) (hid : ∀ a, (f a).id = a.id)
    (hholds : ∀ a, (f a).holds = (dropHold p a).holds) (hbalance : ∀ a, a.balance - k.hold ≤ (f a).balance)
    (hs : s.covered) : (emptied (fun a => if a.id = k.account then f a else a) p s).covered := by
  obtain ⟨-, c, hc, hcid, hfilter⟩ := hs.tender.hold p k hk hkind
  have hnone (a : Account) (ha : some a ∈ s.ret.accounts) (hne : a.id ≠ k.account) : dropHold p a = a :=
    dropHold_eq_self (hs.tender.no_hold ha fun k' hk' _ => by
      obtain rfl := Option.some.inj (hk.symm.trans hk')
      exact fun h => hne h.symm)
  refine emptied_covered (fun a => ?_) (fun a ha => ?_) (fun a ha => ?_) hs
  · split
    · exact hid a
    · rfl
  · split
    · exact hholds a
    · next hne => rw [hnone a ha hne]
  · split
    · next heq =>
      obtain rfl := hs.funds.account_unique ha hc (heq.trans hcid.symm)
      have hheld := held_of_hold hfilter
      have hcovered := hs.funds.covered a ha
      exact (Nat.le_sub_of_add_le (by omega)).trans (hbalance a)
    · next hne =>
      rw [hnone a ha hne]
      exact hs.funds.covered a ha

theorem fundsPart_setBil {s t : State} (h : t.fundsPart = s.fundsPart) (p : Pos) (c : Option TenderCtx) :
    State.fundsPart { t with bil := t.bil.set p c } = State.fundsPart { s with bil := s.bil.set p c } := by
  obtain ⟨haccounts, hreserved, hsnapshots, hbil⟩ := FundsPart.mk.inj h
  simp [State.fundsPart, haccounts, hreserved, hsnapshots, hbil]

theorem fundsPart_releasePlace {s t : State} (h : t.fundsPart = s.fundsPart) (p : Pos) :
    (releasePlace p t).fundsPart = (releasePlace p s).fundsPart := by
  obtain ⟨haccounts, hreserved, hsnapshots, hbil⟩ := FundsPart.mk.inj h
  have hmap (v : PerPos (Option Snapshot)) : (v.set p none).map (Option.map Snapshot.tender)
      = (v.map (Option.map Snapshot.tender)).set p none := by cases p <;> rfl
  simp only [State.fundsPart, releasePlace, updRet, haccounts, hreserved, hbil, hmap, hsnapshots]

theorem emptied_id (p : Pos) (s : State) :
    emptied id p s = { releasePlace p s with bil := s.bil.set p none } := by
  simp [emptied, mapAccounts, updRet, releasePlace]

theorem cancelTender_covered (p : Pos) {s : State} (hs : s.covered) : (cancelTender p s).covered := by
  unfold cancelTender
  split
  · exact hs
  · next k hk =>
    cases hkind : k.kind with
    | card =>
      have htold : (fillEnd k.node p k.txn k.reference 0 0 true (releasePlace p s)).fundsPart
          = (releasePlace p s).fundsPart := fundsPart_of_outsideRif (noticeTo_outsideRif _ _ _ _ _)
      refine covered_congr (fundsPart_setBil htold p none) ?_
      exact emptied_id p s ▸ emptied_card_covered hk hkind hs
    | fleet =>
      exact covered_congr (s := emptied (fun a => if a.id = k.account then dropHold p a else a) p s) rfl
        (emptied_fleet_covered hk hkind (fun _ => rfl) (fun _ => rfl) (fun _ => Nat.sub_le _ _) hs)

/-- R162: an amount settled is within the hold of its context. -/
theorem State.tenderLaw.settled_le {s : State} (hs : s.tenderLaw) {p : Pos} {k : TenderCtx}
    (hk : s.bil.get p = some k) (hkind : k.kind = .fleet) (g : Nat) :
    (k.settlement p g).amount ≤ k.hold := by
  rw [(hs.hold p k hk hkind).1]
  exact amountOf_le_amountOf (Nat.min_le_right _ _) _

theorem placeRecord_of_reserved {r : TxnRecord} {s : State} (h : s.ret.reserved.get r.pos = true) :
    (placeRecord r s).fundsPart = (releasePlace r.pos s).fundsPart := by
  rw [placeRecord, if_pos h]
  exact (fundsPart_of_outsideRif (noticeTo_outsideRif _ _ _ _ _)).trans rfl

theorem settle_reserved (x : Settlement) (s : State) : (settle x s).ret.reserved = s.ret.reserved := by
  unfold settle
  split
  · rfl
  · exact (congrArg (fun u => u.ret.reserved) (noticeTo_outsideRif _ _ _ _ s) :)

theorem settleSummary_covered (sum : FillSummary) {s : State} (hs : s.covered) :
    (settleSummary sum s).covered := by
  simp only [settleSummary]
  split
  · exact hs
  · next k hk =>
    have hreserved : s.ret.reserved.get sum.pos = true := hs.tender.place sum.pos (by simp [hk])
    have hplaced := (releaseGen_event sum.pclass sum.gen .start).fundsPart_eq.trans
      (placeRecord_of_reserved (r := s.recordOf sum k) (s := settle (k.settlement sum.pos sum.masses.fillG) s)
        (by rwa [settle_reserved]))
    refine covered_congr (fundsPart_setBil hplaced sum.pos none) ?_
    cases hkind : k.kind with
    | card =>
      have htold : (settle (k.settlement sum.pos sum.masses.fillG) s).fundsPart = s.fundsPart := by
        rw [settle, show (k.settlement sum.pos sum.masses.fillG).kind = .card from hkind]
        exact fundsPart_of_outsideRif (noticeTo_outsideRif _ _ _ _ _)
      refine covered_congr (fundsPart_setBil (fundsPart_releasePlace htold sum.pos) sum.pos none) ?_
      exact emptied_id sum.pos s ▸ emptied_card_covered hk hkind hs
    | fleet =>
      rw [settle, show (k.settlement sum.pos sum.masses.fillG).kind = .fleet from hkind]
      exact emptied_fleet_covered (f := debit sum.pos _ _) hk hkind (fun _ => rfl) (fun _ => rfl)
        (fun a => Nat.sub_le_sub_left (hs.tender.settled_le hk hkind _) a.balance) hs

/-! ### A tender taken, and a lowered cap (R159, R161) -/

/-- A position's tender context and snapshot written, its place reserved, and a change of the accounts. -/
def tendered (f : Account → Account) (p : Pos) (k : TenderCtx) (x : Snapshot) (s : State) : State :=
  { updRet (fun r =>
      { r with
        accounts := r.accounts.map (Option.map f)
        reserved := r.reserved.set p true
        snapshots := r.snapshots.set p (some x) }) s with
    bil := s.bil.set p (some k) }

/-- What a written context asks of the accounts: each is covered, a FLEET context's account carries its hold and
no other one for the position, and the holds of the other positions stand. -/
structure Backed (f : Account → Account) (p : Pos) (k : TenderCtx) (s : State) : Prop where
  ids : ∀ a, (f a).id = a.id
  balance : ∀ a, some a ∈ s.ret.accounts → (f a).held ≤ (f a).balance
  others : ∀ a q, q ≠ p → (f a).holds.filter (fun h => h.pos = q) = a.holds.filter (fun h => h.pos = q)
  fleet : k.kind = .fleet → k.hold = amountOf k.cap k.price
    ∧ ∃ a, some a ∈ s.ret.accounts ∧ a.id = k.account
      ∧ (f a).holds.filter (fun h => h.pos = p) = [⟨p, k.hold⟩]
  stray : ∀ a h, some a ∈ s.ret.accounts → h ∈ (f a).holds → h.pos = p →
    k.kind = .fleet ∧ k.account = a.id

theorem tendered_covered {f : Account → Account} {p : Pos} {k : TenderCtx} {x : Snapshot} {s : State}
    (hx : x.tender = (k.kind, k.account, k.price, k.cap)) (hf : Backed f p k s) (hs : s.covered) :
    (tendered f p k x s).covered := by
  simp only [Snapshot.tender, Prod.mk.injEq] at hx
  obtain ⟨hkind, haccount, hprice, hcap⟩ := hx
  have hget (q : Pos) (hq : q ≠ p) : (tendered f p k x s).bil.get q = s.bil.get q :=
    PerPos.get_set_ne _ _ hq
  have hsame : (tendered f p k x s).bil.get p = some k := PerPos.get_set_same _ _ _
  refine ⟨⟨?_, ?_⟩, ⟨?_, ?_, ?_, ?_, ?_⟩⟩
  · intro a ha
    obtain ⟨b, hb, rfl⟩ := some_mem_map.mp ha
    exact hf.balance b hb
  · exact (congrArg List.Nodup (ids_map hf.ids s.ret.accounts)).mpr hs.funds.uniqueIds
  · intro q hq
    by_cases hp : q = p
    · exact hp ▸ PerPos.get_set_same _ _ _
    · exact (PerPos.get_set_ne _ _ hp).trans (hs.tender.place q (hget q hp ▸ hq))
  · intro q k' hk'
    by_cases hp : q = p
    · exact ⟨x, hp ▸ PerPos.get_set_same _ _ _⟩
    · obtain ⟨y, hy⟩ := hs.tender.live q k' ((hget q hp).symm.trans hk')
      exact ⟨y, (PerPos.get_set_ne _ _ hp).trans hy⟩
  · intro q y hy
    by_cases hp : q = p
    · subst hp
      obtain rfl : x = y := Option.some.inj ((PerPos.get_set_same _ _ _).symm.trans hy)
      exact ⟨k, hsame, hkind, haccount, hprice, hcap⟩
    · obtain ⟨k', hk', hrest⟩ := hs.tender.snapshot q y ((PerPos.get_set_ne _ _ hp).symm.trans hy)
      exact ⟨k', (hget q hp).trans hk', hrest⟩
  · intro q k' hk' hfleet
    by_cases hp : q = p
    · subst hp
      obtain rfl := Option.some.inj (hsame.symm.trans hk')
      obtain ⟨hhold, a, ha, haid, hfilter⟩ := hf.fleet hfleet
      exact ⟨hhold, f a, some_mem_map.mpr ⟨a, ha, rfl⟩, (hf.ids a).trans haid, hfilter⟩
    · obtain ⟨hhold, a, ha, haid, hfilter⟩ := hs.tender.hold q k' ((hget q hp).symm.trans hk') hfleet
      exact ⟨hhold, f a, some_mem_map.mpr ⟨a, ha, rfl⟩, (hf.ids a).trans haid,
        (hf.others a q hp).trans hfilter⟩
  · intro a h ha hh
    obtain ⟨b, hb, rfl⟩ := some_mem_map.mp ha
    by_cases hp : h.pos = p
    · obtain ⟨hfleet, hid⟩ := hf.stray b h hb hh hp
      exact ⟨k, hp ▸ hsame, hfleet, hid.trans (hf.ids b).symm⟩
    · have hin : h ∈ (f b).holds.filter (fun x => x.pos = h.pos) :=
        List.mem_filter.mpr ⟨hh, by simp⟩
      rw [hf.others b h.pos hp] at hin
      obtain ⟨k', hk', hfleet, hid⟩ := hs.tender.stray b h hb (List.mem_filter.mp hin).1
      exact ⟨k', (hget h.pos hp).trans hk', hfleet, hid.trans (hf.ids b).symm⟩

theorem setHold_filter_other {p q : Pos} (hq : q ≠ p) (n : Nat) (a : Account) :
    (setHold p n a).holds.filter (fun h => h.pos = q) = a.holds.filter (fun h => h.pos = q) := by
  simp only [setHold]
  induction a.holds with
  | nil => rfl
  | cons h hs ih =>
    by_cases hp : h.pos = p
    · simp [hp, hq.symm, ih]
    · by_cases hhq : h.pos = q
      · simp [hhq, hq, ih]
      · simp [hp, hhq, ih]

theorem setHold_filter_same {p : Pos} {m : Nat} (n : Nat) {a : Account}
    (h : a.holds.filter (fun x => x.pos = p) = [⟨p, m⟩]) :
    (setHold p n a).holds.filter (fun x => x.pos = p) = [⟨p, n⟩] := by
  have hmap : (setHold p n a).holds.filter (fun x => x.pos = p)
      = (a.holds.filter (fun x => x.pos = p)).map (fun x => { x with amount := n }) := by
    simp only [setHold]
    induction a.holds with
    | nil => rfl
    | cons x xs ih => by_cases hp : x.pos = p <;> simp [hp, ih]
  rw [hmap, h]
  rfl

theorem dropHold_setHold (p : Pos) (n : Nat) (a : Account) :
    (dropHold p (setHold p n a)).holds = (dropHold p a).holds := by
  simp only [dropHold, setHold]
  induction a.holds with
  | nil => rfl
  | cons x xs ih => by_cases hp : x.pos = p <;> simp [hp, ih]

theorem backed_card {p : Pos} {k k' : TenderCtx} {s : State} (hk : s.bil.get p = some k)
    (hkind : k.kind = .card) (hkind' : k'.kind = .card) (hs : s.covered) : Backed id p k' s where
  ids _ := rfl
  balance a ha := hs.funds.covered a ha
  others _ _ _ := rfl
  fleet h := absurd (hkind'.symm.trans h) (by decide)
  stray a h ha hh hp := by
    obtain ⟨c, hc, hfleet, -⟩ := hs.tender.stray a h ha hh
    obtain rfl := Option.some.inj (hk.symm.trans (hp ▸ hc))
    exact absurd (hkind.symm.trans hfleet) (by decide)

/-- R161: the hold of a lowered cap is below the one it replaces. -/
theorem backed_setHold {p : Pos} {k : TenderCtx} {cap : Nat} {s : State} (hk : s.bil.get p = some k)
    (hkind : k.kind = .fleet) (hcap : cap ≤ k.cap) (hs : s.covered) :
    Backed (fun a => if a.id = k.account then setHold p (amountOf cap k.price) a else a) p
      { k with cap := cap, hold := amountOf cap k.price } s where
  ids a := by split <;> rfl
  balance a ha := by
    obtain ⟨hhold, c, hc, hcid, hfilter⟩ := hs.tender.hold p k hk hkind
    split
    · next hid =>
      obtain rfl := hs.funds.account_unique ha hc (hid.trans hcid.symm)
      have hle : amountOf cap k.price ≤ k.hold := hhold ▸ amountOf_le_amountOf hcap k.price
      have hheld := held_of_hold hfilter
      have hheld' := held_of_hold (setHold_filter_same (amountOf cap k.price) hfilter)
      have hrest : (dropHold p (setHold p (amountOf cap k.price) a)).held = (dropHold p a).held :=
        congrArg (fun hs => (List.map Hold.amount hs).sum) (dropHold_setHold p _ a)
      have hcovered := hs.funds.covered a ha
      change _ ≤ a.balance
      omega
    · exact hs.funds.covered a ha
  others a q hq := by
    split
    · exact setHold_filter_other hq _ a
    · rfl
  fleet _ := by
    obtain ⟨-, c, hc, hcid, hfilter⟩ := hs.tender.hold p k hk hkind
    refine ⟨rfl, c, hc, hcid, ?_⟩
    rw [if_pos hcid]
    exact setHold_filter_same _ hfilter
  stray a h ha hh hp := by
    refine ⟨hkind, ?_⟩
    by_contra hne
    rw [if_neg (fun h => hne h.symm)] at hh
    obtain ⟨c, hc, -, hid⟩ := hs.tender.stray a h ha hh
    obtain rfl := Option.some.inj (hk.symm.trans (hp ▸ hc))
    exact hne hid

theorem lowerTenderCap_covered {p : Pos} {cap : Nat} {s : State}
    (hcap : ∀ k, s.bil.get p = some k → cap ≤ k.cap) (hs : s.covered) :
    (lowerTenderCap p cap s).covered := by
  cases hk : s.bil.get p with
  | none =>
    rw [lowerTenderCap, hk]
    exact hs
  | some k =>
    obtain ⟨x, hx⟩ := hs.tender.live p k hk
    obtain ⟨k', hk', hkind, haccount, hprice, -⟩ := hs.tender.snapshot p x hx
    obtain rfl := Option.some.inj (hk.symm.trans hk')
    have hreserved : s.ret.reserved.set p true = s.ret.reserved := by
      have hget : s.ret.reserved.get p = true := hs.tender.place p (by simp [hk])
      exact hget ▸ PerPos.set_get _ _
    cases hfleet : k.kind with
    | card =>
      have hlaw := tendered_covered (f := id) (k := { k with cap := cap }) (x := { x with cap := cap })
        (by simp [Snapshot.tender, hkind, haccount, hprice])
        (backed_card hk hfleet hfleet hs) hs
      refine covered_congr ?_ hlaw
      simp [lowerTenderCap, hk, hfleet, State.fundsPart, tendered, onlyIf, updSnapshot, updRet, hx, hreserved]
    | fleet =>
      have hlaw := tendered_covered (x := { x with cap := cap })
        (by simp [Snapshot.tender, hkind, haccount, hprice]) (backed_setHold hk hfleet (hcap k hk) hs) hs
      refine covered_congr ?_ hlaw
      simp [lowerTenderCap, hk, hfleet, State.fundsPart, tendered, onlyIf, updSnapshot, updRet, hx, hreserved,
        updAccount]

/-- R163: no account holds anything for a position without a context. -/
theorem State.tenderLaw.no_hold_of_none {s : State} (hs : s.tenderLaw) {p : Pos} (hnone : s.bil.get p = none)
    {a : Account} (ha : some a ∈ s.ret.accounts) : ∀ x ∈ a.holds, x.pos ≠ p :=
  hs.no_hold ha fun k hk => by
    rw [hnone] at hk
    cases hk

/-- R157: what checks 4 to 6 have found of a tender that none of them refuses. -/
theorem spec_of_accepted {x : TenderIn} {s : State} (h : s.tenderRefusal x = none) :
    (s.ctx x.pos).state = .lifted ∧ s.accountRefusal x = none := by
  unfold State.tenderRefusal at h
  split at h
  · cases h
  · split at h
    · cases h
    · split at h
      · cases h
      · next hlifted =>
        split at h
        · cases h
        · exact ⟨not_not.mp hlifted, ‹_›⟩

theorem account_of_accepted {x : TenderIn} {s : State} (h : s.accountRefusal x = none)
    (hkind : x.kind = .fleet) : ∃ a, s.account x.account = some a := by
  unfold State.accountRefusal at h
  rw [hkind] at h
  cases ha : s.account x.account with
  | none => simp [ha] at h
  | some a => exact ⟨a, rfl⟩

/-- R159: a FLEET tender taken at a position without a context: its hold is within the available funds of its
account. -/
theorem backed_placeHold {x : TenderIn} {n : Nat} {s : State} {a : Account} (hnone : s.bil.get x.pos = none)
    (ha : s.account x.account = some a) (hkind : x.kind = .fleet) (hs : s.covered) :
    Backed (fun a => if a.id = x.account then
        { a with holds := a.holds ++ [⟨x.pos, (s.tenderContext x n).hold⟩] } else a)
      x.pos (s.tenderContext x n) s where
  ids b := by split <;> rfl
  balance b hb := by
    obtain ⟨hmem, hid⟩ := account_spec ha
    split
    · next hbid =>
      obtain rfl := hs.funds.account_unique hb hmem (hbid.trans hid.symm)
      have hhold : (s.tenderContext x n).hold ≤ b.available := by
        rw [tenderContext_hold_of_fleet s n hkind, State.tenderCap, hkind, ha]
        exact amountOf_fleetCap_le _ _ b
      have hcovered := hs.funds.covered b hb
      rw [held_append]
      simp only [Account.available] at hhold ⊢
      omega
    · exact hs.funds.covered b hb
  others b q hq := by
    split
    · simp [hq.symm]
    · rfl
  fleet _ := by
    obtain ⟨hmem, hid⟩ := account_spec ha
    refine ⟨tenderContext_hold_of_fleet s n hkind, a, hmem, hid.trans (if_pos hkind).symm, ?_⟩
    have hempty : a.holds.filter (fun h => h.pos = x.pos) = [] :=
      List.filter_eq_nil_iff.mpr fun h hh => by
        simpa using hs.tender.no_hold_of_none hnone hmem h hh
    rw [if_pos hid, List.filter_append, hempty]
    simp
  stray b h hb hh hp := by
    refine ⟨hkind, ?_⟩
    by_contra hne
    have hbid : b.id ≠ x.account := fun h => hne (h ▸ if_pos hkind)
    rw [if_neg hbid] at hh
    exact hs.tender.no_hold_of_none hnone hb h hh hp

theorem backed_of_none {p : Pos} {k : TenderCtx} {s : State} (hnone : s.bil.get p = none)
    (hkind : k.kind = .card) (hs : s.covered) : Backed id p k s where
  ids _ := rfl
  balance a ha := hs.funds.covered a ha
  others _ _ _ := rfl
  fleet h := absurd (hkind.symm.trans h) (by decide)
  stray a h ha hh hp := absurd hp (hs.tender.no_hold_of_none hnone ha h hh)

theorem acceptTender_covered {x : TenderIn} {s : State} (hnone : s.bil.get x.pos = none)
    (hrefused : s.tenderRefusal x = none) (hs : s.covered) : (acceptTender x s).covered := by
  have htold (u : State) (n c : Nat) (hu : u.covered) :
      (authorise x.pos n (s.tenderContext x n).kind c u).covered :=
    (authorise_event x.pos n _ c .start).covered hu
  have hsnap (n : Nat) : (s.tenderContext x n).snapshot.tender = ((s.tenderContext x n).kind,
    (s.tenderContext x n).account, (s.tenderContext x n).price, (s.tenderContext x n).cap) := rfl
  refine noticeTo_covered _ _ _ _ (htold _ _ _ ?_)
  cases hkind : x.kind with
  | card =>
    have hlaw := tendered_covered (hsnap (nextTxn s.ret.txnCounter)) (backed_of_none hnone hkind hs) hs
    refine covered_congr ?_ hlaw
    simp [placeHold, State.tenderContext, hkind, State.fundsPart, tendered, updRet, reservePlace]
  | fleet =>
    obtain ⟨a, ha⟩ := account_of_accepted (spec_of_accepted hrefused).2 hkind
    have hlaw := tendered_covered (hsnap (nextTxn s.ret.txnCounter)) (backed_placeHold hnone ha hkind hs) hs
    refine covered_congr ?_ hlaw
    simp [placeHold, State.tenderContext, hkind, State.fundsPart, tendered, updRet, reservePlace, updAccount]

theorem takeTender_covered (source : Nat) (bc : Bool) (pos kind reference account amount : Nat) {s : State}
    (hlifted : ∀ p, (s.ctx p).state = .lifted → s.bil.get p = none) (hs : s.covered) :
    (takeTender source bc pos kind reference account amount s).covered := by
  simp only [takeTender]
  split
  · exact hs
  · split
    · split
      · exact noticeTo_covered _ _ _ _ hs
      · next hrefused => exact acceptTender_covered (hlifted _ (spec_of_accepted hrefused).1) hrefused hs
    · exact noticeTo_covered _ _ _ _ hs

theorem exec_bil_covered {c : Instr} {s t : State} (hc : bilCommand c = true)
    (hlifted : ∀ p, (s.ctx p).state = .lifted → s.bil.get p = none)
    (hcap : ∀ p n k, c = .loweredCap p n → s.bil.get p = some k → n ≤ k.cap) (hs : s.covered)
    (h : exec c s = .next t) : t.covered := by
  cases c
  case timeSet => exact running_keeps h hs (timeSetRequest_covered _ _)
  case accountSet => exact running_keeps h hs (accountSet_covered _ _ _ _)
  case accountCredit => exact running_keeps h hs (accountCredit_covered _ _ _)
  case accountWithdraw => exact running_keeps h hs (accountWithdraw_covered _ _ _)
  case accountBlock => exact running_keeps h hs (setBlocked_covered _ _ _ _)
  case accountUnblock => exact running_keeps h hs (setBlocked_covered _ _ _ _)
  case accountRemove => exact running_keeps h hs (accountRemove_covered _ _)
  case tender => exact running_keeps h hs (takeTender_covered _ _ _ _ _ _ _ hlifted)
  case loweredCap p n =>
    exact running_keeps h hs (lowerTenderCap_covered fun k hk => hcap p n k rfl hk)
  case cancelled => exact running_keeps h hs (cancelTender_covered _)
  case fillSummary => exact running_keeps h hs (settleSummary_covered _)
  case stationClockAdvance =>
    obtain rfl : (if s.smc.inReset then crystalSecond s else clockSecond s) = t := Host.Outcome.next.inj h
    split
    · exact covered_congr (s := s) rfl hs
    · exact clockSecond_covered hs
  all_goals exact Bool.noConfusion hc

/-! ### The commits, the trip and the restarts -/

theorem applyCommit_covered (table : Nat) (old : State) {s : State} (hs : s.covered) :
    (applyCommit table old s).covered := by
  by_cases h1 : table = 1
  · subst h1
    obtain ⟨u, hu, hend⟩ := applyNodeMap_events s
    exact covered_congr (hend.fundsPart_eq.trans (congrArg Prod.snd hu)) hs
  · unfold applyCommit
    split
    · exact absurd rfl h1
    · exact (applyBank_event _ .start).covered hs
    · exact (cmpCommitted_event _ .start).covered hs
    · exact (applyPrecool_event _ .start).covered hs
    · exact (evalAllAvailability_event .start).covered hs
    · unfold applyTariff onlyIf
      split
      · exact checkDay_covered hs
      · exact hs
    · exact hs

theorem tableCommitRequest_covered (rq : Req) (table : Nat) {s : State} (hs : s.covered) :
    (tableCommitRequest rq table s).covered := by
  simp only [tableCommitRequest]
  split
  · exact reply_covered _ _ _ _ hs
  · split
    · exact reply_covered _ _ _ _ hs
    · exact reply_covered _ _ _ _ ((judgeSet_event .start).covered
        (applyCommit_covered table s (covered_congr (s := s) rfl hs)))

theorem tripOn_covered (c : TripCause) {s : State} (hs : s.covered) : (tripOn c s).covered := by
  unfold tripOn
  split
  · exact covered_congr (s := s) rfl hs
  · have hclosed : (closeAll (latching c s)).covered :=
      covered_congr (fundsPart_of_outsideRif (closeAll_outsideRif _)) (covered_congr (s := s) rfl hs)
    rw [setLatch_eq]
    exact noticeTo_covered _ _ _ _ (covered_congr (s := closeAll (latching c s)) rfl hclosed)

/-- The ids of the held accounts stay, whatever the settlement of a snapshot does to them. -/
theorem settleSnapshot_ids (p : Pos) (s : State) :
    ((settleSnapshot p s).ret.accounts.filterMap id).map Account.id
      = (s.ret.accounts.filterMap id).map Account.id := by
  have told {u v : State} (h : u.outsideRif = v.outsideRif) : u.ret.accounts = v.ret.accounts :=
    (congrArg (fun w => w.ret.accounts) h :)
  unfold settleSnapshot
  split
  · rfl
  · next x _ =>
    have hplaced (r : TxnRecord) (u : State) : (placeRecord r u).ret.accounts = u.ret.accounts := by
      simp only [placeRecord]
      split
      · exact (told (noticeTo_outsideRif _ _ _ _ _)).trans rfl
      · rfl
    rw [hplaced, settle]
    split
    · exact ids_map (fun a => by split <;> rfl) _
    · rw [fillEnd, told (noticeTo_outsideRif _ _ _ _ _)]

theorem settleSnapshots_ids (s : State) :
    ((settleSnapshots s).ret.accounts.filterMap id).map Account.id
      = (s.ret.accounts.filterMap id).map Account.id := by
  have hsettled := forEach_keeps
    (fun u => (u.ret.accounts.filterMap id).map Account.id = (s.ret.accounts.filterMap id).map Account.id)
    settleSnapshot (fun p u hu => (settleSnapshot_ids p u).trans hu) Pos.all s rfl
  exact (ids_map (f := fun a => { a with holds := [] }) (fun _ => rfl) _).trans hsettled

/-- R169: what the snapshots' settlement leaves is covered whatever it began with: no context, no hold. -/
theorem settleSnapshots_covered {s : State} (hbil : (settleSnapshots s).bil = .all none)
    (hids : ((s.ret.accounts.filterMap id).map Account.id).Nodup) : (settleSnapshots s).covered := by
  have hget (p : Pos) : (settleSnapshots s).bil.get p = none := by rw [hbil, PerPos.get_all]
  have hempty {a : Account} (ha : some a ∈ (settleSnapshots s).ret.accounts) : a.holds = [] := by
    obtain ⟨b, -, rfl⟩ := some_mem_map.mp ha
    rfl
  refine ⟨⟨fun a ha => ?_, ?_⟩, ⟨fun p hp => ?_, fun p k hk => ?_, fun p x hx => ?_, fun p k hk => ?_,
    fun a h ha hh => ?_⟩⟩
  · simp [Account.held, hempty ha]
  · exact (settleSnapshots_ids s).symm ▸ hids
  · simp [hget] at hp
  · simp [hget] at hk
  · simp [settleSnapshots, dropStray, updRet] at hx
  · simp [hget] at hk
  · simp [hempty ha] at hh

theorem settleSnapshots_bil (s : State) : (settleSnapshots s).bil = s.bil := by
  have hplaced (r : TxnRecord) (u : State) : (placeRecord r u).bil = u.bil := by
    simp only [placeRecord]
    split
    · exact noticeTo_bil _ _ _ _ _
    · rfl
  have hsettled (x : Settlement) (u : State) : (settle x u).bil = u.bil := by
    unfold settle
    split
    · rfl
    · exact noticeTo_bil _ _ _ _ u
  refine forEach_keeps (fun u => u.bil = s.bil) settleSnapshot (fun p u hu => ?_) Pos.all s rfl
  unfold settleSnapshot
  split
  · exact hu
  · rw [hplaced, hsettled, hu]

theorem restart_covered (tb : Tables) (r : Retained) (l : Lines) (s : State)
    (hids : ((r.accounts.filterMap id).map Account.id).Nodup) : (restart tb r l s).covered := by
  have hclosed : (ageHistory (closeAll (bringUp tb.restart r l s))).ret.accounts = r.accounts :=
    (congrArg Retained.accounts (closeAll_ret (bringUp tb.restart r l s)) :)
  have hbefore : (beforeLoop tb r l s).covered := by
    refine checkDay_covered (settleSnapshots_covered ?_ ?_)
    · rw [settleSnapshots_bil]
      exact closeAll_bil _
    · rwa [hclosed]
  rw [restart_eq, judgeLoop, onlyIf]
  split
  · exact tripOn_covered .loop hbefore
  · exact hbefore

theorem exec_covered {c : Instr} {s t : State}
    (hlifted : ∀ p, (s.ctx p).state = .lifted → s.bil.get p = none)
    (hcap : ∀ p n k, c = .loweredCap p n → s.bil.get p = some k → n ≤ k.cap) (hs : s.covered)
    (h : exec c s = .next t) : t.covered := by
  cases hbil : bilCommand c
  case true => exact exec_bil_covered hbil hlifted hcap hs h
  case false =>
    cases hunit : unitCommand c
    case true => exact (exec_event hunit h).covered hs
    case false =>
      cases hrif : rifCommand c
      case true => exact covered_congr (fundsPart_of_outsideRif (exec_outsideRif hrif h)) hs
      case false =>
        have restarted (hc : (∃ d l, c = .powerOn d l) ∨ (∃ l, c = .supplyDip l) ∨
            ∃ l, c = .commandRestart l) : t.covered := by
          obtain rfl | ⟨tb, r, l, rfl, ⟨-, -, haccounts⟩ | rfl⟩ := exec_restart h hc
          · exact hs
          · exact restart_covered tb r l s (haccounts ▸ hs.funds.uniqueIds)
          · exact restart_covered tb retainLost l s (by decide)
        cases c
        case tableCommit => exact running_keeps h hs (tableCommitRequest_covered _ _)
        case tripRequest rq =>
          exact running_keeps h hs fun hs => reply_covered rq 17 .ok [] (tripOn_covered .request hs)
        case tripCause c => exact running_keeps h hs (tripOn_covered c)
        case tripLoopOpen =>
          exact running_keeps h hs fun hs => tripOn_covered .loop (covered_congr (s := s) rfl hs)
        case supplyMonitorTrip =>
          exact running_keeps h hs fun hs => covered_congr (s := tripOn .supply s) rfl (tripOn_covered .supply hs)
        case powerOn d l => exact restarted (.inl ⟨d, l, rfl⟩)
        case supplyDip l => exact restarted (.inr (.inl ⟨l, rfl⟩))
        case commandRestart l => exact restarted (.inr (.inr ⟨l, rfl⟩))
        all_goals first | exact Bool.noConfusion hbil | exact Bool.noConfusion hunit | exact Bool.noConfusion hrif

/-- Settles O9: the events of the other units leave the funds alone, and each of BIL's keeps them covered. -/
theorem fundsStayCovered : Obligations.FundsStayCovered := by
  intro c s t hfunds htender hlifted hcap h
  obtain ⟨hfunds', htender'⟩ := exec_covered hlifted hcap ⟨hfunds, htender⟩ h
  exact ⟨hfunds', htender'⟩

end Sys2Proof.Machine
end

section
/-! Numbers and fields as bytes (R182, R183): what is written is read back. The frame's round trip O15 follows, and
the table rows' O16 is in the next part. -/

namespace Sys2Proof.Machine

open Sys2Proof

/-! ### Unsigned numbers -/

@[simp] theorem length_beBytes (k n : Nat) : (beBytes k n).length = k := by
  induction k with
  | zero => rfl
  | succ k ih => simp [beBytes, ih]

theorem foldl_natOf (a : Nat) (bs : List Byte) :
    bs.foldl (fun a b => 256 * a + b.toNat) a = a * 256 ^ bs.length + natOf bs := by
  induction bs generalizing a with
  | nil => simp [natOf]
  | cons b bs ih =>
    have hrest : natOf (b :: bs) = b.toNat * 256 ^ bs.length + natOf bs := by
      rw [natOf, List.foldl_cons, ih, Nat.mul_zero, Nat.zero_add]
    rw [List.foldl_cons, ih, hrest, List.length_cons, Nat.pow_succ]
    ring

theorem natOf_cons (b : Byte) (bs : List Byte) : natOf (b :: bs) = b.toNat * 256 ^ bs.length + natOf bs := by
  rw [natOf, List.foldl_cons, Nat.mul_zero, Nat.zero_add, foldl_natOf]

theorem natOf_beBytes (k n : Nat) : natOf (beBytes k n) = n % 256 ^ k := by
  induction k with
  | zero => simp [beBytes, natOf, Nat.mod_one]
  | succ k ih =>
    have hsplit : n % 256 ^ (k + 1) = n % 256 ^ k + 256 ^ k * (n / 256 ^ k % 256) := Nat.mod_pow_succ
    rw [beBytes, natOf_cons, ih, length_beBytes, BitVec.toNat_ofNat, hsplit, Nat.mul_comm, Nat.add_comm]

theorem natOf_beBytes_of_lt {k n : Nat} (h : n < 256 ^ k) : natOf (beBytes k n) = n := by
  rw [natOf_beBytes, Nat.mod_eq_of_lt h]

theorem beBytes_mod (k n : Nat) : beBytes k (n % 256 ^ k) = beBytes k n := by
  induction k generalizing n with
  | zero => rfl
  | succ k ih =>
    have hhigh : n % 256 ^ (k + 1) / 256 ^ k = n / 256 ^ k % 256 := by
      rw [Nat.pow_succ, Nat.mod_mul_right_div_self]
    have hlow : n % 256 ^ (k + 1) % 256 ^ k = n % 256 ^ k :=
      Nat.mod_mod_of_dvd n (pow_dvd_pow 256 (Nat.le_succ k))
    rw [beBytes, beBytes, ← ih (n % 256 ^ (k + 1)), hlow, ih, hhigh]
    congr 1
    exact BitVec.eq_of_toNat_eq (by simp)

theorem beInt_ofNat (k n : Nat) : beInt k (n : Int) = beBytes k n := by
  have hmod : ((n : Int) % 256 ^ k).toNat = n % 256 ^ k := by
    rw [show (n : Int) % 256 ^ k = ((n % 256 ^ k : Nat) : Int) by push_cast; rfl, Int.toNat_natCast]
  rw [beInt, hmod, beBytes_mod]

/-! ### Signed numbers -/

@[simp] theorem length_beInt (k : Nat) (x : Int) : (beInt k x).length = k := length_beBytes k _

theorem natOf_beInt (k : Nat) (x : Int) : (natOf (beInt k x) : Int) = x % 256 ^ k := by
  have hpos : (0 : Int) < 256 ^ k := by positivity
  have hlt := Int.emod_lt_of_pos x hpos
  have hnonneg := Int.emod_nonneg x hpos.ne'
  have hnat : (x % 256 ^ k).toNat < 256 ^ k := by
    zify [hnonneg]
    rwa [Int.toNat_of_nonneg hnonneg]
  rw [beInt, natOf_beBytes_of_lt hnat, Int.toNat_of_nonneg hnonneg]

/-- The two's complement number is read back from its bytes. -/
theorem intOf_beInt {k : Nat} {x : Int} (hlo : -(256 ^ k) ≤ 2 * x) (hhi : 2 * x < 256 ^ k) :
    intOf (beInt k x) = x := by
  have hnat := natOf_beInt k x
  have hpos : (0 : Int) < 256 ^ k := by positivity
  have hcond : 2 * natOf (beInt k x) < 256 ^ (beInt k x).length ↔ 2 * (x % 256 ^ k) < 256 ^ k := by
    rw [length_beInt, ← hnat]
    norm_cast
  rw [intOf, hnat, length_beInt]
  by_cases hx : 0 ≤ x
  · rw [Int.emod_eq_of_lt hx (by omega)] at hcond ⊢
    rw [if_pos (by simpa using hcond.mpr hhi)]
  · have hmod : x % 256 ^ k = x + 256 ^ k := by
      rw [← Int.add_emod_right, Int.emod_eq_of_lt (by omega) (by omega)]
    rw [hmod] at hcond ⊢
    rw [if_neg (by simpa using hcond.not.mpr (by omega))]
    omega

theorem natOf_beInt_of_nonneg {k : Nat} {x : Int} (hlo : 0 ≤ x) (hhi : x < 256 ^ k) :
    (natOf (beInt k x) : Int) = x := by
  rw [natOf_beInt, Int.emod_eq_of_lt hlo hhi]

/-! ### Frames (R182) -/

@[simp] theorem length_u1 (n : Nat) : (u1 n).length = 1 := length_beBytes 1 n

@[simp] theorem length_u2 (n : Nat) : (u2 n).length = 2 := length_beBytes 2 n

theorem u1_eq (n : Nat) : u1 n = [BitVec.ofNat 8 n] := by
  simp [u1, beBytes]

theorem toNat_ofNat_byte {n : Nat} (h : n ≤ 255) : (BitVec.ofNat 8 n).toNat = n := by
  rw [BitVec.toNat_ofNat, Nat.mod_eq_of_lt (by omega)]

/-- Settles O15: the header's bytes are its fields, the length field cuts the payload from the check, and the check
is computed from the same bytes. -/
theorem frameRoundTrip : Obligations.FrameRoundTrip := by
  intro f hdest hsource hkind hlength
  have hlen : (BitVec.ofNat 8 f.payload.length).toNat = f.payload.length := toNat_ofNat_byte (by omega)
  have hcheck (c : BitVec 16) : natOf (u2 c.toNat) = c.toNat := natOf_beBytes_of_lt c.isLt
  have hbytes : f.bytes = BitVec.ofNat 8 f.dest :: BitVec.ofNat 8 f.source :: BitVec.ofNat 8 f.kind
      :: BitVec.ofNat 8 f.payload.length :: (f.payload ++ u2 (crc (BitVec.ofNat 8 f.dest
        :: BitVec.ofNat 8 f.source :: BitVec.ofNat 8 f.kind :: BitVec.ofNat 8 f.payload.length
        :: f.payload)).toNat) := by
    simp [Frame.bytes, u1_eq]
  have hroom : ¬56 < f.payload.length := by omega
  simp [hbytes, parseFrame, hlen, hcheck, hroom, toNat_ofNat_byte hdest, toNat_ofNat_byte hsource,
    toNat_ofNat_byte hkind, Nat.add_comm 4]

/-! ### Fields (R183) -/

/-- The widest field holds the range. -/
def Field.fits (f : Field) : Bool :=
  if f.lo < 0 then decide (-9223372036854775808 ≤ f.lo) && decide (f.hi ≤ 9223372036854775807)
  else decide (f.hi ≤ 18446744073709551615)

/-- The width follows from the range, so a value in the range is read back. -/
theorem Field.read_write {f : Field} {x : Int} (hf : f.fits = true) (hlo : f.lo ≤ x) (hhi : x ≤ f.hi) :
    f.read (f.write x) = x := by
  unfold Field.fits at hf
  unfold Field.read Field.write Field.width
  by_cases hneg : f.lo < 0
  · simp only [if_pos hneg, Bool.and_eq_true, decide_eq_true_eq] at hf ⊢
    split_ifs <;> exact intOf_beInt (by norm_num; omega) (by norm_num; omega)
  · simp only [if_neg hneg, decide_eq_true_eq] at hf ⊢
    split_ifs <;> exact natOf_beInt_of_nonneg (by omega) (by norm_num; omega)

@[simp] theorem Field.length_write (f : Field) (x : Int) : (f.write x).length = f.width := length_beInt _ x

/-- What is read of any numbers written in fields. -/
theorem readFields_writeFields {fs : List Field} {xs : List Int} (h : fs.length = xs.length) :
    readFields fs (writeFields fs xs) = some (List.zipWith (fun f x => f.read (f.write x)) fs xs) := by
  induction fs generalizing xs with
  | nil => cases xs <;> simp_all [readFields, writeFields]
  | cons f fs ih =>
    cases xs with
    | nil => cases h
    | cons x xs => simp [readFields, writeFields, ih (Nat.succ.inj h)]

theorem length_of_inRanges {fs : List Field} {xs : List Int} (h : inRanges fs xs = true) :
    fs.length = xs.length := by
  induction fs generalizing xs with
  | nil => cases xs <;> simp_all [inRanges]
  | cons f fs ih =>
    cases xs with
    | nil => simp [inRanges] at h
    | cons x xs => simpa using ih (Bool.and_eq_true_iff.mp h).2

theorem zipWith_read_write {fs : List Field} {xs : List Int} (hf : fs.all Field.fits = true)
    (h : inRanges fs xs = true) : List.zipWith (fun f x => f.read (f.write x)) fs xs = xs := by
  induction fs generalizing xs with
  | nil => cases xs <;> simp_all [inRanges]
  | cons f fs ih =>
    cases xs with
    | nil => simp [inRanges] at h
    | cons x xs =>
      simp only [List.all_cons, Bool.and_eq_true, inRanges, decide_eq_true_eq] at hf h
      obtain ⟨hfit, hfits⟩ := hf
      obtain ⟨⟨hlo, hhi⟩, hrest⟩ := h
      rw [List.zipWith_cons_cons, Field.read_write hfit hlo hhi, ih hfits hrest]

theorem readFields_of_inRanges {fs : List Field} {xs : List Int} (hf : fs.all Field.fits = true)
    (h : inRanges fs xs = true) : readFields fs (writeFields fs xs) = some xs := by
  rw [readFields_writeFields (length_of_inRanges h), zipWith_read_write hf h]

theorem checkedFields_writeFields {fs : List Field} {xs : List Int} (hf : fs.all Field.fits = true)
    (h : inRanges fs xs = true) : checkedFields fs (writeFields fs xs) = some xs := by
  simp [checkedFields, readFields_of_inRanges hf h, h]

/-- R1, R32, R52: a row whose flag is set. -/
theorem flaggedFields_set {fs : List Field} {xs : List Int} (hf : fs.all Field.fits = true)
    (h : inRanges fs xs = true) (hset : xs.head? ≠ some 0) :
    flaggedFields fs (writeFields fs xs) = some (some xs) := by
  simp [flaggedFields, readFields_of_inRanges hf h, h, hset]

/-- R1, R32, R52: a row whose flag is clear, whatever its other fields hold. -/
theorem flaggedFields_clear {fs : List Field} {xs : List Int} (h : fs.length = xs.length) :
    flaggedFields (flagField :: fs) (writeFields (flagField :: fs) (0 :: xs)) = some none := by
  have hflag : flagField.read (flagField.write 0) = 0 := by decide
  rw [flaggedFields, readFields_writeFields (by simp [h])]
  simp [hflag]

end Sys2Proof.Machine
end

section
/-! The rows of the nine tables, written and read back (R183, R195). O16 follows. -/

namespace Sys2Proof.Machine

open Sys2Proof

/-! ### Enumerations and lists -/

@[simp] theorem Pos.ofNum_num (p : Pos) : Pos.ofNum p.num = some p := by cases p <;> rfl

@[simp] theorem Bank.ofNum_num (b : Bank) : Bank.ofNum b.num = some b := by cases b <;> rfl

@[simp] theorem Pos.num_ne_five (p : Pos) : p.num ≠ 5 := by cases p <;> decide

@[simp] theorem Bank.num_ne_five (b : Bank) : b.num ≠ 5 := by cases b <;> decide

@[simp] theorem ValveEnd.ofNum_num (d : ValveEnd) : ValveEnd.ofNum d.num = some d := by
  cases d <;> simp [ValveEnd.num, ValveEnd.ofNum]

@[simp] theorem Source.ofNum_num (x : Source) : Source.ofNum x.num = some x := by
  cases x <;> simp [Source.num, Source.ofNum]

@[simp] theorem StaleAction.ofNum_num (a : StaleAction) : StaleAction.ofNum a.num = some a := by
  cases a <;> rfl

@[simp] theorem LimitAction.ofNum_num (a : LimitAction) : LimitAction.ofNum a.num = some a := by
  cases a <;> rfl

@[simp] theorem EdgeSelect.ofNum_num (a : EdgeSelect) : EdgeSelect.ofNum a.num = some a := by
  cases a <;> rfl

@[simp] theorem EdgeAction.ofNum_num (a : EdgeAction) : EdgeAction.ofNum a.num = some a := by
  cases a <;> rfl

@[simp] theorem PClass.ofNum_num (k : PClass) : PClass.ofNum k.num = some k := by cases k <;> rfl

@[simp] theorem Category.ofNum_rank (c : Category) : Category.ofNum c.rank = some c := by cases c <;> rfl

@[simp] theorem Category.ofNum_categoryNum (o : Option Category) : Category.ofNum (categoryNum o) = o := by
  cases o with
  | none => rfl
  | some c => exact Category.ofNum_rank c

/-- R2: a role's code names it. -/
@[simp] theorem Role.ofCode_code (r : Role) : Role.ofCode r.code.1 r.code.2.1 r.code.2.2 = some r := by
  cases r <;> simp [Role.code, Role.ofCode, posRole, bankRole, plainRole]

@[simp] theorem flagNat_beq_one (b : Bool) : ((flagNat b : Int) == 1) = b := by cases b <;> rfl

theorem distinct_of_nodup {α : Type} [DecidableEq α] {xs : List α} (h : xs.Nodup) : distinct xs = true := by
  induction xs with
  | nil => rfl
  | cons x xs ih =>
    obtain ⟨hx, hxs⟩ := List.nodup_cons.mp h
    simp [distinct, hx, ih hxs]

/-- The entries of a list are read back from their numbers. -/
theorem entriesOf_map {α : Type} {f : Nat → Option α} {g : α → Nat} (hfg : ∀ a, f (g a) = some a)
    (xs : List α) : entriesOf f (xs.map fun a => (g a : Int)) = some xs := by
  induction xs with
  | nil => rfl
  | cons x xs ih => simp [entriesOf, hfg, ih]

theorem Bank.length_le_of_nodup {bs : List Bank} (h : bs.Nodup) : bs.length ≤ 4 :=
  (h.subperm (l₂ := Bank.all) fun b _ => by cases b <;> decide).length_le

theorem Source.length_le_of_nodup {xs : List Source} (h : xs.Nodup) : xs.length ≤ 5 := by
  have hall : ∀ x : Source, x ∈ [Source.compressor, .bank .b1, .bank .b2, .bank .b3, .bank .b4] := by
    intro x
    cases x with
    | compressor => decide
    | bank b => cases b <;> decide
  exact (h.subperm fun x _ => hall x).length_le

/-! ### A field list in the encoding of fields -/

/-- The numbers of a list's entries, with zeros up to its room. -/
def padded (most : Nat) (ns : List Nat) : List Int :=
  ns.map Int.ofNat ++ List.replicate (most - ns.length) 0

@[simp] theorem length_padded {most : Nat} {ns : List Nat} (h : ns.length ≤ most) :
    (padded most ns).length = most := by
  simp [padded]
  omega

theorem write_byte (n : Nat) : Field.write ⟨0, 255⟩ n = u1 n := beInt_ofNat 1 n

theorem writeFields_append {fs gs : List Field} {xs ys : List Int} (h : fs.length = xs.length) :
    writeFields (fs ++ gs) (xs ++ ys) = writeFields fs xs ++ writeFields gs ys := by
  induction fs generalizing xs with
  | nil => cases xs <;> simp_all [writeFields]
  | cons f fs ih =>
    cases xs with
    | nil => cases h
    | cons x xs => simp [writeFields, ih (Nat.succ.inj h)]

theorem writeFields_bytes (ns : List Nat) :
    writeFields (List.replicate ns.length ⟨0, 255⟩) (ns.map Int.ofNat) = (ns.map u1).flatten := by
  induction ns with
  | nil => rfl
  | cons n ns ih =>
    simp only [List.length_cons, List.replicate_succ, List.map_cons, writeFields, List.flatten_cons, ih]
    rw [show Int.ofNat n = (n : Int) from rfl, write_byte]

theorem writeFields_zeros (k : Nat) :
    writeFields (List.replicate k ⟨0, 255⟩) (List.replicate k 0) = List.replicate k 0 := by
  induction k with
  | zero => rfl
  | succ k ih =>
    rw [List.replicate_succ, List.replicate_succ, writeFields, ih]
    rfl

theorem writeFields_padded {most : Nat} {ns : List Nat} (h : ns.length ≤ most) :
    writeFields (List.replicate most ⟨0, 255⟩) (padded most ns)
      = (ns.map u1).flatten ++ List.replicate (most - ns.length) 0 := by
  have hsplit : List.replicate most (⟨0, 255⟩ : Field) = List.replicate ns.length ⟨0, 255⟩
      ++ List.replicate (most - ns.length) ⟨0, 255⟩ := by
    rw [List.replicate_append_replicate, Nat.add_sub_cancel' h]
  rw [hsplit, padded, writeFields_append (by simp), writeFields_bytes, writeFields_zeros]

/-- R183: a list is the fields of its length and of its padded entries. -/
theorem writeFields_list {most : Nat} {ns : List Nat} {f : Field} (hf : f.width = 1)
    (h : ns.length ≤ most) :
    writeFields (f :: List.replicate most ⟨0, 255⟩) ((ns.length : Int) :: padded most ns)
      = listField most 1 (ns.map u1) := by
  rw [writeFields, writeFields_padded h, Field.write, hf, beInt_ofNat]
  simp [listField, u1]

theorem inRanges_append {fs gs : List Field} {xs ys : List Int} (h : fs.length = xs.length) :
    inRanges (fs ++ gs) (xs ++ ys) = (inRanges fs xs && inRanges gs ys) := by
  induction fs generalizing xs with
  | nil => cases xs <;> simp_all [inRanges]
  | cons f fs ih =>
    cases xs with
    | nil => cases h
    | cons x xs => simp [inRanges, ih (Nat.succ.inj h), Bool.and_assoc]

theorem inRanges_replicate {f : Field} {xs : List Int} (h : ∀ x ∈ xs, f.lo ≤ x ∧ x ≤ f.hi) :
    inRanges (List.replicate xs.length f) xs = true := by
  induction xs with
  | nil => rfl
  | cons x xs ih =>
    obtain ⟨hlo, hhi⟩ := h x (by simp)
    simp [inRanges, List.replicate_succ, hlo, hhi, ih fun y hy => h y (by simp [hy])]

theorem inRanges_padded {most : Nat} {ns : List Nat} (hlen : ns.length ≤ most) (h : ∀ n ∈ ns, n ≤ 255) :
    inRanges (List.replicate most ⟨0, 255⟩) (padded most ns) = true := by
  have hrange := inRanges_replicate (f := ⟨0, 255⟩) (xs := padded most ns) fun x hx => by
    rcases List.mem_append.mp hx with hx | hx
    · obtain ⟨n, hn, rfl⟩ := List.mem_map.mp hx
      have hbyte := h n hn
      exact ⟨Int.natCast_nonneg n, by change (n : Int) ≤ 255; omega⟩
    · rw [(List.mem_replicate.mp hx).2]
      decide
  rwa [length_padded hlen] at hrange

theorem take_padded (most : Nat) (ns : List Nat) : (padded most ns).take ns.length = ns.map Int.ofNat :=
  List.take_left' (by simp)

/-! ### The rows -/

theorem parseNodeRow_print {r : NodeRow} (h : inRanges nodeFields
      [1, r.source, r.channel, r.role.code.1, r.role.code.2.1, r.role.code.2.2, r.offset, r.freshness,
       r.stale.num, r.low, r.high, r.limitAction.num, r.edgeSelect.num, r.edgeAction.num] = true)
    (hsuits : r.suits = true) : parseNodeRow (printNodeRow (some r)) = some (some r) := by
  rw [parseNodeRow, printNodeRow, flaggedFields_set (by decide) h (by simp)]
  simp [nodeRowOf, hsuits]

theorem parseStation_print {r : StationRow} (h : inRanges stationFields
      [r.supervisor, r.mbFloor, r.mbTolerance, r.mbTrip, r.rateCapH35, r.rateCapH70, r.idleTime,
       r.parkTime, flagNat r.bankLowWake] = true) : parseStation (printStation r) = some r := by
  rw [parseStation, printStation, checkedFields_writeFields (by decide) h]
  simp

theorem parseBankRow_print {r : BankRow} (hconf : r.configured = true)
    (h : inRanges bankFields [1, r.volume, r.rated, r.floor, r.refillStart, r.fillTo] = true) :
    parseBankRow (printBankRow r) = some r := by
  rw [parseBankRow, printBankRow, hconf, show ((flagNat true : Nat) : Int) = 1 from rfl,
    flaggedFields_set (by decide) h (by simp)]
  simp [← hconf]

theorem parseBankRow_print_empty {r : BankRow} (hconf : r.configured = false) :
    parseBankRow (printBankRow r) = some ⟨false, 0, 0, 0, 0, 0⟩ := by
  rw [parseBankRow, printBankRow, hconf, show ((flagNat false : Nat) : Int) = 0 from rfl, bankFields,
    flaggedFields_clear (by rfl)]
  rfl

theorem seqFields_eq : seqFields = ⟨0, 5⟩ :: List.replicate 5 ⟨0, 255⟩ := rfl

theorem cmpFields_eq : cmpFields
    = cmpFields.take 8 ++ (⟨0, 4⟩ :: List.replicate 4 ⟨0, 255⟩ ++ [⟨1, 1000⟩]) := rfl

theorem Source.num_le (x : Source) : x.num ≤ 255 := by
  cases x with
  | compressor => decide
  | bank b => cases b <;> decide

theorem Bank.num_le (b : Bank) : b.num ≤ 255 := by cases b <;> decide

theorem map_num_le {α : Type} {g : α → Nat} (hg : ∀ a, g a ≤ 255) (xs : List α) :
    ∀ n ∈ xs.map g, n ≤ 255 := by
  intro n hn
  obtain ⟨x, -, rfl⟩ := List.mem_map.mp hn
  exact hg x

theorem parseSequence_print {es : List Source} (h : es.Nodup) :
    parseSequence (printSequence es) = some es := by
  have hle := Source.length_le_of_nodup h
  have hlen : (es.map Source.num).length ≤ 5 := by simpa using hle
  have hprint : printSequence es = writeFields seqFields
      (((es.map Source.num).length : Int) :: padded 5 (es.map Source.num)) := by
    rw [seqFields_eq, writeFields_list (by decide) hlen, List.map_map]
    rfl
  have hrange : inRanges seqFields
      (((es.map Source.num).length : Int) :: padded 5 (es.map Source.num)) = true := by
    exact Bool.and_eq_true_iff.mpr
      ⟨by simpa using hle, inRanges_padded hlen (map_num_le Source.num_le es)⟩
  rw [parseSequence, hprint, checkedFields_writeFields (by decide) hrange]
  simp only [Int.toNat_natCast, take_padded, List.map_map]
  rw [show (Int.ofNat ∘ Source.num) = fun x : Source => (x.num : Int) from rfl,
    entriesOf_map Source.ofNum_num]
  simp [distinct_of_nodup h]

/-- R52: the numbers of a compressor row. -/
def CmpRow.ints (r : CmpRow) : List Int :=
  [(flagNat r.fitted : Int), r.primeTime, r.minRun, r.minOff, r.startsLimit, r.suctionMin, r.hysteresis,
    r.dischargeMax]
    ++ (((r.refillOrder.map Bank.num).length : Int) :: padded 4 (r.refillOrder.map Bank.num)
      ++ [(r.runSpeed : Int)])

theorem printCmpRow_eq {r : CmpRow} (h : r.refillOrder.length ≤ 4) :
    printCmpRow r = writeFields cmpFields r.ints := by
  have hlen : (r.refillOrder.map Bank.num).length ≤ 4 := by simpa using h
  rw [cmpFields_eq, CmpRow.ints, writeFields_append (by rfl), writeFields_append (by simp [length_padded hlen]),
    writeFields_list (by decide) hlen, List.map_map]
  rw [printCmpRow, List.append_assoc]
  congr 2
  exact (beInt_ofNat 2 r.runSpeed).symm.trans (List.append_nil _).symm

theorem parseCmpRow_print {r : CmpRow} (hfit : r.fitted = true) (horder : r.refillOrder.Nodup)
    (h : inRanges (cmpFields.take 8 ++ [⟨1, 1000⟩])
      [1, r.primeTime, r.minRun, r.minOff, r.startsLimit, r.suctionMin, r.hysteresis, r.dischargeMax,
       r.runSpeed] = true) : parseCmpRow (printCmpRow r) = some r := by
  have hle := Bank.length_le_of_nodup horder
  have hlen : (r.refillOrder.map Bank.num).length ≤ 4 := by simpa using hle
  have hpadded := inRanges_padded hlen (map_num_le Bank.num_le r.refillOrder)
  obtain ⟨hhead, hspeed⟩ := Bool.and_eq_true_iff.mp ((inRanges_append
    (xs := [1, (r.primeTime : Int), r.minRun, r.minOff, r.startsLimit, r.suctionMin, r.hysteresis,
      r.dischargeMax]) (by rfl)).symm.trans h)
  have hrange : inRanges cmpFields r.ints = true := by
    rw [cmpFields_eq, CmpRow.ints, hfit, inRanges_append (by rfl), List.cons_append, List.cons_append,
      inRanges, inRanges_append (by simp [length_padded hlen]), hpadded, hspeed, Bool.and_eq_true]
    exact ⟨hhead, by simpa using hle⟩
  have hset : r.ints.head? ≠ some 0 := by simp [CmpRow.ints, hfit, flagNat]
  obtain ⟨e1, e2, e3, e4, hentries⟩ : ∃ a b c d, padded 4 (r.refillOrder.map Bank.num) = [a, b, c, d] :=
    List.length_eq_four.mp (length_padded hlen)
  have htake := take_padded 4 (r.refillOrder.map Bank.num)
  rw [parseCmpRow, printCmpRow_eq hle, flaggedFields_set (by decide) hrange hset]
  rw [hentries, List.map_map, show (Int.ofNat ∘ Bank.num) = fun b : Bank => (b.num : Int) from rfl] at htake
  simp only [CmpRow.ints, hentries, List.cons_append, List.nil_append, Int.toNat_natCast, htake,
    entriesOf_map Bank.ofNum_num, distinct_of_nodup horder, if_true]
  rw [← hfit]

theorem parseCmpRow_print_empty {r : CmpRow} (hfit : r.fitted = false) (hle : r.refillOrder.length ≤ 4) :
    parseCmpRow (printCmpRow r) = some ⟨false, 0, 0, 0, 0, 0, 0, 0, [], 0⟩ := by
  have hlen : (r.refillOrder.map Bank.num).length ≤ 4 := by simpa using hle
  rw [parseCmpRow, printCmpRow_eq hle, CmpRow.ints, hfit]
  rw [show ((flagNat false : Nat) : Int) = 0 from rfl, cmpFields, List.cons_append,
    flaggedFields_clear (by simp [length_padded hlen])]
  rfl

theorem parseChillerRow_print {r : ChillerRow} (h : inRanges chillerFields
      [flagNat r.fitted, r.capacity, r.recovery, r.loss, r.cp, r.bq, r.readyOn, r.readyOff, r.stabilise,
       r.parkDelay, r.settle, r.excursion] = true) : parseChillerRow (printChillerRow r) = some r := by
  rw [parseChillerRow, printChillerRow, checkedFields_writeFields (by decide) h]
  simp

theorem parseCategories_print {t : PrecoolTable} (h : inRanges categoryFields
      [t.c40.target, t.c40.bound, t.c40.threshold, t.c30.target, t.c30.bound, t.c30.threshold,
       t.c20.target, t.c20.bound, t.c20.threshold] = true) :
    parseCategories (printCategories t) = some (t.c40, t.c30, t.c20) := by
  rw [parseCategories, printCategories, checkedFields_writeFields (by decide) h]
  simp

theorem parseFillRow_edges {t : FillTable} (u : FillTable) (hvol : t.volEdges.length = 3)
    (hamb : t.ambEdges.length = 5)
    (h : inRanges edgeFields (t.volEdges ++ t.ambEdges ++ t.p0Edges) = true) :
    parseFillRow u 0 (printFillRow t 0) =
      some { u with volEdges := t.volEdges, ambEdges := t.ambEdges, p0Edges := t.p0Edges } := by
  rw [parseFillRow, printFillRow, if_pos rfl, if_pos rfl, checkedFields_writeFields (by decide) h]
  simp [List.drop_append, hvol, hamb]

theorem parseFillRow_params {t : FillTable} (u : FillTable)
    (h : inRanges paramFields t.params.ints = true) :
    parseFillRow u 1 (printFillRow t 1) = some { u with params := t.params } := by
  have hparams : paramsOf t.params.ints = some t.params := by simp [FillParams.ints, paramsOf]
  simp [parseFillRow, printFillRow, checkedFields_writeFields (by decide) h, hparams]

theorem cellsOf_flatMap (c : List Cell) :
    cellsOf (c.flatMap fun x => [(x.aprr : Int), (x.pEnd : Int)]) = c := by
  induction c with
  | nil => rfl
  | cons x xs ih => simp [cellsOf, ih]

theorem parseFillRow_cells {t : FillTable} (u : FillTable) {n : Nat} {c : List Cell} (hn : n < 96)
    (hc : t.cells[n]? = some c)
    (h : inRanges cellFields (c.flatMap (fun x => [(x.aprr : Int), (x.pEnd : Int)])) = true) :
    parseFillRow u (n + 2) (printFillRow t (n + 2)) = some { u with cells := u.cells.set n c } := by
  have hrow : n + 2 < 98 := by omega
  simp [parseFillRow, printFillRow, hc, hrow, checkedFields_writeFields (by decide) h, cellsOf_flatMap]

theorem map_toNat_ofNat (ns : List Nat) : (ns.map Int.ofNat).map Int.toNat = ns := by
  simp [Function.comp_def]

theorem parseTariffRow_bands {t : Tariff} (u : Tariff) (hbands : t.bands.length = 8)
    (h : inRanges tariffFields (t.bands.map Int.ofNat ++ [(t.rollover : Int), (t.minCap : Int)]) = true) :
    parseTariffRow u 0 (printTariffRow t 0) =
      some { u with bands := t.bands, rollover := t.rollover, minCap := t.minCap } := by
  rw [parseTariffRow, printTariffRow, if_pos rfl, if_pos rfl, checkedFields_writeFields (by decide) h]
  have htake : (t.bands.map Int.ofNat ++ [(t.rollover : Int), (t.minCap : Int)]).take 8
      = t.bands.map Int.ofNat := List.take_left' (by simp [hbands])
  simp only [Option.map_some, htake, map_toNat_ofNat]
  simp [hbands]

theorem parseTariffRow_prices {t : Tariff} (u : Tariff) {n : Nat} {c : List Nat} (hn : n < 4)
    (hc : t.prices[n]? = some c) (h : inRanges priceFields (c.map Int.ofNat) = true) :
    parseTariffRow u (n + 1) (printTariffRow t (n + 1)) =
      some { u with prices := u.prices.set n c } := by
  have hrow : n + 1 < 5 := by omega
  simp only [parseTariffRow, printTariffRow, hrow, if_true, Nat.add_one_ne_zero, if_false,
    Nat.add_sub_cancel, List.getD_eq_getElem?_getD, hc, Option.getD_some,
    checkedFields_writeFields (by decide) h, Option.map_some, map_toNat_ofNat]

theorem parsePosRow_print {r : PosRow} (h : inRanges posFields
      [r.pclass.num, r.required.rank, categoryNum r.fallback, r.volClass, flagNat r.vehicleComm,
       flagNat r.autoReRate, r.maxFill, r.pulseWeight, r.maxDelta, flagNat r.wakeEnable, r.afterRun,
       r.ventTarget, r.ventLimit] = true) : parsePosRow (printPosRow r) = some r := by
  rw [parsePosRow, printPosRow, checkedFields_writeFields (by decide) h]
  simp

/-- Settles O16: a row's bytes are its fields in their widths, the checks pass because the fields are in their
ranges, and every number names its entry. -/
theorem rowRoundTrip : Obligations.RowRoundTrip :=
  ⟨fun _ h hsuits => parseNodeRow_print h hsuits, fun _ h => parseStation_print h,
    fun _ hconf h => parseBankRow_print hconf h, fun _ h => parseSequence_print h,
    fun _ hfit horder h => parseCmpRow_print hfit horder h, fun _ h => parseChillerRow_print h,
    fun _ h => parseCategories_print h, by decide, fun _ h => parseBankRow_print_empty h,
    fun _ hfit hle => parseCmpRow_print_empty hfit hle, fun _ u hvol hamb h => parseFillRow_edges u hvol hamb h,
    fun _ u h => parseFillRow_params u h, fun _ u _ _ hn hc h => parseFillRow_cells u hn hc h,
    fun _ u hbands h => parseTariffRow_bands u hbands h,
    fun _ u _ _ hn hc h => parseTariffRow_prices u hn hc h, fun _ h => parsePosRow_print h⟩

end Sys2Proof.Machine
end

section
/-! The step (O1, O3) and the state after reset (O4). -/

namespace Sys2Proof.Machine

open Sys2Proof

/-- Settles O1: the step looks at the front of the queue first. -/
theorem stepTakesFront : Obligations.StepTakesFront := by
  intro c rest s h
  rw [step, h]

/-! ### The step on an empty queue -/

theorem step_of_no_command {s : State} (h : s.pending = []) : step s = idle s := by
  rw [step, h]

theorem idle_in_reset {s : State} (h : s.smc.inReset = true) : idle s = .next (tickInReset s) := if_pos h

theorem idle_of_mail {s : State} {m : Instr} {rest : List Instr} (h : s.smc.inReset = false)
    (hmail : s.mail = m :: rest) : idle s = exec m { s with mail := rest } := by
  rw [idle, if_neg (by simp [h]), hmail]

theorem idle_of_due {s : State} {i : Instr} {rest : List Instr} (h : s.smc.inReset = false)
    (hmail : s.mail = []) (hdue : s.due = i :: rest) : idle s = exec i s := by
  rw [idle, if_neg (by simp [h]), hmail, hdue]

theorem idle_of_nothing {s : State} (h : s.smc.inReset = false) (hmail : s.mail = []) (hdue : s.due = []) :
    idle s = .next (tick s) := by
  rw [idle, if_neg (by simp [h]), hmail, hdue]

/-- A tick at a timer. -/
def lessOne : Option Nat → Option Nat := Option.map (fun n => n - 1)

theorem tickTimer_eq : tickTimer = lessOne := funext fun t => by cases t <;> rfl

theorem PosTimers.tick_eq (t : PosTimers) : t.tick =
    ⟨lessOne t.fill, lessOne t.pulse, lessOne t.leak, lessOne t.precool, lessOne t.bankWait,
      lessOne t.pause, lessOne t.vehicle, lessOne t.mismatch, lessOne t.afterRun, lessOne t.vent⟩ := by
  simp [PosTimers.tick, tickTimer_eq]

theorem Ctx.tick_eq : Ctx.tick = fun c =>
    { c with
      tau := if c.state = .main then c.tau + 1 else c.tau
      timers :=
        ⟨lessOne c.timers.fill, lessOne c.timers.pulse, lessOne c.timers.leak, lessOne c.timers.precool,
          lessOne c.timers.bankWait, lessOne c.timers.pause, lessOne c.timers.vehicle,
          lessOne c.timers.mismatch, lessOne c.timers.afterRun, lessOne c.timers.vent⟩ } :=
  funext fun c => by simp [Ctx.tick, PosTimers.tick_eq]

theorem Monitor.tick_eq : Monitor.tick = fun m =>
    { m with settle := lessOne m.settle, excursion := lessOne m.excursion } :=
  funext fun m => by simp [Monitor.tick, tickTimer_eq]

/-- Settles O3: the step without a command by what it finds first, and the tick with its timers written out. -/
theorem idleStep : Obligations.IdleStep := by
  refine ⟨fun s hpending => ?_, fun s => ?_⟩
  · rw [step_of_no_command hpending]
    exact ⟨fun _ _ h hmail => idle_of_mail h hmail, fun _ _ h hmail hdue => idle_of_due h hmail hdue,
      fun h hmail hdue => idle_of_nothing h hmail hdue, idle_in_reset⟩
  · intro less aged
    have haged : { tickTimers s with ticks := (s.ticks + 1) % 10 } = aged := by
      simp only [tickTimers, Cmp.tick, Pcl.tick, Smc.tick, Monitor.tick_eq, Ctx.tick_eq, tickTimer_eq]
      rfl
    have htick : tick s = if aged.ticks = 0 then post .reserveStep (clockSecond aged) else aged := by
      rw [← haged]
      rfl
    refine ⟨fun h => htick.trans (if_neg h), fun h hreset => ⟨?_, htick.trans (if_pos h)⟩,
      fun h => if_neg h, fun h => ?_⟩
    · exact congrArg Host.Outcome.next (if_neg (by simp [aged, hreset]))
    · rw [tickInReset, h]
      rfl

/-! ### The state after reset -/

theorem reset_covered : State.reset.covered where
  funds := ⟨fun _ h => absurd h (by simp [State.reset, Retained.empty]), by decide⟩
  tender :=
    ⟨fun p h => (by cases p <;> cases h), fun p _ h => (by cases p <;> cases h),
      fun p _ h => (by cases p <;> cases h), fun p _ h => (by cases p <;> cases h),
      fun _ _ h => absurd h (by simp [State.reset, Retained.empty])⟩

/-- Settles O4: the queues and the retained domain are empty, and the mode is CONFIGURING. -/
theorem resetLeaves : Obligations.ResetLeaves := by
  refine ⟨⟨Nat.zero_le _, fun _ => rfl, by simp [State.tripModeLaw, State.latched, State.reset], ⟨by decide, by decide, by decide, by decide⟩,
    ⟨by decide, by decide⟩, fun _ => Nat.zero_le _, reset_covered.funds, reset_covered.tender⟩, ?_⟩
  refine ⟨rfl, fun n hlo hhi => ?_, rfl, rfl, rfl, rfl, fun p => ?_, rfl, fun p => ?_, rfl, rfl, rfl, rfl, rfl,
    rfl, rfl⟩
  · interval_cases n <;> rfl
  · cases p <;> rfl
  · cases p <;> rfl

end Sys2Proof.Machine
end

section
/-! The queues of the ring interface (R188, R190, R191, R198): the command queue holds one entry for each role, and
what each other queue does with a frame that joins it. O20 follows. -/

namespace Sys2Proof.Machine

open Sys2Proof

/-! ### The command queue (R190) -/

/-- An entry in the place of its role's. -/
def replaceEntry (e : CmdEntry) (q : List CmdEntry) : List CmdEntry :=
  q.map (fun x => if x.role == e.role then e else x)

theorem enqueue_of_new {e : CmdEntry} {q : List CmdEntry} (h : ∀ x ∈ q, x.role ≠ e.role) :
    enqueue e q = q ++ [e] := by
  have hnone : q.find? (fun x => x.role == e.role) = none :=
    List.find?_eq_none.mpr fun x hx => by simpa using h x hx
  rw [enqueue, hnone]

/-- The entry that the queue finds for a role is the one it holds. -/
theorem find?_role {e x : CmdEntry} {q : List CmdEntry} (hq : (q.map CmdEntry.role).Nodup) (hx : x ∈ q)
    (hrole : x.role = e.role) : q.find? (fun y => y.role == e.role) = some x := by
  cases hfind : q.find? (fun y => y.role == e.role) with
  | none => exact absurd hrole (by simpa using List.find?_eq_none.mp hfind x hx)
  | some y =>
    have hy : y.role = e.role := by simpa using List.find?_some hfind
    exact congrArg some (List.inj_on_of_nodup_map hq (List.mem_of_find?_eq_some hfind) hx
      (hy.trans hrole.symm))

theorem enqueue_of_held {e x : CmdEntry} {q : List CmdEntry} (hq : (q.map CmdEntry.role).Nodup) (hx : x ∈ q)
    (hrole : x.role = e.role) : enqueue e q = if e.opens && x.command == .close then
      q.filter (fun y => y.role != e.role) ++ [e] else replaceEntry e q := by
  rw [enqueue, find?_role hq hx hrole]
  rfl

theorem replaceEntry_roles (e : CmdEntry) (q : List CmdEntry) :
    (replaceEntry e q).map CmdEntry.role = q.map CmdEntry.role := by
  rw [replaceEntry, List.map_map]
  refine List.map_congr_left fun x _ => ?_
  by_cases h : x.role = e.role <;> simp [h]

theorem replaceEntry_others (e : CmdEntry) (q : List CmdEntry) :
    (replaceEntry e q).filter (fun x => x.role ≠ e.role) = q.filter (fun x => x.role ≠ e.role) := by
  induction q with
  | nil => rfl
  | cons x q ih => by_cases h : x.role = e.role <;> simp_all [replaceEntry]

theorem replaceEntry_of_absent {e : CmdEntry} {q : List CmdEntry} (h : ∀ x ∈ q, x.role ≠ e.role) :
    replaceEntry e q = q :=
  (List.map_congr_left fun x hx => if_neg (by simpa using h x hx)).trans (List.map_id _)

theorem filter_role_of_absent {r : Role} {q : List CmdEntry} (h : ∀ x ∈ q, x.role ≠ r) :
    q.filter (fun x => x.role = r) = [] :=
  List.filter_eq_nil_iff.mpr fun x hx => by simpa using h x hx

theorem replaceEntry_same {e x : CmdEntry} {q : List CmdEntry} (hq : (q.map CmdEntry.role).Nodup)
    (hx : x ∈ q) (hrole : x.role = e.role) :
    (replaceEntry e q).filter (fun y => y.role = e.role) = [e] := by
  induction q with
  | nil => cases hx
  | cons y q ih =>
    obtain ⟨hy, hq'⟩ := List.nodup_cons.mp hq
    by_cases hye : y.role = e.role
    · have hrest : ∀ z ∈ q, z.role ≠ e.role := fun z hz hze =>
        hy (List.mem_map.mpr ⟨z, hz, hze.trans hye.symm⟩)
      have htail := replaceEntry_of_absent hrest
      unfold replaceEntry at htail ⊢
      rw [List.map_cons, htail]
      simpa [hye] using filter_role_of_absent hrest
    · have hmem : x ∈ q := (List.mem_cons.mp hx).resolve_left fun h => hye (h ▸ hrole)
      have htail := ih hq' hmem
      unfold replaceEntry at htail ⊢
      simpa [hye] using htail

theorem enqueue_same {e : CmdEntry} {q : List CmdEntry} (hq : (q.map CmdEntry.role).Nodup) :
    (enqueue e q).filter (fun x => x.role = e.role) = [e] := by
  have hmoved : (q.filter (fun y => y.role != e.role) ++ [e]).filter (fun x => x.role = e.role) = [e] := by
    rw [List.filter_append, filter_role_of_absent fun x hx => by simpa using (List.mem_filter.mp hx).2]
    simp
  by_cases h : ∃ x ∈ q, x.role = e.role
  · obtain ⟨x, hx, hrole⟩ := h
    rw [enqueue_of_held hq hx hrole]
    split
    · exact hmoved
    · exact replaceEntry_same hq hx hrole
  · have habsent : ∀ x ∈ q, x.role ≠ e.role := fun x hx hrole => h ⟨x, hx, hrole⟩
    rw [enqueue_of_new habsent, List.filter_append, filter_role_of_absent habsent]
    simp

theorem enqueue_others {e : CmdEntry} {q : List CmdEntry} (hq : (q.map CmdEntry.role).Nodup) :
    (enqueue e q).filter (fun x => x.role ≠ e.role) = q.filter (fun x => x.role ≠ e.role) := by
  by_cases h : ∃ x ∈ q, x.role = e.role
  · obtain ⟨x, hx, hrole⟩ := h
    rw [enqueue_of_held hq hx hrole]
    split
    · have htwice : (q.filter (fun y => y.role != e.role)).filter (fun y => y.role ≠ e.role)
          = q.filter (fun y => y.role ≠ e.role) := by
        rw [List.filter_filter]
        exact List.filter_congr fun y _ => by by_cases hy : y.role = e.role <;> simp [hy]
      rw [List.filter_append, htwice]
      simp
    · exact replaceEntry_others e q
  · rw [enqueue_of_new fun x hx hrole => h ⟨x, hx, hrole⟩]
    simp

theorem heldEntry_of_opens {e : CmdEntry} (h : e.opens = true) : heldEntry true e = ⟨e.role, .close, 0⟩ := by
  simp [heldEntry, h]

/-! ### The other queues (R188, R191) -/

theorem kick_of_sending {s : State} (h : s.rif.ringOut ≠ none) : kick s = s := by
  rw [kick, if_neg (by simpa using h)]

theorem forward_of_sending {bs : List Byte} {s : State} (h : s.rif.ringOut ≠ none)
    (hroom : s.rif.transit.length < 8) :
    forward bs s = updRif (fun r => { r with transit := r.transit ++ [bs] }) s :=
  (if_pos hroom).trans (kick_of_sending h)

theorem forward_of_full {bs : List Byte} {s : State} (h : 8 ≤ s.rif.transit.length) :
    forward bs s = updRif (fun r => { r with transitOverflows := countUp r.transitOverflows }) s :=
  if_neg (Nat.not_lt.mpr h)

theorem noticeTo_of_sending {d : Nat} {k : NoticeKind} {n : Nat} {bs : List Byte} {s : State}
    (h : s.rif.ringOut ≠ none) : noticeTo d k n bs s = updRif (Rif.pushNotice ⟨d, k.code, n, bs⟩) s := by
  refine kick_of_sending ?_
  simp only [updRif, Rif.pushNotice]
  split <;> exact h

/-- Settles O20: the command queue by whether the role has an entry, and each other queue by its room. -/
theorem ringQueues : Obligations.RingQueues := by
  refine ⟨fun e q hq => ⟨enqueue_same hq, enqueue_others hq, enqueue_of_new, ?moved, ?kept,
      heldEntry_of_opens, ?held⟩,
    ⟨fun n r h => if_pos h, fun n r h => if_neg (Nat.not_lt.mpr h), fun y r h => if_pos h,
      fun bs s => forward_of_sending, fun bs s => forward_of_full, fun k n bs s => noticeTo_of_sending⟩,
    fun s hreset => ⟨running_next s rifTrip hreset, ?tripped⟩⟩
  case moved =>
    intro x hx hrole hopens hclose
    rw [enqueue_of_held hq hx hrole, if_pos (by simp [hopens, hclose])]
    simp
  case kept =>
    intro x hx hrole h
    rw [enqueue_of_held hq hx hrole, if_neg (by rcases h with h | h <;> simp [h])]
    exact replaceEntry_roles e q
  case held =>
    rintro trip
    refine ⟨?_, heldEntry_role trip e⟩
    rintro rfl
    exact heldEntry_trip e
  case tripped =>
    intro e he
    obtain ⟨x, -, rfl⟩ := List.mem_map.mp he
    exact heldEntry_trip x

end Sys2Proof.Machine
end

section
/-! The arbiter's choice at the end of a send (R192, R205). O19 follows. -/

namespace Sys2Proof.Machine

open Sys2Proof

/-! ### One choice -/

theorem sendDone_of_sent {f : OutFrame} {s : State} (h : s.rif.ringOut = some f) (hf : f.restart = false) :
    sendDone s = chooseNext s := by
  rw [sendDone, h]
  simp [onlyIf, hf]

theorem exec_sendDone {f : OutFrame} {s : State} (hreset : s.smc.inReset = false)
    (h : s.rif.ringOut = some f) (hf : f.restart = false) :
    exec .ringOutSendDone s = .next (chooseNext s) := by
  rw [← sendDone_of_sent h hf]
  exact running_next s sendDone hreset

theorem actuateFrame_of_row {s : State} {e : CmdEntry} {n : Nat} {x : NodeRow}
    (h : s.rowOf e.role = some (n, x)) : s.actuateFrame e = some ⟨(Frame.mk x.source s.rif.ownAddress 5
      (u1 x.channel ++ u1 e.command.num ++ u2 e.value)).bytes, false⟩ := by
  rw [State.actuateFrame, h]
  rfl

theorem actuateFrame_of_no_row {s : State} {e : CmdEntry} (h : s.rowOf e.role = none) :
    s.actuateFrame e = none := by
  rw [State.actuateFrame, h]
  rfl

theorem chooseNext_command {s : State} {e : CmdEntry} {es : List CmdEntry} {f : OutFrame}
    (h : s.rif.commands = e :: es) (hf : s.actuateFrame e = some f) :
    chooseNext s = updRif (fun r => { r with commands := es, ringOut := some f }) s := by
  rw [chooseNext, Rif.choices, arbitrate, h]
  simp only [hf]
  rfl

theorem chooseNext_command_skipped {s : State} {e : CmdEntry} {es : List CmdEntry}
    (h : s.rif.commands = e :: es) (hf : s.actuateFrame e = none) :
    chooseNext s = chooseNext (updRif (fun r => { r with commands := es }) s) := by
  have hfuel : s.rif.choices = (updRif (fun r => { r with commands := es }) s).rif.choices + 1 := by
    simp only [Rif.choices, updRif, h, List.length_cons]
    omega
  rw [chooseNext, hfuel, arbitrate, h]
  simp only [hf]
  rfl

/-- R192: the transit buffer is looked at. -/
def Rif.transitFirst (r : Rif) : Prop := r.runCount ≠ 8 ∨ (r.replies = [] ∧ r.notices = [])

theorem waiting_eq_false_iff (r : Rif) : r.waiting = false ↔ r.replies = [] ∧ r.notices = [] := by
  simp [Rif.waiting]

theorem Rif.transitFirst.not_run {r : Rif} (h : r.transitFirst) :
    ¬(r.runCount = Config.transitRun ∧ r.waiting = true) := by
  rintro ⟨hrun, hwaiting⟩
  rcases h with h | h
  · exact h hrun
  · rw [(waiting_eq_false_iff r).mpr h] at hwaiting
    cases hwaiting

theorem chooseNext_transit {s : State} {t : List Byte} {ts : List (List Byte)} (hc : s.rif.commands = [])
    (h : s.rif.transit = t :: ts) (hsent : s.transitRefused t = none) (hfirst : s.rif.transitFirst) :
    chooseNext s = updRif (fun r =>
      { r with
        transit := ts
        ringOut := some ⟨t, false⟩
        runCount := if r.waiting then r.runCount + 1 else 0 }) s := by
  rw [chooseNext, Rif.choices, arbitrate, hc, h]
  simp only [if_neg hfirst.not_run, hsent]
  rfl

theorem chooseNext_transit_refused {s : State} {t : List Byte} {ts : List (List Byte)} {g : Frame}
    (hc : s.rif.commands = []) (h : s.rif.transit = t :: ts) (hrefused : s.transitRefused t = some g)
    (hok : formatOk g = true) (hfirst : s.rif.transitFirst) :
    chooseNext s = chooseNext
      (updRif (fun r => Rif.pushNotice (refusedNotice s 1 g) { r with transit := ts }) s) := by
  have hfuel : s.rif.choices
      = (Rif.pushNotice (refusedNotice s 1 g) { s.rif with transit := ts }).choices + 1 := by
    simp only [Rif.choices, pushNotice_commands, pushNotice_transit, h, List.length_cons]
    omega
  have hdrop (r : Rif) : dropRefused s g r = Rif.pushNotice (refusedNotice s 1 g) r := if_pos hok
  rw [chooseNext, hfuel, arbitrate, hc, h]
  simp only [if_neg hfirst.not_run, hrefused, hdrop]
  rfl

/-- R192: with no command entry, a reply or a notice goes when no transit frame waits or eight have gone. -/
theorem chooseNext_own {s : State} (hc : s.rif.commands = [])
    (h : s.rif.transit = [] ∨ (s.rif.runCount = 8 ∧ s.rif.waiting = true)) :
    chooseNext s = sendReplyOrNotice s := by
  rw [chooseNext, Rif.choices, arbitrate, hc]
  cases htransit : s.rif.transit with
  | nil => rfl
  | cons t ts =>
    rw [htransit] at h
    exact if_pos (h.resolve_left (by simp))

theorem sendReplyOrNotice_reply {s : State} {y : Reply} {ys : List Reply} (h : s.rif.replies = y :: ys) :
    sendReplyOrNotice s = updRif (fun r =>
      { r with replies := ys, ringOut := some (s.replyFrame y), runCount := 0 }) s := by
  rw [sendReplyOrNotice, h]
  rfl

theorem sendReplyOrNotice_notice {s : State} {n : Notice} {ns : List Notice} (h : s.rif.replies = [])
    (hn : s.rif.notices = n :: ns) : sendReplyOrNotice s = updRif (fun r =>
      { r with notices := ns, ringOut := some (s.noticeFrame n), runCount := 0 }) s := by
  rw [sendReplyOrNotice, h, hn]
  rfl

theorem sendReplyOrNotice_none {s : State} (h : s.rif.replies = []) (hn : s.rif.notices = []) :
    sendReplyOrNotice s = updRif (fun r => { r with ringOut := none }) s := by
  rw [sendReplyOrNotice, h, hn]
  rfl

/-- Settles O19: the end of a send is one choice, and the choice goes by the first queue that has a frame to
send. -/
theorem ringOutSends : Obligations.RingOutSends := by
  intro f s hreset hout
  refine ⟨?command, ?skipped, ?refused, ?transit, ?reply, ?notice, ?nothing, ?restart⟩
  case command =>
    intro e es n x hf hc hrow
    rw [exec_sendDone hreset hout hf, chooseNext_command hc (actuateFrame_of_row hrow)]
    simp only [updRif]
  case skipped =>
    intro e es hf hc hrow
    rw [exec_sendDone hreset hout hf, chooseNext_command_skipped hc (actuateFrame_of_no_row hrow)]
    exact (exec_sendDone (s := updRif (fun r => { r with commands := es }) s) hreset hout hf).symm
  case refused =>
    intro t ts g hf hc ht hrefused hok hfirst
    have hkept (r : Rif) (n : Notice) : (r.pushNotice n).ringOut = r.ringOut := by
      unfold Rif.pushNotice
      split <;> rfl
    have hend := exec_sendDone (f := f)
      (s := updRif (fun r => Rif.pushNotice (refusedNotice s 1 g) { r with transit := ts }) s) hreset
      ((hkept _ _).trans hout) hf
    rw [exec_sendDone hreset hout hf, chooseNext_transit_refused hc ht hrefused hok hfirst, ← hend]
    simp only [refusedNotice, refusedData, NoticeKind.code]
  case transit =>
    intro t ts hf hc ht hsent hfirst
    rw [exec_sendDone hreset hout hf, chooseNext_transit hc ht hsent hfirst]
    have hwaiting (r : Rif) : (if r.waiting = true then r.runCount + 1 else 0)
        = if r.replies = [] ∧ r.notices = [] then 0 else r.runCount + 1 := by
      by_cases hr : r.replies = [] ∧ r.notices = []
      · rw [if_pos hr, (waiting_eq_false_iff r).mpr hr]
        rfl
      · rw [if_neg hr, if_pos (by simpa using (waiting_eq_false_iff r).not.mpr hr)]
    simp only [hwaiting]
  case reply =>
    intro y ys hf hc ht hy
    have hwaiting : s.rif.waiting = true := by simp [Rif.waiting, hy]
    rw [exec_sendDone hreset hout hf, chooseNext_own hc (ht.imp_right fun h => ⟨h, hwaiting⟩),
      sendReplyOrNotice_reply hy]
    simp only [updRif, State.replyFrame]
  case notice =>
    intro n ns hf hc ht hy hn
    have hwaiting : s.rif.waiting = true := by simp [Rif.waiting, hn]
    rw [exec_sendDone hreset hout hf, chooseNext_own hc (ht.imp_right fun h => ⟨h, hwaiting⟩),
      sendReplyOrNotice_notice hy hn]
    simp only [updRif, State.noticeFrame]
  case nothing =>
    intro hf hc ht hy hn
    rw [exec_sendDone hreset hout hf, chooseNext_own hc (.inl ht), sendReplyOrNotice_none hy hn]
  case restart =>
    intro hf
    refine ⟨sendDone s, running_next s sendDone hreset, ?_⟩
    rw [sendDone, hout]
    simp [onlyIf, hf, restartDue, State.lines]

end Sys2Proof.Machine
end

section
/-! A frame that arrives (R187 to R189, R191, R193). O17 and O18 follow. -/

namespace Sys2Proof.Machine

open Sys2Proof

section Arrival

variable {bs : List Byte} {f : Frame} {s : State}

/-! ### By class (R187) -/

/-- Where a frame goes that the part has done with: out of the ring, or on to the next node. -/
def onward (f : Frame) (bs : List Byte) (a : Nat) (s : State) : State :=
  if f.dest = a then s else forward bs s

/-- A frame error is counted (R183). -/
def formatCounted (s : State) : State := updRif (fun r => { r with formatErrors := countUp r.formatErrors }) s

theorem exec_frameArrival (bs : List Byte) (hreset : s.smc.inReset = false) :
    exec (.frameArrival bs) s = .next (frameArrival bs s) := running_next s (frameArrival bs) hreset

theorem frameArrival_of_error (h : parseFrame bs = none) :
    frameArrival bs s = updRif (fun r => { r with checkErrors := countUp r.checkErrors }) s := by
  rw [frameArrival, h]

theorem frameArrival_of_own (h : parseFrame bs = some f) (hsource : f.source = s.rif.ownAddress) :
    frameArrival bs s = s := by
  rw [frameArrival, h]
  exact if_pos hsource

theorem frameArrival_of_bad (h : parseFrame bs = some f) (hsource : f.source ≠ s.rif.ownAddress)
    (hok : formatOk f = false) : frameArrival bs s = dispatch f bs (formatCounted s) := by
  rw [frameArrival, h]
  simp [hsource, takeFrame, hok, formatCounted]

theorem frameArrival_of_good (h : parseFrame bs = some f) (hsource : f.source ≠ s.rif.ownAddress)
    (hok : formatOk f = true) : frameArrival bs s = dispatch f bs (observe f s) := by
  rw [frameArrival, h]
  simp [hsource, takeFrame, hok]

/-! ### Observed frames -/

theorem observe_of_command {r : Role} {i : Instr}
    (hr : s.observedRole f.source (param f.payload 0 1) = some r) (hi : observedCommand r f = some i) :
    observe f s = post i s := by
  rw [observe, hr]
  simp [hi]

theorem observe_of_no_role (hr : s.observedRole f.source (param f.payload 0 1) = none) :
    observe f s = s := by
  rw [observe, hr]
  rfl

/-- R184: SAMPLE, COUNT and VEHDATA alone are observed. -/
theorem observe_of_kind (hk : f.kind ≠ 1 ∧ f.kind ≠ 2 ∧ f.kind ≠ 3) : observe f s = s := by
  have hnone (r : Role) : observedCommand r f = none := by
    unfold observedCommand
    obtain ⟨h1, h2, h3⟩ := hk
    split <;> first | contradiction | rfl
  cases hr : s.observedRole f.source (param f.payload 0 1) with
  | none => exact observe_of_no_role hr
  | some r =>
    rw [observe, hr]
    simp [hnone]

/-! ### The destination -/

/-- A frame that the part takes nothing in of. -/
theorem dispatch_of_untaken (hin : ∀ b, takeIn f b s = s) (hk : f.dest = s.rif.ownAddress ∨ f.kind ≠ 5) :
    dispatch f bs s = onward f bs s.rif.ownAddress s := by
  unfold dispatch onward
  by_cases hd : f.dest = s.rif.ownAddress
  · rw [if_pos hd, if_pos hd, hin]
  · rw [if_neg hd, if_neg hd, if_neg (hk.resolve_left hd), hin, ite_self]

/-- A frame that the part takes in, to it or for all. -/
theorem dispatch_of_taken {u : State} (hin : ∀ b, b = (f.dest != s.rif.ownAddress) → takeIn f b s = u)
    (hd : f.dest = s.rif.ownAddress ∨ f.dest = 255) (hk : f.kind ≠ 5) :
    dispatch f bs s = onward f bs s.rif.ownAddress u := by
  unfold dispatch onward
  by_cases hown : f.dest = s.rif.ownAddress
  · rw [if_pos hown, if_pos hown, hin false (by simp [hown])]
  · rw [if_neg hown, if_neg hown, if_neg hk,
      if_pos (show f.dest = Config.broadcast from hd.resolve_left hown), hin true (by simp [hown])]

theorem dispatch_of_foreign (hd : f.dest ≠ s.rif.ownAddress) (hd' : f.dest ≠ 255) (hk : f.kind ≠ 5) :
    dispatch f bs s = forward bs s := by
  unfold dispatch
  rw [if_neg hd, if_neg hk, if_neg (show f.dest ≠ Config.broadcast from hd')]

theorem takeIn_of_bad (hok : formatOk f = false) (b : Bool) : takeIn f b s = s := by
  simp [takeIn, hok]

theorem takeIn_of_kind (hk : f.kind ≠ 4 ∧ f.kind ≠ 6) (b : Bool) : takeIn f b s = s := by
  obtain ⟨h4, h6⟩ := hk
  unfold takeIn
  split
  · rfl
  · split <;> first | contradiction | rfl

theorem takeIn_of_request (hok : formatOk f = true) (hk : f.kind = 6) (b : Bool) :
    takeIn f b s = takeRequest f s := by
  simp [takeIn, hok, hk]

theorem takeIn_of_tender (hok : formatOk f = true) (hk : f.kind = 4) (b : Bool) :
    takeIn f b s = post (tenderCommand f b) s := by
  simp [takeIn, hok, hk]

/-! ### The filter on a foreign ACTUATE (R189) -/

theorem dispatch_of_actuate (hd : f.dest ≠ s.rif.ownAddress) (hk : f.kind = 5) :
    dispatch f bs s = actuateFilter f bs s := by
  unfold dispatch
  rw [if_neg hd, if_pos hk]

theorem actuateOpens_of_open {p : List Byte} (h : param p 1 1 ≠ 0)
    (hset : param p 1 1 = 2 → 0 < param p 2 2) : actuateOpens p = true := by
  unfold actuateOpens
  split
  · contradiction
  · next h2 => exact decide_eq_true (hset h2)
  · rfl

theorem actuateOpens_of_close {p : List Byte} (h : param p 1 1 = 0 ∨ param p 1 1 = 2 ∧ param p 2 2 = 0) :
    actuateOpens p = false := by
  rcases h with h | ⟨h, hzero⟩
  · simp [actuateOpens, h]
  · simp [actuateOpens, h, hzero]

theorem refuseActuate_eq (reason : Nat) (f : Frame) (s : State) : refuseActuate reason f s =
    notice .actuateRefused ((s.actuatorRowOf f.dest (param f.payload 0 1)).getD 255)
      (u1 reason ++ u1 f.source ++ u1 f.dest ++ f.payload) s := rfl

theorem actuateFilter_in_trip (htrip : s.tripHeld = true) : actuateFilter f bs s =
    if !formatOk f then s else if actuateOpens f.payload then refuseActuate 1 f s else forward bs s :=
  if_pos htrip

theorem actuateFilter_out_of_trip (htrip : s.tripHeld = false) : actuateFilter f bs s =
    if formatOk f && (s.actuatorRowOf f.dest (param f.payload 0 1)).isSome then refuseActuate 0 f s
    else forward bs s := if_neg (by simp [htrip])

end Arrival

end Sys2Proof.Machine

namespace Sys2Proof

open Sys2Proof.Machine

/-- Settles O17: by the class of the frame, and the filter by the trip and the command it carries. -/
theorem frameArrival : Obligations.FrameArrival := by
  refine ⟨fun bs s hreset => ?_, fun bs f s hreset hparse hsource hd hk => ?_⟩
  · rw [exec_frameArrival bs hreset]
    refine ⟨fun h => congrArg _ (frameArrival_of_error h), fun f hparse => ?_⟩
    have hnext {u : State} (h : Machine.frameArrival bs s = u) :
        (Host.Outcome.next (Machine.frameArrival bs s) : Outcome) = .next u := congrArg _ h
    refine ⟨fun h => hnext (frameArrival_of_own hparse h), ?bad, ?observed, ?unobserved, ?other, ?foreign,
      ?ownActuate, ?tender⟩
    case bad =>
      intro hsource hk hok
      exact hnext ((frameArrival_of_bad hparse hsource hok).trans
        (dispatch_of_untaken (takeIn_of_bad hok) hk))
    case observed =>
      intro r i hsource hk hok hr hi
      rw [frameArrival_of_good hparse hsource hok, observe_of_command hr hi,
        dispatch_of_untaken (takeIn_of_kind (by omega)) (.inr (by omega))]
      rfl
    case unobserved =>
      intro hsource hk hok hr
      rw [frameArrival_of_good hparse hsource hok, observe_of_no_role hr,
        dispatch_of_untaken (takeIn_of_kind (by omega)) (.inr (by omega))]
      rfl
    case other =>
      intro hsource hok hk
      rw [frameArrival_of_good hparse hsource hok, observe_of_kind (by omega),
        dispatch_of_untaken (takeIn_of_kind (by omega)) (.inr (by omega))]
      rfl
    case foreign =>
      intro hsource hd hd' hok hk
      rw [frameArrival_of_good hparse hsource hok, observe_of_kind (by omega),
        dispatch_of_foreign hd hd' (by omega)]
    case ownActuate =>
      intro hsource hd hk hok
      rw [frameArrival_of_good hparse hsource hok, observe_of_kind (by omega),
        dispatch_of_untaken (takeIn_of_kind (by omega)) (.inl hd), onward, if_pos hd]
    case tender =>
      intro hsource hd hk hok
      rw [frameArrival_of_good hparse hsource hok, observe_of_kind (by omega),
        dispatch_of_taken (u := post (tenderCommand f (f.dest != s.rif.ownAddress)) s)
          (fun b hb => hb ▸ takeIn_of_tender hok hk b) hd (by omega)]
      rfl
  · intro trip bad row refused
    have hheld : s.tripHeld = trip := rfl
    have hheld' : (formatCounted s).tripHeld = trip := rfl
    have hgood (hok : formatOk f = true) : Machine.frameArrival bs s = actuateFilter f bs s := by
      rw [frameArrival_of_good hparse hsource hok, observe_of_kind (by omega), dispatch_of_actuate hd hk]
    have hbad (hok : formatOk f = false) : Machine.frameArrival bs s = actuateFilter f bs (formatCounted s) :=
      (frameArrival_of_bad hparse hsource hok).trans (dispatch_of_actuate (s := formatCounted s) hd hk)
    rw [exec_frameArrival bs hreset]
    refine ⟨fun ht hok => ?_, fun ht hok hopen hset => ?_, fun ht hok hclose => ?_, fun ht hok hrow => ?_,
      fun ht hok hrow => ?_, fun ht hok => ?_⟩
    · rw [hbad hok, actuateFilter_in_trip (hheld'.trans ht)]
      simp [hok, formatCounted, bad]
    · rw [hgood hok, actuateFilter_in_trip (hheld.trans ht), refuseActuate_eq]
      simp [hok, actuateOpens_of_open hopen hset, refused, row]
    · rw [hgood hok, actuateFilter_in_trip (hheld.trans ht)]
      simp [hok, actuateOpens_of_close hclose]
    · rw [hgood hok, actuateFilter_out_of_trip (hheld.trans ht), refuseActuate_eq,
        if_pos (by simp [hok]; exact hrow)]
    · rw [hgood hok, actuateFilter_out_of_trip (hheld.trans ht), if_neg (by
        rw [show s.actuatorRowOf f.dest (param f.payload 0 1) = none from hrow]
        simp)]
    · rw [hbad hok, actuateFilter_out_of_trip (hheld'.trans ht), if_neg (by simp [hok])]
      rfl

end Sys2Proof

namespace Sys2Proof.Machine

open Sys2Proof

/-! ### Requests (R191, R193) -/

theorem entitled_iff (s : State) (source code : Nat) : s.entitled source code = true ↔
    s.tables.station.gen = 0 ∨ source = s.stationRow.supervisor ∨ code = 1 ∨ code = 2 := by
  simp [State.entitled, or_assoc]

section Served

variable {f : Frame} {s : State} (hcode : knownRequest (param f.payload 0 1) = true)
  (hmay : s.entitled f.source (param f.payload 0 1) = true)

include hcode hmay

theorem serveRequest_of_short
    (h : requestCommand (param f.payload 0 1) ⟨f.source, param f.payload 1 1⟩ (f.payload.drop 2) = none) :
    serveRequest f s = reply ⟨f.source, param f.payload 1 1⟩ (param f.payload 0 1) .range [] s := by
  simp [serveRequest, hcode, hmay, h]

theorem serveRequest_of_owner {i : Instr}
    (h : requestCommand (param f.payload 0 1) ⟨f.source, param f.payload 1 1⟩ (f.payload.drop 2) = some i) :
    serveRequest f s = post i s := by
  simp [serveRequest, hcode, hmay, h]

end Served

/-- Settles O18: the reply place first, then the three refusals in their order, then the owner. -/
theorem requestTaken : Obligations.RequestTaken := by
  intro bs f s hreset hparse hsource hd hk hok code rq held may room gives
  have hframe : exec (.frameArrival bs) s =
      .next (onward f bs s.rif.ownAddress (takeRequest f s)) := by
    rw [exec_frameArrival bs hreset, frameArrival_of_good hparse hsource hok, observe_of_kind (by omega),
      dispatch_of_taken (fun b _ => takeIn_of_request hok hk b) hd (by omega)]
  have hgives {u : State} (h : takeRequest f s = u) : gives u := h ▸ hframe
  have hserved (hroom : room) : takeRequest f s = serveRequest f held := if_pos hroom
  have hmay : held.entitled f.source code = true ↔ may := entitled_iff held f.source code
  refine ⟨fun hfull => hgives (if_neg hfull), fun hroom hcode => hgives ?_,
    fun hroom hcode hdenied => hgives ?_, fun hroom hcode hmayit hnone => hgives ?_,
    fun i hroom hcode hmayit hi => hgives ?_⟩
  · rw [hserved hroom]
    exact if_pos (by simpa using hcode)
  · rw [hserved hroom]
    exact (if_neg (by simpa using hcode)).trans (if_pos (by simpa using hmay.not.mpr hdenied))
  · rw [hserved hroom]
    exact serveRequest_of_short hcode (hmay.mpr hmayit) hnone
  · rw [hserved hroom]
    exact serveRequest_of_owner hcode (hmay.mpr hmayit) hi

end Sys2Proof.Machine
end

section
/-! The account and transaction requests, the settlement and the clock (R161 to R167, R176, R178, R179, R206). O51,
O52, O53 and O54 follow. -/

namespace Sys2Proof.Machine

open Sys2Proof

/-! ### Figures that fit -/

theorem hold32_of_lt {n : Nat} (h : n < 2 ^ 32) : hold32 n = n := if_pos h

theorem hold64_of_lt {n : Nat} (h : n < 2 ^ 64) : hold64 n = n := if_pos h

/-! ### Account requests (R163 to R166) -/

section Accounts

variable {s : State} {rq : Req} {n : Nat} {a : Account} {f : Account → State}

theorem onAccount_zero (code : Nat) : onAccount rq code 0 s f = reply rq code .range [] s := if_pos rfl

theorem onAccount_absent (code : Nat) (hn : n ≠ 0) (h : s.account n = none) :
    onAccount rq code n s f = reply rq code .notFound [] s := by
  rw [onAccount, if_neg hn, h]

theorem onAccount_held (code : Nat) (hn : n ≠ 0) (h : s.account n = some a) :
    onAccount rq code n s f = f a := by
  rw [onAccount, if_neg hn, h]

/-- An account request answered for its id alone. -/
theorem accountRequests_of_id {st : Status}
    (h : ∀ code f, onAccount rq code n s f = reply rq code st [] s) (hreset : s.smc.inReset = false)
    (code : Nat) :
    (code = 65 → ∀ k, exec (.accountCredit rq n k) s = .next (reply rq 65 st [] s))
      ∧ (code = 66 → ∀ k, exec (.accountWithdraw rq n k) s = .next (reply rq 66 st [] s))
      ∧ (code = 67 → exec (.accountBlock rq n) s = .next (reply rq 67 st [] s))
      ∧ (code = 68 → exec (.accountUnblock rq n) s = .next (reply rq 68 st [] s))
      ∧ (code = 69 → exec (.accountRemove rq n) s = .next (reply rq 69 st [] s))
      ∧ (code = 70 → exec (.accountRead rq n) s = .next (reply rq 70 st [] s)) := by
  have answered {c : Instr} {g : State → State} {code : Nat} (hc : exec c s = running s g)
      (hg : g s = reply rq code st [] s) : exec c s = .next (reply rq code st [] s) :=
    hc.trans ((running_next s g hreset).trans (congrArg _ hg))
  exact ⟨fun _ k => answered (g := accountCredit rq n k) rfl (h 65 _),
    fun _ k => answered (g := accountWithdraw rq n k) rfl (h 66 _),
    fun _ => answered (g := setBlocked rq 67 n true) rfl (h 67 _),
    fun _ => answered (g := setBlocked rq 68 n false) rfl (h 68 _),
    fun _ => answered (g := accountRemove rq n) rfl (h 69 _),
    fun _ => answered (g := accountRead rq n) rfl (h 70 _)⟩

theorem fillSlot_of_first (a : Account) {before : List (Option Account)} (after : List (Option Account))
    (h : none ∉ before) : fillSlot a (before ++ none :: after) = before ++ some a :: after := by
  induction before with
  | nil => rfl
  | cons o before ih =>
    cases o with
    | none => simp at h
    | some b =>
      rw [List.cons_append, fillSlot, ih (by simpa using h), List.cons_append]

end Accounts

/-- Settles O52: each request by its id, then by the amount, the holds and the balance that its rule judges. -/
theorem accountRequests : Obligations.AccountRequests := by
  refine ⟨fun rq id s hreset => ?_, fun rq id cls al s hreset => ?_⟩
  · intro with' all
    refine ⟨?zero, ?absent, fun a hid ha => ?held⟩
    case zero =>
      rintro code rfl
      exact accountRequests_of_id (fun code _ => onAccount_zero code) hreset code
    case absent =>
      rintro code ⟨hid, hnone⟩
      exact accountRequests_of_id (fun code _ => onAccount_absent code hid hnone) hreset code
    have answered {c : Instr} {g : State → State} {u : State} (hc : exec c s = running s g)
        (hg : g s = u) : exec c s = .next u :=
      hc.trans ((running_next s g hreset).trans (congrArg _ hg))
    have held (code : Nat) (f : Account → State) : onAccount rq code id s f = f a :=
      onAccount_held code hid ha
    refine ⟨fun n hlo hhi hsum => answered (g := accountCredit rq id n) rfl ((held 65 _).trans ?_),
      fun n hn => answered (g := accountCredit rq id n) rfl ((held 65 _).trans ?_),
      fun n hlo hhi havailable => answered (g := accountWithdraw rq id n) rfl ((held 66 _).trans ?_),
      fun n hlo hhi hshort => answered (g := accountWithdraw rq id n) rfl ((held 66 _).trans ?_),
      fun n hn => answered (g := accountWithdraw rq id n) rfl ((held 66 _).trans ?_),
      answered (g := setBlocked rq 67 id true) rfl (held 67 _),
      answered (g := setBlocked rq 68 id false) rfl (held 68 _),
      fun hholds hbalance => answered (g := accountRemove rq id) rfl ((held 69 _).trans ?_),
      fun hkept => answered (g := accountRemove rq id) rfl ((held 69 _).trans ?_),
      answered (g := accountRead rq id) rfl (held 70 _)⟩
    · exact if_neg (by simp only [balanceMax]; omega)
    · exact if_pos (by simp only [balanceMax]; omega)
    · exact (if_neg (by simp only [balanceMax]; omega)).trans (if_neg (Nat.not_lt.mpr havailable))
    · exact (if_neg (by simp only [balanceMax]; omega)).trans (if_pos hshort)
    · exact if_pos (by simp only [balanceMax]; omega)
    · exact if_pos (by simp [hholds, hbalance])
    · refine if_neg ?_
      rcases hkept with h | h <;> simp [h]
  · have answered {u : State} (hg : accountSet rq id cls al s = u) :
        exec (.accountSet rq id cls al) s = .next u :=
      (running_next s (accountSet rq id cls al) hreset).trans (congrArg _ hg)
    refine ⟨fun h => answered (if_pos h), fun hid hcls hal => ?_⟩
    have hrange : ¬(id = 0 ∨ 3 < cls ∨ 1000000 < al) := by omega
    refine ⟨fun a ha hholds => answered ?_, fun a ha hholds => answered ?_,
      fun before after hnone haccounts hbefore => answered ?_, fun hnone hfull => answered ?_⟩
    · rw [accountSet, if_neg hrange, ha]
      simp [hholds]
      rfl
    · rw [accountSet, if_neg hrange, ha]
      simp [hholds]
    · have hslot : (before ++ none :: after).any Option.isNone = true := by simp
      rw [accountSet, if_neg hrange, hnone]
      simp only [haccounts, hslot, if_true, updRet, fillSlot_of_first _ _ hbefore]
    · have hslot : s.ret.accounts.any Option.isNone = false := by
        rw [List.any_eq_false]
        rintro o ho hisNone
        exact hfull (Option.isNone_iff_eq_none.mp hisNone ▸ ho)
      rw [accountSet, if_neg hrange, hnone]
      simp [hslot]

/-! ### Transaction requests (R178, R179) -/

/-- Settles O53: by the head of the queue and the number asked for. -/
theorem transactionRequests : Obligations.TransactionRequests := by
  intro rq n s hreset grams
  have hgrams (g : Nat) : grams g = u4 (hold32 g) := by simp only [grams, hold32]
  clear_value grams
  have hread {u : State} (h : txnReadRequest rq s = u) : exec (.txnRead rq) s = .next u :=
    (running_next s (txnReadRequest rq) hreset).trans (congrArg _ h)
  have hrelease {u : State} (h : txnReleaseRequest rq n s = u) : exec (.txnRelease rq n) s = .next u :=
    (running_next s (txnReleaseRequest rq n) hreset).trans (congrArg _ h)
  refine ⟨fun hempty => ⟨hread ?_, hrelease ?_⟩, fun r rs hrecords =>
    ⟨hread ?_, fun htxn => hrelease ?_, fun htxn => hrelease ?_⟩⟩
  · rw [txnReadRequest, hempty]
  · rw [txnReleaseRequest, hempty]
  · rw [txnReadRequest, hrecords, State.queueCounts, hrecords, List.length_cons]
    simp only [hgrams]
    unfold TxnRecord.data TxnRecord.flagBits
    cases r.reason <;> rfl
  · rw [txnReleaseRequest, hrecords]
    exact if_pos htxn
  · rw [txnReleaseRequest, hrecords]
    exact if_neg htxn

/-! ### The clock (R167, R206) -/

section Clock

variable {s : State}

theorem checkDay_of_unset (h : s.ret.clock = none) : checkDay s = s := by
  simp [checkDay, State.dayNumber, h]

theorem checkDay_of_same {t : Nat} (h : s.ret.clock = some t)
    (hday : s.ret.heldDay = some (((t : Int) - s.tariff.rollover * 60) / 86400)) : checkDay s = s := by
  simp [checkDay, State.dayNumber, h, hday]

theorem checkDay_of_other {t : Nat} (h : s.ret.clock = some t)
    (hday : s.ret.heldDay ≠ some (((t : Int) - s.tariff.rollover * 60) / 86400)) :
    checkDay s = rollover (((t : Int) - s.tariff.rollover * 60) / 86400) s := by
  simp [checkDay, State.dayNumber, h, hday]

theorem crystalSecond_unset (h : s.ret.clock = none) (hrun : s.ret.runSeconds + 1 < 2 ^ 32) :
    crystalSecond s = updRet (fun r => { r with clock := none, runSeconds := r.runSeconds + 1 }) s := by
  simp [crystalSecond, updRet, h, hold32_of_lt hrun]

theorem crystalSecond_set {t : Nat} (h : s.ret.clock = some t) (ht : t + 1 < 2 ^ 32)
    (hrun : s.ret.runSeconds + 1 < 2 ^ 32) : crystalSecond s =
    updRet (fun r => { r with clock := some (t + 1), runSeconds := r.runSeconds + 1 }) s := by
  simp [crystalSecond, updRet, h, hold32_of_lt hrun, hold32_of_lt ht]

theorem exec_clockAdvance (s : State) : exec .stationClockAdvance s =
    .next (if s.smc.inReset then crystalSecond s else clockSecond s) := rfl

theorem timeSetRequest_of_fits (rq : Req) {n : Nat} (h : n < 2 ^ 32) : timeSetRequest rq n s =
    reply rq 20 .ok [] (checkDay (updRet (fun r => { r with clock := some n }) s)) :=
  if_neg (by omega)

end Clock

/-- Settles O54: both counts advance, and the day number of the new reading is judged against the held one. -/
theorem clockAdvances : Obligations.ClockAdvances := by
  intro rq n s hrun day rolled second stamped
  have hset (hreset : s.smc.inReset = false) (hn : n < 2 ^ 32) :
      exec (.timeSet rq n) s = .next (reply rq 20 .ok [] (checkDay stamped)) :=
    (running_next s (timeSetRequest rq n) hreset).trans (congrArg _ (timeSetRequest_of_fits rq hn))
  refine ⟨fun hclock => ?_, fun t hclock ht hreset => ?_, fun t hclock ht hday => ?_,
    fun t hclock ht hreset hday => ?_, fun hreset hn hday => ?_, fun hreset hn hday => ?_⟩
  · have hsecond : crystalSecond s = second none := crystalSecond_unset hclock hrun
    rw [exec_clockAdvance, clockSecond, hsecond, checkDay_of_unset (s := second none) rfl, ite_self]
  · rw [exec_clockAdvance, if_pos hreset, crystalSecond_set hclock ht hrun]
  · have hsecond : crystalSecond s = second (some (t + 1)) := crystalSecond_set hclock ht hrun
    rw [exec_clockAdvance, clockSecond, hsecond,
      checkDay_of_same (s := second (some (t + 1))) rfl hday, ite_self]
  · have hsecond : crystalSecond s = second (some (t + 1)) := crystalSecond_set hclock ht hrun
    rw [exec_clockAdvance, if_neg (by simp [hreset]), clockSecond, hsecond,
      checkDay_of_other (s := second (some (t + 1))) rfl hday]
    rfl
  · rw [hset hreset hn, checkDay_of_same (s := stamped) rfl hday]
  · rw [hset hreset hn, checkDay_of_other (s := stamped) rfl hday]
    rfl

end Sys2Proof.Machine
end

section
/-! Lowered caps, cancellations and settlements, written out (R161, R162, R174 to R176). O51 follows. -/

namespace Sys2Proof.Machine

open Sys2Proof

section Settled

variable {s : State} {p : Pos} {c : TenderCtx}

/-! ### A lowered cap and a cancellation (R161) -/

theorem lowerTenderCap_of_none (n : Nat) (h : s.bil.get p = none) : lowerTenderCap p n s = s := by
  rw [lowerTenderCap, h]

theorem cancelTender_of_none (h : s.bil.get p = none) : cancelTender p s = s := by
  rw [cancelTender, h]

theorem lowerTenderCap_of_card (n : Nat) (h : s.bil.get p = some c) (hc : c.kind = .card) :
    lowerTenderCap p n s = updSnapshot p (fun x => { x with cap := n })
      { s with bil := s.bil.set p (some { c with cap := n }) } := by
  simp [lowerTenderCap, h, hc, onlyIf]

theorem lowerTenderCap_of_fleet (n : Nat) (h : s.bil.get p = some c) (hc : c.kind = .fleet) :
    lowerTenderCap p n s = updAccount c.account (setHold p (amountOf n c.price))
      (updSnapshot p (fun x => { x with cap := n })
        { s with bil := s.bil.set p (some { c with cap := n, hold := amountOf n c.price }) }) := by
  simp [lowerTenderCap, h, hc, onlyIf]

theorem cancelTender_of_card (h : s.bil.get p = some c) (hc : c.kind = .card) : cancelTender p s =
    { fillEnd c.node p c.txn c.reference 0 0 true (releasePlace p s) with bil := s.bil.set p none } := by
  simp [cancelTender, h, hc, fillEnd, releasePlace]

theorem cancelTender_of_fleet (h : s.bil.get p = some c) (hc : c.kind = .fleet) : cancelTender p s =
    { updAccount c.account (dropHold p) (releasePlace p s) with bil := s.bil.set p none } := by
  simp [cancelTender, h, hc, releasePlace]

/-! ### A fill summary (R162, R174 to R176) -/

/-- R176: the record queued in the place of its reservation. -/
def recorded (r : TxnRecord) (s : State) : State :=
  updRet (fun k => { k with records := k.records ++ [r] }) (releasePlace r.pos s)

theorem placeRecord_eq {r : TxnRecord} (h : s.ret.reserved.get r.pos = true) : placeRecord r s =
    notice .recordReady r.pos.num (u4 r.txn ++ (recorded r s).queueCounts) (recorded r s) := if_pos h

theorem recorded_ret (r : TxnRecord) (s : State) : (recorded r s).ret =
    { s.ret with
      records := s.ret.records ++ [r]
      reserved := s.ret.reserved.set r.pos false
      snapshots := s.ret.snapshots.set r.pos none } := rfl

theorem queueCounts_congr {s t : State} (h : s.ret = t.ret) : s.queueCounts = t.queueCounts := by
  simp only [State.queueCounts, State.reservations, h]

theorem settle_of_card {x : Settlement} (h : x.kind = .card) : settle x s =
    fillEnd x.node x.pos x.txn x.reference x.billed x.amount false s := by
  rw [settle, h]

theorem settle_of_fleet {x : Settlement} (h : x.kind = .fleet) : settle x s =
    updAccount x.account (debit x.pos x.amount x.billed) s := by
  rw [settle, h]

theorem settle_of_card_ret {x : Settlement} (h : x.kind = .card) : (settle x s).ret = s.ret := by
  rw [settle_of_card h]
  exact noticeTo_ret _ _ _ _ s

theorem settle_others (x : Settlement) (s : State) :
    (settle x s).mail = s.mail ∧ (settle x s).fil = s.fil ∧ (settle x s).tables = s.tables := by
  unfold settle
  split
  · exact ⟨rfl, rfl, rfl⟩
  · simp [fillEnd]

theorem settleSummary_of_none {x : FillSummary} (h : s.bil.get x.pos = none) : settleSummary x s = s := by
  rw [settleSummary, h]

/-- A summary's settlement, record and generation, the account or the terminal told first. -/
theorem settleSummary_of_some {x : FillSummary} (h : s.bil.get x.pos = some c)
    (hreserved : s.ret.reserved.get x.pos = true) : settleSummary x s =
      { releaseGen x.pclass x.gen (notice .recordReady x.pos.num
          (u4 c.txn ++ (recorded (s.recordOf x c) (settle (c.settlement x.pos x.masses.fillG) s)).queueCounts)
          (recorded (s.recordOf x c) (settle (c.settlement x.pos x.masses.fillG) s))) with
        bil := s.bil.set x.pos none } := by
  have hplaced := placeRecord_eq (r := s.recordOf x c)
    (s := settle (c.settlement x.pos x.masses.fillG) s) (by rw [settle_reserved]; exact hreserved)
  have hbil : (settle (c.settlement x.pos x.masses.fillG) s).bil = s.bil := by
    unfold settle
    split
    · rfl
    · exact noticeTo_bil _ _ _ _ s
  rw [settleSummary, h]
  simp only [hplaced]
  simp [releaseGen, recorded, releasePlace, hbil, State.recordOf]

end Settled

/-- Settles O51: a tender context by its kind, and a summary by what its settlement, its record and its release
leave. -/
theorem tenderSettled : Obligations.TenderSettled := by
  refine ⟨fun p s hreset => ?_, fun x s hreset => ?_⟩
  · have hlow (n : Nat) {u : State} (h : lowerTenderCap p n s = u) : exec (.loweredCap p n) s = .next u :=
      (running_next s (lowerTenderCap p n) hreset).trans (congrArg _ h)
    have hcancel {u : State} (h : cancelTender p s = u) : exec (.cancelled p) s = .next u :=
      (running_next s (cancelTender p) hreset).trans (congrArg _ h)
    exact ⟨fun n h => ⟨hlow n (lowerTenderCap_of_none n h), hcancel (cancelTender_of_none h)⟩,
      fun c h => ⟨fun n hc => hlow n (lowerTenderCap_of_card n h hc),
        fun n hc => hlow n (lowerTenderCap_of_fleet n h hc),
        fun hc => hcancel (cancelTender_of_card h hc), fun hc => hcancel (cancelTender_of_fleet h hc)⟩⟩
  · have hexec : exec (.fillSummary x) s = .next (settleSummary x s) :=
      running_next s (settleSummary x) hreset
    refine ⟨fun h => hexec.trans (congrArg _ (settleSummary_of_none h)), fun c h hreserved => ?_⟩
    intro g billed amount record held
    have hrecord : s.recordOf x c = record := rfl
    have hother := settle_others (c.settlement x.pos x.masses.fillG) s
    obtain ⟨hmail, hfil, htables⟩ := hother
    refine ⟨_, hexec.trans (congrArg _ (settleSummary_of_some h hreserved)), rfl, ?mail, ?fil, ?tables,
      fun hc => ⟨?cardRet, ?cardRif⟩, fun hc hfit => ?fleetRet⟩
    case mail => simpa [releaseGen, recorded, releasePlace] using hmail
    case fil => simpa [releaseGen, recorded, releasePlace] using hfil
    case tables => simp [releaseGen, recorded, releasePlace, htables]
    case cardRet =>
      have hret := settle_of_card_ret (x := c.settlement x.pos x.masses.fillG) (s := s) hc
      simp only [releaseGen, updTables, notice_ret, recorded_ret, hret, hrecord]
      rfl
    case cardRif =>
      have hcounts : (recorded (s.recordOf x c) (settle (c.settlement x.pos x.masses.fillG) s)).queueCounts
          = u1 held.records.length ++ u1 (State.reservations { s with ret := held }) := by
        rw [queueCounts_congr (t := { s with ret := held })]
        · rfl
        · rw [recorded_ret, settle_of_card_ret hc, hrecord]
      have hring : (recorded (s.recordOf x c) (settle (c.settlement x.pos x.masses.fillG) s)).SameRing
          (settle (c.settlement x.pos x.masses.fillG) s) := ⟨rfl, rfl, rfl⟩
      have hsettle : settle (c.settlement x.pos x.masses.fillG) s = noticeTo c.node .fillEnd x.pos.num
          (u4 c.txn ++ u4 c.reference ++ u4 billed ++ u4 amount ++ u1 0) s := settle_of_card hc
      rw [hcounts, ← hsettle]
      exact (notice_congr hring _ _ _).rif
    case fleetRet =>
      have hdebit : s.ret.accounts.map (Option.map (fun a =>
            if a.id = c.account then debit x.pos amount billed a else a))
          = s.ret.accounts.map (Option.map (fun a =>
            if a.id = c.account then
              { a with
                balance := a.balance - amount
                used := a.used + billed
                holds := a.holds.filter (fun h => h.pos != x.pos) }
            else a)) := by
        refine List.map_congr_left fun o ho => ?_
        cases o with
        | none => rfl
        | some a =>
          have hused : a.used + billed < 2 ^ 32 :=
            hfit a.used (List.mem_map.mpr ⟨a, mem_accounts_iff.mpr ho, rfl⟩)
          simp only [Option.map_some, debit, dropHold, hold32_of_lt hused]
      have hret : (settle (c.settlement x.pos x.masses.fillG) s).ret
          = { s.ret with accounts := s.ret.accounts.map (Option.map (fun a =>
              if a.id = c.account then debit x.pos amount billed a else a)) } := by
        rw [settle_of_fleet hc]
        rfl
      simp only [releaseGen, updTables, notice_ret, recorded_ret, hret, hrecord, held, hdebit]
      rfl

end Sys2Proof.Machine
end

section
/-! What the ring operations read of the tables (R185, R190), a change of a position's state (R109, R203), and a
TENDER (R157 to R159). O50 follows. -/

namespace Sys2Proof.Machine

open Sys2Proof

/-! ### What the ring operations read of the tables

A fill generation's holders, which a TENDER and a summary change, are no part of it. -/

/-- Two states whose ring operations lead to the same ring interface. -/
structure State.SameReads (s t : State) : Prop where
  rif : s.rif = t.rif
  nodeRows : s.nodeRows = t.nodeRows
  supervisor : s.supervisor = t.supervisor
  latch : s.smc.latch = t.smc.latch

section Reads

variable {s t : State}

theorem State.SameReads.withRif (h : s.SameReads t) (x : Rif) :
    State.SameReads { s with rif := x } { t with rif := x } := ⟨rfl, h.nodeRows, h.supervisor, h.latch⟩

theorem sendReplyOrNotice_reads (h : s.SameReads t) :
    (sendReplyOrNotice s).rif = (sendReplyOrNotice t).rif := by
  unfold sendReplyOrNotice State.replyFrame State.noticeFrame
  rw [h.rif]
  split <;> rfl

theorem transitRefused_reads (h : s.SameReads t) (bs : List Byte) :
    s.transitRefused bs = t.transitRefused bs := by
  have hheld : s.tripHeld = t.tripHeld := by simp only [State.tripHeld, State.latched, h.rif, h.latch]
  unfold State.transitRefused
  rw [hheld, h.rif]

theorem dropRefused_reads (h : s.SameReads t) (f : Frame) (r : Rif) : dropRefused s f r = dropRefused t f r := by
  simp only [dropRefused, refusedNotice, State.actuatorRowOf, h.nodeRows, h.supervisor]

theorem actuateFrame_reads (h : s.SameReads t) (e : CmdEntry) : s.actuateFrame e = t.actuateFrame e := by
  simp only [State.actuateFrame, State.rowOf, h.nodeRows, h.rif]

theorem arbitrate_reads : ∀ (n : Nat) {s t : State}, s.SameReads t → (arbitrate n s).rif = (arbitrate n t).rif
  | 0, s, t, h => by simp [arbitrate, h.rif]
  | n + 1, s, t, h => by
    unfold arbitrate
    rw [h.rif]
    split
    · rw [actuateFrame_reads h]
      split
      · rfl
      · exact arbitrate_reads n (h.withRif _)
    · split
      · exact sendReplyOrNotice_reads h
      · rw [transitRefused_reads h]
        split
        · next f _ =>
          rw [dropRefused_reads h f]
          exact arbitrate_reads n (h.withRif _)
        · rfl
    · exact sendReplyOrNotice_reads h

theorem noticeTo_reads (h : s.SameReads t) (d : Nat) (k : NoticeKind) (n : Nat) (bs : List Byte) :
    (noticeTo d k n bs s).rif = (noticeTo d k n bs t).rif := by
  have hqueued : (updRif (Rif.pushNotice ⟨d, k.code, n, bs⟩) s).SameReads
      (updRif (Rif.pushNotice ⟨d, k.code, n, bs⟩) t) :=
    ⟨congrArg (Rif.pushNotice _) h.rif, h.nodeRows, h.supervisor, h.latch⟩
  unfold noticeTo kick chooseNext
  rw [hqueued.rif]
  split
  · exact arbitrate_reads _ hqueued
  · exact hqueued.rif

end Reads

/-! ### A change of a position's state -/

section GoState

variable (p : Pos) (st : PState) (s : State)

/-- A position in a state, and off the list of BANK-WAIT positions. -/
def inState : State :=
  { updCtx p (fun c => { c with state := st }) s with
    bankWaitOrder := s.bankWaitOrder.filter (fun q => q != p) }

theorem goState_eq : goState p st s =
    onlyIf ((s.ctx p).state.descentSpan != st.descentSpan) (post .descentReport) (inState p st s) := rfl

/-- What a report to SMC does not change. -/
theorem goState_field {α : Type} (g : State → α) (hg : ∀ u, g (post .descentReport u) = g u) :
    g (goState p st s) = g (inState p st s) := by
  rw [goState_eq]
  cases (s.ctx p).state.descentSpan != st.descentSpan
  · rfl
  · exact hg _

@[simp] theorem goState_ctx_same : (goState p st s).ctx p = { s.ctx p with state := st } :=
  (goState_field p st s (State.ctx · p) fun _ => rfl).trans (PerPos.get_set_same _ _ _)

theorem goState_ctx_ne {q : Pos} (h : q ≠ p) : (goState p st s).ctx q = s.ctx q :=
  (goState_field p st s (State.ctx · q) fun _ => rfl).trans (PerPos.get_set_ne _ _ h)

theorem goState_mail : (goState p st s).mail =
    s.mail ++ (if (s.ctx p).state.descentSpan = st.descentSpan then [] else [.descentReport]) := by
  rw [goState_eq]
  cases (s.ctx p).state.descentSpan <;> cases st.descentSpan <;> simp [inState, updCtx, setCtx]

@[simp] theorem goState_tables : (goState p st s).tables = s.tables :=
  goState_field p st s State.tables fun _ => rfl

@[simp] theorem goState_ret : (goState p st s).ret = s.ret := goState_field p st s State.ret fun _ => rfl

@[simp] theorem goState_rif : (goState p st s).rif = s.rif := goState_field p st s State.rif fun _ => rfl

@[simp] theorem goState_sig : (goState p st s).sig = s.sig := goState_field p st s State.sig fun _ => rfl

@[simp] theorem goState_bkm : (goState p st s).bkm = s.bkm := goState_field p st s State.bkm fun _ => rfl

@[simp] theorem goState_cmp : (goState p st s).cmp = s.cmp := goState_field p st s State.cmp fun _ => rfl

@[simp] theorem goState_pcl : (goState p st s).pcl = s.pcl := goState_field p st s State.pcl fun _ => rfl

@[simp] theorem goState_mtr : (goState p st s).mtr = s.mtr := goState_field p st s State.mtr fun _ => rfl

@[simp] theorem goState_bil : (goState p st s).bil = s.bil := goState_field p st s State.bil fun _ => rfl

@[simp] theorem goState_smc : (goState p st s).smc = s.smc := goState_field p st s State.smc fun _ => rfl

@[simp] theorem goState_pins : (goState p st s).pins = s.pins := goState_field p st s State.pins fun _ => rfl

@[simp] theorem goState_pending : (goState p st s).pending = s.pending :=
  goState_field p st s State.pending fun _ => rfl

@[simp] theorem goState_meter (q : Pos) : (goState p st s).meter q = s.meter q :=
  goState_field p st s (State.meter · q) fun _ => rfl

end GoState

/-! ### A TENDER refused (R157) -/

section Refused

variable {s : State} {x : TenderIn}

theorem tenderSourceIs_iff (s : State) (p : Pos) (source : Nat) : s.tenderSourceIs p source = true ↔
    (s.rowOf (.tenderSource p)).map (fun x => x.2.source) = some source := by
  unfold State.tenderSourceIs
  cases s.rowOf (.tenderSource p) <;> simp

theorem refusal_source (h : ¬s.tenderSourceIs x.pos x.source = true) : s.tenderRefusal x = some .source := by
  simp [State.tenderRefusal, h]

theorem refusal_tripped (h : s.tenderSourceIs x.pos x.source = true) (hl : s.latched = true) :
    s.tenderRefusal x = some .tripped := by
  simp [State.tenderRefusal, h, hl]

theorem refusal_state (h : s.tenderSourceIs x.pos x.source = true) (hl : s.latched = false)
    (hst : (s.ctx x.pos).state ≠ .lifted) : s.tenderRefusal x = some .positionState := by
  simp [State.tenderRefusal, h, hl, hst]

/-- R157: checks 2 to 4 pass. -/
structure TenderReady (s : State) (x : TenderIn) : Prop where
  source : s.tenderSourceIs x.pos x.source = true
  clear : s.latched = false
  lifted : (s.ctx x.pos).state = .lifted

theorem refusal_account {r : TenderRefusal} (h : TenderReady s x) (hr : s.accountRefusal x = some r) :
    s.tenderRefusal x = some r := by
  simp [State.tenderRefusal, h.source, h.clear, h.lifted, hr]

theorem refusal_cap (h : TenderReady s x) (hr : s.accountRefusal x = none)
    (hcap : s.tenderCap x < s.tariff.minCap) : s.tenderRefusal x = some .capTooLow := by
  simp [State.tenderRefusal, h.source, h.clear, h.lifted, hr, hcap]

theorem refusal_full (h : TenderReady s x) (hr : s.accountRefusal x = none)
    (hcap : s.tariff.minCap ≤ s.tenderCap x) (hfull : s.placeFree = false) :
    s.tenderRefusal x = some .queueFull := by
  simp [State.tenderRefusal, h.source, h.clear, h.lifted, hr, Nat.not_lt.mpr hcap, hfull]

theorem refusal_none (h : TenderReady s x) (hr : s.accountRefusal x = none)
    (hcap : s.tariff.minCap ≤ s.tenderCap x) (hfree : s.placeFree = true) : s.tenderRefusal x = none := by
  simp [State.tenderRefusal, h.source, h.clear, h.lifted, hr, Nat.not_lt.mpr hcap, hfree]

theorem accountRefusal_card (h : x.kind = .card) : s.accountRefusal x = none := by
  simp [State.accountRefusal, h]

theorem accountRefusal_unknown (h : x.kind = .fleet) (ha : s.account x.account = none) :
    s.accountRefusal x = some .accountUnknown := by
  simp [State.accountRefusal, h, ha]

theorem accountRefusal_blocked {a : Account} (h : x.kind = .fleet) (ha : s.account x.account = some a)
    (hb : a.blocked = true) : s.accountRefusal x = some .accountBlocked := by
  simp [State.accountRefusal, h, ha, hb]

theorem accountRefusal_open {a : Account} (h : x.kind = .fleet) (ha : s.account x.account = some a)
    (hb : a.blocked = false) : s.accountRefusal x = none := by
  simp [State.accountRefusal, h, ha, hb]

theorem tenderPrice_card (h : x.kind = .card) :
    s.tenderPrice x = s.tariff.price 0 (s.tariff.band s.ret.clock) := by
  simp [State.tenderPrice, State.tenderClass, h]

theorem tenderPrice_fleet {a : Account} (h : x.kind = .fleet) (ha : s.account x.account = some a) :
    s.tenderPrice x = s.tariff.price a.cls (s.tariff.band s.ret.clock) := by
  simp [State.tenderPrice, State.tenderClass, h, ha]

theorem tenderCap_card (h : x.kind = .card) : s.tenderCap x = cardCap (s.posRow x.pos).maxFill x.amount
    (s.tariff.price 0 (s.tariff.band s.ret.clock)) := by
  simp [State.tenderCap, h, tenderPrice_card h]

theorem tenderCap_fleet {a : Account} (h : x.kind = .fleet) (ha : s.account x.account = some a) :
    s.tenderCap x = fleetCap (s.posRow x.pos).maxFill
      (s.tariff.price a.cls (s.tariff.band s.ret.clock)) a := by
  simp [State.tenderCap, h, ha, tenderPrice_fleet h ha]

end Refused

section Taken

variable {s : State} {src kind ref account amount : Nat} {p : Pos} {k : TenderKind}

theorem takeTender_format {pos : Nat} (h : pos = 0 ∨ 5 ≤ pos ∨ 2 ≤ kind) :
    takeTender src false pos kind ref account amount s
      = noticeTo src .tenderRejected pos (u1 0 ++ u4 ref) s := by
  unfold takeTender
  rw [if_neg Bool.false_ne_true]
  split
  · next p' k' hp hk =>
    have hpos : 1 ≤ pos ∧ pos ≤ 4 := by
      unfold Pos.ofNum at hp
      split at hp <;> first | omega | cases hp
    have hkind : kind ≤ 1 := by
      unfold TenderKind.ofNum at hk
      split at hk <;> first | omega | cases hk
    omega
  · rfl

theorem takeTender_refused {r : TenderRefusal} (hk : TenderKind.ofNum kind = some k)
    (h : s.tenderRefusal ⟨src, p, k, ref, account, amount⟩ = some r) :
    takeTender src false p.num kind ref account amount s
      = noticeTo src .tenderRejected p.num (u1 r.num ++ u4 ref) s := by
  simp [takeTender, hk, h, rejectTender]

theorem takeTender_accepted (hk : TenderKind.ofNum kind = some k)
    (h : s.tenderRefusal ⟨src, p, k, ref, account, amount⟩ = none) :
    takeTender src false p.num kind ref account amount s
      = acceptTender ⟨src, p, k, ref, account, amount⟩ s := by
  simp [takeTender, hk, h]

end Taken

end Sys2Proof.Machine
end

section
/-! An accepted TENDER (R111, R147, R156 to R159, R171 to R173). O50 follows. -/

namespace Sys2Proof.Machine

open Sys2Proof

section Accepted

/-- R111: entry into AUTHORISED with nothing coupled. -/
def authorised (p : Pos) (txn : Nat) (kind : TenderKind) (cap : Nat) (s : State) : State :=
  goState p .authorised (openFigures p (post (.categoryReport p (some (s.posRow p).required) true)
    (updCtx p (fun c =>
      { Ctx.start with
        state := c.state
        opened := c.opened
        category := (s.posRow p).required
        fill := some ⟨txn, kind, cap, (s.tables.fill (s.posRow p).pclass).copy.gen, s.ret.clock⟩ })
      (latchGen (s.posRow p).pclass s))))

theorem authorise_uncoupled {p : Pos} {s : State} (h : s.level (.coupled p) = false) (txn : Nat)
    (kind : TenderKind) (cap : Nat) : authorise p txn kind cap s = authorised p txn kind cap s :=
  if_neg (by simp [h])

variable {x : TenderIn} {s : State}

/-- R171 to R173: what BIL holds for an accepted TENDER. -/
def tenderHeld (x : TenderIn) (c : TenderCtx) (s : State) : State :=
  let placed := placeHold x.pos c (updRet (fun r => { r with txnCounter := c.txn }) (reservePlace x.pos s))
  updRet (fun r => { r with snapshots := r.snapshots.set x.pos (some c.snapshot) })
    { placed with bil := placed.bil.set x.pos (some c) }

theorem acceptTender_eq (x : TenderIn) (s : State) : acceptTender x s =
    let c := s.tenderContext x (nextTxn s.ret.txnCounter)
    noticeTo c.node .tenderAccepted x.pos.num c.acceptedData
      (authorise x.pos c.txn c.kind c.cap (tenderHeld x c s)) := rfl

/-- BIL's part of an acceptance changes the retained domain and the contexts. -/
theorem tenderHeld_eq (x : TenderIn) (c : TenderCtx) (s : State) : tenderHeld x c s =
    { s with ret := (tenderHeld x c s).ret, bil := s.bil.set x.pos (some c) } := by
  unfold tenderHeld placeHold
  cases c.kind <;> rfl

@[simp] theorem Tables.setFill_nodeMap (t : Tables) (k : PClass) (f : FillCopy) :
    (t.setFill k f).nodeMap = t.nodeMap := by cases k <;> rfl

@[simp] theorem Tables.setFill_station (t : Tables) (k : PClass) (f : FillCopy) :
    (t.setFill k f).station = t.station := by cases k <;> rfl

@[simp] theorem Tables.setFill_position (t : Tables) (k : PClass) (f : FillCopy) :
    (t.setFill k f).position = t.position := by cases k <;> rfl

theorem authorised_reads (p : Pos) (txn : Nat) (kind : TenderKind) (cap : Nat) (s : State) :
    (authorised p txn kind cap s).SameReads s where
  rif := goState_rif _ _ _
  nodeRows := by simp [authorised, State.nodeRows, openFigures, updMeter, setMeter, updCtx, setCtx, latchGen]
  supervisor := by
    simp [authorised, State.supervisor, State.stationRow, openFigures, updMeter, setMeter, updCtx, setCtx,
      latchGen]
  latch := congrArg Smc.latch (goState_smc _ _ _)

/-- What entry into AUTHORISED leaves at the position. -/
theorem authorised_ctx (p : Pos) (txn : Nat) (kind : TenderKind) (cap : Nat) (s : State) :
    (authorised p txn kind cap s).ctx p =
      { Ctx.start with
        state := .authorised
        opened := (s.ctx p).opened
        category := (s.posRow p).required
        fill := some ⟨txn, kind, cap, (s.tables.fill (s.posRow p).pclass).copy.gen, s.ret.clock⟩ } := by
  rw [authorised, goState_ctx_same]
  cases p <;> rfl

theorem authorised_ctx_ne {p q : Pos} (hq : q ≠ p) (txn : Nat) (kind : TenderKind) (cap : Nat) (s : State) :
    (authorised p txn kind cap s).ctx q = s.ctx q :=
  (goState_ctx_ne _ _ _ hq).trans (PerPos.get_set_ne _ _ hq)

theorem authorised_meter (p : Pos) (txn : Nat) (kind : TenderKind) (cap : Nat) (s : State) :
    (authorised p txn kind cap s).meter p = { s.meter p with
      isOpen := true, fill := 0, banks := .all 0, cmp := 0, unattr := 0, afterRun := 0
      uncertain := false } := by
  rw [authorised, goState_meter, openFigures, updMeter_meter_same]
  rfl

theorem authorised_mail {p : Pos} {s : State} (h : (s.ctx p).state = .lifted) (txn : Nat)
    (kind : TenderKind) (cap : Nat) : (authorised p txn kind cap s).mail =
      s.mail ++ [.categoryReport p (some (s.posRow p).required) true, .descentReport] := by
  have hstate : ((openFigures p (post (.categoryReport p (some (s.posRow p).required) true)
      (updCtx p (fun c =>
        { Ctx.start with
          state := c.state
          opened := c.opened
          category := (s.posRow p).required
          fill := some ⟨txn, kind, cap, (s.tables.fill (s.posRow p).pclass).copy.gen, s.ret.clock⟩ })
        (latchGen (s.posRow p).pclass s)))).ctx p).state = .lifted := by
    rw [← h]
    cases p <;> rfl
  rw [authorised, goState_mail, hstate]
  simp [openFigures, updMeter, setMeter, updCtx, setCtx, latchGen,
    show PState.lifted.descentSpan = false from rfl, show PState.authorised.descentSpan = true from rfl]

/-- What an accepted TENDER leaves, with nothing coupled yet. -/
theorem acceptTender_spec {c : TenderCtx} (hc : s.tenderContext x (nextTxn s.ret.txnCounter) = c)
    (hcoupled : s.level (.coupled x.pos) = false) (hlifted : (s.ctx x.pos).state = .lifted) :
    (acceptTender x s).bil = s.bil.set x.pos (some c)
      ∧ (acceptTender x s).ret = (tenderHeld x c s).ret
      ∧ (acceptTender x s).ctx x.pos = (authorised x.pos c.txn c.kind c.cap s).ctx x.pos
      ∧ (acceptTender x s).meter x.pos = { s.meter x.pos with
          isOpen := true, fill := 0, banks := .all 0, cmp := 0, unattr := 0, afterRun := 0
          uncertain := false }
      ∧ (acceptTender x s).mail
          = s.mail ++ [.categoryReport x.pos (some (s.posRow x.pos).required) true, .descentReport]
      ∧ (acceptTender x s).rif = (noticeTo c.node .tenderAccepted x.pos.num c.acceptedData s).rif
      ∧ ∀ q, q ≠ x.pos → (acceptTender x s).ctx q = s.ctx q := by
  have hheld := tenderHeld_eq x c s
  have hclock : (tenderHeld x c s).ret.clock = s.ret.clock := by
    unfold tenderHeld placeHold
    cases c.kind <;> rfl
  have hlevel : (tenderHeld x c s).level (.coupled x.pos) = false := by
    rw [hheld]
    exact hcoupled
  have hstate : ((tenderHeld x c s).ctx x.pos).state = .lifted := by
    rw [hheld]
    exact hlifted
  have ht : acceptTender x s = noticeTo c.node .tenderAccepted x.pos.num c.acceptedData
      (authorised x.pos c.txn c.kind c.cap (tenderHeld x c s)) := by
    rw [← authorise_uncoupled hlevel, acceptTender_eq, hc]
  have hreads : (authorised x.pos c.txn c.kind c.cap (tenderHeld x c s)).SameReads s := by
    have hauth := authorised_reads x.pos c.txn c.kind c.cap (tenderHeld x c s)
    rw [hheld] at hauth ⊢
    exact ⟨hauth.rif, hauth.nodeRows, hauth.supervisor, hauth.latch⟩
  have hfil : (acceptTender x s).fil = (authorised x.pos c.txn c.kind c.cap (tenderHeld x c s)).fil :=
    ht ▸ noticeTo_fil _ _ _ _ _
  have hctx (q : Pos) : (acceptTender x s).ctx q
      = (authorised x.pos c.txn c.kind c.cap (tenderHeld x c s)).ctx q := congrArg (PerPos.get · q) hfil
  refine ⟨?_, ?_, ?_, ?_, ?_, ?_, fun q hq => ?_⟩
  · rw [ht, noticeTo_bil]
    exact (goState_bil _ _ _).trans (congrArg State.bil hheld)
  · rw [ht, noticeTo_ret]
    exact goState_ret _ _ _
  · rw [hctx, authorised_ctx, authorised_ctx, hclock, hheld]
    rfl
  · rw [ht, State.meter, noticeTo_mtr]
    refine (authorised_meter _ _ _ _ _).trans ?_
    rw [hheld]
    rfl
  · rw [ht, noticeTo_mail, authorised_mail hstate, hheld]
    rfl
  · rw [ht]
    exact noticeTo_reads hreads _ _ _ _
  · rw [hctx, authorised_ctx_ne hq, hheld]
    rfl

end Accepted

/-- R157: the first check that fails. -/
theorem tenderRejected (p : Pos) (src ref id amount : Nat) {s : State} (hreset : s.smc.inReset = false)
    {kind : Nat} {k : TenderKind} {r : TenderRefusal} (hk : TenderKind.ofNum kind = some k)
    (h : s.tenderRefusal ⟨src, p, k, ref, id, amount⟩ = some r) :
    exec (.tender src false p.num kind ref id amount) s =
      .next (noticeTo src .tenderRejected p.num (u1 r.num ++ u4 ref) s) :=
  (running_next s (takeTender src false p.num kind ref id amount) hreset).trans
    (congrArg _ (takeTender_refused hk h))

theorem TenderKind.ofNum_of_le {kind : Nat} (h : kind ≤ 1) : ∃ k, TenderKind.ofNum kind = some k := by
  interval_cases kind
  · exact ⟨.card, rfl⟩
  · exact ⟨.fleet, rfl⟩

theorem placeFree_eq_false {s : State} (h : 32 ≤ s.ret.records.length + s.reservations) :
    s.placeFree = false := decide_eq_false (Nat.not_lt.mpr h)

theorem placeFree_eq_true {s : State} (h : s.ret.records.length + s.reservations < 32) :
    s.placeFree = true := decide_eq_true h

theorem nextTxn_eq (n : Nat) : nextTxn n = if n < 4294967295 then n + 1 else 1 := by
  unfold nextTxn
  split <;> split <;> omega

/-- Settles O50: the checks in their order, and an acceptance by the kind of the tender. -/
theorem tenderTaken : Obligations.TenderTaken := by
  refine ⟨fun p src ref id amount s hreset => ?_, fun p src ref id amount n x s hreset => ?_⟩
  · intro rejects owns ready
    have hsource : s.tenderSourceIs p src = true ↔ owns := tenderSourceIs_iff s p src
    have hready (h : ready) (k : TenderKind) : TenderReady s ⟨src, p, k, ref, id, amount⟩ :=
      ⟨hsource.mpr h.1, h.2.1, h.2.2⟩
    have hrejects {kind n : Nat} {k : TenderKind} {r : TenderRefusal} (hn : r.num = n)
        (hk : TenderKind.ofNum kind = some k)
        (h : s.tenderRefusal ⟨src, p, k, ref, id, amount⟩ = some r) : rejects kind n := by
      subst hn
      exact tenderRejected p src ref id amount hreset hk h
    refine ⟨fun pos kind => running_next s (fun u => u) hreset,
      fun pos kind h => (running_next s _ hreset).trans (congrArg _ (takeTender_format h)),
      fun kind hkind hno => ?_, fun kind hkind hown hl => ?_, fun kind hkind hown hl hst => ?_,
      fun h ha => ?_, fun a h ha hb => ?_, fun a h ha hb hcap => ?_, fun h hcap => ?_,
      fun h hcap hfull => ?_⟩
    · obtain ⟨k, hk⟩ := TenderKind.ofNum_of_le hkind
      exact hrejects rfl hk (refusal_source (hsource.not.mpr hno))
    · obtain ⟨k, hk⟩ := TenderKind.ofNum_of_le hkind
      exact hrejects rfl hk (refusal_tripped (hsource.mpr hown) hl)
    · obtain ⟨k, hk⟩ := TenderKind.ofNum_of_le hkind
      exact hrejects rfl hk (refusal_state (hsource.mpr hown) hl hst)
    · exact hrejects rfl rfl (refusal_account (hready h .fleet) (accountRefusal_unknown rfl ha))
    · exact hrejects rfl rfl (refusal_account (hready h .fleet) (accountRefusal_blocked rfl ha hb))
    · exact hrejects rfl rfl (refusal_cap (hready h .fleet) (accountRefusal_open rfl ha hb)
        (by rwa [tenderCap_fleet rfl ha]))
    · exact hrejects rfl rfl (refusal_cap (hready h .card) (accountRefusal_card rfl) (by rwa [tenderCap_card rfl]))
    · exact hrejects rfl rfl (refusal_full (hready h .card) (accountRefusal_card rfl)
        (by rwa [tenderCap_card rfl]) (placeFree_eq_false hfull))
  · intro hrow hx hclear hlifted hplaces hcoupled txn band most gen taken
    have hready (k : TenderKind) : TenderReady s ⟨src, p, k, ref, id, amount⟩ :=
      ⟨(tenderSourceIs_iff s p src).mpr (by rw [hrow, ← hx]; rfl), hclear, hlifted⟩
    have htxn : nextTxn s.ret.txnCounter = txn := nextTxn_eq _
    have haccepted {kind : Nat} {k : TenderKind} (hk : TenderKind.ofNum kind = some k)
        (h : s.tenderRefusal ⟨src, p, k, ref, id, amount⟩ = none) :
        exec (.tender src false p.num kind ref id amount) s
          = .next (acceptTender ⟨src, p, k, ref, id, amount⟩ s) :=
      (running_next s (takeTender src false p.num kind ref id amount) hreset).trans
        (congrArg _ (takeTender_accepted hk h))
    refine ⟨?card, fun a ha hb => ?fleet⟩
    case card =>
      intro price cap hcap
      have hnone := refusal_none (hready .card) (accountRefusal_card rfl)
        (by rwa [tenderCap_card rfl]) (placeFree_eq_true hplaces)
      have hc : s.tenderContext ⟨src, p, .card, ref, id, amount⟩ (nextTxn s.ret.txnCounter)
          = ⟨txn, .card, ref, src, 0, amount, band, 0, price, cap, 0, s.ret.clock,
              s.ret.clock.isNone⟩ := by
        rw [htxn]
        rfl
      obtain ⟨hbil, hret, hctx, hmeter, hmail, hrif, hothers⟩ := acceptTender_spec hc hcoupled hlifted
      refine ⟨_, haccepted rfl hnone, ⟨hbil, by rw [hret]; rfl, by rw [hret]; rfl, by rw [hret]; rfl,
        by rw [hret]; rfl, by rw [hctx, authorised_ctx], by rw [hctx, authorised_ctx],
        by rw [hctx, authorised_ctx], hmeter, hmail, hrif, hothers⟩, by rw [hret]; rfl⟩
    case fleet =>
      intro price cap hcap
      have hnone := refusal_none (hready .fleet) (accountRefusal_open rfl ha hb)
        (by rwa [tenderCap_fleet rfl ha]) (placeFree_eq_true hplaces)
      have hc : s.tenderContext ⟨src, p, .fleet, ref, id, amount⟩ (nextTxn s.ret.txnCounter)
          = ⟨txn, .fleet, ref, src, id, 0, band, a.cls, price, cap, amountOf cap price, s.ret.clock,
              s.ret.clock.isNone⟩ := by
        have hprice := tenderPrice_fleet (x := ⟨src, p, .fleet, ref, id, amount⟩) rfl ha
        have htcap := tenderCap_fleet (x := ⟨src, p, .fleet, ref, id, amount⟩) rfl ha
        simp [State.tenderContext, State.tenderClass, hprice, htcap, htxn, ha, price, cap, band, most]
      obtain ⟨hbil, hret, hctx, hmeter, hmail, hrif, hothers⟩ := acceptTender_spec hc hcoupled hlifted
      refine ⟨_, haccepted rfl hnone, ⟨hbil, by rw [hret]; rfl, by rw [hret]; rfl, by rw [hret]; rfl,
        by rw [hret]; rfl, by rw [hctx, authorised_ctx], by rw [hctx, authorised_ctx],
        by rw [hctx, authorised_ctx], hmeter, hmail, hrif, hothers⟩, by rw [hret]; rfl⟩

end Sys2Proof.Machine
end

section
/-! What a frame does at a signal record: usable samples, counts, vehicle data, and the loss of a signal
(R8 to R18). O21, O22 and O23 follow. -/

namespace Sys2Proof.Machine

open Sys2Proof

/-! ### Commands, rows and codes -/

theorem running_of_eq {s u : State} {f : State → State} (hreset : s.smc.inReset = false) (h : f s = u) :
    running s f = .next u :=
  (running_next s f hreset).trans (congrArg _ h)

theorem rowOf_role {s : State} {r : Role} {row : Nat} {x : NodeRow} (h : s.rowOf r = some (row, x)) :
    x.role = r := by
  simpa using List.find?_some h

theorem Quality.ofCode_usable {code : Nat} (h : code ≤ 1) :
    Quality.ofCode code = if code = 1 then .uncertain else .good := by
  interval_cases code <;> rfl

theorem Quality.ofCode_bad : {code : Nat} → 2 ≤ code → Quality.ofCode code = .bad
  | _ + 2, _ => rfl

theorem Quality.ofCode_ne_bad {code : Nat} (h : code ≤ 1) : Quality.ofCode code ≠ .bad := by
  interval_cases code <;> decide

theorem Role.range_le (r : Role) : r.range.1 ≤ r.range.2 := by
  cases r <;> simp [Role.range]

theorem clampInt_eq {lo hi : Int} (h : lo ≤ hi) (x : Int) : clampInt lo hi x = max lo (min hi x) := by
  unfold clampInt
  split
  · omega
  · split <;> omega

theorem postAll_append (as bs : List Instr) (s : State) : postAll bs (postAll as s) = postAll (as ++ bs) s := by
  simp [postAll]

theorem postAll_nil (s : State) : postAll [] s = s := by
  simp [postAll]

theorem qualityDelivery_same {r : Role} {before : Quality} {x : SigRec} (h : before = x.quality) :
    qualityDelivery r before x = [] := if_pos h

theorem qualityDelivery_changed {r : Role} {before : Quality} {x : SigRec} (h : before ≠ x.quality) :
    qualityDelivery r before x = qualityMessages r x := if_neg h

/-! ### Usable samples -/

section Usable

variable {s : State} {r : Role} {row : Nat} {x : NodeRow} {code : Nat} {v : Int}

theorem analogueValue_eq (hrow : s.rowOf r = some (row, x)) (v : Int) :
    analogueValue x v = max r.range.1 (min r.range.2 (v + x.offset)) := by
  rw [analogueValue, clampInt_eq (Role.range_le _), rowOf_role hrow]

theorem analogueQuality_usable (h : code ≤ 1) : analogueQuality x (Quality.ofCode code) v
    = if code = 1 ∨ analogueValue x v ≠ v + x.offset then .uncertain else .good := by
  unfold analogueQuality
  interval_cases code <;> simp [Quality.ofCode]

theorem sampleAnalogue_usable (hkind : r.kind = .analogue) (hrow : s.rowOf r = some (row, x)) (hcode : code ≤ 1) :
    sampleAnalogue r code v s =
      let now := analogueRecord x (Quality.ofCode code) v (s.record r)
      postAll (valueMessages r now ++ qualityDelivery r (s.record r).quality now)
        (limitEvent row x (s.record r).region now.region now.value (setRecord r now s)) := by
  rw [sampleAnalogue, hrow]
  simp [hkind, Quality.ofCode_ne_bad hcode]

theorem limitEvent_unchanged {before after : Region} (h : x.limitAction = .none ∨ after = before) :
    limitEvent row x before after v s = s := by
  rcases h with h | rfl
  · simp [limitEvent, h]
  · simp [limitEvent, Region.crossing, Region.returning]

theorem limitEvent_crossing {before after : Region} (ha : x.limitAction ≠ .none) (hne : after ≠ before)
    (hin : after ≠ .inside) : limitEvent row x before after v s = postAll (limitMessages row x)
      (notice .signalLimit row (u1 x.role.code.1 ++ u1 after.num ++ i2 v) s) := by
  simp [limitEvent, ha, Region.crossing, Ne.symm hne, hin]

theorem limitEvent_return {before : Region} (ha : x.limitAction ≠ .none) (hne : Region.inside ≠ before) :
    limitEvent row x before .inside v s =
      notice .signalLimit row (u1 x.role.code.1 ++ u1 Region.inside.num ++ i2 v) s := by
  simp [limitEvent, ha, Region.crossing, Region.returning, Ne.symm hne]

theorem sampleDigital_refresh {level : Bool} {now : SigRec} (hkind : r.kind = .digital)
    (hrow : s.rowOf r = some (row, x)) (hcode : code ≤ 1) (hlevel : decide (v ≠ 0) = level)
    (hnow : digitalRecord x (Quality.ofCode code) level (s.record r) = now)
    (h : (s.record r).level = level) : sampleDigital r code v s =
      postAll (refreshMessages r now ++ qualityDelivery r (s.record r).quality now) (setRecord r now s) := by
  subst hlevel hnow
  rw [sampleDigital, hrow]
  exact (if_neg (not_not.mpr hkind)).trans ((if_neg (Quality.ofCode_ne_bad hcode)).trans (if_pos h))

theorem sampleDigital_transition {level : Bool} {now : SigRec} (hkind : r.kind = .digital)
    (hrow : s.rowOf r = some (row, x)) (hcode : code ≤ 1) (hlevel : decide (v ≠ 0) = level)
    (hnow : digitalRecord x (Quality.ofCode code) level (s.record r) = now)
    (h : (s.record r).level ≠ level) : sampleDigital r code v s =
      postAll (transitionMessages r now ++ qualityDelivery r (s.record r).quality now)
        (edgeEvent row x level (setRecord r now s)) := by
  subst hlevel hnow
  rw [sampleDigital, hrow]
  exact (if_neg (not_not.mpr hkind)).trans ((if_neg (Quality.ofCode_ne_bad hcode)).trans (if_neg h))

theorem edgeEvent_unselected {level : Bool} (h : x.edgeSelect.selects level = false) :
    edgeEvent row x level s = s := by simp [edgeEvent, h]

theorem edgeEvent_selected {level : Bool} (h : x.edgeSelect.selects level = true) :
    edgeEvent row x level s = postAll (edgeMessages row x)
      (notice .signalEdge row (u1 x.role.code.1 ++ uFlag level) s) := by simp [edgeEvent, h]

theorem countFrame_usable {p : Pos} {n : Nat} (hrow : s.rowOf (.meter p) = some (row, x)) (hcode : code ≤ 1) :
    countFrame (.meter p) code n s =
      let now : SigRec := { s.record (.meter p) with
        value := n, quality := Quality.ofCode code, timer := some x.freshness }
      postAll (.meterCount p n (Quality.ofCode code) ::
          qualityDelivery (.meter p) (s.record (.meter p)).quality now) (setRecord (.meter p) now s) := by
  unfold countFrame
  rw [hrow]
  simp [Quality.ofCode_ne_bad hcode]

theorem vehDataFrame_row {p : Pos} {d : VehData} (hrow : s.rowOf (.vehicle p) = some (row, x)) :
    vehDataFrame (.vehicle p) d s =
      let now : SigRec := { s.record (.vehicle p) with
        vehicle := vehicleFieldsOf d, quality := vehicleQuality d, timer := some x.freshness }
      postAll (.filVehdata p now :: qualityDelivery (.vehicle p) (s.record (.vehicle p)).quality now)
        (setRecord (.vehicle p) now s) := by
  unfold vehDataFrame
  rw [hrow]

end Usable

/-- Settles O21: the record by R8, and then the region before and after decides the notice and the limit
action. -/
theorem analogueSample : Obligations.AnalogueSample := by
  intro r code v row x s hreset hkind hrow hcode value q region old now held told out
  have hvalue : analogueValue x v = value := analogueValue_eq hrow v
  have hq : analogueQuality x (Quality.ofCode code) v = q := by
    rw [analogueQuality_usable hcode, hvalue]
  have hnow : analogueRecord x (Quality.ofCode code) v old = now := by
    rw [analogueRecord, hvalue, hq]
    rfl
  have hrole := rowOf_role hrow
  have htaken : sampleAnalogue r code v s
      = postAll out (limitEvent row x old.region region value held) := by
    rw [sampleAnalogue_usable hkind hrow hcode]
    exact congrArg (fun n => postAll (valueMessages r n ++ qualityDelivery r old.quality n)
      (limitEvent row x old.region n.region n.value (setRecord r n s))) hnow
  refine ⟨fun h => running_of_eq hreset ?_, fun ha hne hin => running_of_eq hreset ?_,
    fun ha hne hin => running_of_eq hreset ?_⟩
  · rw [htaken, limitEvent_unchanged h]
  · rw [htaken, limitEvent_crossing ha hne hin, postAll_append, hrole]
  · rw [hin] at hne
    rw [htaken, hin, limitEvent_return ha hne, hrole, ← hin]

/-! ### Vehicle fields -/

theorem natIn_eq_filter (lo hi : Nat) (o : Option Nat) :
    natIn lo hi o = o.filter (fun n => lo ≤ n ∧ n ≤ hi) := by
  cases o <;> simp [natIn, Option.filter]

theorem intIn_eq_filter (lo hi : Int) (o : Option Int) :
    intIn lo hi o = o.filter (fun n => lo ≤ n ∧ n ≤ hi) := by
  cases o <;> simp [intIn, Option.filter]

theorem intIn_ofNat (hi : Nat) (o : Option Nat) :
    intIn 0 hi (o.map Int.ofNat) = (o.filter (fun n => n ≤ hi)).map Int.ofNat := by
  cases o with
  | none => rfl
  | some n => by_cases h : n ≤ hi <;> simp [intIn, Option.filter, h]

theorem PClass.ofNum_eq (n : Nat) :
    PClass.ofNum n = if n = 0 then some .h35 else if n = 1 then some .h70 else none :=
  match n with
  | 0 | 1 | _ + 2 => rfl

theorem fillCommandOf_eq (n : Nat) :
    fillCommandOf n = if n = 0 then .run else if n = 2 then .abort else .halt :=
  match n with
  | 0 | 1 | 2 | _ + 3 => rfl

theorem vehicleFieldsOf_unknown {d : VehData} (h : d.version < 1 ∨ 3 < d.version) :
    let f := vehicleFieldsOf d
    f.volume = none ∧ f.pclass = none ∧ f.pressure = none ∧ f.temp = none := by
  have hno : decide (1 ≤ d.version ∧ d.version ≤ 3) = false := by
    rw [decide_eq_false_iff_not]
    omega
  unfold vehicleFieldsOf
  rw [hno]
  exact ⟨rfl, rfl, rfl, rfl⟩

theorem vehicleFieldsOf_known {d : VehData} (h : 1 ≤ d.version ∧ d.version ≤ 3) :
    vehicleFieldsOf d =
      ⟨some d.version, natIn 1 10000 d.volume, d.classCode.bind PClass.ofNum,
        intIn 0 10000 (d.pressure.map Int.ofNat), intIn (-600) 1000 d.temp,
        some (fillCommandOf d.command)⟩ := by
  unfold vehicleFieldsOf
  rw [decide_eq_true h]
  rfl

theorem heldAbsent_iff {α β : Type} (m : Option α) (h : Option β) :
    heldAbsent m h = true ↔ m.isSome ∧ h = none := by
  simp [heldAbsent]

theorem vehicleQuality_uncertain_iff (d : VehData) :
    let f := vehicleFieldsOf d
    vehicleQuality d = .uncertain ↔ 2 < d.command ∨ (d.volume.isSome ∧ f.volume = none)
      ∨ (d.classCode.isSome ∧ f.pclass = none) ∨ (d.pressure.isSome ∧ f.pressure = none)
      ∨ (d.temp.isSome ∧ f.temp = none) := by
  intro f
  have hif {b : Bool} : (if b = true then Quality.uncertain else .good) = .uncertain ↔ b = true := by
    cases b <;> decide
  rw [vehicleQuality]
  refine hif.trans ?_
  simp only [Bool.or_eq_true, heldAbsent_iff, decide_eq_true_eq]
  tauto

theorem vehicleQuality_usable (d : VehData) : vehicleQuality d = .uncertain ∨ vehicleQuality d = .good := by
  unfold vehicleQuality
  dsimp only
  split
  · exact .inl rfl
  · exact .inr rfl

/-- Settles O22: each kind of usable frame by its record and its deliveries. -/
theorem digitalCountAndVehicle : Obligations.DigitalCountAndVehicle := by
  refine ⟨fun r code v row x s hreset hkind hrow hcode => ?_,
    fun p code n row x s hreset hrow hcode => ?_, fun p d row x s hreset hrow => ?_⟩
  · intro level q old now held change
    have hlevel : decide (v ≠ 0) = level := by by_cases h : v = 0 <;> simp [level, h]
    have hnow : digitalRecord x (Quality.ofCode code) level old = now := by
      rw [digitalRecord, Quality.ofCode_usable hcode]
    refine ⟨fun h => running_of_eq hreset ?_, fun h hs => running_of_eq hreset ?_,
      fun h hs => running_of_eq hreset ?_⟩
    · exact sampleDigital_refresh hkind hrow hcode hlevel hnow h
    · rw [sampleDigital_transition hkind hrow hcode hlevel hnow h, edgeEvent_unselected hs]
      rfl
    · rw [sampleDigital_transition hkind hrow hcode hlevel hnow h, edgeEvent_selected hs, postAll_append,
        rowOf_role hrow]
      rfl
  · intro q old now
    refine running_of_eq hreset ((countFrame_usable hrow hcode).trans ?_)
    rw [Quality.ofCode_usable hcode]
    rfl
  · intro now
    refine ⟨vehicleFieldsOf d, vehicleQuality d, running_of_eq hreset (vehDataFrame_row hrow), rfl,
      vehicleFieldsOf_unknown, fun h1 h3 => ?_, ?_, vehicleQuality_uncertain_iff d, vehicleQuality_usable d⟩
    · rw [vehicleFieldsOf_known ⟨h1, h3⟩]
      refine ⟨natIn_eq_filter _ _ _, ?_, intIn_ofNat 10000 _, intIn_eq_filter _ _ _⟩
      exact congrArg (d.classCode.bind ·) (funext PClass.ofNum_eq)
    · exact congrArg some (fillCommandOf_eq d.command)

end Sys2Proof.Machine
end

section
/-! The loss of a signal, who is told of an arrival, and the record a delivery carries (R2, R9 to R11, R13,
R16, R18). O23 follows. -/

namespace Sys2Proof

/-! ### The loss of a signal -/

/-- R9, R10: the record that a BAD frame or an expiry leaves. -/
def SigRec.gone (x : SigRec) (q : Quality) : SigRec := { x with quality := q, timer := none }

/-- R9: the stale action is taken on passing from this quality into BAD or STALE. -/
def Quality.Fresh (q : Quality) : Prop := q = .absent ∨ q = .good ∨ q = .uncertain

theorem Quality.Fresh.takes {q : Quality} (h : q.Fresh) : q.takesStaleAction = true := by
  rcases h with rfl | rfl | rfl <;> rfl

theorem Quality.Fresh.ne {q after : Quality} (h : q.Fresh) (ha : after.takesStaleAction = false) :
    q ≠ after := by
  rintro rfl
  simp [h.takes] at ha

end Sys2Proof

namespace Sys2Proof.Machine

open Sys2Proof

section Lost

variable {s : State} {r : Role} {row : Nat} {x : NodeRow}

theorem loseSignal_fresh {before : Quality} (h : before.Fresh) (after : Quality) :
    loseSignal row x before after s = postAll (staleMessages row x)
      (notice .signalQuality row (u1 x.role.code.1 ++ u1 after.num) s) := if_pos h.takes

theorem loseSignal_lost {before : Quality} (h : before.takesStaleAction = false) (after : Quality) :
    loseSignal row x before after s = s := by simp [loseSignal, h]

theorem badFrame_fresh (hr : x.role = r) (h : (s.record r).quality.Fresh) : badFrame row x s =
    postAll (staleMessages row x ++ qualityMessages r ((s.record r).gone .bad))
      (notice .signalQuality row (u1 r.code.1 ++ u1 Quality.bad.num)
        (setRecord r ((s.record r).gone .bad) s)) := by
  subst hr
  rw [← postAll_append, ← loseSignal_fresh h, ← qualityDelivery_changed (h.ne (after := .bad) rfl)]
  rfl

theorem badFrame_bad (hr : x.role = r) (h : (s.record r).quality = .bad) :
    badFrame row x s = setRecord r ((s.record r).gone .bad) s := by
  subst hr
  unfold badFrame
  dsimp only
  rw [qualityDelivery_same h, postAll_nil, h, loseSignal_lost rfl]
  rfl

theorem badFrame_stale (hr : x.role = r) (h : (s.record r).quality = .stale) : badFrame row x s =
    postAll (qualityMessages r ((s.record r).gone .bad)) (setRecord r ((s.record r).gone .bad) s) := by
  subst hr
  unfold badFrame
  dsimp only
  rw [qualityDelivery_changed (h.trans_ne (show Quality.stale ≠ .bad by decide)), h, loseSignal_lost rfl]
  rfl

theorem sampleAnalogue_bad {code : Nat} (hkind : r.kind = .analogue) (hrow : s.rowOf r = some (row, x))
    (hcode : 2 ≤ code) (v : Int) : sampleAnalogue r code v s = badFrame row x s := by
  rw [sampleAnalogue, hrow]
  simp [hkind, Quality.ofCode_bad hcode]

theorem sampleDigital_bad {code : Nat} (hkind : r.kind = .digital) (hrow : s.rowOf r = some (row, x))
    (hcode : 2 ≤ code) (v : Int) : sampleDigital r code v s = badFrame row x s := by
  rw [sampleDigital, hrow]
  simp [hkind, Quality.ofCode_bad hcode]

theorem countFrame_bad {p : Pos} {code : Nat} (hrow : s.rowOf (.meter p) = some (row, x)) (hcode : 2 ≤ code)
    (n : Nat) : countFrame (.meter p) code n s = badFrame row x s := by
  unfold countFrame
  rw [hrow]
  simp [Quality.ofCode_bad hcode]

theorem freshnessExpiry_fresh {n : Nat} (hrow : s.rowOf r = some (row, x)) (ht : (s.record r).timer = some n)
    (h : (s.record r).quality.Fresh) : freshnessExpiry r s =
      postAll (staleMessages row x ++ qualityMessages r ((s.record r).gone .stale))
        (notice .signalQuality row (u1 r.code.1 ++ u1 Quality.stale.num)
          (setRecord r ((s.record r).gone .stale) s)) := by
  have hrole := rowOf_role hrow
  rw [← postAll_append, ← hrole, ← loseSignal_fresh h, hrole,
    ← qualityDelivery_changed (h.ne (after := .stale) rfl), freshnessExpiry, hrow, ht]
  rfl

theorem freshnessExpiry_stopped (ht : (s.record r).timer = none) : freshnessExpiry r s = s := by
  rw [freshnessExpiry, ht]
  cases s.rowOf r <;> rfl

end Lost

/-! ### The record a delivery carries -/

/-- R18: a block that sees the delivered record answers alike whatever SIG holds for the role by then. -/
theorem running_seeing_setRecord (r : Role) (x y : SigRec) (f : State → State) (s : State) :
    ∃ t, running s (seeing r x f) = .next t ∧ t.sig = s.sig
      ∧ running (setRecord r y s) (seeing r x f) = .next { t with sig := (setRecord r y s).sig } := by
  by_cases h : s.smc.inReset = true
  · have hset : (setRecord r y s).smc.inReset = true := h
    exact ⟨s, congrArg Host.Outcome.next (if_pos h), rfl, congrArg Host.Outcome.next (if_pos hset)⟩
  · have hr := Bool.eq_false_iff.mpr h
    refine ⟨seeing r x f s, running_of_eq hr rfl, rfl, running_of_eq hr ?_⟩
    simp only [seeing, withRecord_setRecord]

theorem EdgeSelect.selects_iff (e : EdgeSelect) (up : Bool) :
    e.selects up = true ↔ e = .both ∨ e = .rise ∧ up = true ∨ e = .fall ∧ up = false := by
  cases e <;> cases up <;> simp [EdgeSelect.selects]

/-- R11, R13, R16: an action ISOLATE of a row goes to the unit of its role. -/
theorem isolate_given {r : Role} {m : List Instr} (h : isolateMessages r = m) (row : Nat) (y : NodeRow) :
    (y.stale = .isolate → staleMessages row { y with role := r } = m)
      ∧ (y.limitAction = .isolate → limitMessages row { y with role := r } = m)
      ∧ (y.edgeAction = .isolate → edgeMessages row { y with role := r } = m) :=
  ⟨fun hs => by rw [staleMessages, hs]; exact h, fun hl => by rw [limitMessages, hl]; exact h,
    fun he => by rw [edgeMessages, he]; exact h⟩

/-- Settles O23: BAD frames and expiries by the quality before, the tables of deliveries and actions, and
what a delivery is judged by. -/
theorem signalLost : Obligations.SignalLost := by
  refine ⟨fun r row x s hreset hrow => ?_, fun p b x => ⟨?_, ?_, ?_, ?_, fun row y up => ?_⟩,
    fun x y a n p b g q s => ?_⟩
  · intro old gone lost told fresh bad
    have hrole := rowOf_role hrow
    have hbad {c : Instr} (h : exec c s = .next (badFrame row x s)) : bad c :=
      ⟨fun hf => h.trans (congrArg _ (badFrame_fresh hrole hf)),
        fun hb => h.trans (congrArg _ (badFrame_bad hrole hb)),
        fun hs => h.trans (congrArg _ (badFrame_stale hrole hs))⟩
    refine ⟨fun code v hkind hcode => hbad (running_of_eq hreset (sampleAnalogue_bad hkind hrow hcode v)),
      fun code v hkind hcode => hbad (running_of_eq hreset (sampleDigital_bad hkind hrow hcode v)), ?_,
      fun n ht hf => running_of_eq hreset (freshnessExpiry_fresh hrow ht hf),
      fun ht => running_of_eq hreset (freshnessExpiry_stopped ht)⟩
    rintro p code n rfl hcode
    exact hbad (running_of_eq hreset (countFrame_bad hrow hcode n))
  · exact ⟨rfl, rfl, rfl, rfl, by simp [valueMessages], rfl⟩
  · exact ⟨by simp [qualityMessages], rfl, rfl, rfl, rfl, by simp [qualityMessages], rfl, rfl, rfl⟩
  · exact ⟨rfl, rfl, rfl, rfl, rfl⟩
  · exact ⟨rfl, rfl, by simp [refreshMessages]⟩
  · intro trip given
    have hgiven {r : Role} {m : List Instr} (h : isolateMessages r = m) : given r m := isolate_given h row y
    refine ⟨?_, ?_, ?_, hgiven rfl, hgiven rfl, hgiven rfl, fun h => ?_, fun h => ?_, fun h => ?_,
      fun h hr => ?_, fun h hr => ?_, fun h => ?_, fun h hr => ?_, fun h hr => ?_,
      EdgeSelect.selects_iff y.edgeSelect up⟩
    · simp only [List.forall_mem_cons]
      exact ⟨hgiven rfl, hgiven rfl, hgiven rfl, hgiven rfl, hgiven rfl, List.forall_mem_nil _⟩
    · simp only [List.forall_mem_cons]
      exact ⟨hgiven rfl, hgiven rfl, List.forall_mem_nil _⟩
    · simp only [List.forall_mem_cons]
      exact ⟨hgiven rfl, hgiven rfl, hgiven rfl, hgiven rfl, List.forall_mem_nil _⟩
    · rw [staleMessages, h]
    · rcases h with h | h <;> rw [limitMessages, h]
    · rw [edgeMessages, h]
    · rw [staleMessages, h]
      exact if_neg hr
    · rw [staleMessages, h]
      exact if_pos hr
    · rw [limitMessages, h]
    · rw [edgeMessages, h]
      exact if_neg hr
    · rw [edgeMessages, h]
      exact if_pos hr
  · exact ⟨running_seeing_setRecord _ _ _ _ _, running_seeing_setRecord _ _ _ _ _,
      running_seeing_setRecord _ _ _ _ _, running_seeing_setRecord _ _ _ _ _,
      running_seeing_setRecord _ _ _ _ _, running_seeing_setRecord _ _ _ _ _,
      running_seeing_setRecord _ _ _ _ _, running_seeing_setRecord _ _ _ _ _,
      running_seeing_setRecord _ _ _ _ _, running_seeing_setRecord _ _ _ _ _,
      running_seeing_setRecord _ _ _ _ _, running_seeing_setRecord _ (countRecord n x.quality) _ _ _,
      running_seeing_setRecord _ _ _ _ _, running_seeing_setRecord _ _ _ _ _⟩

end Sys2Proof.Machine
end

section
/-! Updates that the ring operations do not see, and the storage banks' sessions, claims and releases (R37 to
R46). O24, O25 and O26 follow. -/

namespace Sys2Proof.Machine

open Sys2Proof

/-! ### Updates that the ring operations do not see

The order in which such an update and a ring operation are done makes no difference: each proof below states
its result with the updates outermost. -/

/-- An update that leaves alone what the ring operations read, and does not read the ring interface. -/
structure Plain (g : State → State) : Prop where
  same : ∀ s, (g s).SameRing s
  withRif : ∀ s x, g { s with rif := x } = { g s with rif := x }

section Plain

variable {g : State → State}

theorem plain_post (m : Instr) : Plain (post m) := ⟨fun _ => ⟨rfl, rfl, rfl⟩, fun _ _ => rfl⟩
theorem plain_postAll (ms : List Instr) : Plain (postAll ms) := ⟨fun _ => ⟨rfl, rfl, rfl⟩, fun _ _ => rfl⟩
theorem plain_updBank (b : Bank) (f : BankRec → BankRec) : Plain (updBank b f) :=
  ⟨fun _ => ⟨rfl, rfl, rfl⟩, fun _ _ => rfl⟩
theorem plain_updCtx (p : Pos) (f : Ctx → Ctx) : Plain (updCtx p f) :=
  ⟨fun _ => ⟨rfl, rfl, rfl⟩, fun _ _ => rfl⟩
theorem plain_updCmp (f : Cmp → Cmp) : Plain (updCmp f) := ⟨fun _ => ⟨rfl, rfl, rfl⟩, fun _ _ => rfl⟩
theorem plain_updPcl (f : Pcl → Pcl) : Plain (updPcl f) := ⟨fun _ => ⟨rfl, rfl, rfl⟩, fun _ _ => rfl⟩

theorem Plain.comm (hg : Plain g) {ring : State → State}
    (honly : ∀ s, ring s = { s with rif := (ring s).rif })
    (hcongr : ∀ {s t : State}, s.SameRing t → (ring s).SameRing (ring t)) (s : State) :
    ring (g s) = g (ring s) :=
  calc ring (g s) = { g s with rif := (ring (g s)).rif } := honly _
    _ = { g s with rif := (ring s).rif } := by rw [(hcongr (hg.same s)).rif]
    _ = g { s with rif := (ring s).rif } := (hg.withRif s _).symm
    _ = g (ring s) := congrArg g (honly s).symm

theorem Plain.actuate (hg : Plain g) (r : Role) (c : ActCommand) (v : Nat) (s : State) :
    actuate r c v (g s) = g (actuate r c v s) :=
  hg.comm (actuate_onlyRif r c v) (fun h => actuate_congr h r c v) s

theorem Plain.close (hg : Plain g) (r : Role) (s : State) : close r (g s) = g (close r s) :=
  hg.actuate r .close 0 s

theorem Plain.openFull (hg : Plain g) (r : Role) (s : State) : openFull r (g s) = g (openFull r s) :=
  hg.actuate r .open 1000 s

theorem Plain.notice (hg : Plain g) (k : NoticeKind) (n : Nat) (bs : List Byte) (s : State) :
    notice k n bs (g s) = g (notice k n bs s) :=
  hg.comm (notice_onlyRif k n bs) (fun h => notice_congr h k n bs) s

theorem Plain.reply (hg : Plain g) (rq : Req) (c : Nat) (st : Status) (bs : List Byte) (s : State) :
    reply rq c st bs (g s) = g (reply rq c st bs s) :=
  hg.comm (reply_onlyRif rq c st bs) (fun h => reply_congr h rq c st bs) s

end Plain

@[simp] theorem close_post (r : Role) (m : Instr) (s : State) : close r (post m s) = post m (close r s) :=
  (plain_post m).close r s

@[simp] theorem close_postAll (r : Role) (ms : List Instr) (s : State) :
    close r (postAll ms s) = postAll ms (close r s) := (plain_postAll ms).close r s

@[simp] theorem close_updBank (r : Role) (b : Bank) (f : BankRec → BankRec) (s : State) :
    close r (updBank b f s) = updBank b f (close r s) := (plain_updBank b f).close r s

@[simp] theorem close_updCtx (r : Role) (p : Pos) (f : Ctx → Ctx) (s : State) :
    close r (updCtx p f s) = updCtx p f (close r s) := (plain_updCtx p f).close r s

@[simp] theorem close_updCmp (r : Role) (f : Cmp → Cmp) (s : State) :
    close r (updCmp f s) = updCmp f (close r s) := (plain_updCmp f).close r s

@[simp] theorem notice_post (k : NoticeKind) (n : Nat) (bs : List Byte) (m : Instr) (s : State) :
    notice k n bs (post m s) = post m (notice k n bs s) := (plain_post m).notice k n bs s

@[simp] theorem notice_postAll (k : NoticeKind) (n : Nat) (bs : List Byte) (ms : List Instr) (s : State) :
    notice k n bs (postAll ms s) = postAll ms (notice k n bs s) := (plain_postAll ms).notice k n bs s

@[simp] theorem notice_updBank (k : NoticeKind) (n : Nat) (bs : List Byte) (b : Bank) (f : BankRec → BankRec)
    (s : State) : notice k n bs (updBank b f s) = updBank b f (notice k n bs s) :=
  (plain_updBank b f).notice k n bs s

@[simp] theorem notice_updCmp (k : NoticeKind) (n : Nat) (bs : List Byte) (f : Cmp → Cmp) (s : State) :
    notice k n bs (updCmp f s) = updCmp f (notice k n bs s) := (plain_updCmp f).notice k n bs s

@[simp] theorem actuate_updCmp (r : Role) (c : ActCommand) (v : Nat) (f : Cmp → Cmp) (s : State) :
    actuate r c v (updCmp f s) = updCmp f (actuate r c v s) := (plain_updCmp f).actuate r c v s

theorem updBank_updBank (b : Bank) (f g : BankRec → BankRec) (s : State) :
    updBank b f (updBank b g s) = updBank b (fun r => f (g r)) s := by
  cases b <;> rfl

theorem updBank_postAll (b : Bank) (f : BankRec → BankRec) (ms : List Instr) (s : State) :
    updBank b f (postAll ms s) = postAll ms (updBank b f s) := rfl

theorem post_eq_postAll (m : Instr) (s : State) : post m s = postAll [m] s := rfl

@[simp] theorem close_bank (r : Role) (s : State) (b : Bank) : (close r s).bank b = s.bank b := by
  simp [State.bank]

@[simp] theorem notice_bank (k : NoticeKind) (n : Nat) (bs : List Byte) (s : State) (b : Bank) :
    (notice k n bs s).bank b = s.bank b := by simp [State.bank]

@[simp] theorem post_bank (m : Instr) (s : State) (b : Bank) : (post m s).bank b = s.bank b := rfl

@[simp] theorem postAll_bank (ms : List Instr) (s : State) (b : Bank) : (postAll ms s).bank b = s.bank b := rfl

/-! ### The close of a session (R45, R46) -/

section Sessions

variable {s : State} {b : Bank} {p : Pos} {x : Session}

theorem drawOutcome_unchecked {st : StationRow} {inv : Nat} {valid : Bool}
    (h : x.openValid = false ∨ valid = false) : drawOutcome st x inv valid = (.unchecked, none) := by
  rcases h with h | h <;> simp [drawOutcome, h]

theorem drawOutcome_balanced {st : StationRow} {inv : Nat} (ho : x.openValid = true)
    (hlo : -(tolerance st x : Int) ≤ discrepancy x inv) (hhi : discrepancy x inv ≤ tolerance st x)
    (htrip : discrepancy x inv ≤ st.mbTrip) :
    drawOutcome st x inv true = (.balanced, some (discrepancy x inv, tolerance st x)) := by
  have hin : (discrepancy x inv).natAbs ≤ tolerance st x := by omega
  simp [drawOutcome, ho, judgeBalance, hin, htrip]

theorem drawOutcome_mismatch {st : StationRow} {inv : Nat} (ho : x.openValid = true)
    (h : (discrepancy x inv < -(tolerance st x : Int) ∨ (tolerance st x : Int) < discrepancy x inv)
      ∨ (st.mbTrip : Int) < discrepancy x inv) :
    drawOutcome st x inv true = (.mismatch, some (discrepancy x inv, tolerance st x)) := by
  have hout : ¬((discrepancy x inv).natAbs ≤ tolerance st x ∧ discrepancy x inv ≤ st.mbTrip) := by omega
  simp only [drawOutcome, ho, Bool.and_self, if_true, judgeBalance, if_neg hout]

/-- R45: the record of a bank whose DRAW session has closed. -/
def drawClosed (b : Bank) (p : Pos) (o : DrawOutcome) (fig : Option (Int × Nat)) (s : State) : State :=
  updBank b (fun r => { r with session := none, last := some (.draw p o fig) }) s

theorem closeSession_none (hs : (s.bank b).session = none) : closeSession b s = s := by
  rw [closeSession, hs]

theorem closeSession_draw (hs : (s.bank b).session = some x) (hx : x.holder = .pos p) :
    closeSession b s = closeDraw b p x s := by
  rw [closeSession, hs]
  simp only [hx]

theorem closeSession_unchecked (hs : (s.bank b).session = some x) (hx : x.holder = .pos p)
    (h : x.openValid = false ∨ (s.bank b).invValid = false) :
    closeSession b s = post (.sessionOutcome p b .unchecked) (drawClosed b p .unchecked none s) := by
  rw [closeSession_draw hs hx, closeDraw, drawOutcome_unchecked h]
  rfl

theorem closeSession_balanced (hs : (s.bank b).session = some x) (hx : x.holder = .pos p)
    (ho : x.openValid = true) (hv : (s.bank b).invValid = true)
    (hlo : -(tolerance s.stationRow x : Int) ≤ discrepancy x (s.bank b).inventory)
    (hhi : discrepancy x (s.bank b).inventory ≤ tolerance s.stationRow x)
    (htrip : discrepancy x (s.bank b).inventory ≤ s.stationRow.mbTrip) :
    closeSession b s = post (.sessionOutcome p b .balanced) (drawClosed b p .balanced
      (some (discrepancy x (s.bank b).inventory, tolerance s.stationRow x)) s) := by
  rw [closeSession_draw hs hx, closeDraw, hv, drawOutcome_balanced ho hlo hhi htrip]
  rfl

/-- R46: a DRAW session that closes MISMATCH, with its notice. -/
def mismatchTold (b : Bank) (p : Pos) (x : Session) (s : State) : State :=
  let inv := (s.bank b).inventory
  notice .massMismatch b.num
    (mismatchData p x inv (discrepancy x inv) (tolerance s.stationRow x))
    (drawClosed b p .mismatch (some (discrepancy x inv, tolerance s.stationRow x)) s)

theorem closeSession_mismatch (hs : (s.bank b).session = some x) (hx : x.holder = .pos p)
    (ho : x.openValid = true) (hv : (s.bank b).invValid = true)
    (hout : discrepancy x (s.bank b).inventory < -(tolerance s.stationRow x : Int)
      ∨ (tolerance s.stationRow x : Int) < discrepancy x (s.bank b).inventory)
    (htrip : discrepancy x (s.bank b).inventory ≤ s.stationRow.mbTrip) :
    closeSession b s = post (.sessionOutcome p b .mismatch) (mismatchTold b p x s) := by
  rw [closeSession_draw hs hx, closeDraw, hv, drawOutcome_mismatch ho (.inl hout)]
  simp only [decide_eq_false (not_lt.mpr htrip), onlyIf_false]
  rfl

theorem closeSession_trip (hs : (s.bank b).session = some x) (hx : x.holder = .pos p)
    (ho : x.openValid = true) (hv : (s.bank b).invValid = true)
    (htrip : (s.stationRow.mbTrip : Int) < discrepancy x (s.bank b).inventory) :
    closeSession b s = post (.sessionOutcome p b .mismatch)
      (post (.tripCause (.massBalance b)) (mismatchTold b p x s)) := by
  rw [closeSession_draw hs hx, closeDraw, hv, drawOutcome_mismatch ho (.inr htrip)]
  simp only [decide_eq_true htrip, onlyIf_true]
  rfl

theorem closeSession_refill (hs : (s.bank b).session = some x) (hx : x.holder = .compressor) :
    closeSession b s = updBank b (fun r => { r with
      session := none
      last := some (.refill (refillGain x (s.bank b).inventory (s.bank b).invValid)) }) s := by
  rw [closeSession, hs]
  simp only [hx]

end Sessions

/-! ### Grants and wait lists (R37 to R40) -/

section Lists

variable {s : State} {b : Bank} {p : Pos}

theorem leaveBankLists_bank (p : Pos) (s : State) (b : Bank) : (leaveBankLists p s).bank b =
    { s.bank b with waiters := (s.bank b).waiters.filter (fun q => q != p) } := by cases b <;> rfl

theorem grantBank_eq (b : Bank) (p : Pos) (s : State) : grantBank b p s =
    updBank b (fun r => { r with
      state := .claimedPos p
      session := some ⟨.pos p, (s.bank b).inventory, (s.bank b).invValid, 0, s.ret.clock⟩ })
      (leaveBankLists p s) := by
  rw [grantBank]
  unfold openSession
  rw [leaveBankLists_bank]
  rfl

theorem passBank_empty (h : (s.bank b).waiters = []) : passBank b s =
    postAll [.filBankAnnouncement b, .cmpBankAnnouncement b]
      (updBank b (fun r => { r with state := .available }) s) := by
  rw [passBank, h]
  rfl

theorem passBank_waiting {q : Pos} {qs : List Pos} (h : (s.bank b).waiters = q :: qs) :
    passBank b s = post (.filGranted q (.bank b)) (grantBank b q s) := by
  rw [passBank, h]

theorem joinList_new (h : (s.bank b).waiters.contains p = false) : joinList b p s =
    updBank b (fun r => { r with waiters := r.waiters ++ [p] }) (leaveBankLists p s) := by
  rw [joinList, h]
  rfl

theorem joinList_listed (h : (s.bank b).waiters.contains p = true) : joinList b p s = s := if_pos h

end Lists

/-! ### Claims (R38, R43) -/

section Claims

variable {s : State} {b : Bank} {p : Pos}

theorem claimBank_latched (h : s.latched = true) : claimBank p b s = (.refused, s) := if_pos h

theorem claimBank_holding {c : Bank} (h : s.heldBank p = some c) (hne : c ≠ b) :
    claimBank p b s = (.refused, s) := by
  cases hl : s.latched <;> simp [claimBank, hl, h, hne]

theorem claimBank_shut (h : (s.bank b).state = .isolated ∨ (s.bank b).state = .unconfigured
    ∨ (s.bank b).state = .claimedPos p) : claimBank p b s = (.refused, s) := by
  unfold claimBank
  split
  · rfl
  · split
    · rfl
    · rcases h with h | h | h <;> simp [h]

theorem claimBank_free (hl : s.latched = false) (hh : s.heldBank p = none)
    (h : (s.bank b).state = .available) : claimBank p b s = (.granted, grantBank b p s) := by
  simp [claimBank, hl, hh, h]

theorem claimBank_refilling (hl : s.latched = false) (hh : s.heldBank p = none)
    (h : (s.bank b).state = .claimedCmp) : claimBank p b s = (.granted, grantBank b p (yieldBank b s)) := by
  simp [claimBank, hl, hh, h]

theorem claimBank_held {q : Pos} (hl : s.latched = false) (hh : s.heldBank p = none)
    (h : (s.bank b).state = .claimedPos q) (hq : q ≠ p) :
    claimBank p b s = (.waiting, joinList b p s) := by
  simp [claimBank, hl, hh, h, hq]

theorem claimForCompressor_free (h : (s.bank b).state = .available) (hl : s.latched = false) :
    claimForCompressor b s = (.granted, updBank b (fun r =>
      { r with
        state := .claimedCmp
        session := some ⟨.compressor, r.inventory, r.invValid, 0, s.ret.clock⟩ }) s) := by
  simp only [claimForCompressor, h, hl, Bool.not_false, and_self, if_true]
  rfl

theorem claimForCompressor_refused (h : (s.bank b).state ≠ .available ∨ s.latched = true) :
    claimForCompressor b s = (.refused, s) := by
  rcases h with h | h <;> simp [claimForCompressor, h]

end Claims

/-- Settles O25: the two answers of a claim by the compressor. -/
theorem compressorClaim : Obligations.CompressorClaim := by
  intro b s hreset
  refine ⟨fun h hl => ?_, fun h => ?_⟩
  · rw [claimForCompressor_free h hl]
    exact ⟨rfl, running_of_eq (f := fun t => (claimForCompressor b t).2) hreset (congrArg Prod.snd (claimForCompressor_free h hl))⟩
  · rw [claimForCompressor_refused h]
    exact ⟨rfl, running_of_eq (f := fun t => (claimForCompressor b t).2) hreset (congrArg Prod.snd (claimForCompressor_refused h))⟩

/-! ### O24 -/

theorem positionClaim_granted {p : Pos} {b : Bank} {s t : State} (h : claimBank p b s = (.granted, t)) :
    positionClaim p b s = post (.filGranted p (.bank b)) t := by
  rw [positionClaim, h]

theorem positionClaim_waiting {p : Pos} {b : Bank} {s t : State} (h : claimBank p b s = (.waiting, t)) :
    positionClaim p b s = t := by
  rw [positionClaim, h]

theorem positionClaim_refused {p : Pos} {b : Bank} {s t : State} (h : claimBank p b s = (.refused, t)) :
    positionClaim p b s = t := by
  rw [positionClaim, h]

theorem withdrawBank_listed {p : Pos} {s : State} (h : s.onBankList p = true) :
    (withdrawBank p s).2 = leaveBankLists p s := by simp [withdrawBank, h]

theorem withdrawBank_unlisted {p : Pos} {s : State} (h : s.onBankList p = false) :
    (withdrawBank p s).2 = s := by
  simp only [withdrawBank, h, Bool.false_eq_true, if_false]
  split <;> rfl

theorem bankIncrement_joined {p : Pos} {mg : Nat} {b : Bank} {x : Session} {s : State}
    (hs : (s.bank b).session = some x) (hx : x.holder = .pos p) (hfit : x.metered + mg < 2 ^ 32) :
    bankIncrement p mg (.session b) s =
      updBank b (fun r => { r with session := some { x with metered := x.metered + mg } }) s := by
  simp only [bankIncrement, hs, hx, if_true, hold32_of_lt hfit]

theorem bankIncrement_elsewhere {p : Pos} {mg : Nat} {a : Attribution} (h : ∀ b, a ≠ .session b) (s : State) :
    bankIncrement p mg a s = s := by
  cases a with
  | session b => exact absurd rfl (h b)
  | _ => rfl

theorem bankIncrement_foreign {p : Pos} {mg : Nat} {b : Bank} {s : State}
    (h : ∀ x, (s.bank b).session = some x → x.holder ≠ .pos p) :
    bankIncrement p mg (.session b) s = s := by
  cases hs : (s.bank b).session with
  | none => simp only [bankIncrement, hs]
  | some x => simp only [bankIncrement, hs, if_neg (h x hs)]

end Sys2Proof.Machine

namespace Sys2Proof

open Sys2Proof.Machine

/-- Settles O24: a claim by the states of the latch, of the position and of the bank; WITHDRAW; and the
increments of a session. -/
theorem positionClaim : Obligations.PositionClaim := by
  refine ⟨fun p b s hreset => ?_, fun p s hreset => ?_, fun p mg s hreset => ?_⟩
  · intro off draw
    refine ⟨fun hl => running_of_eq hreset (positionClaim_refused (claimBank_latched hl)),
      fun c hc hne => running_of_eq hreset (positionClaim_refused (claimBank_holding hc hne)),
      fun h => running_of_eq hreset (positionClaim_refused (claimBank_shut h)),
      fun hl hh h => running_of_eq hreset ?_, fun y hl hh h hs hy => ?_,
      fun q hl hh h hq hw => running_of_eq hreset ?_, fun q hl hh h hq hw => running_of_eq hreset ?_⟩
    · rw [positionClaim_granted (claimBank_free hl hh h), grantBank_eq]
    · refine ⟨_, running_of_eq hreset (positionClaim_granted (claimBank_refilling hl hh h)), ?_⟩
      rw [grantBank_eq, yieldBank, closeSession_refill hs hy, close_updBank]
      refine ⟨?_, rfl, ?_, ?_, ?_, fun c hc => ?_, ?_, ?_, ?_⟩
      · simp [leaveBankLists]
      · simp
      · simp [draw]
      · simp [leaveBankLists_bank, refillGain]
      · simp [updBank_bank_ne, hc, leaveBankLists_bank, off]
      · simp [leaveBankLists]
      · simp [leaveBankLists]
      · simp [leaveBankLists]
    · rw [positionClaim_waiting (claimBank_held hl hh h hq), joinList_new (Bool.eq_false_iff.mpr hw)]
    · rw [positionClaim_waiting (claimBank_held hl hh h hq), joinList_listed hw]
  · refine ⟨fun h => running_of_eq (f := fun t => (withdrawBank p t).2) hreset (withdrawBank_listed h),
      fun h => running_of_eq (f := fun t => (withdrawBank p t).2) hreset (withdrawBank_unlisted h), fun c => ?_⟩
    simp [leaveBankLists_bank]
  · exact ⟨fun b x hs hx hfit => running_of_eq hreset (bankIncrement_joined hs hx hfit),
      fun a h => running_of_eq hreset (bankIncrement_elsewhere h s),
      fun b hs => running_of_eq hreset (bankIncrement_foreign fun x h => by simp [hs] at h),
      fun b x hs hx => running_of_eq hreset (bankIncrement_foreign fun y h => by
        rw [hs] at h
        exact Option.some.inj h ▸ hx)⟩

end Sys2Proof
end

section
/-! A release of a bank (R41, R42, R44 to R46). O26 follows. -/

namespace Sys2Proof.Machine

open Sys2Proof

theorem releaseBank_foreign {b : Bank} {h : Holder} {s : State} (hh : (s.bank b).state ≠ .ofHolder h) :
    releaseBank b h s = s := if_neg hh

theorem releaseBank_held {b : Bank} {h : Holder} {s : State} (hh : (s.bank b).state = .ofHolder h) :
    releaseBank b h s = passBank b (close (holderValve b h) (closeSession b s)) := if_pos hh

theorem leaveBankLists_eq (p : Pos) (s : State) : leaveBankLists p s =
    { s with bkm := s.bkm.map (fun r => { r with waiters := r.waiters.filter (fun w => w ≠ p) }) } := by
  have hne : (fun w : Pos => w != p) = fun w => decide (w ≠ p) :=
    funext fun w => by by_cases h : w = p <;> simp [h]
  rw [leaveBankLists, hne]

/-- What passing a bank on reads is the same in two states. -/
structure SameFigures (b : Bank) (s t : State) : Prop where
  inventory : (t.bank b).inventory = (s.bank b).inventory
  invValid : (t.bank b).invValid = (s.bank b).invValid
  waiters : (t.bank b).waiters = (s.bank b).waiters
  ret : t.ret = s.ret

section Figures

variable {b : Bank} {s t : State}

theorem SameFigures.post (h : SameFigures b s t) (m : Instr) : SameFigures b s (post m t) :=
  ⟨h.inventory, h.invValid, h.waiters, h.ret⟩

theorem SameFigures.close (h : SameFigures b s t) (r : Role) : SameFigures b s (close r t) :=
  ⟨by simp [h.inventory], by simp [h.invValid], by simp [h.waiters], by simp [h.ret]⟩

theorem SameFigures.notice (h : SameFigures b s t) (k : NoticeKind) (n : Nat) (bs : List Byte) :
    SameFigures b s (notice k n bs t) :=
  ⟨by simp [h.inventory], by simp [h.invValid], by simp [h.waiters], by simp [h.ret]⟩

theorem drawClosed_figures (b : Bank) (p : Pos) (o : DrawOutcome) (fig : Option (Int × Nat)) (s : State) :
    SameFigures b s (drawClosed b p o fig s) :=
  ⟨by simp [drawClosed], by simp [drawClosed], by simp [drawClosed], rfl⟩

/-- R41: the bank passes on. -/
theorem passBank_eq (hfig : SameFigures b s t) :
    ((s.bank b).waiters = [] → passBank b t = postAll [.filBankAnnouncement b, .cmpBankAnnouncement b]
        (updBank b (fun r => { r with state := .available }) t))
      ∧ ∀ q qs, (s.bank b).waiters = q :: qs → passBank b t = post (.filGranted q (.bank b))
          (updBank b (fun r =>
              { r with
                state := .claimedPos q
                session := some ⟨.pos q, (s.bank b).inventory, (s.bank b).invValid, 0, s.ret.clock⟩ })
            { t with bkm := t.bkm.map (fun r => { r with waiters := r.waiters.filter (fun w => w ≠ q) }) }) := by
  refine ⟨fun h => passBank_empty (hfig.waiters.trans h), fun q qs h => ?_⟩
  have hclock : t.ret.clock = s.ret.clock := congrArg Retained.clock hfig.ret
  rw [passBank_waiting (hfig.waiters.trans h), grantBank_eq, hfig.inventory, hfig.invValid, hclock,
    leaveBankLists_eq]

end Figures

/-- Settles O26: the outcome by the figures and the tolerance, and the next holder by the wait list. -/
theorem bankRelease : Obligations.BankRelease := by
  refine ⟨fun p b s hreset => ⟨fun h hh => running_of_eq hreset (releaseBank_foreign hh), ?_⟩,
    fun b x s hreset hstate hs hx hw => ?_⟩
  · intro x hstate hs hx inv m d tol trip shut passed done told
    have hdone {o : DrawOutcome} {t : State} (hclosed : closeSession b s = post (.sessionOutcome p b o) t)
        (hfig : SameFigures b s t) : exec (.bankRelease b (.pos p)) s = .next (done o t) := by
      refine running_of_eq hreset ?_
      obtain ⟨hempty, hqueue⟩ := passBank_eq ((hfig.post (.sessionOutcome p b o)).close (holderValve b (.pos p)))
      rw [releaseBank_held hstate, hclosed]
      simp only [done, passed]
      split
      next h => exact hempty h
      next q qs h => exact hqueue q qs h
    have hshut (o : DrawOutcome) (fig : Option (Int × Nat)) : SameFigures b s (shut o fig) :=
      drawClosed_figures b p o fig s
    have htold : SameFigures b s told := (hshut _ _).notice _ _ _
    exact ⟨fun h => hdone (closeSession_unchecked hs hx h) (hshut _ _),
      fun ho hv hlo hhi ht => hdone (closeSession_balanced hs hx ho hv hlo hhi ht) (hshut _ _),
      fun ho hv hout ht => hdone (closeSession_mismatch hs hx ho hv hout ht) htold,
      fun ho hv ht => hdone (closeSession_trip hs hx ho hv ht) (htold.post _)⟩
  · intro gain
    refine running_of_eq hreset ?_
    rw [releaseBank_held hstate, closeSession_refill hs hx, passBank_empty (by simp [hw])]
    simp [updBank_updBank, refillGain, gain, holderValve]

end Sys2Proof.Machine
end

section
/-! Isolation of a bank and its return (R47 to R49). O27 follows. -/

namespace Sys2Proof.Machine

open Sys2Proof

theorem updBank_of_eq {b : Bank} {f g : BankRec → BankRec} {s : State} (h : f (s.bank b) = g (s.bank b)) :
    updBank b f s = updBank b g s := by
  rw [updBank, h]
  rfl

theorem updBank_self {b : Bank} {f : BankRec → BankRec} {s : State} (h : f (s.bank b) = s.bank b) :
    updBank b f s = s := by
  rw [updBank, h]
  cases b <;> rfl

/-! ### Isolation (R47) -/

/-- R47: the valves of a bank are commanded closed and the isolation is noticed. -/
def isolationSent (b : Bank) (c : IsoCause) (s : State) : State :=
  notice .bankIsolated b.num (u1 c.num ++ u2 (s.value (.bankPressure b)).toNat)
    (close (.bankValve b .compressor) (close (.bankValve b (.pos .p4))
      (close (.bankValve b (.pos .p3)) (close (.bankValve b (.pos .p2))
        (close (.bankValve b (.pos .p1)) s)))))

section Isolate

variable {s : State} {b : Bank} {c : IsoCause}

theorem tellLost_pos {p : Pos} {k : LostCause} (h : (s.bank b).state = .claimedPos p) :
    tellLost b k s = postAll [.filLost p (.bank b) k] s := by
  rw [tellLost, h]
  rfl

theorem tellLost_compressor {k : LostCause} (h : (s.bank b).state = .claimedCmp) :
    tellLost b k s = postAll [.cmpBankLost ⟨b, k⟩] s := by
  rw [tellLost, h]
  rfl

theorem tellLost_free {k : LostCause} (h : (s.bank b).state = .available) : tellLost b k s = postAll [] s := by
  rw [tellLost, h, postAll_nil]

theorem isolateBank_isolated (h : (s.bank b).state = .isolated) : isolateBank b c s = s := if_pos (.inl h)

theorem isolateBank_unconfigured (h : (s.bank b).state = .unconfigured) : isolateBank b c s = s :=
  if_pos (.inr h)

/-- R47: the isolation of a bank whose session closes with `ms` told and `l` kept, and whose holder is told
`lost`. -/
theorem isolateBank_eq {ms lost : List Instr} {l : Option LastSession}
    (hstate : ¬((s.bank b).state = .isolated ∨ (s.bank b).state = .unconfigured))
    (hclosed : closeSession b s = postAll ms (updBank b (fun r => { r with session := none, last := l }) s))
    (hlost : ∀ u : State, (u.bank b).state = (s.bank b).state → tellLost b (.isolated c) u = postAll lost u) :
    isolateBank b c s =
      postAll (ms ++ lost ++ (s.bank b).waiters.map (fun p => .waitCancelled p (.bank b)))
        (updBank b (fun r => { r with
            state := .isolated, cause := some c, waiters := [], session := none, last := l })
          (isolationSent b c s)) := by
  rw [isolateBank, if_neg hstate, hclosed, hlost _ (by simp)]
  simp [cancelWaiters, bankValves, updBank_postAll, updBank_updBank, postAll_append, isolationSent]

/-- R47: what the isolation leaves. -/
structure Isolates (b : Bank) (c : IsoCause) (told : List Instr) (l : Option LastSession) (s t : State) : Prop where
  mail : t.mail = s.mail ++ told ++ (s.bank b).waiters.map (fun p => .waitCancelled p (.bank b))
  bank : t.bank b = { s.bank b with
    state := .isolated, cause := some c, waiters := [], session := none, last := l }
  others : ∀ d, d ≠ b → t.bank d = s.bank d
  ret : t.ret = s.ret
  fil : t.fil = s.fil
  sig : t.sig = s.sig
  rif : t.rif = (isolationSent b c s).rif

@[simp] theorem isolationSent_bkm (b : Bank) (c : IsoCause) (s : State) :
    (isolationSent b c s).bkm = s.bkm := by simp [isolationSent]
@[simp] theorem isolationSent_bank (b d : Bank) (c : IsoCause) (s : State) :
    (isolationSent b c s).bank d = s.bank d := by simp [State.bank]
@[simp] theorem isolationSent_mail (b : Bank) (c : IsoCause) (s : State) :
    (isolationSent b c s).mail = s.mail := by simp [isolationSent]
@[simp] theorem isolationSent_ret (b : Bank) (c : IsoCause) (s : State) :
    (isolationSent b c s).ret = s.ret := by simp [isolationSent]
@[simp] theorem isolationSent_fil (b : Bank) (c : IsoCause) (s : State) :
    (isolationSent b c s).fil = s.fil := by simp [isolationSent]
@[simp] theorem isolationSent_sig (b : Bank) (c : IsoCause) (s : State) :
    (isolationSent b c s).sig = s.sig := by simp [isolationSent]

theorem isolates {ms lost : List Instr} {l : Option LastSession}
    (hstate : ¬((s.bank b).state = .isolated ∨ (s.bank b).state = .unconfigured))
    (hclosed : closeSession b s = postAll ms (updBank b (fun r => { r with session := none, last := l }) s))
    (hlost : ∀ u : State, (u.bank b).state = (s.bank b).state → tellLost b (.isolated c) u = postAll lost u) :
    Isolates b c (ms ++ lost) l s (isolateBank b c s) := by
  rw [isolateBank_eq hstate hclosed hlost]
  exact ⟨by simp, by simp, fun d hd => by simp [updBank_bank_ne _ _ hd], by simp, by simp, by simp, by simp⟩

theorem isolates_pos {p : Pos} {m : Instr} {l : Option LastSession} (hstate : (s.bank b).state = .claimedPos p)
    (hclosed : closeSession b s = post m (updBank b (fun r => { r with session := none, last := l }) s)) :
    Isolates b c [m, .filLost p (.bank b) (.isolated c)] l s (isolateBank b c s) :=
  isolates (ms := [m]) (by simp [hstate]) hclosed fun _ hu => tellLost_pos (hu.trans hstate)

theorem isolates_compressor {x : Session} (hstate : (s.bank b).state = .claimedCmp)
    (hs : (s.bank b).session = some x) (hx : x.holder = .compressor) :
    Isolates b c [.cmpBankLost ⟨b, .isolated c⟩]
      (some (.refill (refillGain x (s.bank b).inventory (s.bank b).invValid))) s (isolateBank b c s) :=
  isolates (ms := []) (by simp [hstate]) ((closeSession_refill hs hx).trans (postAll_nil _).symm)
    fun _ hu => tellLost_compressor (hu.trans hstate)

theorem closeSession_free (hs : (s.bank b).session = none) : closeSession b s =
    postAll [] (updBank b (fun r => { r with session := none, last := (s.bank b).last }) s) := by
  rw [closeSession_none hs, postAll_nil, updBank_self]
  rw [← hs]

theorem isolates_free (hstate : (s.bank b).state = .available) (hs : (s.bank b).session = none) :
    Isolates b c [] (s.bank b).last s (isolateBank b c s) :=
  isolates (ms := []) (by simp [hstate]) (closeSession_free hs) fun _ hu => tellLost_free (hu.trans hstate)

theorem isolateBank_free (hstate : (s.bank b).state = .available) (hw : (s.bank b).waiters = [])
    (hs : (s.bank b).session = none) : isolateBank b c s =
      updBank b (fun r => { r with state := .isolated, cause := some c }) (isolationSent b c s) := by
  rw [isolateBank_eq (by simp [hstate]) (closeSession_free hs) fun _ hu => tellLost_free (hu.trans hstate), hw]
  refine (postAll_nil _).trans (updBank_of_eq ?_)
  rw [isolationSent_bank, ← hw, ← hs]

end Isolate

/-! ### The pressure that isolates (R26, R48) -/

theorem evalInventory_eq (b : Bank) (s : State) :
    let both := s.usable (.bankPressure b) && s.usable (.bankTemp b)
    evalInventory b s = updBank b (fun r => { r with
      inventory := if both then bankInventory b s else r.inventory, invValid := both }) s := by
  intro both
  unfold evalInventory
  cases h : both <;> simp only [both] at h <;> simp [h]

@[simp] theorem withRecord_value_same (r : Role) (x : SigRec) (s : State) :
    (withRecord r x s).value r = x.value := by simp [State.value]

@[simp] theorem withRecord_quality_same (r : Role) (x : SigRec) (s : State) :
    (withRecord r x s).quality r = x.quality := by simp [State.quality]

@[simp] theorem withRecord_usable_same (r : Role) (x : SigRec) (s : State) :
    (withRecord r x s).usable r = x.quality.usable := by simp [State.usable]

theorem withRecord_value_ne {r q : Role} (x : SigRec) (s : State) (h : q ≠ r) :
    (withRecord r x s).value q = s.value q := congrArg SigRec.value (withRecord_record_ne x s h)

theorem withRecord_usable_ne {r q : Role} (x : SigRec) (s : State) (h : q ≠ r) :
    (withRecord r x s).usable q = s.usable q :=
  congrArg (fun y => y.quality.usable) (withRecord_record_ne x s h)

theorem bankSignalValue_over {s : State} {b : Bank} (hconf : (s.bank b).state ≠ .unconfigured)
    (hus : s.usable (.bankPressure b) = true) (hover : ((s.bankRow b).rated : Int) < s.value (.bankPressure b)) :
    bankSignalValue b .pressure s = isolateBank b .overpressure (evalInventory b s) := by
  rw [bankSignalValue, if_neg hconf]
  refine if_pos ?_
  rw [evalInventory_eq]
  exact ⟨hus, hover⟩

theorem seeing_of_eq {r : Role} {x : SigRec} {f : State → State} {s t : State}
    (h : f (withRecord r x s) = t) : seeing r x f s = { t with sig := s.sig } := by
  rw [seeing, h]

/-- R26: a usable pressure taken by BKM, as the bank's events find it. -/
def pressureTaken (b : Bank) (x : SigRec) (s : State) : State :=
  let read := s.usable (.bankTemp b)
  updBank b (fun r => { r with
      inventory := if read then density s.bkmBq x.value (s.value (.bankTemp b)) * (s.bankRow b).volume / 1000
        else (s.bank b).inventory
      invValid := read }) (withRecord (.bankPressure b) x s)

theorem evalInventory_delivered {b : Bank} {x : SigRec} {s : State} (hus : x.quality.usable = true) :
    evalInventory b (withRecord (.bankPressure b) x s) = pressureTaken b x s := by
  have htemp := withRecord_usable_ne (r := .bankPressure b) (q := .bankTemp b) x s (by simp)
  have hval := withRecord_value_ne (r := .bankPressure b) (q := .bankTemp b) x s (by simp)
  rw [evalInventory_eq, htemp, withRecord_usable_same, hus, bankInventory, hval, withRecord_value_same]
  exact updBank_of_eq rfl

theorem isolationSent_pressure (b : Bank) (x : SigRec) (s : State) :
    (isolationSent b .overpressure (pressureTaken b x s)).rif =
      (notice .bankIsolated b.num (u1 IsoCause.overpressure.num ++ u2 x.value.toNat)
        (close (.bankValve b .compressor) (close (.bankValve b (.pos .p4))
          (close (.bankValve b (.pos .p3)) (close (.bankValve b (.pos .p2))
            (close (.bankValve b (.pos .p1)) s)))))).rif := by
  have hval : (pressureTaken b x s).value (.bankPressure b) = x.value := withRecord_value_same _ x s
  have hsame : (pressureTaken b x s).SameRing s := ⟨rfl, rfl, rfl⟩
  rw [isolationSent, hval]
  exact (notice_congr (close_congr (close_congr (close_congr (close_congr (close_congr hsame _) _) _) _) _)
    _ _ _).rif

theorem bankReturnOk_iff (s : State) (b : Bank) : s.bankReturnOk b = true ↔
    (s.bank b).state = .isolated ∧ s.quality (.bankPressure b) = .good
      ∧ s.quality (.bankTemp b) = .good ∧ s.value (.bankPressure b) ≤ (s.bankRow b).rated := by
  simp [State.bankReturnOk, and_assoc]

theorem Bank.ofNum_none {n : Nat} (h : n = 0 ∨ 5 ≤ n) : Bank.ofNum n = none := by
  rcases h with rfl | h
  · rfl
  · match n, h with
    | _ + 5, _ => rfl

/-- Settles O27: isolation by the holder and by the close of its session, by the pressure, and the return. -/
theorem bankIsolation : Obligations.BankIsolation := by
  refine ⟨fun b rq s hreset => ?_, fun b x s hreset hs => ?_, fun b x s hreset hus hover => ?_,
    fun b rq s hreset => ?_⟩
  · intro shut out
    have hfree {c : IsoCause} (h : (s.bank b).state = .available) (hw : (s.bank b).waiters = [])
        (hs : (s.bank b).session = none) : isolateBank b c s = out c := by
      rw [isolateBank_free h hw hs, isolationSent, ← notice_updBank]
    have hrequest {t : State} (hconf : (s.bank b).state ≠ .unconfigured) (h : isolateBank b .request s = t) :
        exec (.bankIsolate rq b.num) s = .next (reply rq 32 .ok [] t) := by
      refine running_of_eq hreset ?_
      unfold bankIsolateRequest
      simp [hconf, h]
    refine ⟨fun h hw hs => ⟨running_of_eq hreset (hfree h hw hs),
        hrequest (by simp [h]) (hfree h hw hs)⟩,
      fun h => ⟨running_of_eq hreset (isolateBank_isolated h), hrequest (by simp [h]) (isolateBank_isolated h)⟩,
      fun h => ⟨running_of_eq hreset (isolateBank_unconfigured h), running_of_eq hreset ?_⟩,
      fun n hn => running_of_eq hreset ?_⟩
    · unfold bankIsolateRequest
      simp [h]
    · unfold bankIsolateRequest
      simp [Bank.ofNum_none hn]
  · intro shut isolated both d tol
    have hiso {told : List Instr} {l : LastSession}
        (h : Isolates b .signal told (some l) s (isolateBank b .signal s)) : isolated told l :=
      ⟨_, running_of_eq hreset rfl, h.mail, h.bank, h.others, h.ret, h.fil, h.sig, h.rif⟩
    refine ⟨fun p hp hx hboth => hiso (isolates_pos hp (closeSession_unchecked hs hx ?_)),
      fun p hp hx hboth hlo hhi ht => hiso (isolates_pos hp ?_), fun hc hx => ?_⟩
    · exact Bool.and_eq_false_iff.mp hboth
    · obtain ⟨ho, hv⟩ : x.openValid = true ∧ (s.bank b).invValid = true := by simpa [both] using hboth
      exact closeSession_balanced hs hx ho hv hlo hhi ht
    · exact hiso (isolates_compressor hc hs hx)
  · intro read inv shut isolated
    let v := pressureTaken b x s
    have hv : v.bank b = { s.bank b with inventory := inv, invValid := read } := by
      simp [v, pressureTaken, State.bank, read, inv]
    have hiso {told : List Instr} {l : Option LastSession} (hconf : (s.bank b).state ≠ .unconfigured)
        (h : Isolates b .overpressure told l v (isolateBank b .overpressure v)) : isolated told l := by
      have hbank := h.bank
      have hmail := h.mail
      have hrif := h.rif
      rw [hv] at hbank hmail
      have ht : bankSignalValue b .pressure (withRecord (.bankPressure b) x s) = isolateBank b .overpressure v := by
        rw [bankSignalValue_over (s := withRecord (.bankPressure b) x s) hconf (by simpa using hus)
          (by rwa [withRecord_value_same]), evalInventory_delivered hus]
      refine ⟨_, running_of_eq hreset (seeing_of_eq (r := .bankPressure b) ht), hmail, hbank, fun c hc => (h.others c hc).trans ?_, rfl, h.ret, hrif.trans ?_⟩
      · exact updBank_bank_ne _ _ hc
      · exact isolationSent_pressure b x s
    refine ⟨fun ha hs => hiso (by simp [ha]) ?_, fun p y hp hs hy hor => hiso (by simp [hp]) ?_,
      fun y hc hs hy => hiso (by simp [hc]) ?_⟩
    · have h := isolates_free (b := b) (c := .overpressure) (s := v) (by simp [hv, ha]) (by simp [hv, hs])
      rwa [hv] at h
    · exact isolates_pos (by simp [hv, hp]) (closeSession_unchecked (by simp [hv, hs]) hy (by simpa [hv] using hor))
    · have h := isolates_compressor (b := b) (c := .overpressure) (s := v) (by simp [hv, hc]) (by simp [hv, hs]) hy
      have hgain : refillGain y inv read
          = if y.openValid = true ∧ read = true then some ((inv : Int) - y.invOpen) else none := by
        simp [refillGain]
      rw [hv] at h
      rwa [← hgain]
  · intro may
    have hmay := bankReturnOk_iff s b
    refine ⟨fun h => running_of_eq hreset ?_, fun h => running_of_eq hreset ?_, fun n hn => running_of_eq hreset ?_⟩
    · unfold bankReturnRequest
      simp [hmay.mpr h, announce]
    · unfold bankReturnRequest
      simp [Bool.eq_false_iff.mpr (hmay.not.mpr h)]
    · unfold bankReturnRequest
      simp [Bank.ofNum_none hn]

end Sys2Proof.Machine
end

section
/-! The inventories at arrivals and changes of B_q (R24 to R28), and the banks at the trip (R51). O28 and O29
follow. -/

namespace Sys2Proof.Machine

open Sys2Proof

/-! ### Inventories -/

section Inventory

variable {s : State} {b : Bank} {g : BankSignal}

theorem evalInventory_usable (h : (s.usable (.bankPressure b) && s.usable (.bankTemp b)) = true) :
    evalInventory b s = updBank b (fun r => { r with inventory := bankInventory b s, invValid := true }) s :=
  if_pos h

theorem evalInventory_unusable (h : (s.usable (.bankPressure b) && s.usable (.bankTemp b)) = false) :
    evalInventory b s = updBank b (fun r => { r with invValid := false }) s :=
  if_neg (Bool.eq_false_iff.mp h)

theorem bankSignalValue_unconfigured (h : (s.bank b).state = .unconfigured) : bankSignalValue b g s = s :=
  if_pos h

theorem bankSignalValue_within (hconf : (s.bank b).state ≠ .unconfigured)
    (h : g = .temp ∨ s.usable (.bankPressure b) = false
      ∨ s.value (.bankPressure b) ≤ ((s.bankRow b).rated : Int)) :
    bankSignalValue b g s = evalInventory b s := by
  rw [bankSignalValue, if_neg hconf]
  cases g with
  | temp => rfl
  | pressure =>
    refine if_neg ?_
    rw [evalInventory_eq]
    rintro ⟨hus, hover⟩
    rcases h with h | h | h
    · simp at h
    · exact absurd hus (Bool.eq_false_iff.mp h)
    · exact absurd hover (not_lt.mpr h)

theorem bankSignalQuality_lost (h : s.quality (g.role b) = .bad ∨ s.quality (g.role b) = .stale) :
    bankSignalQuality b g s = updBank b (fun r => { r with invValid := false }) s := by
  rcases h with h | h <;> rw [bankSignalQuality, h]

theorem bankSignalQuality_absent (h : s.quality (g.role b) = .absent) :
    bankSignalQuality b g s = updBank b (fun r => { r with inventory := 0, invValid := false }) s := by
  rw [bankSignalQuality, h]
  rfl

theorem bankSignalQuality_usable (hconf : (s.bank b).state ≠ .unconfigured)
    (h : s.quality (g.role b) = .good ∨ s.quality (g.role b) = .uncertain) :
    bankSignalQuality b g s = evalInventory b s := by
  rcases h with h | h <;> rw [bankSignalQuality, h] <;> exact if_neg hconf

/-- R24: one bank's part of a change of B_q. -/
def bqTaken (s : State) (b : Bank) (r : BankRec) : BankRec :=
  { r with
    inventory := if r.invValid then bankInventory b s else r.inventory
    session := r.session.map (fun y => { y with openValid := false }) }

theorem bQChangeBank_eq (b : Bank) (s : State) : bQChangeBank b s = updBank b (bqTaken s b) s := by
  rw [bQChangeBank, invalidateOpen]
  cases h : (s.bank b).invValid
  · exact updBank_of_eq (by simp [bqTaken, h])
  · simp only [if_true, updBank_updBank]
    exact updBank_of_eq (by simp [bqTaken, h])

theorem bQChange_eq (s : State) : bQChange s =
    let t : State := { s with bkmBq := s.bq }
    { t with bkm := ⟨bqTaken t .b1 s.bkm.b1, bqTaken t .b2 s.bkm.b2, bqTaken t .b3 s.bkm.b3,
        bqTaken t .b4 s.bkm.b4⟩ } := by
  simp only [bQChange, Bank.all, forEach_cons, forEach_nil, bQChangeBank_eq]
  rfl

end Inventory

/-- Settles O28: evaluated, kept or cleared by the qualities, and B_q taken at every bank. -/
theorem inventoryEvents : Obligations.InventoryEvents := by
  intro b s hreset figure evaluated kept
  refine ⟨fun g x => ?_, _, running_of_eq hreset (bQChange_eq s), ?_, rfl, rfl, rfl, rfl, rfl⟩
  · intro u both
    have hvalue {f : BankRec → BankRec} (h : bankSignalValue b g u = updBank b f u) :
        exec (.bankSignalValue b g x) s = .next (updBank b f s) := running_of_eq hreset (seeing_of_eq h)
    have hquality {f : BankRec → BankRec} (h : bankSignalQuality b g u = updBank b f u) :
        exec (.bankSignalQuality b g x) s = .next (updBank b f s) := running_of_eq hreset (seeing_of_eq h)
    have hwithin (h : g = .temp ∨ x.quality.usable = false ∨ x.value ≤ ((s.bankRow b).rated : Int)) :
        g = .temp ∨ u.usable (.bankPressure b) = false
          ∨ u.value (.bankPressure b) ≤ ((u.bankRow b).rated : Int) := by
      cases g with
      | temp => exact .inl rfl
      | pressure =>
        have hus : u.usable (.bankPressure b) = x.quality.usable := withRecord_usable_same _ x s
        have hval : u.value (.bankPressure b) = x.value := withRecord_value_same _ x s
        rw [hus, hval]
        exact h
    have hrecord : u.quality (g.role b) = x.quality := withRecord_quality_same _ x s
    rw [← hrecord]
    refine ⟨fun hconf hboth h => hvalue ?_, fun hconf hboth h => hvalue ?_, fun h => running_of_eq hreset ?_,
      fun h => hquality (bankSignalQuality_lost h), fun h => hquality (bankSignalQuality_absent h),
      fun hconf h hboth => hquality ?_, fun hconf h hboth => hquality ?_⟩
    · exact (bankSignalValue_within (s := u) hconf (hwithin (h.imp_right .inr))).trans (evalInventory_usable hboth)
    · rw [hrecord] at h
      exact (bankSignalValue_within (s := u) hconf (hwithin h)).trans (evalInventory_unusable hboth)
    · exact (seeing_of_eq (bankSignalValue_unconfigured (s := u) h)).trans rfl
    · exact (bankSignalQuality_usable (s := u) hconf h).trans (evalInventory_usable hboth)
    · exact (bankSignalQuality_usable (s := u) hconf h).trans (evalInventory_unusable hboth)
  · cases b <;> rfl

/-! ### The banks at the trip (R51) -/

/-- What the close of sessions and the LOSTs leave of every bank, with messages sent. -/
structure Unclaims (s t : State) : Prop where
  state : ∀ b, (t.bank b).state = (s.bank b).state
  waiters : ∀ b, (t.bank b).waiters = (s.bank b).waiters
  inventory : ∀ b, (t.bank b).inventory = (s.bank b).inventory
  session : ∀ b, (s.bank b).session = none → (t.bank b).session = none
  mail : ∀ m ∈ s.mail, m ∈ t.mail

theorem Unclaims.refl (s : State) : Unclaims s s :=
  ⟨fun _ => rfl, fun _ => rfl, fun _ => rfl, fun _ h => h, fun _ h => h⟩

theorem Unclaims.trans {s t u : State} (h : Unclaims s t) (k : Unclaims t u) : Unclaims s u :=
  ⟨fun b => (k.state b).trans (h.state b), fun b => (k.waiters b).trans (h.waiters b),
    fun b => (k.inventory b).trans (h.inventory b), fun b hs => k.session b (h.session b hs),
    fun m hm => k.mail m (h.mail m hm)⟩

theorem unclaims_close (b : Bank) (l : Option LastSession) (s : State) :
    Unclaims s (updBank b (fun r => { r with session := none, last := l }) s) := by
  have hother {c : Bank} (h : c ≠ b) := updBank_bank_ne (fun r => { r with session := none, last := l }) s h
  refine ⟨fun c => ?_, fun c => ?_, fun c => ?_, fun c hs => ?_, fun m hm => hm⟩
  all_goals
    by_cases h : c = b
    · subst h
      simp
    · simp [hother h, *]

theorem Unclaims.post {s t : State} (h : Unclaims s t) (m : Instr) : Unclaims s (post m t) :=
  ⟨h.state, h.waiters, h.inventory, h.session, fun k hk => List.mem_append_left _ (h.mail k hk)⟩

theorem Unclaims.notice {s t : State} (h : Unclaims s t) (k : NoticeKind) (n : Nat) (bs : List Byte) :
    Unclaims s (notice k n bs t) :=
  ⟨by simpa using h.state, by simpa using h.waiters, by simpa using h.inventory, by simpa using h.session,
    by simpa using h.mail⟩

theorem closeDraw_unclaims (b : Bank) (p : Pos) (x : Session) (s : State) :
    ∃ l, Unclaims (updBank b (fun r => { r with session := none, last := l }) s) (closeDraw b p x s) := by
  unfold closeDraw
  dsimp only
  generalize drawOutcome s.stationRow x (s.bank b).inventory (s.bank b).invValid = r
  obtain ⟨o, fig⟩ := r
  refine ⟨some (.draw p o fig), ?_⟩
  cases o with
  | balanced => exact (Unclaims.refl _).post _
  | unchecked => exact (Unclaims.refl _).post _
  | mismatch =>
    cases fig with
    | none => exact (Unclaims.refl _).post _
    | some dt =>
      refine Unclaims.post ?_ _
      show Unclaims _ (onlyIf _ _ _)
      cases decide ((s.stationRow.mbTrip : Int) < dt.1)
      · exact (Unclaims.refl _).notice _ _ _
      · exact ((Unclaims.refl _).notice _ _ _).post _

theorem closeSession_unclaims (b : Bank) (s : State) :
    Unclaims s (closeSession b s) ∧ ((closeSession b s).bank b).session = none := by
  cases hs : (s.bank b).session with
  | none =>
    rw [closeSession_none hs]
    exact ⟨.refl s, hs⟩
  | some x =>
    cases hx : x.holder with
    | compressor =>
      rw [closeSession_refill hs hx]
      exact ⟨unclaims_close b _ s, by simp⟩
    | pos p =>
      rw [closeSession_draw hs hx]
      obtain ⟨l, h⟩ := closeDraw_unclaims b p x s
      exact ⟨(unclaims_close b l s).trans h, h.session b (by simp)⟩

theorem tellLost_unclaims (b : Bank) (k : LostCause) (s : State) : Unclaims s (tellLost b k s) := by
  unfold tellLost
  split
  · exact (Unclaims.refl s).post _
  · exact (Unclaims.refl s).post _
  · exact .refl s

theorem tripClaim_unclaims (b : Bank) (s : State) : Unclaims s (tripClaim b s) :=
  (closeSession_unclaims b s).1.trans (tellLost_unclaims b .trip _)

theorem forEach_tripClaim_unclaims : ∀ (bs : List Bank) (s : State), Unclaims s (forEach bs tripClaim s)
  | [], s => .refl s
  | b :: bs, s => (tripClaim_unclaims b s).trans (forEach_tripClaim_unclaims bs _)

/-- R51, step 1: what the claim of one bank comes to. -/
structure Lost (b : Bank) (s t : State) : Prop where
  session : (t.bank b).session = none
  pos : ∀ p, (s.bank b).state = .claimedPos p → .filLost p (.bank b) .trip ∈ t.mail
  compressor : (s.bank b).state = .claimedCmp → .cmpBankLost ⟨b, .trip⟩ ∈ t.mail

theorem tripClaim_lost (b : Bank) (s : State) : Lost b s (tripClaim b s) := by
  obtain ⟨hkept, hsession⟩ := closeSession_unclaims b s
  have hstate := hkept.state b
  refine ⟨(tellLost_unclaims b .trip _).session b hsession, fun p hp => ?_, fun hc => ?_⟩
  · rw [tripClaim, tellLost_pos (hstate.trans hp)]
    simp
  · rw [tripClaim, tellLost_compressor (hstate.trans hc)]
    simp

theorem Lost.later {b : Bank} {s t u : State} (h : Lost b s t) (k : Unclaims t u) : Lost b s u :=
  ⟨k.session b h.session, fun p hp => k.mail _ (h.pos p hp), fun hc => k.mail _ (h.compressor hc)⟩

theorem Lost.earlier {b : Bank} {s t u : State} (h : Unclaims s t) (k : Lost b t u) : Lost b s u :=
  ⟨k.session, fun p hp => k.pos p ((h.state b).trans hp), fun hc => k.compressor ((h.state b).trans hc)⟩

theorem forEach_tripClaim_lost {b : Bank} {bs : List Bank} (s : State) (hb : b ∈ bs) :
    Lost b s (forEach bs tripClaim s) := by
  induction bs generalizing s with
  | nil => simp at hb
  | cons c bs ih =>
    rcases List.mem_cons.mp hb with rfl | hb
    · exact (tripClaim_lost b s).later (forEach_tripClaim_unclaims bs _)
    · exact .earlier (tripClaim_unclaims c s) (ih (tripClaim c s) hb)

theorem forEach_cancelWaiters (s : State) :
    (forEach Bank.all cancelWaiters s).mail = s.mail
        ++ Bank.all.flatMap (fun b => (s.bank b).waiters.map (fun p => .waitCancelled p (.bank b)))
      ∧ ∀ b, (forEach Bank.all cancelWaiters s).bank b = { s.bank b with waiters := [] } := by
  refine ⟨?_, fun b => by cases b <;> rfl⟩
  simp [Bank.all, cancelWaiters, updBank_bank_ne]

theorem forEach_freeBank : ∀ (bs : List Bank) (s : State), (forEach bs freeBank s).mail = s.mail
    ∧ ∀ c, (forEach bs freeBank s).bank c
        = { s.bank c with state := if c ∈ bs then .available else (s.bank c).state }
  | [], s => ⟨rfl, fun c => by simp⟩
  | b :: bs, s => by
    obtain ⟨hmail, hbank⟩ := forEach_freeBank bs (freeBank b s)
    refine ⟨hmail, fun c => ?_⟩
    rw [forEach_cons, hbank c]
    by_cases hc : c = b
    · subst hc
      simp [freeBank]
    · simp [freeBank, updBank_bank_ne _ _ hc, hc]

theorem forEach_announce : ∀ (bs : List Bank) (s : State), forEach bs announce s
    = postAll (bs.flatMap (fun b => [.filBankAnnouncement b, .cmpBankAnnouncement b])) s
  | [], s => (postAll_nil s).symm
  | b :: bs, s => by
    rw [forEach_cons, forEach_announce bs, announce, postAll_append]
    rfl

/-- Settles O29: the claims are lost one by one, then the lists go, and the freed banks are announced. -/
theorem banksAtTrip : Obligations.BanksAtTrip := by
  intro s hreset lost
  have hkept := forEach_tripClaim_unclaims lost s
  obtain ⟨hcmail, hcbank⟩ := forEach_cancelWaiters (forEach lost tripClaim s)
  obtain ⟨hfmail, hfbank⟩ := forEach_freeBank lost (forEach Bank.all cancelWaiters (forEach lost tripClaim s))
  have hmem (b : Bank) : b ∈ lost ↔ (s.bank b).state.claimed = true := by
    simp only [lost, List.mem_filter, and_iff_right_iff_imp]
    intro _
    cases b <;> decide
  refine ⟨_, running_of_eq hreset (forEach_announce lost (forEach lost freeBank
    (forEach Bank.all cancelWaiters (forEach lost tripClaim s)))), ?_, fun b => ?_⟩
  · rw [postAll_mail]
    exact congrArg (· ++ _) (hfmail.trans (hcmail.trans (by simp only [hkept.waiters])))
  · have hbank := hfbank b
    rw [hcbank b] at hbank
    rw [postAll_bank]
    have hlost (h : (s.bank b).state.claimed = true) := forEach_tripClaim_lost s ((hmem b).mpr h)
    refine ⟨by simp [hbank], fun h => ⟨by simp [hbank, (hmem b).mpr h], ?_⟩, fun h => ?_, fun p hp => ?_,
      fun hc => ?_, by simp [hbank, hkept.inventory]⟩
    · simp only [hbank]
      exact (hlost h).session
    · have hnot : b ∉ lost := by simp [hmem, h]
      simp [hbank, hnot, hkept.state]
    · exact (hlost (by rw [hp]; rfl)).pos p hp
    · exact (hlost (by rw [hc]; rfl)).compressor hc

end Sys2Proof.Machine
end

section
/-! Start evaluations of the compressor (R55 to R58). O30 follows. -/

namespace Sys2Proof.Machine

open Sys2Proof

/-! ### Operations that have nothing to do with the signal records -/

/-- An operation that neither reads nor changes the signal records. -/
def Sigless (g : State → State) : Prop := ∀ s x, g { s with sig := x } = { g s with sig := x }

theorem Sigless.sig {g : State → State} (hg : Sigless g) (s : State) : (g s).sig = s.sig := by
  have h : g s = { g s with sig := s.sig } := hg s s.sig
  exact (congrArg State.sig h).trans rfl

theorem Sigless.comp {f g : State → State} (hf : Sigless f) (hg : Sigless g) : Sigless (fun s => f (g s)) :=
  fun s x => (congrArg f (hg s x)).trans (hf (g s) x)

theorem plain_withSig (x : List (Role × SigRec)) : Plain (fun s => { s with sig := x }) :=
  ⟨fun _ => ⟨rfl, rfl, rfl⟩, fun _ _ => rfl⟩

theorem sigless_notice (k : NoticeKind) (n : Nat) (bs : List Byte) : Sigless (notice k n bs) :=
  fun s x => (plain_withSig x).notice k n bs s

theorem sigless_actuate (r : Role) (c : ActCommand) (v : Nat) : Sigless (actuate r c v) :=
  fun s x => (plain_withSig x).actuate r c v s

theorem sigless_close (r : Role) : Sigless (close r) := sigless_actuate r .close 0

theorem sigless_updCmp (f : Cmp → Cmp) : Sigless (updCmp f) := fun _ _ => rfl

theorem sigless_post (m : Instr) : Sigless (post m) := fun _ _ => rfl

theorem sigless_postAll (ms : List Instr) : Sigless (postAll ms) := fun _ _ => rfl

/-- R18: what a block does alike whatever the records are, it does to the state itself. -/
theorem seeing_sigless {r : Role} {x : SigRec} {f g : State → State} {s : State} (hg : Sigless g)
    (h : f (withRecord r x s) = g (withRecord r x s)) : seeing r x f s = g s := by
  have hu : g (withRecord r x s) = { g s with sig := (withRecord r x s).sig } := hg s _
  rw [seeing_of_eq (h.trans hu), ← hg.sig s]

/-! ### Updates of the compressor's context -/

theorem plain_updRet (f : Retained → Retained) : Plain (updRet f) := ⟨fun _ => ⟨rfl, rfl, rfl⟩, fun _ _ => rfl⟩

theorem updCmp_updCmp (f g : Cmp → Cmp) (s : State) : updCmp f (updCmp g s) = updCmp (fun c => f (g c)) s := rfl

theorem updCmp_postAll (f : Cmp → Cmp) (ms : List Instr) (s : State) :
    updCmp f (postAll ms s) = postAll ms (updCmp f s) := rfl

/-- R54: the reports of a change of state. -/
def cmpReports : List Instr := [.descentReport, .compressorStateReport]

theorem cmpGoto_changed {st : CmpState} {s : State} (h : s.cmp.state ≠ st) :
    cmpGoto st s = postAll cmpReports (updCmp (fun c => { c with state := st }) s) := by
  simp only [cmpGoto, onlyIf, bne, beq_eq_false_iff_ne.mpr h]
  rfl

theorem cmpGoto_same {st : CmpState} {s : State} (h : s.cmp.state = st) :
    cmpGoto st s = updCmp (fun c => { c with state := st }) s := by
  simp [cmpGoto, onlyIf, h]

/-! ### A start evaluation -/

theorem Mode.active_iff (m : Mode) : m.active = true ↔ m = .quiet ∨ m = .run := by
  cases m <;> simp [Mode.active]

section Eval

variable {u : State}

theorem noteRefillWant_silent
    (h : u.smc.mode ≠ .parked ∨ u.cmp.refillWant = true ∨ u.refillWanted = false) :
    noteRefillWant u = updCmp (fun c => { c with refillWant := u.refillWanted }) u := by
  have hno : (u.smc.mode == .parked && u.refillWanted && !u.cmp.refillWant) = false := by
    rcases h with h | h | h <;> simp [h]
  simp [noteRefillWant, hno]

theorem noteRefillWant_low (hm : u.smc.mode = .parked) (hw : u.cmp.refillWant = false)
    (hr : u.refillWanted = true) :
    noteRefillWant u = updCmp (fun c => { c with refillWant := u.refillWanted }) (post .bankLow u) := by
  have hyes : (u.smc.mode == .parked && u.refillWanted && !u.cmp.refillWant) = true := by simp [hm, hw, hr]
  simp [noteRefillWant, hyes]

/-- R56: there is a want. -/
def State.wanted (u : State) : Prop := u.cmp.waiters ≠ [] ∨ u.refillWanted = true

/-- R56: the first condition. -/
def State.mayStart (u : State) : Prop :=
  u.cmpRow.fitted = true ∧ (u.smc.mode = .quiet ∨ u.smc.mode = .run) ∧ u.latched = false

theorem startWanted_iff : ((u.directWanted || u.refillWanted) && u.startPermitted) = true
    ↔ u.wanted ∧ u.mayStart := by
  simp [State.directWanted, State.startPermitted, State.wanted, State.mayStart, State.cmpFitted,
    Mode.active_iff, and_assoc]

theorem State.mayStart.not_parked (h : u.mayStart) : u.smc.mode ≠ .parked := by
  rcases h.2.1 with h | h <;> simp [h]

theorem startEval_refused {r : HeldReason} (hw : u.wanted) (hm : u.mayStart) (hr : u.startRefusal = some r) :
    startEval u = holdStart r (updCmp (fun c => { c with refillWant := u.refillWanted }) u) := by
  unfold startEval
  rw [noteRefillWant_silent (.inl hm.not_parked)]
  refine (if_pos (startWanted_iff.mpr ⟨hw, hm⟩)).trans ?_
  show (match u.startRefusal with | none => _ | some r => _) = _
  rw [hr]

theorem startEval_taken (hw : u.wanted) (hm : u.mayStart) (hr : u.startRefusal = none) :
    startEval u = startCompressor (updCmp (fun c => { c with refillWant := u.refillWanted }) u) := by
  unfold startEval
  rw [noteRefillWant_silent (.inl hm.not_parked)]
  refine (if_pos (startWanted_iff.mpr ⟨hw, hm⟩)).trans ?_
  show (match u.startRefusal with | none => _ | some r => _) = _
  rw [hr]

theorem startEval_silent (hno : ¬u.wanted ∨ ¬u.mayStart)
    (h : u.smc.mode ≠ .parked ∨ u.cmp.refillWant = true ∨ u.refillWanted = false) :
    startEval u = updCmp (fun c => { c with refillWant := u.refillWanted, held := none }) u := by
  unfold startEval
  rw [noteRefillWant_silent h]
  refine (if_neg ?_).trans rfl
  exact fun hs => (startWanted_iff.mp hs).elim fun hw hm => hno.elim (· hw) (· hm)

theorem startEval_low (hm : u.smc.mode = .parked) (hw : u.cmp.refillWant = false)
    (hr : u.refillWanted = true) :
    startEval u = updCmp (fun c => { c with refillWant := u.refillWanted, held := none }) (post .bankLow u) := by
  unfold startEval
  rw [noteRefillWant_low hm hw hr]
  refine (if_neg ?_).trans rfl
  exact fun hs => (startWanted_iff.mp hs).2.not_parked hm

/-- R56: the suction pressure stands in the way of a start. -/
def State.supplyFails (u : State) : Prop :=
  u.usable .suctionPressure = false ∨ u.value .suctionPressure < (u.suctionThreshold : Nat)

/-- R56: a signal stands in the way of a start. -/
def State.signalFails (u : State) : Prop :=
  u.usable .dischargeTemp = false ∨ u.cmpRow.dischargeMax < u.value .dischargeTemp
    ∨ u.usable .compressorRunning = false ∨ u.level .compressorRunning = true

theorem suctionOk_iff : u.suctionOk = true ↔ ¬u.supplyFails := by
  simp [State.suctionOk, State.supplyFails]

theorem startSignalsOk_iff : u.startSignalsOk = true ↔ ¬u.signalFails := by
  simp [State.startSignalsOk, State.signalFails, and_assoc]

theorem startRefusal_supply (h : u.supplyFails) : u.startRefusal = some .supply := by
  have hno : u.suctionOk = false := Bool.eq_false_iff.mpr fun hs => suctionOk_iff.mp hs h
  simp [State.startRefusal, hno]

theorem startRefusal_signal (hs : ¬u.supplyFails) (h : u.signalFails) : u.startRefusal = some .signal := by
  have hno : u.startSignalsOk = false := Bool.eq_false_iff.mpr fun hs => startSignalsOk_iff.mp hs h
  simp [State.startRefusal, suctionOk_iff.mpr hs, hno]

theorem startRefusal_limit (hs : ¬u.supplyFails) (hg : ¬u.signalFails)
    (h : u.cmpRow.startsLimit ≤ u.youngStarts) : u.startRefusal = some .startLimit := by
  simp [State.startRefusal, suctionOk_iff.mpr hs, startSignalsOk_iff.mpr hg, h]

theorem startRefusal_none (hs : ¬u.supplyFails) (hg : ¬u.signalFails)
    (h : u.youngStarts < u.cmpRow.startsLimit) : u.startRefusal = none := by
  simp [State.startRefusal, suctionOk_iff.mpr hs, startSignalsOk_iff.mpr hg, h]

theorem wantNum_eq (h : u.wanted) : wantNum u.directWanted u.refillWanted
    = if u.cmp.waiters = [] then 1 else if u.refillWanted then 2 else 0 := by
  rcases h with h | h <;> by_cases hw : u.cmp.waiters = [] <;>
    simp_all [wantNum, State.directWanted]

/-- R57: the held data for a reason, by its optional fields. -/
theorem heldData_eq (h : u.wanted) (r : HeldReason) : u.heldData r =
    u1 r.num ++ u1 (if u.cmp.waiters = [] then 1 else if u.refillWanted then 2 else 0)
      ++ optField 2 (if r = .startLimit then some (u2 u.ageLeft) else none)
      ++ optField 2 (if r = .supply then (u.usableValue .suctionPressure).map (fun v => u2 v.toNat) else none)
      ++ optField 2 (if r = .supply then some (u2 u.suctionThreshold) else none) := by
  rw [State.heldData, wantNum_eq h]

theorem holdStart_noted (want : Bool) (r : HeldReason) :
    (u.cmp.held = none → holdStart r (updCmp (fun c => { c with refillWant := want }) u) =
        updCmp (fun c => { c with refillWant := want, held := some r })
          (notice .compressorHeld 0 (u.heldData r) u))
      ∧ (u.cmp.held ≠ none → holdStart r (updCmp (fun c => { c with refillWant := want }) u) =
        updCmp (fun c => { c with refillWant := want, held := some r }) u) := by
  refine ⟨fun h => ?_, fun h => ?_⟩
  · simp only [holdStart, updCmp_cmp, h, Option.isNone_none, if_true, notice_updCmp, updCmp_updCmp]
    rfl
  · have hno : u.cmp.held.isNone = false := by simpa [Option.isSome_iff_ne_none] using h
    simp only [holdStart, updCmp_cmp, hno, Bool.false_eq_true, if_false, updCmp_updCmp]

/-- R58: the compressor's context once a start is taken. -/
def Cmp.started (c : Cmp) (want : Bool) (now prime : Nat) : Cmp :=
  { c with
    state := .priming, startedAt := some now, primeTimer := some (10 * prime), supplyLow := false
    held := none, refillWant := want }

theorem startCompressor_noted (hs : u.cmp.state = .stopped) (want : Bool) :
    startCompressor (updCmp (fun c => { c with refillWant := want }) u) =
      postAll cmpReports (updCmp (fun c => c.started want u.ret.runSeconds u.cmpRow.primeTime)
        (updRet (fun r => { r with history := r.history.filter (young r.runSeconds) ++ [r.runSeconds] })
          (actuate .compressorDrive .set u.cmpRow.runSpeed u))) := by
  unfold startCompressor ageHistory
  dsimp only
  rw [cmpGoto_changed (by simp [hs])]
  simp only [actuate_updCmp, (plain_updRet _).actuate]
  rfl

end Eval

/-- R58: a start that is taken, as the state it leaves. -/
def started (want : Bool) (s : State) : State :=
  postAll cmpReports (updCmp (fun c => c.started want s.ret.runSeconds s.cmpRow.primeTime)
    (updRet (fun r => { r with history := r.history.filter (young r.runSeconds) ++ [r.runSeconds] })
      (actuate .compressorDrive .set s.cmpRow.runSpeed s)))

theorem sigless_started (want : Bool) : Sigless (started want) := fun s x => by
  unfold started
  exact congrArg (fun t => postAll cmpReports (updCmp _ (updRet _ t))) (sigless_actuate _ _ _ s x)

/-! ### The commands that make a start evaluation -/

/-- In STOPPED the command is a start evaluation that finds the records as in `u`. -/
structure Evaluates (c : Instr) (s u : State) : Prop where
  same : u = { s with sig := u.sig }
  exec : ∀ g : State → State, Sigless g → startEval u = g u → exec c s = .next (g s)

section Commands

variable {s : State} (hreset : s.smc.inReset = false) (hstop : s.cmp.state = .stopped)

include hreset hstop

theorem evaluates_announcement (b : Bank) : Evaluates (.cmpBankAnnouncement b) s s := by
  refine ⟨rfl, fun g _ h => running_of_eq hreset ?_⟩
  rw [cmpAnnouncement, hstop]
  exact h

theorem evaluates_arrival {r : Role} (hr : startsEvaluation r = true) (a : Arrival) :
    Evaluates (.cmpSignalArrival r a) s (withRecord r a.record s) := by
  refine ⟨rfl, fun g hg h => running_of_eq hreset (seeing_sigless hg ?_)⟩
  have hstop' : (withRecord r a.record s).cmp.state = .stopped := hstop
  unfold cmpSignal
  rw [← h, if_pos hstop', hr]
  rfl

end Commands

section Evaluates

variable {c : Instr} {s u : State} (h : Evaluates c s u)

include h

theorem Evaluates.cmp : u.cmp = s.cmp := by
  rw [h.same]

theorem Evaluates.refused {r : HeldReason} {data : List Byte} (hw : u.wanted) (hm : u.mayStart)
    (hr : u.startRefusal = some r) (hdata : u.heldData r = data) :
    (s.cmp.held = none → Machine.exec c s = .next (updCmp (fun k =>
        { k with refillWant := u.refillWanted, held := some r }) (notice .compressorHeld 0 data s)))
      ∧ (s.cmp.held ≠ none → Machine.exec c s = .next (updCmp (fun k =>
        { k with refillWant := u.refillWanted, held := some r }) s)) := by
  subst hdata
  obtain ⟨hnew, hopen⟩ := holdStart_noted (u := u) u.refillWanted r
  rw [h.cmp] at hnew hopen
  refine ⟨fun hh => h.exec _ ((sigless_updCmp _).comp (sigless_notice _ _ _)) ?_,
    fun hh => h.exec _ (sigless_updCmp _) ?_⟩
  · exact (startEval_refused hw hm hr).trans (hnew hh)
  · exact (startEval_refused hw hm hr).trans (hopen hh)

theorem Evaluates.silent (hno : ¬u.wanted ∨ ¬u.mayStart)
    (hs : u.smc.mode ≠ .parked ∨ u.cmp.refillWant = true ∨ u.refillWanted = false) :
    Machine.exec c s = .next (updCmp (fun k => { k with refillWant := u.refillWanted, held := none }) s) :=
  h.exec _ (sigless_updCmp _) (startEval_silent hno hs)

theorem Evaluates.low (hm : u.smc.mode = .parked) (hw : u.cmp.refillWant = false) (hr : u.refillWanted = true) :
    Machine.exec c s = .next (updCmp (fun k => { k with refillWant := u.refillWanted, held := none })
      (post .bankLow s)) :=
  h.exec _ ((sigless_updCmp _).comp (sigless_post _)) (startEval_low hm hw hr)

theorem Evaluates.taken (hstop : s.cmp.state = .stopped) (hw : u.wanted) (hm : u.mayStart)
    (hr : u.startRefusal = none) : Machine.exec c s = .next (started u.refillWanted s) :=
  h.exec _ (sigless_started _) ((startEval_taken hw hm hr).trans
    (startCompressor_noted ((congrArg Cmp.state h.cmp).trans hstop) _))

end Evaluates

theorem refillable_eq (s : State) (b : Bank) (n : Nat) : s.refillable b n =
    decide ((s.bankRow b).configured = true ∧ s.mapped (.bankValve b .compressor) = true
      ∧ (s.bank b).state = .available ∧ (s.bank b).waiters = []
      ∧ s.usable (.bankPressure b) = true ∧ s.value (.bankPressure b) < n) :=
  Bool.eq_iff_iff.mpr (by simp [State.refillable, and_assoc])

/-- Settles O30: an evaluation by the wants, the first condition and the reasons in their order. -/
theorem compressorStart : Obligations.CompressorStart := by
  refine ⟨fun s hreset hstop hfit hmode hl => ?_, fun s hreset hstop => ?_, fun s => ?_⟩
  · intro starts
    have hstarts {c : Instr} {u : State} (h : Evaluates c s u) : starts c u := by
      intro hw hsu hsv hdu hdv hru hrl hlimit
      obtain ⟨hu, -⟩ := id h
      rw [hu] at hw hsu hsv hdu hdv hru hrl
      have hrefusal : u.startRefusal = none := by
        rw [hu]
        refine startRefusal_none ?_ ?_ hlimit
        · rintro (hs | hs)
          · simp [hsu] at hs
          · exact absurd hsv (not_le.mpr hs)
        · rintro (hs | hs | hs | hs)
          · simp [hdu] at hs
          · exact absurd hdv (not_le.mpr hs)
          · simp [hru] at hs
          · simp [hrl] at hs
      have hwanted : u.wanted := by
        rw [hu]
        exact hw
      have hmay : u.mayStart := by
        rw [hu]
        exact ⟨hfit, hmode, hl⟩
      exact ⟨_, h.taken hstop hwanted hmay hrefusal, by simp [started, Cmp.started], by simp [started]; rfl,
        rfl, by simp [started, cmpReports], by simp [started], by simp [started], by simp [started],
        by simp [started], by simp [started]⟩
    exact ⟨fun b => hstarts (evaluates_announcement hreset hstop b),
      fun a => hstarts (evaluates_arrival hreset hstop rfl a),
      fun a => hstarts (evaluates_arrival hreset hstop rfl a),
      fun a => hstarts (evaluates_arrival hreset hstop rfl a),
      fun b a => hstarts (evaluates_arrival hreset hstop rfl a)⟩
  · intro takesNone
    have hnone {c : Instr} {u : State} (h : Evaluates c s u) : takesNone c u := by
      unfold takesNone
      intro seen wants may need supply signal want refused
      have hu := h.same
      have hthreshold : u.suctionThreshold = need := by rw [hu]; rfl
      have hwants : wants ↔ u.wanted := by rw [State.wanted, h.cmp]
      have hmay : may ↔ u.mayStart := by rw [hu]; rfl
      have hsupply : supply ↔ u.supplyFails := by rw [State.supplyFails, hthreshold]
      have hsignal : signal ↔ u.signalFails := by rw [hu]; rfl
      have hrefused {r : HeldReason} {data : List Byte} (hw : wants) (hm : may) (hr : u.startRefusal = some r)
          (hdata : u.heldData r = data) : refused r data := h.refused (hwants.mp hw) (hmay.mp hm) hr hdata
      have hdata (hw : wants) (r : HeldReason) : u.heldData r = u1 r.num ++ u1 want
          ++ optField 2 (if r = .startLimit then some (u2 u.ageLeft) else none)
          ++ optField 2 (if r = .supply then (u.usableValue .suctionPressure).map (fun v => u2 v.toNat) else none)
          ++ optField 2 (if r = .supply then some (u2 need) else none) := by
        rw [heldData_eq (hwants.mp hw), h.cmp, hthreshold]
      refine ⟨fun v hw hm hsu hsv hlt => ?_, fun hw hm hsu => ?_, fun hw hm hs hg => ?_,
        fun e hw hm hs hg hlim he => ?_, fun hno hs => ?_, fun hm hw hr => ?_⟩
      · refine hrefused hw hm (startRefusal_supply (hsupply.mp (.inr ?_))) ((hdata hw .supply).trans ?_)
        · rw [hsv]
          exact Int.ofNat_lt.mpr hlt
        · simp [State.usableValue, hsu, hsv, HeldReason.num]
      · refine hrefused hw hm (startRefusal_supply (hsupply.mp (.inl hsu))) ((hdata hw .supply).trans ?_)
        simp [State.usableValue, hsu, HeldReason.num]
      · exact hrefused hw hm (startRefusal_signal (hsupply.not.mp hs) (hsignal.mp hg)) (hdata hw .signal)
      · have hage : u.ageLeft = e + 3600 - s.ret.runSeconds := by
          have hfound : s.ret.history.find? (young s.ret.runSeconds) = some e := he
          rw [State.ageLeft, show u.ret = s.ret by rw [hu], hfound]
          rfl
        refine hrefused hw hm (startRefusal_limit (hsupply.not.mp hs) (hsignal.not.mp hg) ?_)
          ((hdata hw .startLimit).trans ?_)
        · rw [hu]
          exact hlim
        · rw [hage]
          rfl
      · refine h.silent (hno.imp hwants.not.mp hmay.not.mp) ?_
        rw [h.cmp, show u.smc = s.smc by rw [hu]]
        exact hs
      · refine h.low ?_ ?_ hr
        · rw [hu]
          exact hm
        · rw [h.cmp]
          exact hw
    exact ⟨fun b => hnone (evaluates_announcement hreset hstop b),
      fun a => hnone (evaluates_arrival hreset hstop rfl a),
      fun a => hnone (evaluates_arrival hreset hstop rfl a),
      fun a => hnone (evaluates_arrival hreset hstop rfl a),
      fun b a => hnone (evaluates_arrival hreset hstop rfl a)⟩
  · intro below
    have hbelow (b : Bank) (n : Nat) : s.refillable b n = below b n := refillable_eq s b n
    exact ⟨by simp only [State.refillWanted, hbelow], by simp only [State.refillCandidates, hbelow]⟩

end Sys2Proof.Machine
end

section
/-! The compressor's target choice, the end of a run and the timers (R55, R59 to R62, R64). O31 follows. -/

namespace Sys2Proof.Machine

open Sys2Proof

/-! ### The choice of a target -/

theorem filter_bne_eq {α : Type} [DecidableEq α] (x : α) (l : List α) :
    l.filter (fun y => y != x) = l.filter (fun y => y ≠ x) :=
  List.filter_congr fun y _ => by by_cases h : y = x <;> simp [h]

@[simp] theorem updCmp_bank (f : Cmp → Cmp) (s : State) (b : Bank) : (updCmp f s).bank b = s.bank b := rfl

@[simp] theorem actuate_bank (r : Role) (c : ActCommand) (v : Nat) (s : State) (b : Bank) :
    (actuate r c v s).bank b = s.bank b := by simp [State.bank]

theorem startEval_idle {s : State} (hw : s.cmp.waiters = []) (hr : s.refillWanted = false) :
    startEval s = updCmp (fun k => { k with refillWant := false, held := none }) s := by
  rw [startEval_silent (.inl (by simp [State.wanted, hw, hr])) (.inr (.inr hr)), hr]

section Target

variable {s : State}

theorem nextHolder_none (hw : s.cmp.waiters = []) : s.nextHolder = none := by
  simp [State.nextHolder, hw]

theorem nextHolder_waiting {q : Pos} {qs : List Pos} (hl : s.latched = false) (hw : s.cmp.waiters = q :: qs) :
    s.nextHolder = some q := by
  simp [State.nextHolder, hl, hw]

theorem tellGranted_none (h : s.nextHolder = none) : tellGranted s = s := by
  rw [tellGranted, h]

theorem tellGranted_waiting {q : Pos} (h : s.nextHolder = some q) :
    tellGranted s = post (.filGranted q .compressor) s := by
  rw [tellGranted, h]

/-- R64: the context once the output feeds a position. -/
def Cmp.feeding (c : Cmp) (p : Pos) (clock : Option Nat) : Cmp :=
  { c with
    state := .loaded, holder := some (p, clock), dest := some (.direct p)
    waiters := c.waiters.filter (fun q => q ≠ p) }

theorem grantOutput_eq (p : Pos) (s : State) : grantOutput p s =
    postAll (if s.cmp.state = .loaded then [] else cmpReports)
      (updCmp (fun c => c.feeding p s.ret.clock) s) := by
  unfold grantOutput
  simp only [filter_bne_eq]
  by_cases h : s.cmp.state = .loaded
  · rw [cmpGoto_same (by exact h), if_pos h, postAll_nil]
    rfl
  · rw [cmpGoto_changed (by exact h), if_neg h]
    rfl

/-- R60: the state once the refill of a bank has begun. -/
def refilling (b : Bank) (s : State) : State :=
  postAll cmpReports (updCmp (fun c => { c with state := .loaded, dest := some (.refill b) })
    (updBank b (fun r =>
        { r with
          state := .claimedCmp
          session := some ⟨.compressor, (s.bank b).inventory, (s.bank b).invValid, 0, s.ret.clock⟩ })
      (actuate (.bankValve b .compressor) .open 1000 s)))

theorem sigless_refilling (b : Bank) : Sigless (refilling b) := fun s x =>
  congrArg (fun t => postAll cmpReports (updCmp _ (updBank b _ t))) (sigless_actuate _ _ _ s x)

theorem refillable_available {b : Bank} {n : Nat} (h : s.refillable b n = true) :
    (s.bank b).state = .available := by
  rw [refillable_eq, decide_eq_true_eq] at h
  exact h.2.2.1

theorem mem_refillCandidates_available {b : Bank} (h : b ∈ s.refillCandidates) :
    (s.bank b).state = .available :=
  refillable_available (List.mem_filter.mp h).2

theorem claimRefill_cons {b : Bank} {bs : List Bank} (h : (s.bank b).state = .available)
    (hl : s.latched = false) (hne : s.cmp.state ≠ .loaded) :
    claimRefill (b :: bs) s = some (refilling b s) := by
  rw [claimRefill, claimForCompressor_free h hl]
  dsimp only
  rw [cmpGoto_changed (by exact hne), (plain_postAll _).actuate]
  simp only [actuate_updCmp, (plain_updBank _ _).actuate, updCmp_updCmp]
  exact congrArg (fun t => some (postAll cmpReports (updCmp _ t))) (updBank_of_eq (by simp [State.bank]))

theorem chooseTarget_grant {q : Pos} (ran : Bool) (h : s.nextHolder = some q) :
    chooseTarget ran s = grantOutput q s := by
  rw [chooseTarget, h]

theorem chooseTarget_refill {b : Bank} {bs : List Bank} (ran : Bool) (hn : s.nextHolder = none)
    (hm : s.smc.mode = .quiet ∨ s.smc.mode = .run) (hl : s.latched = false)
    (hne : s.cmp.state ≠ .loaded) (hc : s.refillCandidates = b :: bs) :
    chooseTarget ran s = refilling b s := by
  have hfree : (s.bank b).state = .available := mem_refillCandidates_available (by simp [hc])
  rw [chooseTarget, hn]
  simp only [(Mode.active_iff _).mpr hm, if_true, hc, claimRefill_cons hfree hl hne]

theorem chooseTarget_none (ran : Bool) (hn : s.nextHolder = none) (hc : s.refillCandidates = []) :
    chooseTarget ran s = stopIfDue ran s := by
  rw [chooseTarget, hn]
  simp only [hc, claimRefill, ite_self]

theorem stopIfDue_stays (h : s.runTimer < s.cmpRow.minRun) : stopIfDue false s = s := by
  simp [stopIfDue, h]

theorem stopIfDue_ranOut : stopIfDue true s = normalStop s := rfl

theorem stopIfDue_due (h : s.cmpRow.minRun ≤ s.runTimer) : stopIfDue false s = normalStop s := by
  simp [stopIfDue, h]

/-- R62: the context of a compressor whose run has ended. -/
def Cmp.cooling (c : Cmp) (minOff : Nat) : Cmp :=
  { c with state := .cooldown, startedAt := none, primeTimer := none, offTimer := some (10 * minOff) }

theorem enterCooldown_eq (hne : s.cmp.state ≠ .cooldown) (ho : 0 < s.cmpRow.minOff) :
    enterCooldown s = postAll cmpReports (updCmp (fun c => c.cooling s.cmpRow.minOff) s) := by
  rw [enterCooldown, if_neg ho.ne', cmpGoto_changed (by exact hne), updCmp_updCmp]
  rfl

theorem normalStop_eq (hne : s.cmp.state ≠ .cooldown) (ho : 0 < s.cmpRow.minOff) :
    normalStop s = postAll cmpReports (updCmp (fun c => c.cooling s.cmpRow.minOff) (close .compressorDrive s)) := by
  rw [normalStop, enterCooldown_eq (by simpa using hne) (by simpa [State.cmpRow] using ho)]
  simp [State.cmpRow]

theorem normalStop_after (reports : List Instr) (f : Cmp → Cmp) (hne : (f s.cmp).state ≠ .cooldown)
    (ho : 0 < s.cmpRow.minOff) : normalStop (postAll reports (updCmp f s)) =
      postAll (reports ++ cmpReports)
        (updCmp (fun c => (f c).cooling s.cmpRow.minOff) (close .compressorDrive s)) := by
  rw [normalStop_eq (s := postAll reports (updCmp f s)) hne ho, close_postAll, close_updCmp]
  simp [postAll, updCmp, State.cmpRow]

/-- R59, R61: the context on entry into UNLOADED. -/
def Cmp.unloading (c : Cmp) : Cmp :=
  { c with state := .unloaded, dest := none, holder := none, primeTimer := none }

theorem enterUnloaded_eq (hne : s.cmp.state ≠ .unloaded) : enterUnloaded s =
    chooseTarget false (postAll cmpReports (updCmp Cmp.unloading (tellGranted s))) := by
  have htold : (tellGranted s).cmp.state ≠ .unloaded := by
    unfold tellGranted
    split <;> exact hne
  rw [enterUnloaded, cmpGoto_changed (by exact htold), updCmp_updCmp]
  rfl

theorem enterUnloaded_grant {q : Pos} {qs : List Pos} (hne : s.cmp.state ≠ .unloaded)
    (hl : s.latched = false) (hw : s.cmp.waiters = q :: qs) :
    enterUnloaded s = postAll (.filGranted q .compressor :: (cmpReports ++ cmpReports))
      (updCmp (fun c => c.unloading.feeding q s.ret.clock) s) := by
  have hn := nextHolder_waiting hl hw
  rw [enterUnloaded_eq hne, tellGranted_waiting hn, chooseTarget_grant false (q := q) (by exact hn),
    grantOutput_eq]
  simp [postAll, post, updCmp, Cmp.unloading]

theorem enterUnloaded_waitless (hne : s.cmp.state ≠ .unloaded) (hw : s.cmp.waiters = []) :
    enterUnloaded s = chooseTarget false (postAll cmpReports (updCmp Cmp.unloading s)) := by
  rw [enterUnloaded_eq hne, tellGranted_none (nextHolder_none hw)]

theorem enterUnloaded_refill {b : Bank} {bs : List Bank} (hne : s.cmp.state ≠ .unloaded)
    (hw : s.cmp.waiters = []) (hm : s.smc.mode = .quiet ∨ s.smc.mode = .run) (hl : s.latched = false)
    (hc : s.refillCandidates = b :: bs) :
    enterUnloaded s = refilling b (postAll cmpReports (updCmp Cmp.unloading s)) := by
  rw [enterUnloaded_waitless hne hw]
  exact chooseTarget_refill false (nextHolder_none hw) hm hl (fun h => nomatch h) hc

theorem enterUnloaded_stays (hne : s.cmp.state ≠ .unloaded) (hw : s.cmp.waiters = [])
    (hc : s.refillCandidates = []) (hrun : s.runTimer < s.cmpRow.minRun) :
    enterUnloaded s = postAll cmpReports (updCmp Cmp.unloading s) := by
  rw [enterUnloaded_waitless hne hw]
  exact (chooseTarget_none (s := postAll cmpReports (updCmp Cmp.unloading s)) false (nextHolder_none hw) hc).trans
    (stopIfDue_stays hrun)

theorem enterUnloaded_stops (hne : s.cmp.state ≠ .unloaded) (hw : s.cmp.waiters = [])
    (hc : s.refillCandidates = []) (hrun : s.cmpRow.minRun ≤ s.runTimer) :
    enterUnloaded s = normalStop (postAll cmpReports (updCmp Cmp.unloading s)) := by
  rw [enterUnloaded_waitless hne hw]
  exact (chooseTarget_none (s := postAll cmpReports (updCmp Cmp.unloading s)) false (nextHolder_none hw) hc).trans
    (stopIfDue_due hrun)

theorem targetChoice_refill {b : Bank} {bs : List Bank} (ran : Bool) (hw : s.cmp.waiters = [])
    (hm : s.smc.mode = .quiet ∨ s.smc.mode = .run) (hl : s.latched = false)
    (hne : s.cmp.state ≠ .loaded) (hc : s.refillCandidates = b :: bs) :
    targetChoice ran s = refilling b s := by
  rw [targetChoice, tellGranted_none (nextHolder_none hw)]
  exact chooseTarget_refill ran (nextHolder_none hw) hm hl hne hc

theorem targetChoice_ranOut (hw : s.cmp.waiters = []) (hc : s.refillCandidates = []) :
    targetChoice true s = normalStop s := by
  rw [targetChoice, tellGranted_none (nextHolder_none hw)]
  exact (chooseTarget_none true (nextHolder_none hw) hc).trans stopIfDue_ranOut

end Target

/-! ### Timers and arrivals -/

section Arrivals

variable {s : State} {x : SigRec} {r : Role}

theorem offExpiry_stopped (h : s.cmp.offTimer = none) : offExpiry s = s := by
  simp [offExpiry, h]

theorem offExpiry_running (h : s.cmp.offTimer ≠ none) (hs : s.cmp.state ≠ .cooldown) :
    offExpiry s = updCmp (fun k => { k with offTimer := none }) s := by
  simp [offExpiry, h, hs]

theorem offExpiry_cooldown (h : s.cmp.offTimer ≠ none) (hs : s.cmp.state = .cooldown) :
    offExpiry s = startEval (postAll cmpReports
      (updCmp (fun k => { k with state := .stopped, offTimer := none }) s)) := by
  simp only [offExpiry, Option.isNone_iff_eq_none, h, if_false, hs, if_true]
  rw [cmpGoto_changed (by simp [hs])]
  rfl

theorem historyAgeing_young (h : ∀ e ∈ s.ret.history, s.ret.runSeconds < e + 3600) : historyAgeing s = s :=
  if_pos (List.all_eq_true.mpr fun e he => decide_eq_true (h e he))

theorem historyAgeing_running (h : s.cmp.state ≠ .stopped) : historyAgeing s = ageHistory s := by
  unfold historyAgeing
  split
  · next hall =>
    have hsame : s.ret.history.filter (young s.ret.runSeconds) = s.ret.history :=
      List.filter_eq_self.mpr (List.all_eq_true.mp hall)
    simp [ageHistory, updRet, hsame]
  · exact if_neg (by simpa [ageHistory] using h)

theorem historyAgeing_stopped (h : ∃ e ∈ s.ret.history, e + 3600 ≤ s.ret.runSeconds)
    (hs : s.cmp.state = .stopped) : historyAgeing s = startEval (ageHistory s) := by
  obtain ⟨e, he, hold⟩ := h
  have hno : ¬s.ret.history.all (young s.ret.runSeconds) = true := by
    rw [List.all_eq_true]
    exact fun hall => absurd (of_decide_eq_true (hall e he)) (not_lt.mpr hold)
  exact (if_neg hno).trans (if_pos (by simp [ageHistory, hs]))

/-- R59: the arrivals at which priming completes. -/
theorem cmpSignal_primed {a : Arrival} (ha : a = .transition x ∨ a = .refresh x ∨ a = .quality x)
    (hs : s.cmp.state = .priming) (hl : s.level .compressorRunning = true)
    (hu : s.usable .compressorRunning = true) : cmpSignal .compressorRunning a s = enterUnloaded s := by
  have hprimed : completePriming s = enterUnloaded s := by simp [completePriming, hs, hl, hu]
  have hne : s.cmp.state ≠ .stopped := by simp [hs]
  unfold cmpSignal
  rw [if_neg hne]
  rcases ha with rfl | rfl | rfl
  · simp only [if_true, runningTransition, hl, hprimed]
    rfl
  · exact hprimed
  · simp [cmpQuality, State.lostUnderHold, hu, hprimed]

/-- R60: a bank's pressure in UNLOADED makes a target choice. -/
theorem cmpSignal_unloaded {a : Arrival} {d : Bank} (ha : a = .value x ∨ a = .quality x)
    (hs : s.cmp.state = .unloaded) : cmpSignal (.bankPressure d) a s = targetChoice false s := by
  have hne : s.cmp.state ≠ .stopped := by simp [hs]
  have hrefill : s.refillBank = none := by
    unfold State.refillBank
    split <;> simp [hs]
  have hchoice (ends : Bool) : bankAtCmp d ends s = targetChoice false s := by
    simp [bankAtCmp, hrefill, chooseIfUnloaded, hs]
  unfold cmpSignal
  rw [if_neg hne]
  rcases ha with rfl | rfl <;> exact hchoice _

theorem refillGone_destination {b : Bank} (hs : s.cmp.state = .loaded) (hd : s.cmp.dest = some (.refill b)) :
    refillGone b s = enterUnloaded s := by
  simp [refillGone, State.refillBank, hs, hd]

theorem refillGone_other {b : Bank} (h : s.refillBank ≠ some b) : refillGone b s = s := if_neg h

end Arrivals

/-- What the beginning of a refill leaves. -/
structure Fills (b : Bank) (reports : List Instr) (k : Cmp) (s t : State) : Prop where
  cmp : t.cmp = k
  bank : t.bank b = { s.bank b with
    state := .claimedCmp
    session := some ⟨.compressor, (s.bank b).inventory, (s.bank b).invValid, 0, s.ret.clock⟩ }
  others : ∀ c, c ≠ b → t.bank c = s.bank c
  rif : t.rif = (actuate (.bankValve b .compressor) .open 1000 s).rif
  mail : t.mail = s.mail ++ reports ++ cmpReports
  ret : t.ret = s.ret
  fil : t.fil = s.fil
  sig : t.sig = s.sig

theorem refilling_fills (b : Bank) (reports : List Instr) (f : Cmp → Cmp) (s : State) :
    Fills b reports { f s.cmp with state := .loaded, dest := some (.refill b) } s
      (refilling b (postAll reports (updCmp f s))) := by
  refine ⟨by simp [refilling], by simp [refilling, State.bank], fun c hc => ?_, ?_, by simp [refilling],
    by simp [refilling], by simp [refilling], by simp [refilling]⟩
  · simp [refilling, updBank_bank_ne _ _ hc]
  · simp only [refilling, (plain_postAll _).actuate, actuate_updCmp]
    rfl

theorem refilling_fills_unloaded (b : Bank) (s : State) :
    Fills b [] { s.cmp with state := .loaded, dest := some (.refill b) } s (refilling b s) := by
  have h := refilling_fills b [] id s
  rwa [postAll_nil] at h

theorem refillCandidates_withRecord {r : Role} (x : SigRec) (s : State) (h : ∀ b, Role.bankPressure b ≠ r) :
    (withRecord r x s).refillCandidates = s.refillCandidates := by
  refine List.filter_congr fun b _ => ?_
  rw [refillable_eq, refillable_eq, withRecord_usable_ne x s (h b), withRecord_value_ne x s (h b)]
  rfl

/-- Settles O31: the timers, the choice of a target at each entry into UNLOADED, and the stop that is due. -/
theorem compressorRun : Obligations.CompressorRun := by
  refine ⟨fun s hreset => ?_, fun b bs x s hreset hw hl hm => ?_, fun s hreset => ?_,
    fun q qs x a s hreset hl hs hw hu hlev ha => ?_⟩
  · refine ⟨fun h => running_of_eq hreset (offExpiry_stopped h),
      fun h hs => running_of_eq hreset (offExpiry_running h (by simp [hs])),
      fun h hs hw hr => running_of_eq hreset ((offExpiry_cooldown h hs).trans (startEval_idle hw hr)),
      fun h => running_of_eq hreset (historyAgeing_young h),
      fun h => running_of_eq hreset (historyAgeing_running h),
      fun h hs hw hr => running_of_eq hreset ((historyAgeing_stopped h hs).trans (startEval_idle hw hr))⟩
  · intro fills
    have hfills {c : Instr} {reports : List Instr} {k : Cmp} {t : State} (ht : exec c s = .next t)
        (h : Fills b reports { k with state := .loaded, dest := some (.refill b) } s t) : fills c reports k :=
      ⟨t, ht, h.cmp, h.bank, h.others, h.rif, h.mail, h.ret, h.fil, h.sig⟩
    refine ⟨fun hs hu hlev hc => hfills (running_of_eq hreset (seeing_sigless
        ((sigless_refilling b).comp ((sigless_postAll cmpReports).comp (sigless_updCmp Cmp.unloading))) ?_))
        (refilling_fills b _ Cmp.unloading s),
      fun a d hs ha hc => hfills (running_of_eq hreset ?_) (refilling_fills_unloaded b s)⟩
    · have hcand := (refillCandidates_withRecord (r := .compressorRunning) x s (fun _ => by simp)).trans hc
      refine (cmpSignal_primed (s := withRecord .compressorRunning x s) (.inl rfl) hs ?_ ?_).trans 
        (enterUnloaded_refill (s := withRecord .compressorRunning x s) (by simp [hs]) hw hm hl hcand)
      · simpa [State.level] using hlev
      · simpa using hu
    · have hrec : a.record = x := by rcases ha with rfl | rfl <;> rfl
      refine seeing_sigless (sigless_refilling b) ?_
      rw [hrec, cmpSignal_unloaded ha (by exact hs)]
      exact targetChoice_refill false hw hm hl (by simp [hs]) hc
  · intro stopped stops
    have hstops {c : Instr} {reports : List Instr} {f : Cmp → Cmp} (hne : (f s.cmp).state ≠ .cooldown)
        (ho : 0 < s.cmpRow.minOff)
        (h : exec c s = .next (normalStop (postAll reports (updCmp f s)))) :
        stops c reports ((f s.cmp).cooling s.cmpRow.minOff) := by
      rw [normalStop_after _ _ hne ho] at h
      exact ⟨_, h, by simp, rfl, by simp [cmpReports], by simp, by simp, by simp⟩
    refine ⟨fun hs hw hc ho => ?_, fun hs => running_of_eq hreset ?_, fun b hs hd hw i k hi => ?_,
      fun b k h => ⟨running_of_eq hreset (refillGone_other h), running_of_eq hreset (refillGone_other h)⟩⟩
    · refine hstops (f := id) (by simp [hs]) ho (running_of_eq hreset ?_)
      rw [postAll_nil, minRunExpiry, hs]
      exact targetChoice_ranOut hw hc
    · simp [minRunExpiry, onlyIf, hs]
    · intro idle
      have hexec {t : State} (h : enterUnloaded s = t) : exec i s = .next t := by
        rcases hi with rfl | rfl <;> exact running_of_eq hreset ((refillGone_destination hs hd).trans h)
      have hne : s.cmp.state ≠ .unloaded := by simp [hs]
      refine ⟨fun c cs hc hl hm => ?_, fun hc hrun => hexec (enterUnloaded_stays hne hw hc hrun),
        fun hc hrun ho => hstops (f := Cmp.unloading) (by simp [Cmp.unloading]) ho
          (hexec (enterUnloaded_stops hne hw hc hrun))⟩
      have h := refilling_fills c cmpReports Cmp.unloading s
      exact ⟨_, hexec (enterUnloaded_refill hne hw hm hl hc), h.cmp, h.bank, h.others, h.rif,
        h.mail.trans (by simp [cmpReports]), h.ret, h.fil⟩
  · have hlevel : (withRecord .compressorRunning x s).level .compressorRunning = true := by
      simpa [State.level] using hlev
    have hrec : a.record = x := by rcases ha with rfl | rfl | rfl <;> rfl
    have hgrant := enterUnloaded_grant (s := withRecord .compressorRunning x s) (by simp [hs]) hl hw
    refine running_of_eq hreset ((seeing_sigless ((sigless_postAll _).comp (sigless_updCmp _)) ?_).trans rfl)
    rw [hrec]
    exact (cmpSignal_primed (s := withRecord .compressorRunning x s) ha hs hlevel (by simpa using hu)).trans hgrant

end Sys2Proof.Machine
end

section
/-! The compressor's output, its stops and its lockout (R63 to R70). O32 and O33 follow. -/

namespace Sys2Proof.Machine

open Sys2Proof

theorem onlyIf_pos {c : Bool} (h : c = true) (f : State → State) (s : State) : onlyIf c f s = f s := if_pos h

theorem onlyIf_neg {c : Bool} (h : c = false) (f : State → State) (s : State) : onlyIf c f s = s :=
  if_neg (Bool.eq_false_iff.mp h)

/-! ### Claims on the output -/

section Output

variable {p : Pos} {s : State}

/-- R63: nothing but the state of the compressor stands in the way of a claim on the output. -/
structure OutputFree (p : Pos) (s : State) : Prop where
  fitted : s.cmpRow.fitted = true
  clear : s.latched = false
  feeds : s.outputHolder ≠ some p
  holds : s.heldBank p = none

theorem outputFree_iff : (!s.cmpFitted || s.latched || s.outputHolder == some p || (s.heldBank p).isSome) = false
    ↔ OutputFree p s := by
  have : s.cmpFitted = s.cmpRow.fitted := rfl
  constructor
  · intro h
    simp only [Bool.or_eq_false_iff, Bool.not_eq_false', beq_eq_false_iff_ne, Option.isSome_eq_false_iff,
      Option.isNone_iff_eq_none] at h
    obtain ⟨⟨⟨hf, hc⟩, hh⟩, hb⟩ := h
    exact ⟨hf, hc, hh, hb⟩
  · intro h
    simp [this, h.fitted, h.clear, h.feeds, h.holds]

theorem claimOutput_shut (h : ¬OutputFree p s) : claimOutput p s = (.refused, s) :=
  if_pos (by rwa [← Bool.not_eq_false, outputFree_iff])

theorem not_outputFree (h : OutputFree p s) :
    ¬(!s.cmpFitted || s.latched || s.outputHolder == some p || (s.heldBank p).isSome) = true :=
  Bool.eq_false_iff.mp (outputFree_iff.mpr h)

theorem claimOutput_lockout (hs : s.cmp.state = .lockout) : claimOutput p s = (.refused, s) := by
  unfold claimOutput
  split
  · rfl
  · rw [hs]

theorem claimOutput_unloaded (h : OutputFree p s) (hs : s.cmp.state = .unloaded) :
    claimOutput p s = (.granted, grantOutput p s) := by
  rw [claimOutput, if_neg (not_outputFree h), hs]

theorem refillBank_of_refill {b : Bank} (hs : s.cmp.state = .loaded) (hd : s.cmp.dest = some (.refill b)) :
    s.refillBank = some b := by simp [State.refillBank, hs, hd]

theorem claimOutput_refilling {b : Bank} (h : OutputFree p s) (hs : s.cmp.state = .loaded)
    (hb : s.refillBank = some b) :
    claimOutput p s = (.granted, grantOutput p (releaseBank b .compressor s)) := by
  rw [claimOutput, if_neg (not_outputFree h), hs]
  simp only [hb]

/-- R63: the states in which a claim on the output waits, STOPPED apart. -/
def State.outputBusy (s : State) : Prop :=
  s.cmp.state = .priming ∨ s.cmp.state = .cooldown ∨ (s.cmp.state = .loaded ∧ s.refillBank = none)

theorem claimOutput_busy (h : OutputFree p s) (hs : s.outputBusy) :
    claimOutput p s = (.waiting, joinOutput p s) := by
  rw [claimOutput, if_neg (not_outputFree h)]
  rcases hs with hs | hs | ⟨hs, hb⟩
  · rw [hs]
  · rw [hs]
  · rw [hs]
    simp only [hb]

theorem claimOutput_stopped (h : OutputFree p s) (hs : s.cmp.state = .stopped) :
    claimOutput p s = (.waiting, startEval (joinOutput p s)) := by
  rw [claimOutput, if_neg (not_outputFree h), hs]

theorem outputClaim_refused (h : claimOutput p s = (.refused, s)) : outputClaim p s = s := by
  rw [outputClaim, h]

theorem outputClaim_waiting {t : State} (h : claimOutput p s = (.waiting, t)) : outputClaim p s = t := by
  rw [outputClaim, h]

theorem outputClaim_granted {t u : State} (h : claimOutput p s = (.granted, t))
    (hpost : claimOutput p (post (.filGranted p .compressor) s) = (.granted, u)) : outputClaim p s = u := by
  rw [outputClaim, h]
  exact congrArg Prod.snd hpost

/-- R41, R42, R46: the compressor's release of the bank it fills, which nobody awaits. -/
theorem releaseBank_compressor {b : Bank} {x : Session} (hstate : (s.bank b).state = .claimedCmp)
    (hs : (s.bank b).session = some x) (hx : x.holder = .compressor) (hw : (s.bank b).waiters = []) :
    releaseBank b .compressor s = postAll [.filBankAnnouncement b, .cmpBankAnnouncement b]
      (updBank b (fun r =>
          { r with
            state := .available, session := none
            last := some (.refill (refillGain x (s.bank b).inventory (s.bank b).invValid)) })
        (close (.bankValve b .compressor) s)) := by
  rw [releaseBank_held hstate, closeSession_refill hs hx, passBank_empty (by simp [hw])]
  simp [updBank_updBank, holderValve]

theorem withdrawOutput_eq (p : Pos) (s : State) : (withdrawOutput p s).2 =
    updCmp (fun k => { k with waiters := k.waiters.filter (fun q => q ≠ p) }) s := by
  unfold withdrawOutput
  simp only [filter_bne_eq]
  by_cases h : s.cmp.waiters.contains p = true
  · rw [if_pos h]
  · have hself : s.cmp.waiters.filter (fun q => q ≠ p) = s.cmp.waiters :=
      List.filter_eq_self.mpr fun q hq => decide_eq_true fun e => h (by simpa [e] using hq)
    have hsame : updCmp (fun k => { k with waiters := k.waiters.filter (fun q => q ≠ p) }) s = s := by
      rw [updCmp, hself]
    rw [if_neg h, hsame]
    split <;> rfl

end Output

/-- Settles O32: a claim by the state of the compressor, a release by the wait list, and WITHDRAW. -/
theorem compressorOutput : Obligations.CompressorOutput := by
  refine ⟨fun p s hreset => ?_, fun p s hreset => ?_⟩
  · intro held joined free
    have hfree : free ↔ OutputFree p s :=
      ⟨fun ⟨hf, hl, ho, hb⟩ => ⟨hf, hl, ho, hb⟩, fun h => ⟨h.fitted, h.clear, h.feeds, h.holds⟩⟩
    have hposted (h : free) : OutputFree p (post (.filGranted p .compressor) s) := ⟨h.1, h.2.1, h.2.2.1, h.2.2.2⟩
    have hjoined : joinOutput p s = joined := rfl
    refine ⟨fun h => running_of_eq hreset (outputClaim_refused ?_), fun h hs => running_of_eq hreset ?_,
      fun b x h hs hd hb hsn hx hw => ?_, fun q h hs => running_of_eq hreset ?_, fun b h hs => ?_⟩
    · exact h.elim (fun h => claimOutput_shut (hfree.not.mp h)) claimOutput_lockout
    · rw [outputClaim_granted (claimOutput_unloaded (hfree.mp h) hs) (claimOutput_unloaded (hposted h) hs),
        grantOutput_eq]
      simp [hs, held, postAll, post, updCmp, cmpReports, Cmp.feeding]
    · have hr := refillBank_of_refill hs hd
      refine ⟨_, running_of_eq hreset (outputClaim_granted (claimOutput_refilling (hfree.mp h) hs hr)
        (claimOutput_refilling (hposted h) hs hr)), ?_⟩
      rw [releaseBank_compressor (s := post (.filGranted p .compressor) s) hb hsn hx hw, grantOutput_eq]
      simp [hs, held, Cmp.feeding]
    · refine outputClaim_waiting (claimOutput_busy (hfree.mp h) ?_)
      rcases hs with hs | hs | ⟨hs, hd⟩
      · exact .inl hs
      · exact .inr (.inl hs)
      · exact .inr (.inr ⟨hs, by simp [State.refillBank, hd]⟩)
    · refine ⟨_, running_of_eq hreset (outputClaim_waiting (claimOutput_stopped (hfree.mp h) hs)), ?_⟩
      have hstop : joined.cmp.state = .stopped := by
        simp only [joined]
        split <;> exact hs
      have hrun : joined.smc.inReset = false := by
        simp only [joined]
        split <;> exact hreset
      refine running_of_eq hrun ?_
      rw [cmpAnnouncement, hstop, hjoined]
  · have hrelease {t : State} (ho : s.outputHolder = some p) (h : enterUnloaded s = t) :
        exec (.outputRelease p) s = .next t := running_of_eq hreset ((if_pos ho).trans h)
    exact ⟨fun ho => running_of_eq hreset (if_neg ho),
      fun q qs ho hs hl hw => hrelease ho (enterUnloaded_grant (by simp [hs]) hl hw),
      fun ho hs hw hc hrun => hrelease ho (enterUnloaded_stays (by simp [hs]) hw hc hrun),
      running_of_eq (f := fun t => (withdrawOutput p t).2) hreset (withdrawOutput_eq p s)⟩

end Sys2Proof.Machine
end

section
/-! The compressor's stops, its lockout and LOCKOUT-CLEAR (R66 to R68, R70). O33 follows. -/

namespace Sys2Proof.Machine

open Sys2Proof

/-! ### Commands that act on the records as delivered -/

/-- The command does what `f` does to `u`, which is `s` with other signal records. -/
structure Acts (c : Instr) (s u : State) (f : State → State) : Prop where
  same : u = { s with sig := u.sig }
  exec : ∀ g : State → State, Sigless g → f u = g u → exec c s = .next (g s)

section Acts

variable {c : Instr} {s u : State} {f f' : State → State}

theorem acts_directly (hreset : s.smc.inReset = false) (h : exec c s = running s f) : Acts c s s f :=
  ⟨rfl, fun _ _ hg => h.trans (running_of_eq hreset hg)⟩

theorem acts_seeing {r : Role} {x : SigRec} (hreset : s.smc.inReset = false)
    (h : exec c s = running s (seeing r x f)) : Acts c s (withRecord r x s) f :=
  ⟨rfl, fun _ hg heq => h.trans (running_of_eq hreset (seeing_sigless hg heq))⟩

theorem Acts.congr (h : Acts c s u f) (heq : f u = f' u) : Acts c s u f' :=
  ⟨h.same, fun g hg hf => h.exec g hg (heq.trans hf)⟩

end Acts

/-! ### The destination is dropped -/

/-- R66, R67: the LOST to the position that the output feeds. -/
def holderLost (c : LostCause) (s : State) : List Instr :=
  s.outputHolder.toList.map (fun p => .filLost p .compressor c)

/-- The compressor's context without a destination. -/
def Cmp.dropped (c : Cmp) : Cmp := { c with dest := none, holder := none }

/-- The bank whose refill the compressor gives up. -/
def refillDropped (b : Bank) (x : Session) (s : State) : State :=
  updBank b (fun r =>
      { r with
        state := .available, session := none
        last := some (.refill (refillGain x (s.bank b).inventory (s.bank b).invValid)) })
    (close (.bankValve b .compressor) s)

theorem sigless_refillDropped (b : Bank) (x : Session) : Sigless (refillDropped b x) := fun s y =>
  congrArg (updBank b _) (sigless_close _ s y)

/-- The compressor fills the bank in the session, and nobody awaits it. -/
structure Refills (b : Bank) (x : Session) (s : State) : Prop where
  dest : s.refillBank = some b
  holder : s.cmp.holder = none
  state : (s.bank b).state = .claimedCmp
  session : (s.bank b).session = some x
  held : x.holder = .compressor
  waiters : (s.bank b).waiters = []

theorem dropDestination_idle {s : State} (c : LostCause) (h : s.refillBank = none) :
    dropDestination c s = postAll (holderLost c s) (updCmp Cmp.dropped s) := by
  have hlost : loseOutput c s = postAll (holderLost c s) s := by
    unfold loseOutput holderLost
    cases s.outputHolder with
    | none => exact (postAll_nil s).symm
    | some p => rfl
  rw [dropDestination, releaseRefill, h]
  dsimp only
  rw [hlost]
  rfl

theorem dropDestination_refill {s : State} {b : Bank} {x : Session} (c : LostCause) (h : Refills b x s) :
    dropDestination c s = postAll [.filBankAnnouncement b, .cmpBankAnnouncement b]
      (updCmp Cmp.dropped (refillDropped b x s)) := by
  rw [dropDestination, releaseRefill, h.dest]
  dsimp only
  rw [releaseBank_compressor h.state h.session h.held h.waiters, loseOutput]
  simp only [State.outputHolder, postAll_cmp, updBank_cmp, close_cmp, h.holder, Option.map_none]
  rfl

/-- What a stop or a lockout comes to, once the destination is dropped: the drive commanded closed, a notice, the
context, and the messages. -/
def comesTo (ms : List Instr) (f : Cmp → Cmp) (k : NoticeKind) (data : List Byte) (d : State) : State :=
  postAll ms (updCmp f (notice k 0 data (close .compressorDrive d)))

theorem sigless_comesTo (ms : List Instr) (f : Cmp → Cmp) (k : NoticeKind) (data : List Byte) :
    Sigless (comesTo ms f k data) :=
  (sigless_postAll ms).comp ((sigless_updCmp f).comp ((sigless_notice k 0 data).comp (sigless_close _)))

section ComesTo

variable (ms : List Instr) (f : Cmp → Cmp) (k : NoticeKind) (data : List Byte) (d : State)

@[simp] theorem comesTo_cmp : (comesTo ms f k data d).cmp = f d.cmp := by simp [comesTo]
@[simp] theorem comesTo_mail : (comesTo ms f k data d).mail = d.mail ++ ms := by simp [comesTo]
@[simp] theorem comesTo_bkm : (comesTo ms f k data d).bkm = d.bkm := by simp [comesTo]
@[simp] theorem comesTo_bank (b : Bank) : (comesTo ms f k data d).bank b = d.bank b := by simp [comesTo]
@[simp] theorem comesTo_ret : (comesTo ms f k data d).ret = d.ret := by simp [comesTo]
@[simp] theorem comesTo_fil : (comesTo ms f k data d).fil = d.fil := by simp [comesTo]

@[simp] theorem refillDropped_cmp (b : Bank) (x : Session) : (refillDropped b x d).cmp = d.cmp := by
  simp [refillDropped]

@[simp] theorem refillDropped_mail (b : Bank) (x : Session) : (refillDropped b x d).mail = d.mail := by
  simp [refillDropped]

theorem refillDropped_bank (b : Bank) (x : Session) :
    ((refillDropped b x d).bank b).state = .available ∧ ((refillDropped b x d).bank b).session = none := by
  simp [refillDropped]

theorem comesTo_refillDropped_rif (b : Bank) (x : Session) : (comesTo ms f k data (refillDropped b x d)).rif
    = (notice k 0 data (close .compressorDrive (close (.bankValve b .compressor) d))).rif := by
  simp [comesTo, refillDropped]

end ComesTo

/-- R66, R67: a command whose effect drops the destination, with and without a refill. -/
theorem Acts.comesTo {c : Instr} {s u : State} {f : State → State} {cause : LostCause} {tell : List Instr}
    {g : Cmp → Cmp} {k : NoticeKind} {data : List Byte} (hact : Acts c s u f)
    (hf : ∀ (ms : List Instr) (d : State), dropDestination cause u = postAll ms (updCmp Cmp.dropped d) →
      d.cmp = u.cmp → d.tables = u.tables → f u = comesTo (ms ++ tell) g k data d) :
    (s.refillBank = none → Machine.exec c s = .next (comesTo (holderLost cause s ++ tell) g k data s))
      ∧ ∀ b y, Refills b y s → Machine.exec c s = .next
        (comesTo ([.filBankAnnouncement b, .cmpBankAnnouncement b] ++ tell) g k data (refillDropped b y s)) := by
  have hu := hact.same
  refine ⟨fun hidle => hact.exec _ (sigless_comesTo _ _ _ _) ?_, fun b y h => hact.exec _
    ((sigless_comesTo _ _ _ _).comp (sigless_refillDropped b y)) ?_⟩
  · have hidle' : u.refillBank = none := by rw [hu]; exact hidle
    have hlost : holderLost cause u = holderLost cause s := by rw [hu]; rfl
    rw [← hlost]
    exact hf _ u (dropDestination_idle cause hidle') rfl rfl
  · have hrefills : Refills b y u := by
      rw [hu]
      exact ⟨h.dest, h.holder, h.state, h.session, h.held, h.waiters⟩
    exact hf _ _ (dropDestination_refill cause hrefills) (by simp [refillDropped]) (by simp [refillDropped])

/-! ### Stops and lockout -/

section Stops

variable {s d : State} {ms : List Instr} {c : LostCause}

theorem supplyStop_eq (hd : dropDestination .supply s = postAll ms (updCmp Cmp.dropped d))
    (hcmp : d.cmp = s.cmp) (htables : d.tables = s.tables) (hne : s.cmp.state ≠ .cooldown)
    (ho : 0 < s.cmpRow.minOff) : supplyStop s = comesTo (ms ++ cmpReports)
      (fun k => { k.dropped.cooling s.cmpRow.minOff with supplyLow := true })
      .supplyLow (u1 (s.quality .suctionPressure).num
        ++ optField 2 ((s.usableValue .suctionPressure).map (fun v => u2 v.toNat))) d := by
  unfold supplyStop comesTo
  simp only [hd, close_postAll, close_updCmp, updCmp_postAll, updCmp_updCmp, notice_postAll, notice_updCmp]
  rw [enterCooldown_eq]
  · simp [postAll, updCmp, State.cmpRow, htables]
    rfl
  · simpa [Cmp.dropped, hcmp] using hne
  · simpa [State.cmpRow, htables] using ho

theorem signalStop_eq {r : Role} (hd : dropDestination .signal s = postAll ms (updCmp Cmp.dropped d))
    (hcmp : d.cmp = s.cmp) (htables : d.tables = s.tables) (hne : s.cmp.state ≠ .cooldown)
    (ho : 0 < s.cmpRow.minOff) : signalStop r s = comesTo (ms ++ cmpReports)
      (fun k => k.dropped.cooling s.cmpRow.minOff) .compressorStopped (u1 r.code.1 ++ u1 (s.quality r).num) d := by
  unfold signalStop comesTo
  simp only [hd, close_postAll, close_updCmp, notice_postAll, notice_updCmp]
  rw [enterCooldown_eq]
  · simp [postAll, updCmp, State.cmpRow, htables]
  · simpa [Cmp.dropped, hcmp] using hne
  · simpa [State.cmpRow, htables] using ho

/-- R67: the context in LOCKOUT. -/
def Cmp.locked (c : Cmp) (cause : LockCause) (minOff : Nat) : Cmp :=
  { c with
    state := .lockout, dest := none, holder := none, waiters := [], startedAt := none, primeTimer := none
    offTimer := some (10 * minOff), cause := some cause, held := none }

theorem lockout_eq {cause : LockCause} {temp : Option Int}
    (hd : dropDestination (.lockout cause) s = postAll ms (updCmp Cmp.dropped d))
    (hcmp : d.cmp = s.cmp) (hne : s.cmp.state ≠ .lockout) : lockout cause temp s =
      comesTo (ms ++ (s.cmp.waiters.map (fun p => .waitCancelled p .compressor) ++ cmpReports))
        (fun k => k.locked cause s.cmpRow.minOff) .compressorLockout (u1 cause.num ++ optField 2 (temp.map i2)) d := by
  unfold lockout cancelOutputWaiters comesTo
  rw [if_neg hne]
  simp only [hd, close_postAll, close_updCmp, postAll_cmp, updCmp_cmp]
  rw [cmpGoto_changed (by simpa [Cmp.dropped, hcmp] using hne)]
  simp only [updCmp_postAll, updCmp_updCmp, notice_postAll, notice_updCmp, postAll_append, Cmp.dropped, hcmp,
    List.append_assoc]
  rfl

end Stops

/-! ### Arrivals that stop or lock a running compressor -/

section Arrivals

variable {s : State} {x : SigRec}

/-- PRIMING, UNLOADED or LOADED. -/
def State.cmpRuns (s : State) : Prop :=
  s.cmp.state = .priming ∨ s.cmp.state = .unloaded ∨ s.cmp.state = .loaded

theorem State.cmpRuns.runs (h : s.cmpRuns) : s.cmp.state.runs = true := by
  rcases h with h | h | h <;> rw [h] <;> rfl

theorem State.cmpRuns.ne {st : CmpState} (h : s.cmpRuns) (hst : st.runs = false) : s.cmp.state ≠ st :=
  fun e => by simp [e ▸ h.runs] at hst

theorem cmpSignal_value (r : Role) (hs : s.cmp.state ≠ .stopped) : cmpSignal r (.value x) s = cmpValue r s := by
  unfold cmpSignal
  rw [if_neg hs]

theorem cmpSignal_quality (r : Role) (hs : s.cmp.state ≠ .stopped) :
    cmpSignal r (.quality x) s = cmpQuality r s := by
  unfold cmpSignal
  rw [if_neg hs]

theorem cmpValue_supply (hs : s.cmpRuns) (h : s.value .suctionPressure < s.cmpRow.suctionMin) :
    cmpValue .suctionPressure s = supplyStop s := onlyIf_pos (by simp [hs.runs, h]) _ _

theorem cmpQuality_supply (hs : s.cmpRuns) (h : s.usable .suctionPressure = false) :
    cmpQuality .suctionPressure s = supplyStop s := onlyIf_pos (by simp [hs.runs, h]) _ _

theorem cmpValue_overheat (hs : s.cmpRuns) (h : (s.cmpRow.dischargeMax : Int) < s.value .dischargeTemp) :
    cmpValue .dischargeTemp s = lockout .overheat (some (s.value .dischargeTemp)) s :=
  onlyIf_pos (by simp [hs.runs, h]) _ _

theorem lostUnderHold_of {r : Role} (hq : s.quality r = .bad ∨ s.quality r = .stale)
    (hh : s.underHold r = true) : s.lostUnderHold r = true := by
  rcases hq with hq | hq <;> simp [State.lostUnderHold, State.usable, Quality.usable, hq, hh]

theorem cmpQuality_discharge (hs : s.cmpRuns) (h : s.lostUnderHold .dischargeTemp = true) :
    cmpQuality .dischargeTemp s = signalStop .dischargeTemp s := onlyIf_pos (by simp [hs.runs, h]) _ _

theorem cmpQuality_running (hs : s.cmpRuns) (h : s.lostUnderHold .compressorRunning = true) :
    cmpQuality .compressorRunning s = signalStop .compressorRunning s := if_pos (by simp [hs.runs, h])

theorem cmpSignal_feedback (hs : s.cmp.state = .unloaded ∨ s.cmp.state = .loaded)
    (hl : s.level .compressorRunning = false) :
    cmpSignal .compressorRunning (.transition x) s = lockout .feedback none s := by
  have hne : s.cmp.state ≠ .stopped := by rcases hs with hs | hs <;> simp [hs]
  unfold cmpSignal
  rw [if_neg hne]
  simp only [if_true, runningTransition, hl]
  exact if_pos (by rcases hs with hs | hs <;> simp [hs])

theorem primeExpiry_expired (hs : s.cmp.state = .priming) (ht : s.cmp.primeTimer ≠ none) :
    primeExpiry s = lockout .prime none s := by
  obtain ⟨n, hn⟩ := Option.ne_none_iff_exists'.mp ht
  exact onlyIf_pos (by simp [hs, hn]) _ _

theorem primeExpiry_idle (h : s.cmp.state ≠ .priming ∨ s.cmp.primeTimer = none) : primeExpiry s = s := by
  refine onlyIf_neg ?_ _ _
  rcases h with h | h <;> simp [h]

/-! ### LOCKOUT-CLEAR -/

/-- R68: a fault condition remains. -/
def State.faultRemains (s : State) : Prop :=
  s.usable .suctionPressure = false ∨ s.usable .dischargeTemp = false ∨ s.usable .compressorRunning = false
    ∨ (s.mapped .dischargePressure = true ∧ s.usable .dischargePressure = false)
    ∨ (s.record .suctionPressure).region ≠ .inside ∨ (s.record .dischargePressure).region ≠ .inside
    ∨ (s.record .dischargeTemp).region ≠ .inside
    ∨ (s.cmpRow.dischargeMax : Int) < s.value .dischargeTemp
    ∨ s.level .compressorRunning = true

theorem compressorFaulty_iff : s.compressorFaulty = true ↔ s.faultRemains := by
  simp [State.compressorFaulty, State.faultRemains, or_assoc]

theorem leaveLockout_cooling (hs : s.cmp.state = .lockout) (ht : s.cmp.offTimer ≠ none) :
    leaveLockout s = postAll cmpReports (updCmp (fun k => { k with state := .cooldown, cause := none }) s) := by
  obtain ⟨n, hn⟩ := Option.ne_none_iff_exists'.mp ht
  rw [leaveLockout, hn]
  exact cmpGoto_changed (by simp [hs])

theorem leaveLockout_stopped (hs : s.cmp.state = .lockout) (ht : s.cmp.offTimer = none)
    (hw : s.cmp.waiters = []) (hr : s.refillWanted = false) : leaveLockout s =
      postAll cmpReports (updCmp (fun k =>
        { k with state := .stopped, cause := none, refillWant := false, held := none }) s) := by
  rw [leaveLockout, ht]
  show startEval (cmpGoto .stopped _) = _
  rw [cmpGoto_changed (by simp [hs])]
  exact startEval_idle hw hr

theorem lockoutClear_state (rq : Req) (h : s.cmp.state ≠ .lockout ∨ s.latched = true ∨ s.faultRemains) :
    lockoutClearRequest rq s = reply rq 40 .state [] s :=
  if_pos (h.imp_right (Or.imp_right compressorFaulty_iff.mpr))

theorem lockoutClear_ok (rq : Req) (hs : s.cmp.state = .lockout) (hl : s.latched = false)
    (hf : ¬s.faultRemains) : lockoutClearRequest rq s = reply rq 40 .ok [] (leaveLockout s) := by
  refine if_neg ?_
  rintro (h | h | h)
  · exact h hs
  · simp [hl] at h
  · exact hf (compressorFaulty_iff.mp h)

end Arrivals

/-- Settles O33: the stops and the locking events come to one context each, whatever is dropped; and
LOCKOUT-CLEAR by what stands against it. -/
theorem compressorStops : Obligations.CompressorStops := by
  refine ⟨fun x s hreset hruns ho => ?_, fun s hreset => ?_, fun rq s hreset => ?_⟩
  · intro value stops supplyLow lost
    have hstops {c : Instr} {cause : LostCause} {k : NoticeKind} {data : List Byte} {low : Bool} {u : State}
        {f : State → State} (hact : Acts c s u f)
        (hf : ∀ (ms : List Instr) (d : State), dropDestination cause u = postAll ms (updCmp Cmp.dropped d) →
          d.cmp = u.cmp → d.tables = u.tables → f u = comesTo (ms ++ cmpReports)
            (fun k => { k.dropped.cooling s.cmpRow.minOff with supplyLow := low || k.supplyLow }) k data d) :
        stops c cause (notice k 0 data) low := by
      obtain ⟨hidle, hrefill⟩ := hact.comesTo hf
      refine ⟨fun h => ⟨_, hidle h, comesTo_cmp .., rfl, ?_, comesTo_bkm .., comesTo_ret .., comesTo_fil ..⟩,
        fun b y hb hh hst hsn hy hw => ⟨_, hrefill b y ⟨hb, hh, hst, hsn, hy, hw⟩, ?_,
          comesTo_refillDropped_rif .., ?_, ?_, ?_⟩⟩
      · rw [comesTo_mail, holderLost]
        cases s.outputHolder <;> simp [cmpReports]
      · rw [comesTo_cmp, refillDropped_cmp]
        rfl
      · simp [cmpReports]
      · rw [comesTo_bank]
        exact (refillDropped_bank s b y).1
      · rw [comesTo_bank]
        exact (refillDropped_bank s b y).2
    have hruns' : s.cmpRuns := hruns
    have hne := hruns'.ne (st := .stopped) rfl
    have hcool := hruns'.ne (st := .cooldown) rfl
    have hact {r : Role} {a : Arrival} {f : State → State} (ha : a.record = x)
        (h : cmpSignal r a (withRecord r x s) = f (withRecord r x s)) :
        Acts (.cmpSignalArrival r a) s (withRecord r x s) f :=
      Acts.congr (acts_seeing (f := cmpSignal r a) hreset (by rw [← ha]; rfl)) h
    let w (r : Role) : State := withRecord r x s
    have hdata : u1 ((w .suctionPressure).quality .suctionPressure).num
          ++ optField 2 (((w .suctionPressure).usableValue .suctionPressure).map (fun v => u2 v.toNat))
        = u1 x.quality.num ++ optField 2 value := by
      simp only [w, State.usableValue, withRecord_quality_same, withRecord_usable_same, withRecord_value_same, value]
      cases x.quality.usable <;> rfl
    have hsupply {a : Arrival} (ha : a.record = x)
        (h : cmpSignal .suctionPressure a (w .suctionPressure) = supplyStop (w .suctionPressure)) :
        stops (.cmpSignalArrival .suctionPressure a) .supply supplyLow true :=
      hstops (hact ha h) fun ms d hd hcmp ht => by
        rw [supplyStop_eq hd hcmp ht hcool ho, hdata]
        rfl
    have hlost {r : Role} (hq : x.quality = .bad ∨ x.quality = .stale) (hh : s.underHold r = true)
        (h : (w r).lostUnderHold r = true → cmpQuality r (w r) = signalStop r (w r)) :
        stops (.cmpSignalArrival r (.quality x)) .signal (lost r) false := by
      have hquality : (w r).quality r = x.quality := withRecord_quality_same r x s
      refine hstops (hact rfl ((cmpSignal_quality (s := w r) r hne).trans (h ?_))) fun ms d hd hcmp ht => ?_
      · exact lostUnderHold_of (by rwa [hquality]) hh
      · rw [signalStop_eq hd hcmp ht hcool ho, hquality]
        rfl
    refine ⟨fun hus hlt => hsupply rfl ((cmpSignal_value (s := w _) _ hne).trans
        (cmpValue_supply (s := w _) hruns' ?_)),
      fun hus => hsupply rfl ((cmpSignal_quality (s := w _) _ hne).trans (cmpQuality_supply (s := w _) hruns' ?_)),
      fun hq hh => hlost hq hh (cmpQuality_discharge (s := w _) hruns'),
      fun hq hh => hlost hq hh (cmpQuality_running (s := w _) hruns'), fun hge => running_of_eq hreset ?_⟩
    · exact (withRecord_value_same _ x s).trans_lt hlt
    · exact (withRecord_usable_same _ x s).trans hus
    · refine seeing_of_eq (t := w _) ((cmpSignal_value (s := w _) _ hne).trans (onlyIf_neg ?_ _ _))
      have hval : (w .suctionPressure).value .suctionPressure = x.value := withRecord_value_same _ x s
      rw [hval]
      exact Bool.and_eq_false_iff.mpr (.inr (decide_eq_false (not_lt.mpr hge)))
  · intro locks
    have hlocks {c : Instr} {cause : LockCause} {temp : Option Int} {u : State} (hne : s.cmp.state ≠ .lockout)
        (hact : Acts c s u (lockout cause temp)) : locks c cause temp := by
      have hu := hact.same
      obtain ⟨hidle, hrefill⟩ := hact.comesTo (cause := .lockout cause)
        (tell := s.cmp.waiters.map (fun p => .waitCancelled p .compressor) ++ cmpReports)
        (g := fun k => k.locked cause s.cmpRow.minOff) (k := .compressorLockout)
        (data := u1 cause.num ++ optField 2 (temp.map i2)) fun ms d hd hcmp ht => by
          rw [lockout_eq hd hcmp (by rw [hu]; exact hne), hu]
          rfl
      refine ⟨fun h => ⟨_, hidle h, comesTo_cmp .., ?_, rfl, comesTo_bkm .., comesTo_ret .., comesTo_fil ..⟩,
        fun b y hb hh hst hsn hy hw => ⟨_, hrefill b y ⟨hb, hh, hst, hsn, hy, hw⟩, ?_, ?_,
          comesTo_refillDropped_rif .., ?_, ?_⟩⟩
      · rw [comesTo_mail, holderLost]
        cases s.outputHolder <;> simp [cmpReports]
      · rw [comesTo_cmp, refillDropped_cmp]
        rfl
      · simp [cmpReports]
      · rw [comesTo_bank]
        exact (refillDropped_bank s b y).1
      · rw [comesTo_bank]
        exact (refillDropped_bank s b y).2
    refine ⟨fun hne => ⟨hlocks hne (acts_directly hreset rfl), hlocks hne (acts_directly hreset rfl)⟩,
      fun hs ht => hlocks (by simp [hs]) ((acts_directly (f := primeExpiry) hreset rfl).congr (primeExpiry_expired hs ht)),
      fun x hruns hlt => ?_, fun x hs hl => ?_,
      fun hs => ⟨running_of_eq hreset (if_pos hs), running_of_eq hreset (if_pos hs)⟩,
      fun h => running_of_eq hreset (primeExpiry_idle h)⟩
    · let w := withRecord .dischargeTemp x s
      have hruns' : w.cmpRuns := hruns
      have hval : w.value .dischargeTemp = x.value := withRecord_value_same _ x s
      refine hlocks (hruns'.ne rfl) (Acts.congr (acts_seeing (f := cmpSignal .dischargeTemp (.value x)) hreset rfl) ?_)
      exact (cmpSignal_value (s := w) _ (hruns'.ne rfl)).trans
        ((cmpValue_overheat hruns' (by rw [hval]; exact hlt)).trans (by rw [hval]; rfl))
    · let w := withRecord .compressorRunning x s
      have hlevel : w.level .compressorRunning = false := by
        simpa [w, State.level] using hl
      refine hlocks (by rcases hs with hs | hs <;> simp [hs]) (Acts.congr
        (acts_seeing (f := cmpSignal .compressorRunning (.transition x)) hreset rfl) ?_)
      exact cmpSignal_feedback (s := w) hs hlevel
  · intro fault
    have hfault : fault ↔ s.faultRemains := Iff.rfl
    refine ⟨fun h => running_of_eq hreset (lockoutClear_state rq h), fun hs hl hf ht => running_of_eq hreset ?_,
      fun hs hl hf ht hw hr => running_of_eq hreset ?_⟩
    · rw [lockoutClear_ok rq hs hl hf, leaveLockout_cooling hs ht]
      rfl
    · rw [lockoutClear_ok rq hs hl hf, leaveLockout_stopped hs ht hw hr]
      rfl

end Sys2Proof.Machine
end

section
/-! The precool controller: the monitor, the chiller's states, the reserve and the pending requests (R76 to R88).
O36 and O37 follow. -/

namespace Sys2Proof.Machine

open Sys2Proof

/-! ### Pending requests (R84) -/

section Pending

variable {s : State} {p : Pos} {c : Category}

theorem updPcl_updPcl (f g : Pcl → Pcl) (s : State) : updPcl f (updPcl g s) = updPcl (fun k => f (g k)) s := rfl

theorem reEvaluateAt_none (h : s.pcl.pending.get p = none) : reEvaluateAt p s = s := by
  rw [reEvaluateAt, h]

theorem reEvaluate_none (h : ∀ q, s.pcl.pending.get q = none) : reEvaluate s = s := by
  simp [reEvaluate, Pos.all, reEvaluateAt_none (h _)]

theorem reEvaluateAt_admitted (h : s.pcl.pending.get p = some c) (ha : s.admissible c = true) :
    reEvaluateAt p s = post (.admitted p c) (setPending p none s) := by
  rw [reEvaluateAt, h]
  exact onlyIf_pos ha _ _

theorem reEvaluateAt_waiting (h : s.pcl.pending.get p = some c) (ha : s.admissible c = false) :
    reEvaluateAt p s = s := by
  rw [reEvaluateAt, h]
  exact onlyIf_neg ha _ _

theorem reEvaluateAt_pending_ne {q : Pos} (hq : q ≠ p) :
    (reEvaluateAt p s).pcl.pending.get q = s.pcl.pending.get q := by
  unfold reEvaluateAt
  split
  · rfl
  · unfold onlyIf
    split
    · exact PerPos.get_set_ne _ _ hq
    · rfl

theorem reEvaluate_only (h : ∀ q, q ≠ p → s.pcl.pending.get q = none) : reEvaluate s = reEvaluateAt p s := by
  have hself (q : Pos) (hq : q ≠ p) : reEvaluateAt q s = s := reEvaluateAt_none (h q hq)
  have hafter (q : Pos) (hq : q ≠ p) : reEvaluateAt q (reEvaluateAt p s) = reEvaluateAt p s :=
    reEvaluateAt_none ((reEvaluateAt_pending_ne hq).trans (h q hq))
  cases p <;> simp [reEvaluate, Pos.all, hself, hafter]

/-- R84: the conditions of ADMIT for a category with a row. -/
def State.mayAdmit (s : State) (x : CategoryRow) : Prop :=
  s.chillerRow.fitted = true ∧ s.pcl.state = .ready ∧ s.pcl.stabilised = true
    ∧ x.threshold ≤ s.pcl.reserve ∧ s.latched = false
    ∧ (s.mapped .chillerFault = true → s.usable .chillerFault = true)

theorem admissible_iff {x : CategoryRow} (hx : s.categoryRow c = some x) :
    s.admissible c = true ↔ s.mayAdmit x := by
  rw [State.admissible, hx]
  simp only [State.mayAdmit, State.contactOk, Bool.and_eq_true, Bool.or_eq_true, Bool.not_eq_true',
    decide_eq_true_eq, beq_iff_eq, and_assoc]
  cases s.mapped .chillerFault <;> simp

theorem admissible_c00 : s.admissible .c00 = true := rfl

end Pending

/-! ### The category monitor (R85 to R87) -/

section Monitor

variable {s : State} {p : Pos}

theorem enterMonitor_settling {c : Category} (hd : s.pcl.demand.get p = some c) (ht : 0 < s.chillerRow.settle) :
    enterMonitor p s = setMonitor p ⟨.settling, some c, some (10 * s.chillerRow.settle), none⟩ s := by
  rw [enterMonitor, hd]
  exact if_neg ht.ne'

theorem enterMonitor_armed {c : Category} (hd : s.pcl.demand.get p = some c) (ht : s.chillerRow.settle = 0) :
    enterMonitor p s = setMonitor p ⟨.armed, some c, none, none⟩ s := by
  rw [enterMonitor, hd]
  exact if_pos ht

theorem setMonitor_self (p : Pos) (s : State) : setMonitor p (s.pcl.monitor.get p) s = s := by
  cases p <;> rfl

theorem outletArrival_armed {a : SigRec} {c : Category} {x : CategoryRow}
    (hm : (s.pcl.monitor.get p).phase = .armed) (hc : (s.pcl.monitor.get p).category = some c)
    (hx : s.categoryRow c = some x) : outletArrival p (.value a) s =
      setMonitor p (armedValue x.bound (s.value (.outletTemp p)) s.chillerRow.excursion (s.pcl.monitor.get p)) s := by
  simp only [outletArrival, hm, hc, Option.bind_some, hx]

theorem outletArrival_unarmed {a : SigRec} (hm : (s.pcl.monitor.get p).phase ≠ .armed) :
    outletArrival p (.value a) s = s := by
  unfold outletArrival
  dsimp only
  split
  · next h _ => exact absurd h hm
  · rfl

theorem excursionExpiry_armed {c : Category} {n : Nat} (hm : (s.pcl.monitor.get p).phase = .armed)
    (hc : (s.pcl.monitor.get p).category = some c) (hn : (s.pcl.monitor.get p).excursion = some n) :
    excursionExpiry p s = post (.reRateRequest p c (s.value (.outletTemp p)))
      (setMonitor p { s.pcl.monitor.get p with phase := .asked, excursion := none } s) := by
  unfold excursionExpiry
  dsimp only
  split
  · next h => rw [Option.some.inj (h.symm.trans hc)]
  · next h => exact (h n c hm hn hc).elim

theorem excursionExpiry_stopped (hn : (s.pcl.monitor.get p).excursion = none) : excursionExpiry p s = s := by
  unfold excursionExpiry
  dsimp only
  split
  · next h _ => simp [hn] at h
  · rfl

theorem sigless_setMonitor (p : Pos) (m : Monitor) : Sigless (setMonitor p m) := fun _ _ => rfl

end Monitor

/-- Settles O36: the monitor at each of its events, by its phase. -/
theorem categoryMonitor : Obligations.CategoryMonitor := by
  intro p s hreset set m
  have hvalue {r : SigRec} : (withRecord (.outletTemp p) r s).value (.outletTemp p) = r.value :=
    withRecord_value_same _ r s
  have harmed {r : SigRec} {c : Category} {x : CategoryRow} {n : Monitor} (hm : m.phase = .armed)
      (hc : m.category = some c) (hx : s.categoryRow c = some x)
      (hn : armedValue x.bound r.value s.chillerRow.excursion m = n) :
      exec (.outletTempArrival p (.value r)) s = .next (set n) := by
    subst hn
    refine running_of_eq hreset (seeing_sigless (sigless_setMonitor p _) ?_)
    refine (outletArrival_armed (s := withRecord (.outletTemp p) r s) hm hc hx).trans ?_
    rw [hvalue]
    rfl
  refine ⟨fun c hd ht => running_of_eq hreset (enterMonitor_settling hd ht),
    fun c hd ht => running_of_eq hreset (enterMonitor_armed hd ht), running_of_eq hreset rfl,
    fun hm ht => running_of_eq hreset ?_, fun ht => running_of_eq hreset ?_, fun r c x hm hc hx => ⟨?_, ?_, ?_⟩,
    fun r hm => running_of_eq hreset ?_, fun r hus => running_of_eq hreset ?_,
    fun r hus => running_of_eq hreset ?_, fun c n hm hc hn => running_of_eq hreset ?_,
    fun hn => running_of_eq hreset ?_⟩
  · exact if_pos ⟨hm, Option.isSome_iff_ne_none.mpr ht⟩
  · exact if_neg fun h => by simp [show (s.pcl.monitor.get p).settle = none from ht] at h
  · intro hlt hnone
    exact harmed hm hc hx (by simp [armedValue, hlt, hnone, startSeconds])
  · intro hlt hsome
    refine (harmed hm hc hx ?_).trans (congrArg _ (setMonitor_self p s))
    simp [armedValue, hlt, Option.isSome_iff_ne_none.mpr hsome]
    rfl
  · intro hle
    exact harmed hm hc hx (by simp [armedValue, not_lt.mpr hle])
  · exact seeing_of_eq (t := withRecord (.outletTemp p) r s) (outletArrival_unarmed hm)
  · refine seeing_sigless (sigless_setMonitor p _) ((if_neg ?_).trans rfl)
    exact Bool.eq_false_iff.mp ((withRecord_usable_same _ r s).trans hus)
  · exact seeing_of_eq (t := withRecord (.outletTemp p) r s) (if_pos ((withRecord_usable_same _ r s).trans hus))
  · exact excursionExpiry_armed hm hc hn
  · exact excursionExpiry_stopped hn

end Sys2Proof.Machine
end

section
/-! The chiller's run condition, its faults, its demand and its reserve (R76 to R84, R88). O35 and O37 follow. -/

namespace Sys2Proof.Machine

open Sys2Proof

/-! ### The run condition (R76 to R78) -/

section Run

variable {s : State}

/-- R80: the chiller's context in FAULT. -/
def Pcl.faulted (k : Pcl) (c : ChillerCause) : Pcl :=
  { k with state := .fault, cause := some c, stabilised := false, stabTimer := none, parkTimer := none }

/-- R78: the chiller's context in PARKED. -/
def Pcl.parkedNow (k : Pcl) : Pcl :=
  { k with state := .parked, stabilised := false, stabTimer := none, parkTimer := none }

theorem enterChillerFault_eq (c : ChillerCause) (hf : s.chillerRow.fitted = true) (hs : s.pcl.state ≠ .fault) :
    enterChillerFault c s = notice .chillerFault 0 (u1 c.num ++ u4 s.pcl.reserve)
      (updPcl (fun k => k.faulted c) (close .chillerDrive s)) :=
  if_neg (by simp [hf, hs])

theorem enterChillerFault_none (c : ChillerCause) (h : s.chillerRow.fitted = false ∨ s.pcl.state = .fault) :
    enterChillerFault c s = s := if_pos (by rcases h with h | h <;> simp [h])

theorem parkChiller_eq (s : State) : parkChiller s = updPcl Pcl.parkedNow (close .chillerDrive s) := rfl

theorem runEval_unfitted (hf : s.chillerRow.fitted = false) : runEval s = s := if_pos (by simp [hf])

theorem runEval_fault (hs : s.pcl.state = .fault) : runEval s = s := by
  unfold runEval
  split
  · rfl
  · rw [hs]

theorem runEval_parked (hs : s.pcl.state = .parked) (hr : s.runCondition = false) : runEval s = s := by
  unfold runEval
  split
  · rfl
  · rw [hs]
    exact onlyIf_neg hr _ _

theorem runEval_starts (hf : s.chillerRow.fitted = true) (hs : s.pcl.state = .parked)
    (hr : s.runCondition = true) : runEval s = startChiller s := by
  rw [runEval, if_neg (by simp [hf]), hs]
  exact onlyIf_pos hr _ _

theorem runEval_runs (hf : s.chillerRow.fitted = true) (hs : s.pcl.state = .pulldown ∨ s.pcl.state = .ready)
    (hr : s.runCondition = true) : runEval s = stopPark s := by
  unfold runEval
  rw [if_neg (by simp [hf])]
  rcases hs with hs | hs <;> rw [hs] <;> exact if_pos hr

theorem runEval_idles (hf : s.chillerRow.fitted = true) (hs : s.pcl.state = .pulldown ∨ s.pcl.state = .ready)
    (hr : s.runCondition = false) : runEval s = beginPark s := by
  unfold runEval
  rw [if_neg (by simp [hf])]
  rcases hs with hs | hs <;> rw [hs] <;> exact if_neg (Bool.eq_false_iff.mp hr)

theorem beginPark_timed (ht : s.pcl.parkTimer ≠ none) : beginPark s = s :=
  if_pos (Option.isSome_iff_ne_none.mpr ht)

theorem beginPark_now (ht : s.pcl.parkTimer = none) (hd : s.chillerRow.parkDelay = 0) :
    beginPark s = parkChiller s := by simp [beginPark, ht, hd]

theorem beginPark_later (ht : s.pcl.parkTimer = none) (hd : 0 < s.chillerRow.parkDelay) :
    beginPark s = updPcl (fun k => { k with parkTimer := some (10 * s.chillerRow.parkDelay) }) s := by
  simp [beginPark, ht, hd.ne', startSeconds]

theorem PerPos.any_toList {α : Type} (v : PerPos α) (f : α → Bool) :
    v.toList.any f = Pos.all.any (fun q => f (v.get q)) := rfl

theorem any_set_none (v : PerPos (Option Category)) (p : Pos) : (v.set p none).toList.any Option.isSome
    = Pos.all.any (fun q => q != p && (v.get q).isSome) := by
  rw [PerPos.any_toList]
  cases p <;> rfl

end Run

/-! ### The fault contact (R80, R84) -/

section Contact

variable {s : State}

theorem chillerFaultDelivery_set (hu : s.usable .chillerFault = true) (hl : s.level .chillerFault = true) :
    chillerFaultDelivery s = reEvaluate (enterChillerFault .level s) := by
  simp only [chillerFaultDelivery, State.contactLevel, hu, hl, if_true]

theorem chillerFaultDelivery_clear (hu : s.usable .chillerFault = true) (hl : s.level .chillerFault = false) :
    chillerFaultDelivery s = reEvaluate (leaveChillerFault s) := by
  simp only [chillerFaultDelivery, State.contactLevel, hu, hl, if_true]

theorem chillerFaultDelivery_lost (hu : s.usable .chillerFault = false) :
    chillerFaultDelivery s = reEvaluate s := by
  simp only [chillerFaultDelivery, State.contactLevel, hu, Bool.false_eq_true, if_false]

theorem leaveChillerFault_idle (hs : s.pcl.state = .fault) (hm : s.smc.mode ≠ .run)
    (hd : ∀ p, s.pcl.demand.get p = none) : leaveChillerFault s = updPcl (fun k =>
      { k with state := .parked, cause := none, stabilised := false, stabTimer := none }) s := by
  rw [leaveChillerFault, if_pos hs]
  refine runEval_parked rfl ?_
  have hno : s.pcl.demand.toList.any Option.isSome = false := by
    simp [PerPos.any_toList, Pos.all, hd]
  simp [State.runCondition, updPcl, chillerTo, hno, hm]

theorem leaveChillerFault_none (hs : s.pcl.state ≠ .fault) : leaveChillerFault s = s := if_neg hs

theorem sigless_updPcl (f : Pcl → Pcl) : Sigless (updPcl f) := fun _ _ => rfl

end Contact

/-- Settles O37: the timers, the fault contact by the record delivered, ISOLATE and the trip. -/
theorem chillerEvents : Obligations.ChillerEvents := by
  intro s hreset hpending fault parked up
  refine ⟨fun h => running_of_eq hreset ?_, fun h => running_of_eq hreset ?_,
    fun h => running_of_eq hreset (if_pos (Option.isSome_iff_ne_none.mpr h)),
    fun h => running_of_eq hreset ?_, fun hf hs => running_of_eq hreset (enterChillerFault_eq _ hf hs),
    fun h => running_of_eq hreset (enterChillerFault_none _ h), fun a => ?_,
    fun h => running_of_eq hreset ?_, fun h => running_of_eq hreset ?_⟩
  · rw [stabilised, if_pos (Option.isSome_iff_ne_none.mpr h)]
    exact reEvaluate_none hpending
  · simp [stabilised, h]
  · simp [parkExpiry, h]
  · intro x
    let w := withRecord .chillerFault a.record s
    have hw (q : Pos) : w.pcl.pending.get q = none := hpending q
    have hus : w.usable .chillerFault = x.quality.usable := withRecord_usable_same _ _ s
    have hlev : w.level .chillerFault = x.level := by simp [w, State.level, x]
    have hsame (h : chillerFaultDelivery w = w) : exec (.chillerFaultDelivery a) s = .next s :=
      running_of_eq hreset (seeing_of_eq (t := w) h)
    refine ⟨fun hu hl hf hs => running_of_eq hreset (seeing_sigless
        ((sigless_notice _ _ _).comp ((sigless_updPcl _).comp (sigless_close _))) ?_),
      fun hu hl h => hsame ?_, fun hu hl hs hf hm hd => running_of_eq hreset (seeing_sigless (sigless_updPcl _) ?_),
      fun h => hsame ?_⟩
    · refine (chillerFaultDelivery_set (s := w) (hus.trans hu) (hlev.trans hl)).trans ?_
      rw [enterChillerFault_eq _ (by exact hf) (by exact hs)]
      exact reEvaluate_none fun q => by simpa [Pcl.faulted] using hw q
    · rw [chillerFaultDelivery_set (hus.trans hu) (hlev.trans hl), enterChillerFault_none _ (by exact h)]
      exact reEvaluate_none hw
    · refine (chillerFaultDelivery_clear (s := w) (hus.trans hu) (hlev.trans hl)).trans ?_
      rw [leaveChillerFault_idle (by exact hs) (by exact hm) (by exact hd)]
      exact reEvaluate_none hw
    · rcases h with h | ⟨hl, hs⟩
      · exact (chillerFaultDelivery_lost (hus.trans h)).trans (reEvaluate_none hw)
      · cases hu : x.quality.usable
        · exact (chillerFaultDelivery_lost (hus.trans hu)).trans (reEvaluate_none hw)
        · rw [chillerFaultDelivery_clear (hus.trans hu) (hlev.trans hl), leaveChillerFault_none (by exact hs)]
          exact reEvaluate_none hw
  · refine if_pos ?_
    rcases h with h | h <;> simp [h, ChillerState.runs]
  · refine if_neg fun hr => h ?_
    cases hs : s.pcl.state <;> simp only [hs, ChillerState.runs, Bool.false_eq_true] at hr
    · exact .inl hs
    · exact .inr hs

end Sys2Proof.Machine
end

section
/-! The demand and the admission (R76, R77, R84). O35 follows. -/

namespace Sys2Proof.Machine

open Sys2Proof

section Demand

variable {s : State} {p : Pos} {c : Category}

theorem openFull_updPcl (r : Role) (f : Pcl → Pcl) (s : State) :
    openFull r (updPcl f s) = updPcl f (openFull r s) := (plain_updPcl f).openFull r s

theorem close_updPcl (r : Role) (f : Pcl → Pcl) (s : State) :
    close r (updPcl f s) = updPcl f (close r s) := (plain_updPcl f).close r s

theorem startChiller_pulldown (h : s.pcl.reserve < s.chillerRow.readyOn) : startChiller s =
    updPcl (fun k => { k with state := .pulldown, stabilised := false, stabTimer := none })
      (openFull .chillerDrive s) := if_neg (not_le.mpr h)

theorem demandOf_some (h : c ≠ .c00) : demandOf (some c) = some c := by
  cases c <;> first | rfl | exact absurd rfl h

theorem demandOf_none {o : Option Category} (h : o = none ∨ o = some .c00) : demandOf o = none := by
  rcases h with rfl | rfl <;> rfl

theorem pending_set_none (h : ∀ q, s.pcl.pending.get q = none) (p q : Pos) :
    (s.pcl.pending.set p none).get q = none := by
  by_cases hq : q = p
  · subst hq
    simp
  · exact (PerPos.get_set_ne _ _ hq).trans (h q)

/-- R76: the context once the demand of a position is none. -/
def Pcl.undemanded (k : Pcl) (p : Pos) : Pcl :=
  { k with
    demand := k.demand.set p none, pending := k.pending.set p none
    monitor := k.monitor.set p ⟨.idle, none, none, none⟩ }

/-- R76: the run condition that the other positions' demands leave, fitted or not. -/
def State.neededBut (s : State) (p : Pos) : Bool :=
  !s.latched && (s.smc.mode == .run || Pos.all.any (fun q => q != p && (s.pcl.demand.get q).isSome))

theorem categoryReport_end {o : Option Category} (ho : o = none ∨ o = some .c00)
    (hp : ∀ q, s.pcl.pending.get q = none) {u : State}
    (hu : runEval (updPcl (fun k => k.undemanded p) s) = u) (hpend : u.pcl.pending = s.pcl.pending.set p none) :
    categoryReport p o false s = u := by
  have hdemand : settleDemand p (updPcl (fun k =>
      { k with demand := k.demand.set p (demandOf o), source := k.source }) s)
        = updPcl (fun k => k.undemanded p) s := by
    rw [demandOf_none ho, settleDemand]
    simp only [updPcl_pcl, PerPos.get_set_same]
    rfl
  rw [categoryReport]
  simp only [Bool.false_eq_true, if_false]
  rw [hdemand, hu]
  refine reEvaluate_none fun q => ?_
  rw [hpend]
  exact pending_set_none hp p q

theorem runCondition_undemanded (s : State) (p : Pos) :
    (updPcl (fun k => k.undemanded p) s).runCondition = (s.chillerRow.fitted && s.neededBut p) := by
  simp only [State.runCondition, updPcl_pcl, Pcl.undemanded, any_set_none, State.neededBut, ← Bool.and_assoc]
  rfl

/-- R76, R82: the context once a fill is authorised. -/
def Pcl.demanded (k : Pcl) (p : Pos) (c : Category) : Pcl :=
  { k with demand := k.demand.set p (some c), source := k.source.set p none }

theorem runCondition_demanded (hf : s.chillerRow.fitted = true) (hl : s.latched = false) :
    (updPcl (fun k => k.demanded p c) s).runCondition = true := by
  have hany : (s.pcl.demand.set p (some c)).toList.any Option.isSome = true := by
    rw [PerPos.any_toList]
    cases p <;> simp [Pos.all, PerPos.set, PerPos.get]
  have hf' : (updPcl (fun k => k.demanded p c) s).chillerRow.fitted = true := hf
  have hl' : (updPcl (fun k => k.demanded p c) s).latched = false := hl
  rw [State.runCondition, hf', hl']
  simp [Pcl.demanded, hany]

theorem categoryReport_authorised (hc : c ≠ .c00) (hf : s.chillerRow.fitted = true) (hl : s.latched = false)
    (hs : s.pcl.state = .parked) (hr : s.pcl.reserve < s.chillerRow.readyOn)
    (hm : (s.pcl.monitor.get p).phase = .idle) (hp : ∀ q, s.pcl.pending.get q = none) :
    categoryReport p (some c) true s = updPcl (fun k =>
      { k.demanded p c with state := .pulldown, stabilised := false, stabTimer := none })
      (openFull .chillerDrive s) := by
  let u := updPcl (fun k => k.demanded p c) s
  have hdemand : settleDemand p u = u := by
    have hd : u.pcl.demand.get p = some c := by simp [u, Pcl.demanded]
    have hidle : (u.pcl.monitor.get p).phase = .idle := hm
    rw [settleDemand, hd]
    exact onlyIf_neg (by simp [hidle]) _ _
  have hstart : runEval u = updPcl (fun k =>
      { k.demanded p c with state := .pulldown, stabilised := false, stabTimer := none })
      (openFull .chillerDrive s) := by
    rw [runEval_starts (s := u) hf hs (runCondition_demanded hf hl), startChiller_pulldown (s := u) hr,
      openFull_updPcl, updPcl_updPcl]
  have hreport : categoryReport p (some c) true s = reEvaluate (runEval (settleDemand p u)) := by
    rw [categoryReport, demandOf_some hc]
    rfl
  rw [hreport, hdemand, hstart]
  exact reEvaluate_none fun q => by simpa [Pcl.demanded] using hp q

theorem requestAdmission_admitted (h : s.admissible c = true) :
    admissionRequest p c s = post (.admitted p c) (setPending p none s) := by
  simp only [admissionRequest, requestAdmission, h, if_true]

theorem requestAdmission_waits (h : s.admissible c = false) : admissionRequest p c s = setPending p (some c) s := by
  simp only [admissionRequest, requestAdmission, h, Bool.false_eq_true, if_false]

end Demand

/-- Settles O35: the demand by the category and the chiller's state, the admission by R84's conditions. -/
theorem admissionAndDemand : Obligations.AdmissionAndDemand := by
  refine ⟨fun p s hreset hp => ?_, fun p s hreset => ?_,
    fun p c x s hreset hx hpend hothers hf hs ht hthr hl hmap => ?_⟩
  · intro needed dropped delay
    have hneeded : s.neededBut p = needed := rfl
    have hend {o : Option Category} {u : State} (ho : o = none ∨ o = some .c00)
        (hu : runEval (updPcl (fun k => k.undemanded p) s) = u)
        (hpend : u.pcl.pending = s.pcl.pending.set p none) : exec (.categoryReport p o false) s = .next u :=
      running_of_eq hreset (categoryReport_end ho hp hu hpend)
    let u := updPcl (fun k => k.undemanded p) s
    have hrun : u.runCondition = (s.chillerRow.fitted && s.neededBut p) := runCondition_undemanded s p
    have hidle (hf : s.chillerRow.fitted = true) (hs : s.pcl.state = .pulldown ∨ s.pcl.state = .ready)
        (hn : needed = false) : runEval u = beginPark u :=
      runEval_idles hf hs (by rw [hrun, hneeded, hn, Bool.and_false])
    refine ⟨fun c hc hf hl hs hr hm => running_of_eq hreset (categoryReport_authorised hc hf hl hs hr hm hp),
      fun o ho => ⟨fun h => hend ho ?_ rfl, fun hf hs => ⟨fun hn => hend ho ?_ rfl, fun hn ht hd => hend ho ?_ rfl,
        fun hn ht => hend ho ?_ rfl, fun hn ht hd => hend ho ?_ ?_⟩⟩, fun x => running_of_eq hreset rfl⟩
    · rcases h with h | h | ⟨h, hn⟩
      · exact runEval_unfitted h
      · exact runEval_fault h
      · exact runEval_parked h (by rw [hrun, hneeded, hn, Bool.and_false])
    · exact (runEval_runs (s := u) hf hs (by rw [hrun, hneeded, hn, hf]; rfl)).trans rfl
    · exact (hidle hf hs hn).trans (beginPark_later (s := u) ht hd)
    · exact (hidle hf hs hn).trans (beginPark_timed (s := u) ht)
    · refine (hidle hf hs hn).trans ((beginPark_now (s := u) ht hd).trans ?_)
      rw [parkChiller_eq, close_updPcl]
      rfl
    · simp [dropped]
  · intro set may
    have hmay {c : Category} {x : CategoryRow} (hx : s.categoryRow c = some x) : s.admissible c = true ↔ may x :=
      admissible_iff hx
    exact ⟨running_of_eq hreset (requestAdmission_admitted admissible_c00),
      fun c x hx h => running_of_eq hreset (requestAdmission_admitted ((hmay hx).mpr h)),
      fun c x hx h => running_of_eq hreset (requestAdmission_waits (Bool.eq_false_iff.mpr ((hmay hx).not.mpr h))),
      running_of_eq hreset rfl⟩
  · let u := updPcl (fun k => { k with stabilised := true, stabTimer := none }) s
    have hadmit : u.admissible c = true :=
      (admissible_iff (s := u) hx).mpr ⟨hf, hs, rfl, hthr, hl, fun h => by
        rw [show u.mapped .chillerFault = false from hmap] at h
        exact absurd h Bool.false_ne_true⟩
    refine running_of_eq hreset ?_
    rw [stabilised, if_pos (Option.isSome_iff_ne_none.mpr ht), reEvaluate_only (s := u) hothers,
      reEvaluateAt_admitted (s := u) hpend hadmit]
    rfl

end Sys2Proof.Machine
end

section
/-! The cold reserve (R79, R81, R82) and the requests pending then (R84). O34 follows. -/

namespace Sys2Proof.Machine

open Sys2Proof

/-- R79: the context at a reserve of `n`, by the thresholds. -/
def Pcl.settled (r : ChillerRow) (n : Nat) (k : Pcl) : Pcl :=
  if k.state = .pulldown ∧ r.readyOn ≤ n then
    { k with
      reserve := n, state := .ready, stabilised := r.stabilise == 0
      stabTimer := if r.stabilise = 0 then none else some (10 * r.stabilise) }
  else if k.state = .ready ∧ n < r.readyOff then
    { k with reserve := n, state := .pulldown, stabilised := false, stabTimer := none }
  else { k with reserve := n }

@[simp] theorem Pcl.settled_pending (r : ChillerRow) (n : Nat) (k : Pcl) :
    (k.settled r n).pending = k.pending := by
  unfold Pcl.settled
  split
  · rfl
  · split <;> rfl

theorem Pcl.settled_withPending (r : ChillerRow) (n : Nat) (k : Pcl) (x : PerPos (Option Category)) :
    Pcl.settled r n { k with pending := x } = { k.settled r n with pending := x } := by
  unfold Pcl.settled
  split
  · rfl
  · split <;> rfl

theorem updPcl_of_eq {f g : Pcl → Pcl} {s : State} (h : f s.pcl = g s.pcl) : updPcl f s = updPcl g s := by
  rw [updPcl, h]
  rfl

theorem applyThresholds_setReserve (n : Nat) (s : State) :
    applyThresholds (setReserve n s) = updPcl (Pcl.settled s.chillerRow n) s := by
  have hrow : (setReserve n s).chillerRow = s.chillerRow := rfl
  unfold applyThresholds
  cases hs : s.pcl.state with
  | pulldown =>
    simp only [setReserve, updPcl_pcl, hs]
    by_cases hr : s.chillerRow.readyOn ≤ n
    · refine (onlyIf_pos (decide_eq_true hr) _ _).trans ?_
      simp only [enterReady, updPcl_updPcl]
      refine updPcl_of_eq ?_
      exact Eq.symm (if_pos ⟨hs, hr⟩)
    · refine (onlyIf_neg (decide_eq_false hr) _ _).trans (updPcl_of_eq ?_)
      simp [Pcl.settled, hs, hr]
  | ready =>
    simp only [setReserve, updPcl_pcl, hs]
    by_cases hr : n < s.chillerRow.readyOff
    · refine (onlyIf_pos (decide_eq_true hr) _ _).trans ?_
      simp only [chillerTo, updPcl_updPcl]
      exact updPcl_of_eq (by simp [Pcl.settled, hs, hr])
    · refine (onlyIf_neg (decide_eq_false hr) _ _).trans (updPcl_of_eq ?_)
      simp [Pcl.settled, hs, hr]
  | parked =>
    simp only [setReserve, updPcl_pcl, hs]
    exact updPcl_of_eq (by simp [Pcl.settled, hs])
  | fault =>
    simp only [setReserve, updPcl_pcl, hs]
    exact updPcl_of_eq (by simp [Pcl.settled, hs])

/-! ### The reserve steps as one operation -/

section Reserve

variable {s : State} {p : Pos}

theorem ChillerState.runs_iff (st : ChillerState) : st.runs = true ↔ st = .pulldown ∨ st = .ready := by
  cases st <;> simp [ChillerState.runs]

/-- R81: the reserve after a second's step. -/
def State.stepped (s : State) : Nat :=
  (max 0 (min (s.chillerRow.capacity : Int) (s.pcl.reserve
    + (if s.pcl.state = .pulldown ∨ s.pcl.state = .ready then s.chillerRow.recovery else 0)
    - s.chillerRow.loss))).toNat

theorem reserveAfter_eq (s : State) : reserveAfter s.chillerRow s.pcl.state.runs s.pcl.reserve = s.stepped := by
  rw [reserveAfter, State.stepped, clampInt_eq (by omega)]
  simp only [ChillerState.runs_iff]

/-- R79, R84: the reserve taken as `n`, with the thresholds and the pending requests. -/
def reserveTaken (n : Nat) (s : State) : State := reEvaluate (updPcl (Pcl.settled s.chillerRow n) s)

theorem reserveStep_unfitted (h : s.chillerRow.fitted = false) : reserveStep s = s := if_neg (by simp [h])

theorem reserveStep_fitted (h : s.chillerRow.fitted = true) : reserveStep s = reserveTaken s.stepped s := by
  rw [reserveStep, if_pos h, applyThresholds_setReserve, reserveAfter_eq]
  rfl

theorem coldConsumption_idle {i : Increment} (h : s.pcl.demand.get p = none) : coldConsumption p i s = s := by
  rw [coldConsumption, h]
  rfl

theorem coldConsumption_cold {i : Increment} {c : Category} {x : CategoryRow}
    (hd : s.pcl.demand.get p = some c) (hx : s.categoryRow c = some x) :
    coldConsumption p i s = reserveTaken (s.pcl.reserve - s.coldOf p i.mg x) s := by
  rw [coldConsumption, hd, Option.bind_some, hx]
  dsimp only
  rw [applyThresholds_setReserve]
  rfl

theorem reserveTaken_unasked (n : Nat) (h : ∀ q, s.pcl.pending.get q = none) :
    reserveTaken n s = updPcl (Pcl.settled s.chillerRow n) s :=
  reEvaluate_none fun q => by simpa using h q

theorem PerPos.eq_all {α : Type} {v : PerPos α} {x : α} (h : ∀ q, v.get q = x) : v = .all x := by
  obtain ⟨a, b, c, d⟩ := v
  have h1 : a = x := h .p1
  have h2 : b = x := h .p2
  have h3 : c = x := h .p3
  have h4 : d = x := h .p4
  subst h1 h2 h3 h4
  rfl

/-- R82: the ambient temperature, or the figure that stands in for it. -/
def State.ambient (s : State) : Int := if s.usable .ambientTemp = true then s.value .ambientTemp else 500

theorem sourceTemp_eq (s : State) (p : Pos) :
    (∀ b, s.pcl.source.get p = some (.bank b) → s.sourceTemp p
        = if s.usable (.bankTemp b) = true then s.value (.bankTemp b) else s.ambient)
      ∧ (s.pcl.source.get p = some .compressor → s.sourceTemp p
        = if s.usable .dischargeTemp = true then s.value .dischargeTemp else s.ambient)
      ∧ (s.pcl.source.get p = none → s.sourceTemp p = s.ambient) := by
  have hambient : (s.usableValue .ambientTemp).getD 500 = s.ambient := by
    unfold State.usableValue State.ambient
    split <;> rfl
  have hrecord (r : Role) (x : Option Source) (hx : s.recordTemp x = s.usableValue r)
      (hs : s.pcl.source.get p = x) :
      s.sourceTemp p = if s.usable r = true then s.value r else s.ambient := by
    unfold State.sourceTemp
    rw [hs, hx, hambient]
    by_cases h : s.usable r = true <;> simp [State.usableValue, h]
  refine ⟨fun b h => hrecord _ _ rfl h, fun h => hrecord _ _ rfl h, fun h => ?_⟩
  rw [State.sourceTemp, h]
  exact hambient

/-- The state with no request pending. -/
def unasked (s : State) : State := { s with pcl := { s.pcl with pending := .all none } }

theorem reserveTaken_asked (n : Nat) {c : Category} {x : CategoryRow} (hx : s.categoryRow c = some x)
    (hp : s.pcl.pending.get p = some c) (hothers : ∀ q, q ≠ p → s.pcl.pending.get q = none) :
    let t := updPcl (Pcl.settled s.chillerRow n) (unasked s)
    (t.mayAdmit x → reserveTaken n s = post (.admitted p c) t)
      ∧ (¬t.mayAdmit x → reserveTaken n s = { t with pcl := { t.pcl with pending := s.pcl.pending } }) := by
  intro t
  let u := updPcl (Pcl.settled s.chillerRow n) s
  have hpend : u.pcl.pending = s.pcl.pending := Pcl.settled_pending _ _ _
  have ht : t = { u with pcl := { u.pcl with pending := .all none } } := by
    simp only [t, u, unasked, updPcl, Pcl.settled_withPending]
  have hmay : t.mayAdmit x ↔ u.mayAdmit x := by rw [ht]; rfl
  have hadmit := admissible_iff (s := u) hx
  have hat : reserveTaken n s = reEvaluateAt p u := reEvaluate_only fun q hq => by rw [hpend]; exact hothers q hq
  refine ⟨fun h => ?_, fun h => ?_⟩
  · rw [hat, reEvaluateAt_admitted (s := u) (by rw [hpend]; exact hp) (hadmit.mpr (hmay.mp h)), ht]
    have hnone : s.pcl.pending.set p none = .all none := PerPos.eq_all fun q => by
      by_cases hq : q = p
      · subst hq
        exact PerPos.get_set_same _ _ _
      · exact (PerPos.get_set_ne _ _ hq).trans (hothers q hq)
    simp only [setPending, updPcl, hpend, hnone]
  · rw [hat, reEvaluateAt_waiting (s := u) (by rw [hpend]; exact hp)
      (Bool.eq_false_iff.mpr fun ha => h (hmay.mpr (hadmit.mp ha))), ht, ← hpend]

end Reserve

/-- Settles O34: a step and a consumption are one operation on the reserve, and a request pending then is
answered by the state it leaves. -/
theorem coldReserve : Obligations.ColdReserve := by
  refine ⟨fun s hreset hp => ?_, fun p c x s hreset hx hp hothers => ?_⟩
  · intro r ambient temp settled
    have hsettled (n : Nat) : updPcl (Pcl.settled r n) s = settled n := rfl
    refine ⟨fun h => running_of_eq hreset (reserveStep_unfitted h), fun h => running_of_eq hreset ?_,
      fun p mg a c x hd hx => running_of_eq hreset ?_,
      fun p mg a hd => running_of_eq hreset (coldConsumption_idle hd)⟩
    · rw [reserveStep_fitted h, reserveTaken_unasked _ hp]
      rfl
    · have htemp : s.sourceTemp p = temp p := by
        obtain ⟨hbank, hcmp, hnone⟩ := sourceTemp_eq s p
        simp only [temp]
        split
        next b h => exact hbank b h
        next h => exact hcmp h
        next h => exact hnone h
      rw [coldConsumption_cold hd hx, reserveTaken_unasked _ hp, State.coldOf, htemp]
      rfl
  · intro free answers
    have hanswers {i : Instr} {n : Nat} (hfree : exec i free = .next (reserveTaken n free))
        (hs : exec i s = .next (reserveTaken n s)) : answers i := by
      obtain ⟨hadmit, hwait⟩ := reserveTaken_asked n hx hp hothers
      rw [reserveTaken_unasked n (s := free) (fun q => by cases q <;> rfl)] at hfree
      refine ⟨_, hfree, fun hf hst hsb hth hl hc => hs.trans (congrArg _ (hadmit ?_)),
        fun h => hs.trans (congrArg _ (hwait ?_))⟩
      · exact ⟨hf, hst, hsb, hth, hl, fun hm => hc.resolve_left (by rw [show s.mapped .chillerFault = true from hm]; simp)⟩
      · rintro ⟨hf, hst, hsb, hth, hl, hc⟩
        rcases h with h | h | h | h | h | ⟨hm, hu⟩
        · exact Bool.false_ne_true (h.symm.trans hf)
        · exact h hst
        · exact Bool.false_ne_true (h.symm.trans hsb)
        · exact absurd hth (not_le.mpr h)
        · exact Bool.false_ne_true (hl.symm.trans h)
        · exact Bool.false_ne_true (hu.symm.trans (hc hm))
    refine ⟨?_, fun q mg a d y hd hy => hanswers (running_of_eq hreset (coldConsumption_cold (s := free) hd hy))
      (running_of_eq hreset (coldConsumption_cold hd hy))⟩
    by_cases hf : s.chillerRow.fitted = true
    · exact hanswers (running_of_eq hreset (reserveStep_fitted (s := free) hf))
        (running_of_eq hreset (reserveStep_fitted hf))
    · have hno := Bool.eq_false_iff.mpr hf
      exact ⟨free, running_of_eq hreset (reserveStep_unfitted (s := free) hno), fun h => absurd h hf,
        fun _ => running_of_eq hreset (reserveStep_unfitted hno)⟩

end Sys2Proof.Machine
end

section
/-! The fill engine's shared operations in one form (R108 to R128): the update of the position's context outermost,
then the messages, then the other blocks' records, and the ring operations innermost. -/

namespace Sys2Proof.Machine

open Sys2Proof

/-! ### The list of positions in BANK-WAIT -/

/-- A position off the list of BANK-WAIT positions. -/
def unqueued (p : Pos) (s : State) : State :=
  { s with bankWaitOrder := s.bankWaitOrder.filter (fun q => q != p) }

section Unqueued

variable (p : Pos) (s : State)

@[simp] theorem unqueued_tables : (unqueued p s).tables = s.tables := rfl
@[simp] theorem unqueued_ret : (unqueued p s).ret = s.ret := rfl
@[simp] theorem unqueued_rif : (unqueued p s).rif = s.rif := rfl
@[simp] theorem unqueued_sig : (unqueued p s).sig = s.sig := rfl
@[simp] theorem unqueued_bkm : (unqueued p s).bkm = s.bkm := rfl
@[simp] theorem unqueued_cmp : (unqueued p s).cmp = s.cmp := rfl
@[simp] theorem unqueued_pcl : (unqueued p s).pcl = s.pcl := rfl
@[simp] theorem unqueued_fil : (unqueued p s).fil = s.fil := rfl
@[simp] theorem unqueued_mtr : (unqueued p s).mtr = s.mtr := rfl
@[simp] theorem unqueued_bil : (unqueued p s).bil = s.bil := rfl
@[simp] theorem unqueued_smc : (unqueued p s).smc = s.smc := rfl
@[simp] theorem unqueued_pins : (unqueued p s).pins = s.pins := rfl
@[simp] theorem unqueued_mail : (unqueued p s).mail = s.mail := rfl
@[simp] theorem unqueued_pending : (unqueued p s).pending = s.pending := rfl
@[simp] theorem unqueued_ctx (q : Pos) : (unqueued p s).ctx q = s.ctx q := rfl

theorem plain_unqueued : Plain (unqueued p) := ⟨fun _ => ⟨rfl, rfl, rfl⟩, fun _ _ => rfl⟩

@[simp] theorem unqueued_unqueued : unqueued p (unqueued p s) = unqueued p s := by
  simp [unqueued]

@[simp] theorem close_unqueued (r : Role) : close r (unqueued p s) = unqueued p (close r s) :=
  (plain_unqueued p).close r s
@[simp] theorem openFull_unqueued (r : Role) : openFull r (unqueued p s) = unqueued p (openFull r s) :=
  (plain_unqueued p).openFull r s
@[simp] theorem actuate_unqueued (r : Role) (c : ActCommand) (v : Nat) :
    actuate r c v (unqueued p s) = unqueued p (actuate r c v s) := (plain_unqueued p).actuate r c v s
@[simp] theorem notice_unqueued (k : NoticeKind) (n : Nat) (bs : List Byte) :
    notice k n bs (unqueued p s) = unqueued p (notice k n bs s) := (plain_unqueued p).notice k n bs s

@[simp] theorem updCtx_unqueued (q : Pos) (f : Ctx → Ctx) :
    updCtx q f (unqueued p s) = unqueued p (updCtx q f s) := rfl
@[simp] theorem postAll_unqueued (ms : List Instr) : postAll ms (unqueued p s) = unqueued p (postAll ms s) := rfl
@[simp] theorem post_unqueued (m : Instr) : post m (unqueued p s) = unqueued p (post m s) := rfl

theorem inState_eq (st : PState) :
    inState p st s = unqueued p (updCtx p (fun c => { c with state := st }) s) := rfl

/-- A change of state that SMC is not told of (R203). -/
theorem goState_silent {st : PState} (h : (s.ctx p).state.descentSpan = st.descentSpan) :
    goState p st s = unqueued p (updCtx p (fun c => { c with state := st }) s) := by
  simp [goState_eq, h, inState_eq]

/-- A change of state that SMC is told of (R203). -/
theorem goState_told {st : PState} (h : (s.ctx p).state.descentSpan ≠ st.descentSpan) :
    goState p st s = post .descentReport (unqueued p (updCtx p (fun c => { c with state := st }) s)) := by
  rw [goState_eq, inState_eq, onlyIf_pos (by simpa using h)]

end Unqueued

/-! ### The context outermost -/

section Outermost

variable (p : Pos) (f : Ctx → Ctx) (s : State)

@[simp] theorem updCtx_updCtx (g : Ctx → Ctx) : updCtx p f (updCtx p g s) = updCtx p (fun c => f (g c)) s := by
  cases p <;> rfl

theorem updCtx_of_eq {g : Ctx → Ctx} (h : f (s.ctx p) = g (s.ctx p)) : updCtx p f s = updCtx p g s := by
  rw [updCtx, h, updCtx]

theorem updCtx_self (h : f (s.ctx p) = s.ctx p) : updCtx p f s = s := by
  rw [updCtx, h]
  cases p <;> rfl

@[simp] theorem openFull_updCtx (r : Role) : openFull r (updCtx p f s) = updCtx p f (openFull r s) :=
  (plain_updCtx p f).openFull r s
@[simp] theorem actuate_updCtx (r : Role) (c : ActCommand) (v : Nat) :
    actuate r c v (updCtx p f s) = updCtx p f (actuate r c v s) := (plain_updCtx p f).actuate r c v s
@[simp] theorem notice_updCtx (k : NoticeKind) (n : Nat) (bs : List Byte) :
    notice k n bs (updCtx p f s) = updCtx p f (notice k n bs s) := (plain_updCtx p f).notice k n bs s
@[simp] theorem reply_updCtx (rq : Req) (c : Nat) (st : Status) (bs : List Byte) :
    reply rq c st bs (updCtx p f s) = updCtx p f (reply rq c st bs s) := (plain_updCtx p f).reply rq c st bs s

@[simp] theorem post_updCtx (m : Instr) : post m (updCtx p f s) = updCtx p f (post m s) := rfl
@[simp] theorem postAll_updCtx (ms : List Instr) : postAll ms (updCtx p f s) = updCtx p f (postAll ms s) := rfl
@[simp] theorem updPcl_updCtx (g : Pcl → Pcl) : updPcl g (updCtx p f s) = updCtx p f (updPcl g s) := rfl
@[simp] theorem updCmp_updCtx (g : Cmp → Cmp) : updCmp g (updCtx p f s) = updCtx p f (updCmp g s) := rfl
@[simp] theorem updBank_updCtx (b : Bank) (g : BankRec → BankRec) :
    updBank b g (updCtx p f s) = updCtx p f (updBank b g s) := rfl
@[simp] theorem leaveBankLists_updCtx (q : Pos) :
    leaveBankLists q (updCtx p f s) = updCtx p f (leaveBankLists q s) := rfl
@[simp] theorem admissionCancel_updCtx (q : Pos) :
    admissionCancel q (updCtx p f s) = updCtx p f (admissionCancel q s) := rfl
@[simp] theorem onlyIf_post_updCtx (b : Bool) (m : Instr) :
    onlyIf b (post m) (updCtx p f s) = updCtx p f (onlyIf b (post m) s) := by cases b <;> rfl

end Outermost

/-! ### The context after the operations that leave it -/

section CtxReads

variable (q : Pos) (s : State)

@[simp] theorem close_ctx (r : Role) : (close r s).ctx q = s.ctx q := by simp [State.ctx]
@[simp] theorem openFull_ctx (r : Role) : (openFull r s).ctx q = s.ctx q := by simp [State.ctx]
@[simp] theorem actuate_ctx (r : Role) (c : ActCommand) (v : Nat) : (actuate r c v s).ctx q = s.ctx q := by
  simp [State.ctx]
@[simp] theorem notice_ctx (k : NoticeKind) (n : Nat) (bs : List Byte) : (notice k n bs s).ctx q = s.ctx q := by
  simp [State.ctx]
@[simp] theorem reply_ctx (rq : Req) (c : Nat) (st : Status) (bs : List Byte) :
    (reply rq c st bs s).ctx q = s.ctx q := by simp [State.ctx]
@[simp] theorem post_ctx (m : Instr) : (post m s).ctx q = s.ctx q := rfl
@[simp] theorem postAll_ctx (ms : List Instr) : (postAll ms s).ctx q = s.ctx q := rfl
@[simp] theorem updPcl_ctx (g : Pcl → Pcl) : (updPcl g s).ctx q = s.ctx q := rfl
@[simp] theorem updCmp_ctx (g : Cmp → Cmp) : (updCmp g s).ctx q = s.ctx q := rfl
@[simp] theorem updBank_ctx (b : Bank) (g : BankRec → BankRec) : (updBank b g s).ctx q = s.ctx q := rfl
@[simp] theorem leaveBankLists_ctx (p : Pos) : (leaveBankLists p s).ctx q = s.ctx q := rfl
@[simp] theorem admissionCancel_ctx (p : Pos) : (admissionCancel p s).ctx q = s.ctx q := rfl
@[simp] theorem withRecord_ctx (r : Role) (x : SigRec) : (withRecord r x s).ctx q = s.ctx q := rfl

end CtxReads

/-! ### The valves of a position -/

section Valves

variable (p : Pos) (s : State)

@[simp] theorem closeFlow_updCtx (q : Pos) (f : Ctx → Ctx) :
    closeFlow p (updCtx q f s) = updCtx q f (closeFlow p s) := by simp [closeFlow]

@[simp] theorem closeFlow_ctx (q : Pos) : (closeFlow p s).ctx q = s.ctx q := by simp [closeFlow]

theorem closeFlow_onlyRif : closeFlow p s = { s with rif := (closeFlow p s).rif } := by
  have hinner := close_onlyRif (.dispenseValve p) s
  rw [closeFlow, close_onlyRif, hinner]

theorem closeDrawn_bank {b : Bank} (h : (s.ctx p).source = some (.bank b)) :
    closeDrawn p s = close (.bankValve b (.pos p)) s := by rw [closeDrawn, h]

theorem closeDrawn_dry (h : ∀ b, (s.ctx p).source ≠ some (.bank b)) : closeDrawn p s = s := by
  unfold closeDrawn
  split
  · next b hb => exact absurd hb (h b)
  · rfl

theorem openDrawn_bank {b : Bank} (h : (s.ctx p).source = some (.bank b)) :
    openDrawn p s = openFull (.bankValve b (.pos p)) s := by rw [openDrawn, h]

theorem openDrawn_dry (h : ∀ b, (s.ctx p).source ≠ some (.bank b)) : openDrawn p s = s := by
  unfold openDrawn
  split
  · next b hb => exact absurd hb (h b)
  · rfl

end Valves

/-! ### Sources and waits given up (R115, R128) -/

section GivenUp

variable {p : Pos} {s : State}

theorem leaveBankLists_unlisted (h : s.onBankList p = false) : leaveBankLists p s = s := by
  have hkeep : ∀ r ∈ s.bkm.toList, { r with waiters := r.waiters.filter (fun q => q != p) } = r := by
    intro r hr
    have hr' : r.waiters.contains p = false := by simpa using List.any_eq_false.mp h r hr
    have hne : ∀ q ∈ r.waiters, (q != p) = true := fun q hq => by
      rw [bne_iff_ne]
      exact fun hqp => by simp [hqp ▸ hq] at hr'
    rw [List.filter_eq_self.mpr hne]
  have hmap : s.bkm.map (fun r => { r with waiters := r.waiters.filter (fun q => q != p) }) = s.bkm := by
    cases hb : s.bkm
    simp_all [PerBank.map, PerBank.toList]
  rw [leaveBankLists, hmap]

theorem withdrawBank_free (h : s.heldBank p = none) : withdrawBank p s = (.withdrawn, leaveBankLists p s) := by
  unfold withdrawBank
  by_cases hl : s.onBankList p = true
  · rw [if_pos hl]
  · rw [if_neg hl, h, leaveBankLists_unlisted (by simpa using hl)]

/-- R65: a position off the wait list of the output. -/
def offOutputList (p : Pos) (s : State) : State :=
  updCmp (fun k => { k with waiters := k.waiters.filter (fun q => q ≠ p) }) s

theorem withdrawOutput_free (h : s.outputHolder ≠ some p) :
    withdrawOutput p s = (.withdrawn, offOutputList p s) := by
  have hfst : (withdrawOutput p s).1 = .withdrawn := by
    unfold withdrawOutput
    rw [if_neg h]
    split <;> rfl
  exact Prod.ext hfst (withdrawOutput_eq p s)

/-- R128: a wait given up by a position that holds nothing. -/
def unwaited (p : Pos) (s : State) : State :=
  if (s.ctx p).waitOn = none then s else offOutputList p (leaveBankLists p s)

theorem dropWait_none (h : (s.ctx p).waitOn = none) : dropWait p s = s := by simp [dropWait, h]

theorem dropWait_free (hb : s.heldBank p = none) (ho : s.outputHolder ≠ some p) :
    dropWait p s = updCtx p (fun c => { c with waitOn := none }) (unwaited p s) := by
  by_cases h : (s.ctx p).waitOn = none
  · rw [dropWait_none h, unwaited, if_pos h, updCtx_self _ _ _ (by rw [← h])]
  · have hfree : withdrawBank p (updCtx p (fun c => { c with waitOn := none }) s) =
        (.withdrawn, updCtx p (fun c => { c with waitOn := none }) (leaveBankLists p s)) :=
      withdrawBank_free (s := updCtx p _ s) hb
    have hout : withdrawOutput p (updCtx p (fun c => { c with waitOn := none }) (leaveBankLists p s)) =
        (.withdrawn, updCtx p (fun c => { c with waitOn := none }) (offOutputList p (leaveBankLists p s))) :=
      withdrawOutput_free (s := updCtx p _ (leaveBankLists p s)) ho
    rw [dropWait, if_neg (by simpa using h), unwaited, if_neg h]
    simp only [hfree, hout]

theorem releaseSource_none (h : (s.ctx p).source = none) : releaseSource p s = s := by
  rw [releaseSource, h]
  exact updCtx_self _ _ _ (by rw [← h])

/-- R41, R45: a bank that a position drew from and nobody awaits, released with its check skipped. -/
def bankFreed (p : Pos) (b : Bank) (s : State) : State :=
  postAll [.sessionOutcome p b .unchecked, .filBankAnnouncement b, .cmpBankAnnouncement b]
    (updBank b (fun r => { r with
        state := .available, session := none, last := some (.draw p .unchecked none) })
      (close (.bankValve b (.pos p)) s))

@[simp] theorem bankFreed_updCtx (q : Pos) (b : Bank) (f : Ctx → Ctx) :
    bankFreed p b (updCtx q f s) = updCtx q f (bankFreed p b s) := by simp [bankFreed]

@[simp] theorem bankFreed_ctx (q : Pos) (b : Bank) : (bankFreed p b s).ctx q = s.ctx q := by simp [bankFreed]

theorem releaseBank_unchecked {b : Bank} {x : Session} (hheld : (s.bank b).state = .claimedPos p)
    (hs : (s.bank b).session = some x) (hx : x.holder = .pos p) (hskip : x.openValid = false)
    (hw : (s.bank b).waiters = []) : releaseBank b (.pos p) s = bankFreed p b s := by
  rw [releaseBank_held (by exact hheld), closeSession_unchecked hs hx (.inl hskip)]
  rw [passBank_empty (by simp [drawClosed, hw])]
  simp only [drawClosed, close_post, close_updBank, holderValve, bankFreed]
  rw [show ∀ (g : BankRec → BankRec) m u, updBank b g (post m u) = post m (updBank b g u) from fun _ _ _ => rfl,
    updBank_updBank, post_eq_postAll, postAll_append]
  rfl

theorem releaseSource_bank {b : Bank} {x : Session} (hsrc : (s.ctx p).source = some (.bank b))
    (hin : (s.ctx p).state.inProgress = true) (hheld : (s.bank b).state = .claimedPos p)
    (hs : (s.bank b).session = some x) (hx : x.holder = .pos p) (hskip : x.openValid = false)
    (hw : (s.bank b).waiters = []) :
    releaseSource p s =
      updCtx p (fun c => { c with source := none, awaited := c.awaited ++ [b] }) (bankFreed p b s) := by
  rw [releaseSource, hsrc]
  simp only [releaseAwaited, updCtx_ctx_same, hin, onlyIf_true, updCtx_updCtx]
  rw [releaseBank_unchecked (s := updCtx p _ s) hheld hs hx hskip hw, bankFreed_updCtx]

theorem releaseSource_output (hsrc : (s.ctx p).source = some .compressor)
    (hh : s.outputHolder = some p) (hst : s.cmp.state = .loaded) (hw : s.cmp.waiters = [])
    (hc : s.refillCandidates = []) (hrun : s.runTimer < s.cmpRow.minRun) :
    releaseSource p s = updCtx p (fun c => { c with source := none })
      (postAll cmpReports (updCmp Cmp.unloading s)) := by
  rw [releaseSource, hsrc]
  simp only
  rw [releaseOutput, if_pos (by exact hh),
    enterUnloaded_stays (s := updCtx p _ s) (by simp [hst]) hw hc hrun, updCmp_updCtx, postAll_updCtx]

end GivenUp

end Sys2Proof.Machine
end

section
/-! The end of a fill (R127, R128) and a fault cause at a position (R131). O39 and O40 follow. -/

namespace Sys2Proof.Machine

open Sys2Proof

/-! ### What an end leaves -/

section Ends

variable {p : Pos} {s : State} {r : EndReason}

/-- R128: the ended context, with MAIN left and the admission cancelled, on what giving up the source and the
wait left. -/
def endOut (p : Pos) (c : Ctx) (fromMain : Bool) (v : State) : State :=
  unqueued p (updCtx p (fun _ => c) (onlyIf fromMain (post (.mainLeaveReport p)) (admissionCancel p v)))

theorem endOut_updCtx (c : Ctx) (b : Bool) (f : Ctx → Ctx) (v : State) :
    endOut p c b (updCtx p f v) = endOut p c b v := by
  cases b <;> simp [endOut]

/-- An end in terms of what giving up the source and the wait leaves. -/
theorem endFill_eq {g : Ctx → Ctx} {v : State} (hend : (s.ctx p).state.endable = true)
    (hwin : 0 < (s.posRow p).afterRun)
    (hup : dropWait p (releaseSource p (closeDrawn p (closeFlow p (updCtx p (fun c =>
      { c with endReason := some r, endTime := s.ret.clock, opening := 0 }) s)))) = updCtx p g v)
    (hst : (g (v.ctx p)).state = (s.ctx p).state) :
    endFill p r s = endOut p { g (v.ctx p) with
        state := .ending, soc := none
        timers := { PosTimers.stopped with afterRun := some (s.posRow p).afterRun } }
      (s.ctx p).fromMain v := by
  have hspan : (g (v.ctx p)).state.descentSpan = true := by
    rw [hst, PState.descentSpan, PState.inProgress, hend]
    rfl
  have hwindow : endTimers (s.posRow p).afterRun =
      { PosTimers.stopped with afterRun := some (s.posRow p).afterRun } := by
    rw [endTimers, if_neg (by omega)]
    rfl
  rw [endFill]
  simp only [hend, Bool.not_true, Bool.false_eq_true, if_false, hup]
  simp only [admissionCancel_updCtx, onlyIf_post_updCtx, updCtx_updCtx]
  rw [goState_silent _ _ (by
    rw [updCtx_ctx_same]
    cases (s.ctx p).fromMain <;> exact hspan)]
  rw [tryLeave, onlyIf_neg (by simp [hwindow])]
  simp only [updCtx_updCtx, hwindow, endOut]
  congr 1
  refine updCtx_of_eq _ _ _ ?_
  cases (s.ctx p).fromMain <;> rfl

theorem unwaited_updCtx {f : Ctx → Ctx} (h : (f (s.ctx p)).waitOn = (s.ctx p).waitOn) :
    unwaited p (updCtx p f s) = updCtx p f (unwaited p s) := by
  unfold unwaited
  rw [updCtx_ctx_same, h]
  split <;> rfl

@[simp] theorem unwaited_ctx (q : Pos) : (unwaited p s).ctx q = s.ctx q := by
  unfold unwaited
  split <;> rfl

/-- R128: an end at a position without a source. -/
theorem endFill_sourceless (hend : (s.ctx p).state.endable = true) (hs : s.sourceless p) :
    endFill p r s = endOut p (s.endedCtx p r []) (s.ctx p).fromMain (unwaited p (closeFlow p s)) := by
  let g : Ctx → Ctx := fun c =>
    { c with endReason := some r, endTime := s.ret.clock, opening := 0, waitOn := none }
  have hg : g ((unwaited p (closeFlow p s)).ctx p) = g (s.ctx p) := by rw [unwaited_ctx, closeFlow_ctx]
  rw [endFill_eq (g := g) (v := unwaited p (closeFlow p s)) hend hs.window ?up (by rw [hg])]
  case up =>
    rw [closeFlow_updCtx, closeDrawn_dry _ _ (by simp [hs.source]), releaseSource_none (by simp [hs.source]),
      dropWait_free (by rw [closeFlow_onlyRif]; exact hs.noBank) (by rw [closeFlow_onlyRif]; exact hs.noOutput),
      unwaited_updCtx rfl, updCtx_updCtx]
  rw [hg]
  simp [g, State.endedCtx, hs.source]

/-- R41, R128: an end at a position that draws from a bank nobody awaits. -/
theorem endFill_drawing {b : Bank} {x : Session} (hend : (s.ctx p).state.endable = true)
    (hwin : 0 < (s.posRow p).afterRun) (hwait : (s.ctx p).waitOn = none)
    (hsrc : (s.ctx p).source = some (.bank b)) (hheld : (s.bank b).state = .claimedPos p)
    (hsess : (s.bank b).session = some x) (hx : x.holder = .pos p) (hskip : x.openValid = false)
    (hw : (s.bank b).waiters = []) :
    endFill p r s = endOut p (s.endedCtx p r [b]) (s.ctx p).fromMain
      (bankFreed p b (close (.bankValve b (.pos p)) (closeFlow p s))) := by
  let g : Ctx → Ctx := fun c =>
    { c with
      endReason := some r, endTime := s.ret.clock, opening := 0, source := none, awaited := c.awaited ++ [b] }
  have hin : (s.ctx p).state.inProgress = true := by rw [PState.inProgress, hend]; rfl
  have hbank : ∀ f, (updCtx p f (close (.bankValve b (.pos p)) (closeFlow p s))).bank b = s.bank b :=
    fun f => by simp [State.bank, closeFlow]
  rw [endFill_eq (g := g) (v := bankFreed p b (close (.bankValve b (.pos p)) (closeFlow p s))) hend hwin ?up
    (by simp [g])]
  case up =>
    rw [closeFlow_updCtx, closeDrawn_bank _ _ (b := b) (by simp [hsrc]), close_updCtx,
      releaseSource_bank (b := b) (x := x) (by simp [hsrc]) (by simp [hin]) (by rw [hbank, hheld]) (by rw [hbank, hsess]) hx hskip
        (by rw [hbank, hw]),
      bankFreed_updCtx, updCtx_updCtx, dropWait_none (by simp [hwait])]
  simp [g, State.endedCtx, hwait]

/-- R64, R128: an end at a position that the output feeds, with nobody waiting and nothing to be filled. -/
theorem endFill_feeding (hend : (s.ctx p).state.endable = true)
    (hwin : 0 < (s.posRow p).afterRun) (hwait : (s.ctx p).waitOn = none)
    (hsrc : (s.ctx p).source = some .compressor) (hh : s.outputHolder = some p)
    (hst : s.cmp.state = .loaded) (hw : s.cmp.waiters = []) (hc : s.refillCandidates = [])
    (hrun : s.runTimer < s.cmpRow.minRun) :
    endFill p r s = endOut p (s.endedCtx p r []) (s.ctx p).fromMain
      (postAll cmpReports (updCmp Cmp.unloading (closeFlow p s))) := by
  let g : Ctx → Ctx := fun c =>
    { c with endReason := some r, endTime := s.ret.clock, opening := 0, source := none }
  rw [endFill_eq (g := g) (v := postAll cmpReports (updCmp Cmp.unloading (closeFlow p s))) hend hwin ?up
    (by simp [g])]
  case up =>
    rw [closeFlow_updCtx, closeDrawn_dry _ _ (by simp [hsrc]),
      releaseSource_output (s := updCtx p _ (closeFlow p s)) (by simp [hsrc]) (by rw [closeFlow_onlyRif]; exact hh)
        (by rw [closeFlow_onlyRif]; exact hst) (by rw [closeFlow_onlyRif]; exact hw)
        (by rw [closeFlow_onlyRif]; exact hc) (by rw [closeFlow_onlyRif]; exact hrun),
      updCmp_updCtx, postAll_updCtx, updCtx_updCtx, dropWait_none (by simp [hwait])]
  simp [g, State.endedCtx, hwait]

end Ends

/-! ### The ways a fill's source can be given up -/

/-- A change of a context that an end overwrites, or that the event itself makes. -/
def Marks (g : Ctx → Ctx) : Prop :=
  ∀ c, g c = { c with timers := (g c).timers, faultMark := (g c).faultMark, faultCause := (g c).faultCause }

theorem marks_timers (f : PosTimers → PosTimers) : Marks (fun c => { c with timers := f c.timers }) := fun _ => rfl

theorem marks_none : Marks (fun c => c) := fun _ => rfl

/-- R131: the fault mark with its cause, the first cause kept. -/
def Ctx.marked (f : FaultCause) (c : Ctx) : Ctx :=
  { c with faultMark := true, faultCause := if c.faultMark then c.faultCause else some f }

theorem marks_marked (f : FaultCause) : Marks (Ctx.marked f) := fun _ => rfl

/-- The context that an end leaves where the event has set the mark `m` with the cause `k`. -/
def State.endedAs (s : State) (p : Pos) (r : EndReason) (owed : List Bank) (c : Ctx) : Ctx :=
  { s.endedCtx p r owed with faultMark := c.faultMark, faultCause := c.faultCause }

/-- An end of the fill owes the position the outcomes of `owed`, and its source and wait given up leave `V`. -/
structure GivesUp (p : Pos) (owed : List Bank) (V : State → State) (s : State) : Prop where
  sigless : Sigless V
  ends : ∀ z g r, State.refillCandidates { s with sig := z } = s.refillCandidates → Marks g →
    endFill p r (updCtx p g { s with sig := z }) =
      endOut p (s.endedAs p r owed (g (s.ctx p))) (s.ctx p).fromMain (V { s with sig := z })

section GivesUp

variable {p : Pos} {s : State} {owed : List Bank} {V : State → State}

theorem GivesUp.marked (h : GivesUp p owed V s) {g : Ctx → Ctx} (hg : Marks g) (r : EndReason) :
    endFill p r (updCtx p g s) = endOut p (s.endedAs p r owed (g (s.ctx p))) (s.ctx p).fromMain (V s) :=
  h.ends s.sig g r rfl hg

theorem sigless_endOut (c : Ctx) (b : Bool) (h : Sigless V) : Sigless (fun s => endOut p c b (V s)) := by
  intro s z
  have hV := h s z
  cases b <;> simp only [hV, endOut, onlyIf_true, onlyIf_false] <;> rfl

theorem GivesUp.seen (h : GivesUp p owed V s) {g : Ctx → Ctx} (hg : Marks g) (r : EndReason) {ρ : Role}
    {x : SigRec} (hρ : ∀ b, ρ ≠ .bankPressure b) :
    seeing ρ x (fun u => endFill p r (updCtx p g u)) s =
      endOut p (s.endedAs p r owed (g (s.ctx p))) (s.ctx p).fromMain (V s) :=
  seeing_sigless (g := fun u => endOut p (s.endedAs p r owed (g (s.ctx p))) (s.ctx p).fromMain (V u))
    (sigless_endOut _ _ h.sigless)
    (h.ends (withRecord ρ x s).sig g r (refillCandidates_withRecord x s (fun b => (hρ b).symm)) hg)

theorem sigless_closeFlow (p : Pos) : Sigless (closeFlow p) :=
  (sigless_close (.controlValve p)).comp (sigless_close (.dispenseValve p))

theorem sigless_unwaited (p : Pos) : Sigless (unwaited p) := by
  intro s z
  have hctx : State.ctx { s with sig := z } p = s.ctx p := rfl
  unfold unwaited
  rw [hctx]
  split <;> rfl

theorem endedCtx_marked {g : Ctx → Ctx} (hg : Marks g) (z : List (Role × SigRec)) (r : EndReason) :
    State.endedCtx (updCtx p g { s with sig := z }) p r owed = s.endedAs p r owed (g (s.ctx p)) := by
  have hctx : (updCtx p g { s with sig := z }).ctx p = g (s.ctx p) := updCtx_ctx_same _ _ _
  simp only [State.endedCtx, State.endedAs, hctx]
  rw [hg (s.ctx p)]
  rfl

theorem fromMain_marked {g : Ctx → Ctx} (hg : Marks g) (c : Ctx) : (g c).fromMain = c.fromMain := by
  rw [hg c]
  rfl

theorem Marks.state {g : Ctx → Ctx} (hg : Marks g) (c : Ctx) : (g c).state = c.state := by rw [hg c]
theorem Marks.source {g : Ctx → Ctx} (hg : Marks g) (c : Ctx) : (g c).source = c.source := by rw [hg c]
theorem Marks.waitOn {g : Ctx → Ctx} (hg : Marks g) (c : Ctx) : (g c).waitOn = c.waitOn := by rw [hg c]

theorem givesUp_sourceless (hend : (s.ctx p).state.endable = true) (hs : s.sourceless p) :
    GivesUp p [] (fun u => unwaited p (closeFlow p u)) s where
  sigless := (sigless_unwaited p).comp (sigless_closeFlow p)
  ends z g r _ hg := by
    have hctx : (updCtx p g { s with sig := z }).ctx p = g (s.ctx p) := updCtx_ctx_same _ _ _
    have hs' : (updCtx p g { s with sig := z }).sourceless p :=
      ⟨by rw [hctx, hg.source, hs.source], hs.noBank, hs.noOutput, hs.window⟩
    rw [endFill_sourceless (s := updCtx p g { s with sig := z }) (by rw [hctx, hg.state, hend]) hs', endedCtx_marked hg, hctx, fromMain_marked hg,
      closeFlow_updCtx, unwaited_updCtx (by rw [hg.waitOn]), endOut_updCtx]

theorem givesUp_drawing {b : Bank} {x : Session} (hend : (s.ctx p).state.endable = true)
    (hwin : 0 < (s.posRow p).afterRun) (hwait : (s.ctx p).waitOn = none)
    (hsrc : (s.ctx p).source = some (.bank b)) (hheld : (s.bank b).state = .claimedPos p)
    (hsess : (s.bank b).session = some x) (hx : x.holder = .pos p) (hskip : x.openValid = false)
    (hw : (s.bank b).waiters = []) :
    GivesUp p [b] (fun u => bankFreed p b (close (.bankValve b (.pos p)) (closeFlow p u))) s where
  sigless := by
    have hfreed : Sigless (bankFreed p b) := fun u z => by
      have hclose := sigless_close (.bankValve b (.pos p)) u z
      rw [bankFreed, hclose]
      rfl
    exact hfreed.comp ((sigless_close _).comp (sigless_closeFlow p))
  ends z g r _ hg := by
    have hctx : (updCtx p g { s with sig := z }).ctx p = g (s.ctx p) := updCtx_ctx_same _ _ _
    rw [endFill_drawing (s := updCtx p g { s with sig := z }) (b := b) (x := x) (by rw [hctx, hg.state, hend]) hwin (by rw [hctx, hg.waitOn, hwait])
      (by rw [hctx, hg.source, hsrc]) hheld hsess hx hskip hw, endedCtx_marked hg, hctx, fromMain_marked hg,
      closeFlow_updCtx, close_updCtx, bankFreed_updCtx, endOut_updCtx]

theorem givesUp_feeding (hend : (s.ctx p).state.endable = true)
    (hwin : 0 < (s.posRow p).afterRun) (hwait : (s.ctx p).waitOn = none)
    (hsrc : (s.ctx p).source = some .compressor) (hh : s.outputHolder = some p)
    (hst : s.cmp.state = .loaded) (hw : s.cmp.waiters = []) (hc : s.refillCandidates = [])
    (hrun : s.runTimer < s.cmpRow.minRun) :
    GivesUp p [] (fun u => postAll cmpReports (updCmp Cmp.unloading (closeFlow p u))) s where
  sigless := ((sigless_postAll _).comp (sigless_updCmp _)).comp (sigless_closeFlow p)
  ends z g r hz hg := by
    have hctx : (updCtx p g { s with sig := z }).ctx p = g (s.ctx p) := updCtx_ctx_same _ _ _
    rw [endFill_feeding (s := updCtx p g { s with sig := z }) (by rw [hctx, hg.state, hend]) hwin (by rw [hctx, hg.waitOn, hwait])
      (by rw [hctx, hg.source, hsrc]) hh hst hw (hz.trans hc) hrun, endedCtx_marked hg, hctx, fromMain_marked hg,
      closeFlow_updCtx, updCmp_updCtx, postAll_updCtx, endOut_updCtx]

end GivesUp

end Sys2Proof.Machine
end

section
/-! The events that end a fill (R113, R115, R122, R127, R133, R139, R143, R145). O39 follows. -/

namespace Sys2Proof.Machine

open Sys2Proof

/-! ### The fields that an end leaves -/

section Fields

variable (p : Pos) (c : Ctx) (b : Bool) (v : State)

/-- What neither an end's context nor its messages, nor the cancelled admission, have to do with. -/
theorem endOut_field {α : Type} (f : State → α) (hf : ∀ m u, f (post m u) = f u)
    (hfil : ∀ g u, f (unqueued p (updCtx p g u)) = f u) (hpcl : ∀ g u, f (updPcl g u) = f u) :
    f (endOut p c b v) = f v := by
  rw [endOut, hfil]
  have hcancel : f (admissionCancel p v) = f v := hpcl (fun k => { k with pending := k.pending.set p none }) v
  cases b
  · exact hcancel
  · exact (hf _ _).trans hcancel

@[simp] theorem endOut_ctx_same : (endOut p c b v).ctx p = c := by simp [endOut]

theorem endOut_ctx_ne {q : Pos} (h : q ≠ p) : (endOut p c b v).ctx q = v.ctx q := by
  rw [endOut, unqueued_ctx, updCtx_ctx_ne _ _ h]
  cases b <;> rfl

theorem endOut_mail : (endOut p c b v).mail = v.mail ++ (if b then [.mainLeaveReport p] else []) := by
  cases b <;> simp [endOut, admissionCancel, setPending]

theorem endOut_pcl : (endOut p c b v).pcl = { v.pcl with pending := v.pcl.pending.set p none } := by
  cases b <;> rfl

@[simp] theorem endOut_rif : (endOut p c b v).rif = v.rif :=
  endOut_field p c b v State.rif (fun _ _ => rfl) (fun _ _ => rfl) fun _ _ => rfl
@[simp] theorem endOut_bkm : (endOut p c b v).bkm = v.bkm :=
  endOut_field p c b v State.bkm (fun _ _ => rfl) (fun _ _ => rfl) fun _ _ => rfl
@[simp] theorem endOut_cmp : (endOut p c b v).cmp = v.cmp :=
  endOut_field p c b v State.cmp (fun _ _ => rfl) (fun _ _ => rfl) fun _ _ => rfl
@[simp] theorem endOut_ret : (endOut p c b v).ret = v.ret :=
  endOut_field p c b v State.ret (fun _ _ => rfl) (fun _ _ => rfl) fun _ _ => rfl
@[simp] theorem endOut_mtr : (endOut p c b v).mtr = v.mtr :=
  endOut_field p c b v State.mtr (fun _ _ => rfl) (fun _ _ => rfl) fun _ _ => rfl
@[simp] theorem endOut_bil : (endOut p c b v).bil = v.bil :=
  endOut_field p c b v State.bil (fun _ _ => rfl) (fun _ _ => rfl) fun _ _ => rfl
@[simp] theorem endOut_sig : (endOut p c b v).sig = v.sig :=
  endOut_field p c b v State.sig (fun _ _ => rfl) (fun _ _ => rfl) fun _ _ => rfl
@[simp] theorem endOut_tables : (endOut p c b v).tables = v.tables :=
  endOut_field p c b v State.tables (fun _ _ => rfl) (fun _ _ => rfl) fun _ _ => rfl
@[simp] theorem endOut_smc : (endOut p c b v).smc = v.smc :=
  endOut_field p c b v State.smc (fun _ _ => rfl) (fun _ _ => rfl) fun _ _ => rfl
@[simp] theorem endOut_pins : (endOut p c b v).pins = v.pins :=
  endOut_field p c b v State.pins (fun _ _ => rfl) (fun _ _ => rfl) fun _ _ => rfl
@[simp] theorem endOut_pending : (endOut p c b v).pending = v.pending :=
  endOut_field p c b v State.pending (fun _ _ => rfl) (fun _ _ => rfl) fun _ _ => rfl

end Fields

section Dry

variable {p : Pos} {s : State} {r : EndReason}

/-- What an end at a position without a source leaves beside the context and the messages. -/
theorem unwaited_rest (u : State) : (unwaited p u).mail = u.mail ∧ (unwaited p u).rif = u.rif
    ∧ (unwaited p u).pcl = u.pcl ∧ (unwaited p u).tables = u.tables ∧ (unwaited p u).ret = u.ret
    ∧ (unwaited p u).sig = u.sig ∧ (unwaited p u).mtr = u.mtr ∧ (unwaited p u).bil = u.bil
    ∧ (unwaited p u).smc = u.smc ∧ (unwaited p u).pins = u.pins ∧ (unwaited p u).pending = u.pending := by
  unfold unwaited
  split <;> exact ⟨rfl, rfl, rfl, rfl, rfl, rfl, rfl, rfl, rfl, rfl, rfl⟩

/-- R128: the end of a fill at a position without a source, with the mark and the cause of `c`. -/
theorem fillEnded_endOut (c : Ctx) : FillEnded p r s
    (endOut p (s.endedAs p r [] c) (s.ctx p).fromMain (unwaited p (closeFlow p s))) := by
  obtain ⟨hmail, hrif, hpcl, htables, hret, hsig, hmtr, hbil, hsmc, hpins, hpending⟩ :=
    unwaited_rest (p := p) (closeFlow p s)
  have hflow := closeFlow_onlyRif p s
  constructor
  case context => simp [State.endedAs]
  case others => exact fun q hq => by rw [endOut_ctx_ne _ _ _ _ hq, unwaited_ctx, closeFlow_ctx]
  case told =>
    rw [endOut_mail, hmail, hflow]
  case admission => rw [endOut_pcl, hpcl, hflow]
  case lists =>
    rw [endOut_bkm, unwaited, closeFlow_ctx, hflow]
    split <;> rfl
  case output =>
    rw [endOut_cmp, unwaited, closeFlow_ctx, hflow]
    split
    · rfl
    · simp [offOutputList, updCmp, filter_bne_eq, leaveBankLists]
  case rest =>
    simp only [endOut_tables, endOut_ret, endOut_sig, endOut_mtr, endOut_bil, endOut_smc, endOut_pins,
      endOut_pending, htables, hret, hsig, hmtr, hbil, hsmc, hpins, hpending]
    rw [hflow]
    exact ⟨rfl, rfl, rfl, rfl, rfl, rfl, rfl, rfl⟩

theorem endOut_rif_dry (c : Ctx) (b : Bool) : (endOut p c b (unwaited p (closeFlow p s))).rif =
    (close (.controlValve p) (close (.dispenseValve p) s)).rif := by
  rw [endOut_rif, (unwaited_rest _).2.1]
  rfl

end Dry

/-! ### The ends by timer -/

section Events

variable {p : Pos} {s : State} {owed : List Bank} {V : State → State}

theorem expire_running {left : PosTimers → Option Nat} {stop : PosTimers → PosTimers} {f : State → State}
    (h : left (s.ctx p).timers ≠ none) : expire p left stop f s = f (updTimers p stop s) := by
  rw [expire, if_pos (by simpa [Option.isSome_iff_ne_none] using h)]

theorem expire_stopped {left : PosTimers → Option Nat} {stop : PosTimers → PosTimers} {f : State → State}
    (h : left (s.ctx p).timers = none) : expire p left stop f s = s := by
  rw [expire, if_neg (by simp [h])]

/-- An end by the expiry of a timer. -/
theorem GivesUp.expires (h : GivesUp p owed V s) {left : PosTimers → Option Nat} {stop : PosTimers → PosTimers}
    (ht : left (s.ctx p).timers ≠ none) (r : EndReason) :
    expire p left stop (endFill p r) s =
      endOut p (s.endedAs p r owed (s.ctx p)) (s.ctx p).fromMain (V s) := by
  rw [expire_running ht]
  exact h.marked (marks_timers stop) r

/-! ### The ends by event -/

theorem holsterTransition_back (hrun : (s.ctx p).state.running = true) (hl : s.level (.holster p) = true) :
    holsterTransition p s = endFill p .disconnected s := by
  unfold holsterTransition
  rw [hl]
  cases hst : (s.ctx p).state <;> simp_all [PState.running, onlyIf]

theorem coupledTransition_off (hrun : (s.ctx p).state.running = true) (hl : s.level (.coupled p) = false) :
    coupledTransition p s = endFill p .disconnected s := by
  unfold coupledTransition
  rw [hl]
  cases hst : (s.ctx p).state <;> simp_all [PState.running, onlyIf]

@[simp] theorem withRecord_level_same (r : Role) (x : SigRec) (s : State) :
    (withRecord r x s).level r = x.level := by simp [State.level]

theorem GivesUp.disconnected (h : GivesUp p owed V s) (hreset : s.smc.inReset = false)
    (hrun : (s.ctx p).state.running = true) (x : SigRec) :
    (x.level = true → exec (.filHolsterTransition p x) s =
        .next (endOut p (s.endedAs p .disconnected owed (s.ctx p)) (s.ctx p).fromMain (V s)))
    ∧ (x.level = false → exec (.filCoupledTransition p x) s =
        .next (endOut p (s.endedAs p .disconnected owed (s.ctx p)) (s.ctx p).fromMain (V s))) := by
  refine ⟨fun hl => running_of_eq hreset ?_, fun hl => running_of_eq hreset ?_⟩
  · rw [← h.seen marks_none .disconnected (ρ := .holster p) (x := x) (fun b => nofun), seeing, seeing,
      holsterTransition_back (s := withRecord (.holster p) x s) hrun (by simp [hl]), updCtx_self _ _ _ rfl]
  · rw [← h.seen marks_none .disconnected (ρ := .coupled p) (x := x) (fun b => nofun), seeing, seeing,
      coupledTransition_off (s := withRecord (.coupled p) x s) hrun (by simp [hl]), updCtx_self _ _ _ rfl]

theorem faultEvent_endable (hend : (s.ctx p).state.endable = true) (f : FaultCause) (r : EndReason) :
    faultEvent p f r s = endFill p r (updCtx p (Ctx.marked f) s) := by
  unfold faultEvent
  cases hst : (s.ctx p).state <;> simp_all [PState.endable, PState.running] <;> rfl

theorem GivesUp.faults (h : GivesUp p owed V s) (hend : (s.ctx p).state.endable = true) (f : FaultCause)
    (r : EndReason) : faultEvent p f r s =
      endOut p (s.endedAs p r owed ((s.ctx p).marked f)) (s.ctx p).fromMain (V s) :=
  (faultEvent_endable hend f r).trans (h.marked (marks_marked f) r)

/-- R127: a nozzle pressure at the class ceiling ends the fill, and is no further used. -/
theorem nozzlePressure_ceiling (hc : (Config.ceiling (s.posRow p).pclass : Int) ≤ s.nozzle p) {t : State}
    (ht : faultEvent p .ceiling .overpressure s = t) (hst : (t.ctx p).state = .ending) :
    nozzlePressure p s = t := by
  have hcheck : ceilingCheck p s = t := by rw [ceilingCheck, onlyIf_pos (by simpa using hc), ht]
  rw [nozzlePressure, hcheck]
  simp [hst, PState.running]

@[simp] theorem withRecord_nozzle_same (x : SigRec) : (withRecord (.nozzlePressure p) x s).nozzle p = x.value :=
  withRecord_value_same _ _ _

@[simp] theorem ofNum_num (p : Pos) : Pos.ofNum p.num = some p := by cases p <;> rfl

theorem GivesUp.massCap (h : GivesUp p owed V s) (hrun : (s.ctx p).state.running = true) {f : FillId} {m : Nat}
    (hf : (s.ctx p).fill = some f) (hm : f.cap * 1000 ≤ m) :
    massReport p m false s = endOut p (s.endedAs p .massCap owed (s.ctx p)) (s.ctx p).fromMain (V s) := by
  rw [massReport]
  simp only [Bool.and_false, onlyIf_false, hrun, State.capReached, hf, Bool.true_and]
  rw [onlyIf_pos (by simpa using hm)]
  exact (congrArg _ (updCtx_self _ _ _ rfl).symm).trans (h.marked marks_none .massCap)

theorem GivesUp.supervisorStop (h : GivesUp p owed V s) (hend : (s.ctx p).state.endable = true) (rq : Req) :
    positionStopRequest rq p.num s = reply rq 50 .ok []
      (endOut p (s.endedAs p .supervisorStop owed (s.ctx p)) (s.ctx p).fromMain (V s)) := by
  unfold positionStopRequest
  rw [ofNum_num]
  simp only [hend, if_true]
  exact congrArg _ ((congrArg _ (updCtx_self _ _ _ rfl).symm).trans (h.marked marks_none .supervisorStop))

end Events

/-! ### The obligation -/

section Obligation

variable {p : Pos} {s : State} {r : EndReason} {i : Instr}

/-- An end without a source by an event that sets no fault mark. -/
theorem ends_plain (h : exec i s = .next (endOut p (s.endedAs p r [] (s.ctx p)) (s.ctx p).fromMain
      (unwaited p (closeFlow p s)))) :
    ∃ t, exec i s = .next t ∧ FillEnded p r s t
      ∧ t.rif = (close (.controlValve p) (close (.dispenseValve p) s)).rif
      ∧ (t.ctx p).faultMark = (s.ctx p).faultMark ∧ (t.ctx p).faultCause = (s.ctx p).faultCause :=
  ⟨_, h, fillEnded_endOut _, endOut_rif_dry _ _, by simp [State.endedAs], by simp [State.endedAs]⟩

/-- An end without a source by a fault cause, at a position without the mark. -/
theorem ends_fault {f : FaultCause} (hmark : (s.ctx p).faultMark = false)
    (h : exec i s = .next (endOut p (s.endedAs p r [] ((s.ctx p).marked f)) (s.ctx p).fromMain
      (unwaited p (closeFlow p s)))) :
    ∃ t, exec i s = .next t ∧ FillEnded p r s t
      ∧ t.rif = (close (.controlValve p) (close (.dispenseValve p) s)).rif
      ∧ (t.ctx p).faultMark = (some f).isSome ∧ ((some f).isSome → (t.ctx p).faultCause = some f) :=
  ⟨_, h, fillEnded_endOut _, endOut_rif_dry _ _, by simp [State.endedAs, Ctx.marked],
    fun _ => by simp [State.endedAs, Ctx.marked, hmark]⟩

theorem ends_unmarked (hmark : (s.ctx p).faultMark = false)
    (h : exec i s = .next (endOut p (s.endedAs p r [] (s.ctx p)) (s.ctx p).fromMain
      (unwaited p (closeFlow p s)))) :
    ∃ t, exec i s = .next t ∧ FillEnded p r s t
      ∧ t.rif = (close (.controlValve p) (close (.dispenseValve p) s)).rif
      ∧ (t.ctx p).faultMark = (none : Option FaultCause).isSome
      ∧ ((none : Option FaultCause).isSome → (t.ctx p).faultCause = none) := by
  obtain ⟨t, ht, hended, hrif, hkept, _⟩ := ends_plain h
  exact ⟨t, ht, hended, hrif, hkept.trans hmark, fun hn => nomatch hn⟩

theorem FillEnded.reply {t : State} (h : FillEnded p r s t) (rq : Req) (n : Nat) (st : Status) (bs : List Byte) :
    FillEnded p r s (reply rq n st bs t) := by
  rw [reply_onlyRif]
  exact ⟨h.context, h.others, h.told, h.admission, h.lists, h.output, h.rest⟩

/-- What giving up a source leaves: its messages, the ring interface, the banks and the compressor, and the
rest as it was. -/
structure Leaves (mail : List Instr) (rif : Rif) (bkm : PerBank BankRec) (cmp : Cmp) (s v : State) : Prop where
  mail : v.mail = s.mail ++ mail
  rif : v.rif = rif
  bkm : v.bkm = bkm
  cmp : v.cmp = cmp
  pcl : v.pcl = s.pcl
  fil : v.fil = s.fil
  rest : v.ret = s.ret ∧ v.mtr = s.mtr ∧ v.bil = s.bil ∧ v.sig = s.sig ∧ v.tables = s.tables

/-- The end of a fill that holds a source: an event of the reason `r` with the fault cause `f`, if any. -/
theorem ends_leaving {owed : List Bank} {mail : List Instr} {rif : Rif} {bkm : PerBank BankRec} {cmp : Cmp}
    {v : State} (hv : Leaves mail rif bkm cmp s v) (f : Option FaultCause) (c : Ctx)
    (hmark : c.faultMark = ((s.ctx p).faultMark || f.isSome))
    (hcause : c.faultCause = if (s.ctx p).faultMark || f.isNone then (s.ctx p).faultCause else f)
    (h : exec i s = .next (endOut p (s.endedAs p r owed c) (s.ctx p).fromMain v)) :
    ∃ t, exec i s = .next t
      ∧ t.ctx p = { s.endedCtx p r owed with
          faultMark := (s.ctx p).faultMark || f.isSome
          faultCause := if (s.ctx p).faultMark || f.isNone then (s.ctx p).faultCause else f }
      ∧ (∀ q, q ≠ p → t.ctx q = s.ctx q)
      ∧ t.mail = s.mail ++ mail ++ (if (s.ctx p).fromMain then [.mainLeaveReport p] else []) ∧ t.rif = rif
      ∧ t.bkm = bkm ∧ t.cmp = cmp ∧ t.pcl = { s.pcl with pending := s.pcl.pending.set p none }
      ∧ t.ret = s.ret ∧ t.mtr = s.mtr ∧ t.bil = s.bil ∧ t.sig = s.sig ∧ t.tables = s.tables := by
  obtain ⟨hret, hmtr, hbil, hsig, htables⟩ := hv.rest
  refine ⟨_, h, ?_, fun q hq => ?_, ?_, ?_, ?_, ?_, ?_, ?_, ?_, ?_, ?_, ?_⟩
  · rw [endOut_ctx_same, State.endedAs, hmark, hcause]
  · rw [endOut_ctx_ne _ _ _ _ hq, State.ctx, hv.fil, State.ctx]
  · rw [endOut_mail, hv.mail]
  · rw [endOut_rif, hv.rif]
  · rw [endOut_bkm, hv.bkm]
  · rw [endOut_cmp, hv.cmp]
  · rw [endOut_pcl, hv.pcl]
  · rw [endOut_ret, hret]
  · rw [endOut_mtr, hmtr]
  · rw [endOut_bil, hbil]
  · rw [endOut_sig, hsig]
  · rw [endOut_tables, htables]

theorem leaves_drawing (b : Bank) : Leaves
    [.sessionOutcome p b .unchecked, .filBankAnnouncement b, .cmpBankAnnouncement b]
    (close (.bankValve b (.pos p)) (close (.bankValve b (.pos p))
      (close (.controlValve p) (close (.dispenseValve p) s)))).rif
    (s.bkm.set b { s.bank b with
      state := .available, session := none, last := some (.draw p .unchecked none) })
    s.cmp s (bankFreed p b (close (.bankValve b (.pos p)) (closeFlow p s))) := by
  have hu : close (.bankValve b (.pos p)) (close (.bankValve b (.pos p)) (closeFlow p s)) =
      { s with rif := (close (.bankValve b (.pos p)) (close (.bankValve b (.pos p)) (closeFlow p s))).rif } := by
    rw [close_onlyRif, close_onlyRif (.bankValve b (.pos p)) (closeFlow p s), closeFlow_onlyRif]
  rw [bankFreed, hu, closeFlow]
  generalize (close (.bankValve b (.pos p)) (close (.bankValve b (.pos p))
      (close (.controlValve p) (close (.dispenseValve p) s)))).rif = x
  exact ⟨rfl, rfl, rfl, rfl, rfl, rfl, rfl, rfl, rfl, rfl, rfl⟩

theorem leaves_feeding : Leaves [.descentReport, .compressorStateReport]
    (close (.controlValve p) (close (.dispenseValve p) s)).rif s.bkm
    { s.cmp with state := .unloaded, dest := none, holder := none, primeTimer := none } s
    (postAll cmpReports (updCmp Cmp.unloading (closeFlow p s))) := by
  rw [closeFlow_onlyRif]
  exact ⟨rfl, rfl, rfl, rfl, rfl, rfl, rfl, rfl, rfl, rfl, rfl⟩

/-- The four ways to an end that hold a source, for what giving it up leaves. -/
theorem ends_holding {owed : List Bank} {mail : List Instr} {rif : Rif} {bkm : PerBank BankRec} {cmp : Cmp}
    {V : State → State} (hreset : s.smc.inReset = false) (x : SigRec)
    (hup : (s.ctx p).state.endable = true → GivesUp p owed V s) (hv : Leaves mail rif bkm cmp s (V s)) :
    let told : List Instr := if (s.ctx p).fromMain then [.mainLeaveReport p] else []
    let ends (c : Instr) (r : EndReason) (f : Option FaultCause) : Prop := ∃ t, exec c s = .next t
      ∧ t.ctx p = { s.endedCtx p r owed with
          faultMark := (s.ctx p).faultMark || f.isSome
          faultCause := if (s.ctx p).faultMark || f.isNone then (s.ctx p).faultCause else f }
      ∧ (∀ q, q ≠ p → t.ctx q = s.ctx q) ∧ t.mail = s.mail ++ mail ++ told ∧ t.rif = rif
      ∧ t.bkm = bkm ∧ t.cmp = cmp ∧ t.pcl = { s.pcl with pending := s.pcl.pending.set p none }
      ∧ t.ret = s.ret ∧ t.mtr = s.mtr ∧ t.bil = s.bil ∧ t.sig = s.sig ∧ t.tables = s.tables
    ((s.ctx p).state.endable = true → (s.ctx p).timers.fill ≠ none → ends (.fillTimerExpiry p) .timeLimit none)
    ∧ ((s.ctx p).state.endable = true → ends (.meterFaultReport p) .meterFault (some .meter))
    ∧ ((s.ctx p).state.running = true → x.level = true → ends (.filHolsterTransition p x) .disconnected none)
    ∧ ((s.ctx p).state.running = true → x.level = false → ends (.filCoupledTransition p x) .disconnected none) := by
  have hend (hrun : (s.ctx p).state.running = true) : (s.ctx p).state.endable = true := by
    simp [PState.endable, hrun]
  refine ⟨fun he ht => ?_, fun he => ?_, fun hrun hl => ?_, fun hrun hl => ?_⟩
  · exact ends_leaving hv none (s.ctx p) (by simp) (by simp)
      (running_of_eq hreset ((hup he).expires (left := PosTimers.fill) ht .timeLimit))
  · refine ends_leaving hv (some .meter) ((s.ctx p).marked .meter) (by simp [Ctx.marked]) (by simp [Ctx.marked])
      (running_of_eq hreset ((hup he).faults he .meter .meterFault))
  · exact ends_leaving hv none (s.ctx p) (by simp) (by simp)
      (((hup (hend hrun)).disconnected hreset hrun x).1 hl)
  · exact ends_leaving hv none (s.ctx p) (by simp) (by simp)
      (((hup (hend hrun)).disconnected hreset hrun x).2 hl)

/-- The ends by timer at a position without a source. -/
theorem timerEnds (hreset : s.smc.inReset = false) :
    let ends (c : Instr) (r : EndReason) : Prop := ∃ t, exec c s = .next t ∧ FillEnded p r s t
      ∧ t.rif = (close (.controlValve p) (close (.dispenseValve p) s)).rif
      ∧ (t.ctx p).faultMark = (s.ctx p).faultMark ∧ (t.ctx p).faultCause = (s.ctx p).faultCause
    ((s.ctx p).state.endable = true → s.sourceless p → (s.ctx p).timers.fill ≠ none →
        ends (.fillTimerExpiry p) .timeLimit)
    ∧ ((s.ctx p).state.endable = true → s.sourceless p → (s.ctx p).timers.bankWait ≠ none →
        ends (.bankWaitTimerExpiry p) .banksExhausted)
    ∧ ((s.ctx p).state.endable = true → s.sourceless p → (s.ctx p).timers.pause ≠ none →
        (s.ctx p).signal = true → ends (.pauseTimerExpiry p) .signalLost)
    ∧ ((s.ctx p).state.endable = true → s.sourceless p → (s.ctx p).timers.pause ≠ none →
        (s.ctx p).signal = false → ends (.pauseTimerExpiry p) .pauseTimeout)
    ∧ ((s.ctx p).timers.fill = none → exec (.fillTimerExpiry p) s = .next s)
    ∧ ((s.ctx p).timers.bankWait = none → exec (.bankWaitTimerExpiry p) s = .next s)
    ∧ ((s.ctx p).timers.pause = none → exec (.pauseTimerExpiry p) s = .next s) := by
  refine ⟨fun he hs ht => ?_, fun he hs ht => ?_, fun he hs ht hsig => ?_, fun he hs ht hsig => ?_,
    fun ht => running_of_eq hreset (expire_stopped ht), fun ht => running_of_eq hreset (expire_stopped ht),
    fun ht => running_of_eq hreset (expire_stopped ht)⟩
  · exact ends_plain (running_of_eq hreset ((givesUp_sourceless he hs).expires ht .timeLimit))
  · exact ends_plain (running_of_eq hreset ((givesUp_sourceless he hs).expires ht .banksExhausted))
  · refine ends_plain (running_of_eq (f := pauseExpiry p) hreset ?_)
    rw [pauseExpiry, if_pos hsig]
    exact (givesUp_sourceless he hs).expires ht .signalLost
  · refine ends_plain (running_of_eq (f := pauseExpiry p) hreset ?_)
    rw [pauseExpiry, if_neg (by simp [hsig])]
    exact (givesUp_sourceless he hs).expires ht .pauseTimeout

/-- A nozzle pressure at the class ceiling, at a position without a source. -/
theorem ceilingEnds (hreset : s.smc.inReset = false) (hs : s.sourceless p)
    (he : (s.ctx p).state.endable = true) {x : SigRec}
    (hc : (Config.ceiling (s.posRow p).pclass : Int) ≤ x.value) :
    exec (.filNozzlePressure p x) s =
      .next (endOut p (s.endedAs p .overpressure [] ((s.ctx p).marked .ceiling)) (s.ctx p).fromMain
        (unwaited p (closeFlow p s))) := by
  have hup := givesUp_sourceless he hs
  have hrecords : ∀ b, Role.nozzlePressure p ≠ .bankPressure b := fun b => nofun
  have hends := hup.ends (withRecord (.nozzlePressure p) x s).sig _ .overpressure
    (refillCandidates_withRecord x s fun b => (hrecords b).symm) (marks_marked .ceiling)
  refine running_of_eq hreset ?_
  rw [← hup.seen (marks_marked .ceiling) .overpressure hrecords (x := x), seeing, seeing]
  rw [nozzlePressure_ceiling (s := withRecord (.nozzlePressure p) x s) (hc.trans_eq (withRecord_nozzle_same x).symm)
    (faultEvent_endable (s := withRecord (.nozzlePressure p) x s) he .ceiling .overpressure)
    (congrArg (fun u => (State.ctx u p).state) hends |>.trans (by simp [State.endedAs, State.endedCtx]))]

end Obligation

end Sys2Proof.Machine

namespace Sys2Proof

open Sys2Proof.Machine

/-- Settles O39: each event is an end with the event's own marks; a position gives up its source and its wait in
one of three ways, and each gives the end in one form. -/
theorem fillEnds : Obligations.FillEnds := by
  unfold Obligations.FillEnds
  refine ⟨fun p s hreset => timerEnds hreset, fun p rq x s hreset hmark hs => ?_, fun p x s hreset hwin hwait => ?_⟩
  · intro shut ends
    refine ⟨fun hrun => ?_, fun he => ?_, fun hst => ?_⟩
    · have he : (s.ctx p).state.endable = true := by simp [PState.endable, hrun]
      have hup := givesUp_sourceless he hs
      exact ⟨fun hl => ends_unmarked hmark ((hup.disconnected hreset hrun x).1 hl),
        fun hl => ends_unmarked hmark ((hup.disconnected hreset hrun x).2 hl),
        fun f m a hf hm => ends_unmarked hmark (running_of_eq hreset (hup.massCap hrun hf hm))⟩
    · have hup := givesUp_sourceless he hs
      refine ⟨?stop, ends_fault hmark (running_of_eq hreset (hup.faults he .isolate .signalLost)),
        ends_fault hmark (running_of_eq hreset (hup.faults he .meter .meterFault)),
        fun hc => ends_fault hmark (ceilingEnds hreset hs he hc)⟩
      case stop =>
        have hended : FillEnded p .supervisorStop s _ := fillEnded_endOut (s.ctx p)
        obtain ⟨htables, _, _, _, _, hsmc, _⟩ := hended.rest
        refine ⟨_, running_of_eq hreset (hup.supervisorStop he rq), hended.reply rq 50 .ok [], ?_,
          by simp [State.endedAs, hmark], fun hn => nomatch hn⟩
        exact (reply_congr ⟨endOut_rif_dry _ _, htables.trans (by simp),
          (congrArg Smc.latch hsmc).trans (by simp)⟩ rq 50 .ok []).rif
    · have he : (s.ctx p).state.endable = true := by simp [PState.endable, hst]
      refine ends_fault hmark (running_of_eq (f := unauthorisedFlow p) hreset ?_)
      rw [unauthorisedFlow, if_neg (by simp [hst, PState.running])]
      exact (givesUp_sourceless he hs).faults he .flow .meterFault
  · exact ⟨fun b y hsrc hheld hsess hx hskip hw => ends_holding hreset x
        (fun he => givesUp_drawing he hwin hwait hsrc hheld hsess hx hskip hw) (leaves_drawing b),
      fun hsrc hh hst hw hc hrun => ends_holding hreset x
        (fun he => givesUp_feeding he hwin hwait hsrc hh hst hw hc hrun) leaves_feeding⟩

end Sys2Proof
end

section
/-! Reports that end no fill (R133, R143, R144, R145) and fault causes outside a fill (R131). O40 follows. -/

namespace Sys2Proof.Machine

open Sys2Proof

section Outside

variable {p : Pos} {s : State}

theorem capReached_below {f : FillId} {m : Nat} (hf : (s.ctx p).fill = some f) (hm : m < f.cap * 1000) :
    s.capReached p m = false := by
  simp only [State.capReached, hf, decide_eq_false_iff_not]
  omega

theorem massReport_below {f : FillId} {m : Nat} (hf : (s.ctx p).fill = some f) (hm : m < f.cap * 1000) :
    massReport p m false s = s := by
  rw [massReport]
  simp [capReached_below hf hm]

/-- R144: an uncertain count marks MTR's context. -/
theorem massReport_uncertain {f : FillId} {m : Nat} (hrun : (s.ctx p).state.running = true)
    (hf : (s.ctx p).fill = some f) (hm : m < f.cap * 1000) :
    massReport p m true s = updMeter p (fun k => { k with uncertain := true }) s := by
  rw [massReport]
  simp only [PState.collecting, hrun, Bool.true_or, Bool.and_self, onlyIf_true, Bool.true_and,
    capReached_below hf hm, onlyIf_false]
  congr 1
  funext k
  simp [markUncertain]

theorem positionStop_idle (hend : (s.ctx p).state.endable = false) (rq : Req) :
    positionStopRequest rq p.num s = reply rq 50 .state [] s := by
  unfold positionStopRequest
  simp [hend]

theorem ofNum_outside {n : Nat} (h : n = 0 ∨ 5 ≤ n) : Pos.ofNum n = none := by
  rcases h with rfl | h
  · rfl
  · obtain ⟨k, rfl⟩ := Nat.exists_eq_add_of_le' h
    rfl

/-- R131: a fault cause at a position that no fill holds. -/
theorem faultEvent_offered (h : (s.ctx p).state = .closed ∨ (s.ctx p).state = .idle ∨ (s.ctx p).state = .lifted)
    (f : FaultCause) (r : EndReason) : faultEvent p f r s = notice .positionFault p.num (u1 f.num)
      (unqueued p (updCtx p (fun k => { k with state := .fault, faultCause := some f }) (closeFlow p s))) := by
  have hspan : (s.ctx p).state.descentSpan = PState.fault.descentSpan := by
    rcases h with h | h | h <;> rw [h] <;> rfl
  have hnow : faultEvent p f r s = faultNow p f s := by
    unfold faultEvent
    rcases h with h | h | h <;> rw [h]
  rw [hnow, faultNow, enterFault, closeFlow_updCtx, goState_silent _ _ (by simpa using hspan)]
  simp [State.faultNum]

theorem faultEvent_ending
    (h : (s.ctx p).state = .ending ∨ (s.ctx p).state = .venting ∨ (s.ctx p).state = .hangUp)
    (f : FaultCause) (r : EndReason) : faultEvent p f r s = updCtx p (Ctx.marked f) s := by
  unfold faultEvent
  rcases h with h | h | h <;> rw [h] <;> rfl

theorem faultEvent_fault (h : (s.ctx p).state = .fault) (f : FaultCause) (r : EndReason) :
    faultEvent p f r s = s := by
  unfold faultEvent
  rw [h]

/-- What a fault cause outside a fill brings, by a command that is the fault event there. -/
theorem faults_outside {i : Instr} {f : FaultCause} {r : EndReason} {g : State → State}
    (hreset : s.smc.inReset = false) (hi : exec i s = running s g)
    (hg : (s.ctx p).state.running = false → g s = faultEvent p f r s) :
    ((s.ctx p).state = .closed ∨ (s.ctx p).state = .idle ∨ (s.ctx p).state = .lifted →
        exec i s = .next (notice .positionFault p.num (u1 f.num)
          { updCtx p (fun k => { k with state := .fault, faultCause := some f })
              (close (.controlValve p) (close (.dispenseValve p) s)) with
            bankWaitOrder := s.bankWaitOrder.filter (fun q => q != p) }))
      ∧ ((s.ctx p).state = .ending ∨ (s.ctx p).state = .venting ∨ (s.ctx p).state = .hangUp →
        exec i s = .next (updCtx p (fun k =>
          { k with
            faultMark := true
            faultCause := if k.faultMark then k.faultCause else some f }) s))
      ∧ ((s.ctx p).state = .fault → exec i s = .next s) := by
  rw [hi]
  refine ⟨fun h => running_of_eq hreset ?_, fun h => running_of_eq hreset ?_, fun h => running_of_eq hreset ?_⟩
  · have hrun : (s.ctx p).state.running = false := by rcases h with h | h | h <;> rw [h] <;> rfl
    have horder : (closeFlow p s).bankWaitOrder = s.bankWaitOrder := by simp [closeFlow]
    rw [hg hrun, faultEvent_offered h, unqueued, updCtx_bankWaitOrder, horder, closeFlow]
  · have hrun : (s.ctx p).state.running = false := by rcases h with h | h | h <;> rw [h] <;> rfl
    rw [hg hrun, faultEvent_ending h]
    rfl
  · rw [hg (by rw [h]; rfl), faultEvent_fault h]

/-- Settles O40: the reports by their equations, and the three fault causes by the one fault event. -/
theorem outsideAFill : Obligations.OutsideAFill := by
  unfold Obligations.OutsideAFill
  refine ⟨fun p rq s hreset => ⟨fun f m a hf hm => running_of_eq hreset (massReport_below hf hm),
      fun f m a hrun hf hm => running_of_eq hreset (massReport_uncertain hrun hf hm),
      fun hrun => running_of_eq (f := unauthorisedFlow p) hreset (by rw [unauthorisedFlow, if_pos hrun]),
      fun hend => running_of_eq hreset (positionStop_idle hend rq),
      fun n hn => running_of_eq (f := positionStopRequest rq n) hreset
        (by rw [positionStopRequest, ofNum_outside hn])⟩,
    fun p s hreset => ?_⟩
  exact ⟨faults_outside (r := .signalLost) hreset rfl fun _ => rfl,
    faults_outside (r := .meterFault) hreset rfl fun _ => rfl,
    faults_outside (r := .meterFault) (g := unauthorisedFlow p) hreset rfl fun hrun => by
      rw [unauthorisedFlow, if_neg (by simp [hrun])]⟩

end Outside

end Sys2Proof.Machine
end

section
/-! The bank walk that one free bank answers, and the stages it leads to (R113 to R119). -/

namespace Sys2Proof.Machine

open Sys2Proof

/-! ### What the walk and the stages read -/

section Reads

variable {p : Pos} {s t : State}

theorem record_congr (h : t.sig = s.sig) (r : Role) : t.record r = s.record r := by
  unfold State.record
  rw [h]

theorem fillTable_congr (h : t.tables = s.tables) (k : PClass) (g : Nat) : t.fillTable k g = s.fillTable k g := by
  unfold State.fillTable
  rw [h]

theorem latchedTable_congr (ht : t.tables = s.tables) (hf : (t.ctx p).fill = (s.ctx p).fill) :
    t.latchedTable p = s.latchedTable p := by
  have hrow : t.posRow p = s.posRow p := congrArg (fun x => x.position.active.get p) ht
  have htable := fillTable_congr ht
  unfold State.latchedTable
  simp only [hf, hrow, htable, ht]

theorem params_congr (ht : t.tables = s.tables) (hf : (t.ctx p).fill = (s.ctx p).fill) :
    t.params p = s.params p := congrArg FillTable.params (latchedTable_congr ht hf)

theorem nozzle_congr (h : t.sig = s.sig) : t.nozzle p = s.nozzle p :=
  congrArg SigRec.value (record_congr h _)

theorem suitable_congr (ht : t.tables = s.tables) (hsig : t.sig = s.sig)
    (hf : (t.ctx p).fill = (s.ctx p).fill) {b : Bank} (hb : (t.bank b).state = (s.bank b).state) :
    t.suitable p (.bank b) = s.suitable p (.bank b) := by
  have hparams := params_congr ht hf
  have hnozzle := nozzle_congr (p := p) hsig
  have hrecord := record_congr hsig (.bankPressure b)
  have hrow : t.bankRow b = s.bankRow b := congrArg (fun x => x.bank.active.rows.get b) ht
  have husable : t.usable (.bankPressure b) = s.usable (.bankPressure b) :=
    congrArg (fun x => x.quality.usable) hrecord
  have hvalue : t.value (.bankPressure b) = s.value (.bankPressure b) := congrArg SigRec.value hrecord
  simp only [State.suitable]
  rw [hrow, hb, husable, hvalue, hparams, hnozzle]

/-- A walk that one bank answers depends on the tables, the records, the banks, the compressor, the latch and the
generation that the fill latched. -/
theorem State.onlyBank.congr {b : Bank} (h : s.onlyBank p b) (ht : t.tables = s.tables) (hsig : t.sig = s.sig)
    (hbkm : t.bkm = s.bkm) (hcmp : t.cmp = s.cmp) (hsmc : t.smc = s.smc)
    (hf : (t.ctx p).fill = (s.ctx p).fill) : t.onlyBank p b where
  sequence := by simp only [State.sequence, State.posRow, ht]; exact h.sequence
  suitable := (suitable_congr ht hsig hf (by simp only [State.bank, hbkm])).trans h.suitable
  free := by simp only [State.bank, hbkm]; exact h.free
  clear := by simp only [State.latched, hsmc]; exact h.clear
  noBank := by simp only [State.heldBank, State.bank, hbkm]; exact h.noBank
  noOutput := by simp only [State.outputHolder, hcmp]; exact h.noOutput

theorem State.onlyBank.updCtx {b : Bank} (h : s.onlyBank p b) {f : Ctx → Ctx}
    (hf : (f (s.ctx p)).fill = (s.ctx p).fill) : (updCtx p f s).onlyBank p b :=
  h.congr rfl rfl rfl rfl rfl (by rw [updCtx_ctx_same, hf])

end Reads

/-! ### The walk -/

section Walk

variable (p : Pos) (b : Bank) (s : State)

/-- R37, R114: a bank granted to a position that waits nowhere any more. -/
def walked : State := grantBank b p (offOutputList p s)

@[simp] theorem walked_updCtx (q : Pos) (f : Ctx → Ctx) : walked p b (updCtx q f s) = updCtx q f (walked p b s) := rfl
@[simp] theorem walked_unqueued (q : Pos) : walked p b (unqueued q s) = unqueued q (walked p b s) := rfl
@[simp] theorem walked_post (m : Instr) : walked p b (post m s) = post m (walked p b s) := rfl
@[simp] theorem walked_ctx (q : Pos) : (walked p b s).ctx q = s.ctx q := rfl
@[simp] theorem walked_tables : (walked p b s).tables = s.tables := rfl
@[simp] theorem walked_ret : (walked p b s).ret = s.ret := rfl
@[simp] theorem walked_rif : (walked p b s).rif = s.rif := rfl
@[simp] theorem walked_sig : (walked p b s).sig = s.sig := rfl
@[simp] theorem walked_fil : (walked p b s).fil = s.fil := rfl
@[simp] theorem walked_pcl : (walked p b s).pcl = s.pcl := rfl
@[simp] theorem walked_mtr : (walked p b s).mtr = s.mtr := rfl
@[simp] theorem walked_bil : (walked p b s).bil = s.bil := rfl
@[simp] theorem walked_smc : (walked p b s).smc = s.smc := rfl
@[simp] theorem walked_mail : (walked p b s).mail = s.mail := rfl
@[simp] theorem walked_bankWaitOrder : (walked p b s).bankWaitOrder = s.bankWaitOrder := rfl

@[simp] theorem walked_state : ((walked p b s).bank b).state = .claimedPos p := by
  rw [walked, grantBank_eq, updBank_bank_same]

theorem walked_bank_ne {c : Bank} (h : c ≠ b) :
    ((walked p b s).bank c).state = (s.bank c).state := by
  rw [walked, grantBank_eq, updBank_bank_ne _ _ h, leaveBankLists_bank]
  rfl

variable {p b s}

/-- R114: the only entry of the sequence, suitable and free, is granted. -/
theorem walk_onlyBank (h : s.onlyBank p b) : walk p s = (.grant (.bank b), walked p b s) := by
  have hfree : s.isFree (.bank b) = true := by simp [State.isFree, h.free]
  have hclaim : claimEntry p (.bank b) s = (.answered .granted, walked p b s) := by
    rw [claimEntry, withdrawOutput_free h.noOutput]
    simp only
    rw [claimBank_free (s := offOutputList p s) h.clear h.noBank h.free]
    rfl
  unfold walk
  simp only [h.sequence, List.filter_cons, h.suitable, hfree, List.filter_nil, if_true, walkFree, hclaim]

/-- R115: a source taken. -/
def Ctx.taking (x : Source) (c : Ctx) : Ctx :=
  { c with source := some x, waitOn := none, timers := { c.timers with bankWait := none } }

theorem takeSource_eq (x : Source) : takeSource p x s = updCtx p (Ctx.taking x) (post (.sourceReport p x) s) := rfl

end Walk

/-! ### The stages -/

section Stages

variable {p : Pos} {s : State} {b : Bank}

/-- R116: the position in the pulse. -/
def Ctx.pulsing (k : FillParams) (c : Ctx) : Ctx :=
  { c with state := .pulse, opening := 100, timers := { c.timers with pulse := some (10 * k.pulseTime) } }

theorem startPulse_eq (hspan : (s.ctx p).state.descentSpan = true) : startPulse p s =
    unqueued p (updCtx p (Ctx.pulsing (s.params p))
      (actuate (.controlValve p) .set 100 (openFull (.dispenseValve p) (openDrawn p s)))) := by
  have hdrawn : openDrawn p (goState p .pulse s) =
      unqueued p (updCtx p (fun c => { c with state := .pulse }) (openDrawn p s)) := by
    rw [goState_silent _ _ hspan]
    unfold openDrawn
    simp only [unqueued_ctx, updCtx_ctx_same]
    split <;> simp
  rw [startPulse, hdrawn]
  simp only [setOpening, updTimers, openFull_unqueued, openFull_updCtx, updCtx_unqueued, actuate_unqueued,
    actuate_updCtx, updCtx_updCtx]
  rfl

/-- R105, R119: the position in MAIN, its ramp anchored afresh where that is called for. -/
def Ctx.mainFrom (nozzle : Int) (c : Ctx) : Ctx :=
  if c.reAnchor then { c with state := .main, anchor := nozzle, tau := 0, reAnchor := false }
  else { c with state := .main }

theorem openDrawn_onlyRif (p : Pos) (s : State) : openDrawn p s = { s with rif := (openDrawn p s).rif } := by
  unfold openDrawn
  split
  · exact openFull_onlyRif _ _
  · rfl

@[simp] theorem openDrawn_ctx (q : Pos) : (openDrawn p s).ctx q = s.ctx q := by rw [openDrawn_onlyRif]; rfl
@[simp] theorem openDrawn_sig : (openDrawn p s).sig = s.sig := by rw [openDrawn_onlyRif]
@[simp] theorem openDrawn_mail : (openDrawn p s).mail = s.mail := by rw [openDrawn_onlyRif]

theorem openFlow_onlyRif (p : Pos) (s : State) : openFlow p s = { s with rif := (openFlow p s).rif } := by
  rw [openFlow, actuate_onlyRif, openFull_onlyRif (.dispenseValve p) (openDrawn p s), openDrawn_onlyRif p s]

@[simp] theorem openFlow_ctx (q : Pos) : (openFlow p s).ctx q = s.ctx q := by rw [openFlow_onlyRif]; rfl

theorem beginMain_eq (hspan : (s.ctx p).state.descentSpan = true) : beginMain p s =
    unqueued p (updCtx p (Ctx.mainFrom (s.nozzle p)) (post (.mainEntryReport p) (openFlow p s))) := by
  have hctx : (openFlow p s).ctx p = s.ctx p := openFlow_ctx p
  have hnozzle : ∀ f, (unqueued p (updCtx p f (post (.mainEntryReport p) (openFlow p s)))).nozzle p = s.nozzle p :=
    fun f => nozzle_congr (by rw [openFlow_onlyRif]; rfl)
  rw [beginMain, goState_silent _ _ (by rw [hctx]; exact hspan)]
  cases hanchor : (s.ctx p).reAnchor
  · simp only [onlyIf_false, post_unqueued, post_updCtx]
    congr 1
    refine updCtx_of_eq _ _ _ ?_
    simp [Ctx.mainFrom, hanchor]
  · simp only [onlyIf_true, post_unqueued, post_updCtx, anchorRamp, hnozzle, updCtx_unqueued, updCtx_updCtx]
    congr 1
    refine updCtx_of_eq _ _ _ ?_
    simp [Ctx.mainFrom, hanchor]

theorem openFlow_bank (hsrc : (s.ctx p).source = some (.bank b)) : openFlow p s =
    actuate (.controlValve p) .set (s.ctx p).opening
      (actuate (.dispenseValve p) .open 1000 (actuate (.bankValve b (.pos p)) .open 1000 s)) := by
  rw [openFlow, openDrawn_bank _ _ hsrc]
  rfl

theorem openFlow_dry (hsrc : ∀ b, (s.ctx p).source ≠ some (.bank b)) : openFlow p s =
    actuate (.controlValve p) .set (s.ctx p).opening (actuate (.dispenseValve p) .open 1000 s) := by
  rw [openFlow, openDrawn_dry _ _ hsrc]
  rfl

/-! ### A stage entered by a walk -/

theorem walkStage_pulse (hspan : (s.ctx p).state.descentSpan = true) (h : s.onlyBank p b) :
    walkStage p .pulse s = unqueued p (updCtx p (fun c => (c.taking (.bank b)).pulsing (s.params p))
      (actuate (.controlValve p) .set 100 (actuate (.dispenseValve p) .open 1000
        (actuate (.bankValve b (.pos p)) .open 1000 (postAll [.sourceReport p (.bank b)] (walked p b s)))))) := by
  have hp : (updCtx p (Ctx.taking (.bank b)) (post (.sourceReport p (.bank b)) (walked p b s))).params p =
      s.params p := params_congr rfl (by simp [Ctx.taking])
  rw [walkStage, if_neg (by simp [h.clear]), walk_onlyBank h]
  simp only [enterStage, takeSource_eq]
  rw [startPulse_eq (by simpa [Ctx.taking] using hspan), hp, openDrawn_bank _ _ (b := b) (by simp [Ctx.taking]),
    openFull_updCtx, openFull_updCtx, actuate_updCtx, updCtx_updCtx]
  rfl

theorem walkStage_main (hspan : (s.ctx p).state.descentSpan = true) (h : s.onlyBank p b) :
    walkStage p .main s = unqueued p (updCtx p (fun c => (c.taking (.bank b)).mainFrom (s.nozzle p))
      (actuate (.controlValve p) .set (s.ctx p).opening (actuate (.dispenseValve p) .open 1000
        (actuate (.bankValve b (.pos p)) .open 1000
          (postAll [.sourceReport p (.bank b), .mainEntryReport p] (walked p b s)))))) := by
  have hn : (updCtx p (Ctx.taking (.bank b)) (post (.sourceReport p (.bank b)) (walked p b s))).nozzle p =
      s.nozzle p := nozzle_congr rfl
  rw [walkStage, if_neg (by simp [h.clear]), walk_onlyBank h]
  simp only [enterStage, takeSource_eq]
  rw [beginMain_eq (by simpa [Ctx.taking] using hspan), hn, openFlow_bank (b := b) (by simp [Ctx.taking])]
  have hopening : (updCtx p (Ctx.taking (.bank b)) (post (.sourceReport p (.bank b)) (walked p b s))).ctx p =
      (s.ctx p).taking (.bank b) := updCtx_ctx_same _ _ _
  rw [hopening, actuate_updCtx, actuate_updCtx, actuate_updCtx, post_updCtx, updCtx_updCtx,
    ← (plain_post _).actuate, ← (plain_post _).actuate, ← (plain_post _).actuate, post_eq_postAll, post_eq_postAll,
    postAll_append]
  rfl

end Stages

/-! ### The fields after a grant -/

section Granted

variable {p : Pos} {b : Bank} {w R : State} {ms : List Instr}

/-- What a grant of a bank leaves, with the messages `ms` and some valves commanded. -/
structure Draws (p : Pos) (b : Bank) (ms : List Instr) (c : Ctx) (rif : Rif) (w u : State) : Prop where
  ctx : u.ctx p = c
  others : ∀ q, q ≠ p → u.ctx q = w.ctx q
  mail : u.mail = w.mail ++ ms
  bank : (u.bank b).state = .claimedPos p
  ret : u.ret = w.ret
  mtr : u.mtr = w.mtr
  rif : u.rif = rif
  sig : u.sig = w.sig

/-- R18: a grant in an event that finds the record of a role as a delivery carries it. -/
theorem Draws.seen {c : Ctx} {x : Rif} {u s : State} {r : Role} {y : SigRec}
    (h : Draws p b ms c x (withRecord r y s) u) : Draws p b ms c x s { u with sig := s.sig } :=
  ⟨h.ctx, h.others, h.mail, h.bank, h.ret, h.mtr, h.rif, rfl⟩

theorem draws_granted (hR : R = { postAll ms (walked p b w) with rif := R.rif }) (f : Ctx → Ctx) :
    Draws p b ms (f (w.ctx p)) R.rif w (unqueued p (updCtx p f R)) := by
  rw [hR]
  exact ⟨updCtx_ctx_same _ _ _, fun q hq => updCtx_ctx_ne _ _ hq, rfl, walked_state p b w, rfl, rfl, rfl, rfl⟩

/-- The valves of a grant are commanded from a bank and at the position. -/
theorem openedFlow_onlyRif (n : Nat) (v : State) :
    actuate (.controlValve p) .set n (actuate (.dispenseValve p) .open 1000
      (actuate (.bankValve b (.pos p)) .open 1000 v)) =
    { v with rif := (actuate (.controlValve p) .set n (actuate (.dispenseValve p) .open 1000
      (actuate (.bankValve b (.pos p)) .open 1000 v))).rif } := by
  rw [actuate_onlyRif, actuate_onlyRif (.dispenseValve p), actuate_onlyRif (.bankValve b (.pos p))]

theorem openedFlow_rif {v s : State} (h : State.SameRing v s) (n : Nat) :
    (actuate (.controlValve p) .set n (actuate (.dispenseValve p) .open 1000
      (actuate (.bankValve b (.pos p)) .open 1000 v))).rif =
    (actuate (.controlValve p) .set n (actuate (.dispenseValve p) .open 1000
      (actuate (.bankValve b (.pos p)) .open 1000 s))).rif :=
  (actuate_congr (actuate_congr (actuate_congr h _ _ _) _ _ _) _ _ _).rif

theorem draws_opened {s : State} (n : Nat) (f : Ctx → Ctx) (hs : State.SameRing w s) :
    Draws p b ms (f (w.ctx p)) (actuate (.controlValve p) .set n (actuate (.dispenseValve p) .open 1000
        (actuate (.bankValve b (.pos p)) .open 1000 s))).rif w (unqueued p (updCtx p f
      (actuate (.controlValve p) .set n (actuate (.dispenseValve p) .open 1000
        (actuate (.bankValve b (.pos p)) .open 1000 (postAll ms (walked p b w))))))) := by
  have hring : State.SameRing (postAll ms (walked p b w)) s := ⟨hs.rif, hs.tables, hs.latch⟩
  rw [← openedFlow_rif hring]
  exact draws_granted (openedFlow_onlyRif n _) f

end Granted

/-! ### The causes of a pause (R122, R123) -/

section Causes

variable {p : Pos} {s : State} {halt : Bool}

/-- R122: a context with an empty set of causes. -/
def Ctx.uncaused (c : Ctx) : Ctx :=
  { c with halt := false, signal := false, timers := { c.timers with pause := none } }

theorem setCauses_clear (hh : halt = false) (hs : s.signalLost p = false) :
    setCauses p halt s = updCtx p Ctx.uncaused s := by
  simp [setCauses, hh, hs]
  rfl

/-- R122: a cause that is the first in an empty set starts the pause timer. -/
theorem setCauses_first (h : halt = true ∨ s.signalLost p = true) (hc : (s.ctx p).caused = false) :
    setCauses p halt s = updCtx p (fun c =>
      { c with
        halt := halt, signal := s.signalLost p
        timers := { c.timers with pause := some (10 * (s.params p).pauseLimit) } }) s := by
  have hany : (!(halt || s.signalLost p)) = false := by rcases h with h | h <;> simp [h]
  simp [setCauses, hany, hc, startSeconds]

theorem pauseIn_eq (hspan : (s.ctx p).state.descentSpan = true) (r : ResumeStage) :
    pauseIn p r s = unqueued p (updCtx p (fun c => { c with resume := r, state := .paused }) s) := by
  rw [pauseIn, goState_silent _ _ (by rw [updCtx_ctx_same]; exact hspan)]
  simp

end Causes

end Sys2Proof.Machine
end

section
/-! The holster and the coupling outside a running fill, and entry into the pulse (R109 to R113, R130). O38
follows. -/

namespace Sys2Proof.Machine

open Sys2Proof

section Starts

variable {p : Pos} {s : State} {x : SigRec}

theorem rowOf_congr {t : State} (h : t.tables = s.tables) (r : Role) : t.rowOf r = s.rowOf r := by
  simp only [State.rowOf, State.nodeRows, h]

theorem signalLost_congr {t : State} (ht : t.tables = s.tables) (hsig : t.sig = s.sig)
    (hc : (t.ctx p).category = (s.ctx p).category) : t.signalLost p = s.signalLost p := by
  have husable : ∀ r, t.usable r = s.usable r := fun r => congrArg (fun y => y.quality.usable) (record_congr hsig r)
  have hhold : ∀ r, t.underHold r = s.underHold r := fun r => by
    unfold State.underHold
    rw [rowOf_congr ht]
  simp only [State.signalLost, husable, hhold, hc]

/-! ### The holster -/

theorem holsterTransition_up (hl : s.level (.holster p) = false) (hst : (s.ctx p).state = .idle) :
    holsterTransition p s = unqueued p (updCtx p (fun c => { c with state := .lifted }) s) := by
  unfold holsterTransition
  rw [hst, hl]
  exact goState_silent _ _ (by rw [hst]; rfl)

theorem holsterTransition_down (hl : s.level (.holster p) = true) (hst : (s.ctx p).state = .lifted) :
    holsterTransition p s = unqueued p (updCtx p (fun c => { c with state := .idle }) s) := by
  unfold holsterTransition
  rw [hst, hl]
  exact goState_silent _ _ (by rw [hst]; rfl)

theorem holsterTransition_closed (hst : (s.ctx p).state = .closed) : holsterTransition p s = s := by
  unfold holsterTransition
  rw [hst]
  cases s.level (.holster p) <;> rfl

/-- R109: the state of a position that no fill holds. -/
def State.home (s : State) (p : Pos) : PState := if s.available p then .idle else .closed

theorem home_span : (s.home p).descentSpan = false := by
  unfold State.home
  split <;> rfl

/-- R130: a position freed from HANG-UP. -/
theorem holsterTransition_freed (hl : s.level (.holster p) = true) (hst : (s.ctx p).state = .hangUp)
    (hmark : (s.ctx p).faultMark = false) :
    holsterTransition p s = unqueued p (updCtx p (fun c => { c with state := s.home p }) s) := by
  unfold holsterTransition
  rw [hst, hl]
  simp only [endHangUp, hmark, Bool.false_eq_true, if_false]
  exact goState_silent _ _ (by rw [hst]; exact home_span.symm)

/-- R112: a fill cancelled in AUTHORISED. -/
theorem holsterTransition_cancels {f : FillId} (hl : s.level (.holster p) = true)
    (hst : (s.ctx p).state = .authorised) (hf : (s.ctx p).fill = some f) :
    holsterTransition p s = post .descentReport (unqueued p (updCtx p (fun c => { c with state := s.home p })
      (updCtx p (fun c => { c with fill := none }) (updMeter p (fun m => { m with isOpen := false })
        (releaseGen (s.posRow p).pclass f.gen
          (postAll [.cancelled p, .categoryReport p none false] s)))))) := by
  let u : State := updCtx p (fun c => { c with fill := none }) (updMeter p (fun m => { m with isOpen := false })
    (releaseGen (s.posRow p).pclass f.gen (postAll [.cancelled p, .categoryReport p none false] s)))
  have hctx : u.ctx p = { s.ctx p with fill := none } := updCtx_ctx_same _ _ _
  have hrow : u.posRow p = s.posRow p := by
    change (Tables.setFill _ _ _).position.active.get p = s.tables.position.active.get p
    rw [Tables.setFill_position]
    rfl
  have hmode : u.smc = s.smc := rfl
  have hhome : u.home p = s.home p := by
    rw [State.home, State.available, hctx, hrow, hmode]
    rfl
  unfold holsterTransition
  rw [hst, hl]
  simp only [cancelFill, hf]
  have hmail : updCtx p (fun c => { c with fill := none })
      (closeFigures p (post (.categoryReport p none false) (releaseGen (s.posRow p).pclass f.gen
        (post (.cancelled p) s)))) = u := by
    simp only [post_eq_postAll]
    exact congrArg (fun v => updCtx p (fun c => { c with fill := none })
      (updMeter p (fun m => { m with isOpen := false }) (releaseGen (s.posRow p).pclass f.gen v)))
      (postAll_append _ _ s)
  rw [hmail, toIdle]
  change goState p (u.home p) u = _
  rw [goState_told _ _ (by rw [hctx, home_span]; simp [hst, PState.descentSpan, PState.inProgress, PState.endable]),
    hhome]

/-! ### The coupling -/

theorem coupledTransition_idle (hst : (s.ctx p).state = .idle ∨ (s.ctx p).state = .lifted) :
    coupledTransition p s = s := by
  unfold coupledTransition
  rcases hst with hst | hst <;> rw [hst] <;> cases s.level (.coupled p) <;> rfl

theorem coupledTransition_on (hl : s.level (.coupled p) = true) (hst : (s.ctx p).state = .authorised) :
    coupledTransition p s = enterPulse p s := by
  unfold coupledTransition
  rw [hst, hl]

/-- R113: the link of a fill at entry into PULSE. -/
def State.entryLink (s : State) (p : Pos) : Link :=
  if (s.posRow p).vehicleComm && s.mapped (.vehicle p) then .pending else .none

/-- R113: the context at entry into PULSE. -/
def Ctx.entering (link : Link) (k : FillParams) (c : Ctx) : Ctx :=
  { c with
    state := .pulse, link := link, consistent := 0, soc := none
    timers := { c.timers with fill := some (10 * k.maxFillTime) } }

/-- The state at entry into PULSE, before the causes of a pause are looked at. -/
def pulseEntered (p : Pos) (s : State) : State :=
  unqueued p (updCtx p (Ctx.entering (s.entryLink p) (s.params p)) s)

theorem pulseEntered_ctx : (pulseEntered p s).ctx p = (s.ctx p).entering (s.entryLink p) (s.params p) :=
  updCtx_ctx_same _ _ _

theorem enterPulse_eq (hst : (s.ctx p).state = .authorised) : enterPulse p s =
    if ((setCauses p false (pulseEntered p s)).ctx p).caused then
      pauseIn p .pulse (setCauses p false (pulseEntered p s))
    else walkStage p .pulse (setCauses p false (pulseEntered p s)) := by
  have hentered : updCtx p (fun c =>
      { c with
        link := s.entryLink p, consistent := 0, soc := none
        timers := { c.timers with fill := startSeconds (s.params p).maxFillTime } }) (goState p .pulse s) =
      pulseEntered p s := by
    rw [goState_silent _ _ (by rw [hst]; rfl), updCtx_unqueued, updCtx_updCtx]
    rfl
  rw [← hentered]
  rfl

theorem pulseEntered_signalLost : (pulseEntered p s).signalLost p = s.signalLost p :=
  signalLost_congr rfl rfl (by rw [pulseEntered_ctx]; rfl)

/-- R113, R116: the context of a fill whose pulse has started from a bank. -/
def Ctx.started (link : Link) (k : FillParams) (b : Bank) (c : Ctx) : Ctx :=
  ((c.entering link k).uncaused.taking (.bank b)).pulsing k

/-- R113, R116: entry into the pulse with the one bank that is free. -/
theorem enterPulse_starts {b : Bank} (hst : (s.ctx p).state = .authorised) (h : s.onlyBank p b)
    (hsig : s.signalLost p = false) :
    enterPulse p s = unqueued p (updCtx p (Ctx.started (s.entryLink p) (s.params p) b)
      (actuate (.controlValve p) .set 100 (actuate (.dispenseValve p) .open 1000
        (actuate (.bankValve b (.pos p)) .open 1000 (postAll [.sourceReport p (.bank b)] (walked p b s)))))) := by
  let f : Ctx → Ctx := fun c => (c.entering (s.entryLink p) (s.params p)).uncaused
  have hu : setCauses p false (pulseEntered p s) = unqueued p (updCtx p f s) := by
    rw [setCauses_clear rfl (pulseEntered_signalLost.trans hsig), pulseEntered, updCtx_unqueued, updCtx_updCtx]
  have hctx : (unqueued p (updCtx p f s)).ctx p = f (s.ctx p) := updCtx_ctx_same _ _ _
  have honly : (unqueued p (updCtx p f s)).onlyBank p b := h.congr rfl rfl rfl rfl rfl (by rw [hctx]; rfl)
  have hparams : (unqueued p (updCtx p f s)).params p = s.params p := params_congr rfl (by rw [hctx]; rfl)
  rw [enterPulse_eq hst, hu, if_neg (by rw [hctx]; simp [f, Ctx.caused, Ctx.uncaused]),
    walkStage_pulse (by rw [hctx]; rfl) honly, hparams]
  simp only [walked_unqueued, walked_updCtx, postAll_unqueued, postAll_updCtx, actuate_unqueued,
    actuate_updCtx, updCtx_unqueued, updCtx_updCtx, unqueued_unqueued]
  rfl

/-- R113, R122: the context of a fill that pauses before its pulse. -/
def Ctx.heldBack (link : Link) (k : FillParams) (c : Ctx) : Ctx :=
  { c.entering link k with
    state := .paused, resume := .pulse, halt := false, signal := true
    timers := { (c.entering link k).timers with pause := some (10 * k.pauseLimit) } }

/-- R113, R122: entry into the pulse with a signal lost. -/
theorem enterPulse_pauses (hst : (s.ctx p).state = .authorised) (hsig : s.signalLost p = true)
    (hh : (s.ctx p).halt = false) (hg : (s.ctx p).signal = false) : enterPulse p s =
    unqueued p (updCtx p (Ctx.heldBack (s.entryLink p) (s.params p)) s) := by
  have hcaused : ((pulseEntered p s).ctx p).caused = false := by
    rw [pulseEntered_ctx]
    simp [Ctx.entering, Ctx.caused, hh, hg]
  have hparams : (pulseEntered p s).params p = s.params p := params_congr rfl (by rw [pulseEntered_ctx]; rfl)
  rw [enterPulse_eq hst, setCauses_first (.inr (pulseEntered_signalLost.trans hsig)) hcaused,
    pulseEntered_signalLost, hparams, hsig, pulseEntered, updCtx_unqueued, updCtx_updCtx,
    if_pos (by simp [Ctx.caused]), pauseIn_eq (by simp [Ctx.entering, PState.descentSpan, PState.inProgress,
      PState.endable, PState.running]), updCtx_unqueued, updCtx_updCtx, unqueued_unqueued]
  rfl

/-! ### The obligation -/

/-- The holster and the coupling outside a running fill. -/
theorem holster_outside (hreset : s.smc.inReset = false) :
    let moved (st : PState) (t : State) :=
      { updCtx p (fun c => { c with state := st }) t with
        bankWaitOrder := t.bankWaitOrder.filter (fun q => q != p) }
    let home : PState := if s.available p then .idle else .closed
    (x.level = false → (s.ctx p).state = .idle →
        exec (.filHolsterTransition p x) s = .next (moved .lifted s))
    ∧ (x.level = true → (s.ctx p).state = .lifted →
        exec (.filHolsterTransition p x) s = .next (moved .idle s))
    ∧ (∀ f, x.level = true → (s.ctx p).state = .authorised → (s.ctx p).fill = some f →
        exec (.filHolsterTransition p x) s = .next
          (post .descentReport (moved home (updCtx p (fun c => { c with fill := none })
            (updMeter p (fun m => { m with isOpen := false })
              (releaseGen (s.posRow p).pclass f.gen
                (postAll [.cancelled p, .categoryReport p none false] s)))))))
    ∧ (x.level = true → (s.ctx p).state = .hangUp → (s.ctx p).faultMark = false →
        exec (.filHolsterTransition p x) s = .next (moved home s))
    ∧ ((s.ctx p).state = .closed → exec (.filHolsterTransition p x) s = .next s)
    ∧ ((s.ctx p).state = .idle ∨ (s.ctx p).state = .lifted →
        exec (.filCoupledTransition p x) s = .next s) := by
  have hlevel : (withRecord (.holster p) x s).level (.holster p) = x.level := withRecord_level_same _ _ _
  have hmoves (f : Ctx → Ctx) : Sigless (fun u => unqueued p (updCtx p f u)) := fun _ _ => rfl
  refine ⟨fun hl hst => running_of_eq hreset (seeing_sigless (hmoves _)
      (holsterTransition_up (s := withRecord (.holster p) x s) (hlevel.trans hl) hst)),
    fun hl hst => running_of_eq hreset (seeing_sigless (hmoves _)
      (holsterTransition_down (s := withRecord (.holster p) x s) (hlevel.trans hl) hst)),
    fun f hl hst hf => ?_,
    fun hl hst hmark => running_of_eq hreset (seeing_sigless (hmoves _)
      (holsterTransition_freed (s := withRecord (.holster p) x s) (hlevel.trans hl) hst hmark)),
    fun hst => running_of_eq hreset (seeing_sigless (g := id) (fun _ _ => rfl)
      (holsterTransition_closed (s := withRecord (.holster p) x s) hst)),
    fun hst => running_of_eq hreset (seeing_sigless (g := id) (fun _ _ => rfl)
      (coupledTransition_idle (s := withRecord (.coupled p) x s) hst))⟩
  refine running_of_eq hreset (seeing_sigless (g := fun u => post .descentReport
    (unqueued p (updCtx p (fun c => { c with state := s.home p })
      (updCtx p (fun c => { c with fill := none }) (updMeter p (fun m => { m with isOpen := false })
        (releaseGen (s.posRow p).pclass f.gen
          (postAll [.cancelled p, .categoryReport p none false] u)))))))
    (fun _ _ => rfl) (holsterTransition_cancels (s := withRecord (.holster p) x s) (hlevel.trans hl) hst hf))

/-- Settles O38: the holster and the coupling by the state they find, and entry into the pulse by the causes of a
pause that are present. -/
theorem fillStarts : Obligations.FillStarts := by
  unfold Obligations.FillStarts
  refine ⟨fun p x s hreset => holster_outside hreset, fun p x s hreset hst hl => ⟨fun b h hsig => ?_,
    fun hsig hh hg => ?_⟩⟩
  · have hon : coupledTransition p (withRecord (.coupled p) x s) = enterPulse p (withRecord (.coupled p) x s) :=
      coupledTransition_on (by rw [withRecord_level_same, hl]) hst
    have honly : (withRecord (.coupled p) x s).onlyBank p b := by
      have hne : ∀ q, q ≠ Role.coupled p → (withRecord (.coupled p) x s).record q = s.record q :=
        fun q hq => withRecord_record_ne x s hq
      have hsuits : (withRecord (.coupled p) x s).suitable p (.bank b) = s.suitable p (.bank b) := by
        simp only [State.suitable, State.usable, State.quality, State.value, State.nozzle,
          hne (.bankPressure b) (by simp), hne (.nozzlePressure p) (by simp)]
        rfl
      exact ⟨h.sequence, hsuits.trans h.suitable, h.free, h.clear, h.noBank, h.noOutput⟩
    refine ⟨_, running_of_eq hreset (seeing_of_eq (hon.trans (enterPulse_starts hst honly hsig))), ?_⟩
    have hlink : (withRecord (.coupled p) x s).entryLink p =
        if (s.posRow p).vehicleComm ∧ s.mapped (.vehicle p) then .pending else .none := by
      simp only [← Bool.and_eq_true]
      rfl
    have hparams : (withRecord (.coupled p) x s).params p = s.params p := params_congr rfl rfl
    rw [hlink, hparams]
    have hd := (draws_opened (p := p) (b := b) (ms := [.sourceReport p (.bank b)]) (w := withRecord (.coupled p) x s)
      (s := s) 100 (Ctx.started (if (s.posRow p).vehicleComm ∧ s.mapped (.vehicle p) then .pending else .none)
        (s.params p) b) ⟨rfl, rfl, rfl⟩).seen
    have hc : ∀ {α : Type} (g : Ctx → α), g (State.ctx _ p) = g (Ctx.started _ _ b (s.ctx p)) :=
      fun g => congrArg g hd.ctx
    exact ⟨hc Ctx.state, hc Ctx.source, hc Ctx.opening, hc Ctx.halt, hc Ctx.signal, hc Ctx.link,
      hc (fun c => c.timers.fill), hc (fun c => c.timers.pulse), hd.bank, hd.mail, hd.rif, hd.others, hd.ret, hd.mtr⟩
  · have hon : coupledTransition p (withRecord (.coupled p) x s) = enterPulse p (withRecord (.coupled p) x s) :=
      coupledTransition_on (by rw [withRecord_level_same, hl]) hst
    have hparams : (withRecord (.coupled p) x s).params p = s.params p := params_congr rfl rfl
    refine ⟨_, running_of_eq hreset (seeing_of_eq (hon.trans (enterPulse_pauses hst hsig hh hg))), ?_⟩
    rw [hparams]
    have hc := updCtx_ctx_same p (Ctx.heldBack ((withRecord (.coupled p) x s).entryLink p) (s.params p)) s
    exact ⟨congrArg Ctx.state hc, congrArg Ctx.resume hc, congrArg Ctx.signal hc,
      congrArg (fun c => c.timers.fill) hc, congrArg (fun c => c.timers.pause) hc,
      fun q hq => updCtx_ctx_ne _ _ hq, rfl, rfl, rfl⟩

end Starts

end Sys2Proof.Machine
end

section
/-! The end of ENDING, and venting (R128 to R131). O41 follows. -/

namespace Sys2Proof.Machine

open Sys2Proof

section Hang

variable {p : Pos} {s : State}

/-! ### HANG-UP and FAULT entered from a fill -/

/-- R130: where a position without the fault mark stands when its venting is over. -/
def State.rest (s : State) (p : Pos) : PState := if s.level (.holster p) = false then .hangUp else s.home p

/-- R130: a position whose venting is over, without the fault mark. -/
def hung (p : Pos) (s : State) : State :=
  post .descentReport (unqueued p (updCtx p (fun c => { c with state := s.rest p }) s))

/-- R131: a position that enters FAULT from a fill or from venting. -/
def faulted (p : Pos) (s : State) : State :=
  notice .positionFault p.num (u1 (s.faultNum p))
    (post .descentReport (unqueued p (updCtx p (fun c => { c with state := .fault }) (closeFlow p s))))

theorem available_congr {t : State} (hc : (t.ctx p).opened = (s.ctx p).opened) (ht : t.tables = s.tables)
    (hm : t.smc = s.smc) : t.available p = s.available p := by
  simp only [State.available, hc, State.posRow, ht, hm]

theorem home_congr {t : State} (hc : (t.ctx p).opened = (s.ctx p).opened) (ht : t.tables = s.tables)
    (hm : t.smc = s.smc) : t.home p = s.home p := by rw [State.home, available_congr hc ht hm, State.home]

theorem enterFault_told (hspan : (s.ctx p).state.descentSpan = true) : enterFault p s = faulted p s := by
  rw [enterFault, goState_told _ _ (by rw [closeFlow_ctx, hspan]; decide), faulted]

theorem enterHangUp_eq (hspan : (s.ctx p).state.descentSpan = true) : enterHangUp p s =
    onlyIf (s.level (.holster p)) (endHangUp p)
      (post .descentReport (unqueued p (updCtx p (fun c => { c with state := .hangUp }) s))) := by
  rw [enterHangUp, goState_told _ _ (by rw [hspan]; decide)]

theorem enterHangUp_hung (hspan : (s.ctx p).state.descentSpan = true)
    (h : (s.ctx p).faultMark = false ∨ s.level (.holster p) = false) : enterHangUp p s = hung p s := by
  rw [enterHangUp_eq hspan, hung, State.rest]
  cases hl : s.level (.holster p) with
  | false => rfl
  | true =>
    have hmark : (s.ctx p).faultMark = false := h.resolve_right (by simp [hl])
    have hctx : (post .descentReport (unqueued p (updCtx p (fun c => { c with state := .hangUp }) s))).ctx p =
        { s.ctx p with state := .hangUp } := by simp
    have hhome : (post .descentReport (unqueued p (updCtx p (fun c => { c with state := .hangUp }) s))).home p =
        s.home p := home_congr (by rw [hctx]) rfl rfl
    rw [onlyIf_true, endHangUp, if_neg (by rw [hctx, hmark]; decide), toIdle]
    change goState p (State.home _ p) _ = _
    rw [goState_silent _ _ (by rw [hctx, home_span]; rfl), hhome]
    simp

theorem enterHangUp_faulted (hspan : (s.ctx p).state.descentSpan = true) (hmark : (s.ctx p).faultMark = true)
    (hl : s.level (.holster p) = true) : enterHangUp p s = faulted p s := by
  have hctx : (post .descentReport (unqueued p (updCtx p (fun c => { c with state := .hangUp }) s))).ctx p =
      { s.ctx p with state := .hangUp } := by simp
  have hclosed : closeFlow p (post .descentReport (unqueued p (updCtx p (fun c => { c with state := .hangUp }) s))) =
      unqueued p (updCtx p (fun c => { c with state := .hangUp }) (post .descentReport (closeFlow p s))) := by
    simp [closeFlow]
  rw [enterHangUp_eq hspan, hl, onlyIf_true, endHangUp, if_pos (by rw [hctx, hmark]), enterFault, faulted,
    goState_silent _ _ (by rw [closeFlow_ctx, hctx]; rfl), hclosed, State.faultNum, hctx]
  simp [State.faultNum]

theorem ventDone_hung (hspan : (s.ctx p).state.descentSpan = true) (hmark : (s.ctx p).faultMark = false) :
    ventDone p s = hung p s := by
  rw [ventDone, if_neg (by simp [hmark]), enterHangUp_hung hspan (.inl hmark)]

theorem ventDone_faulted (hspan : (s.ctx p).state.descentSpan = true) (hmark : (s.ctx p).faultMark = true) :
    ventDone p s = faulted p s := by
  rw [ventDone, if_pos hmark, enterFault_told hspan]

theorem hung_state (st : PState) :
    hung p (unqueued p (updCtx p (fun c => { c with state := st }) s)) = hung p s := by
  have hrest : (unqueued p (updCtx p (fun c => { c with state := st }) s)).rest p = s.rest p := by
    have hhome : (unqueued p (updCtx p (fun c => { c with state := st }) s)).home p = s.home p :=
      home_congr (by rw [unqueued_ctx, updCtx_ctx_same]) rfl rfl
    rw [State.rest, hhome]
    rfl
  rw [hung, hrest, hung]
  simp

theorem faulted_state (st : PState) :
    faulted p (unqueued p (updCtx p (fun c => { c with state := st }) s)) = faulted p s := by
  have hclosed : closeFlow p (unqueued p (updCtx p (fun c => { c with state := st }) s)) =
      unqueued p (updCtx p (fun c => { c with state := st }) (closeFlow p s)) := by simp [closeFlow]
  rw [faulted, hclosed, faulted]
  simp [State.faultNum]

/-! ### Venting entered -/

theorem enterVenting_vents (hspan : (s.ctx p).state.descentSpan = true)
    (hhigh : ((s.posRow p).ventTarget : Int) < s.nozzle p) : enterVenting p s =
    unqueued p (updCtx p (fun c =>
      { c with state := .venting, timers := { c.timers with vent := some (10 * (s.posRow p).ventLimit) } })
      (openFull (.ventValve p) s)) := by
  rw [enterVenting, goState_silent _ _ hspan]
  simp only
  rw [if_neg (by omega)]
  simp [updTimers, startSeconds]

theorem enterVenting_over (hspan : (s.ctx p).state.descentSpan = true)
    (hlow : s.nozzle p ≤ ((s.posRow p).ventTarget : Int)) :
    ((s.ctx p).faultMark = false → enterVenting p s = hung p s)
      ∧ ((s.ctx p).faultMark = true → enterVenting p s = faulted p s) := by
  have hctx : (unqueued p (updCtx p (fun c => { c with state := .venting }) s)).ctx p =
      { s.ctx p with state := .venting } := by simp
  have hdone : enterVenting p s = ventDone p (unqueued p (updCtx p (fun c => { c with state := .venting }) s)) := by
    rw [enterVenting, goState_silent _ _ hspan]
    exact if_pos hlow
  refine ⟨fun hmark => ?_, fun hmark => ?_⟩
  · rw [hdone, ventDone_hung (by rw [hctx]; rfl) (by rw [hctx, hmark]), hung_state]
  · rw [hdone, ventDone_faulted (by rw [hctx]; rfl) (by rw [hctx, hmark]), faulted_state]

/-! ### What is left -/

theorem faulted_ctx : (faulted p s).ctx p = { s.ctx p with state := .fault } := by simp [faulted]

theorem faulted_ctx_ne {q : Pos} (h : q ≠ p) : (faulted p s).ctx q = s.ctx q := by
  rw [faulted, notice_ctx, post_ctx, unqueued_ctx, updCtx_ctx_ne _ _ h, closeFlow_ctx]

theorem faulted_rif : (faulted p s).rif = (notice .positionFault p.num (u1 (s.faultNum p))
    (close (.controlValve p) (close (.dispenseValve p) s))).rif := by
  rw [← closeFlow, faulted, notice_post, post_rif, notice_unqueued, unqueued_rif, notice_updCtx, updCtx_rif]

theorem faulted_mail : (faulted p s).mail = s.mail ++ [.descentReport] := by simp [faulted, closeFlow]

@[simp] theorem faulted_ret : (faulted p s).ret = s.ret := by simp [faulted, closeFlow]
@[simp] theorem faulted_bil : (faulted p s).bil = s.bil := by simp [faulted, closeFlow]
@[simp] theorem faulted_mtr : (faulted p s).mtr = s.mtr := by simp [faulted, closeFlow]

theorem hung_ctx : (hung p s).ctx p = { s.ctx p with state := s.rest p } := by simp [hung]

@[simp] theorem hung_ret : (hung p s).ret = s.ret := rfl
@[simp] theorem hung_bil : (hung p s).bil = s.bil := rfl
@[simp] theorem hung_mtr : (hung p s).mtr = s.mtr := rfl
@[simp] theorem hung_rif : (hung p s).rif = s.rif := rfl
theorem hung_mail : (hung p s).mail = s.mail ++ [.descentReport] := rfl

theorem hung_ctx_ne {q : Pos} (h : q ≠ p) : (hung p s).ctx q = s.ctx q := by
  rw [hung, post_ctx, unqueued_ctx, updCtx_ctx_ne _ _ h]

end Hang

end Sys2Proof.Machine
end

section
/-! Leaving ENDING (R128, R129), session outcomes, and VENTING and HANG-UP with their ends (R130, R131). O41
follows. -/

namespace Sys2Proof.Machine

open Sys2Proof

/-! ### Leaving ENDING -/

section Leaving

variable {p : Pos} {s : State} {f : FillId} {g : Ctx → Ctx} {sum : FillSummary}

/-- R129: the summary sent, the figures closed and the fill's identity dropped, from a context that `g` gives. -/
def summed (p : Pos) (g : Ctx → Ctx) (sum : FillSummary) (s : State) : State :=
  updCtx p (fun c => { g c with fill := none })
    (closeFigures p (postAll [.categoryReport p none false, .fillSummary sum] s))

theorem summed_ctx : (summed p g sum s).ctx p = { g (s.ctx p) with fill := none } := by
  rw [summed, updCtx_ctx_same]
  rfl

theorem summed_ctx_ne {q : Pos} (h : q ≠ p) : (summed p g sum s).ctx q = s.ctx q := by
  rw [summed, updCtx_ctx_ne _ _ h]
  rfl

theorem summed_mtr : (summed p g sum s).mtr = s.mtr.set p { s.meter p with isOpen := false } := rfl

theorem summed_meter : State.meter (summed p g sum s) p = { s.meter p with isOpen := false } := by
  rw [State.meter, summed_mtr, PerPos.get_set_same]

@[simp] theorem summed_ret : (summed p g sum s).ret = s.ret := rfl
@[simp] theorem summed_bil : (summed p g sum s).bil = s.bil := rfl
@[simp] theorem summed_rif : (summed p g sum s).rif = s.rif := rfl
theorem summed_mail :
    (summed p g sum s).mail = s.mail ++ [.categoryReport p none false, .fillSummary sum] := rfl

theorem summed_sameRing : State.SameRing (summed p g sum s) s := ⟨rfl, rfl, rfl⟩

theorem tryLeave_eq (hst : (g (s.ctx p)).state = .ending) (hf : (g (s.ctx p)).fill = some f)
    (hafter : (g (s.ctx p)).timers.afterRun = none) (howed : (g (s.ctx p)).awaited = [])
    (hsum : (updCtx p g s).summary p f = sum) : tryLeave p (updCtx p g s) =
      if s.latched then enterHangUp p (summed p g sum s) else enterVenting p (summed p g sum s) := by
  have hgone : updCtx p (fun c => { c with fill := none }) (closeFigures p
      (postAll [.categoryReport p none false, .fillSummary sum] (updCtx p g s))) = summed p g sum s := by
    have hout : closeFigures p (postAll [.categoryReport p none false, .fillSummary sum] (updCtx p g s)) =
        updCtx p g (closeFigures p (postAll [.categoryReport p none false, .fillSummary sum] s)) := rfl
    rw [hout, updCtx_updCtx, summed]
  rw [tryLeave]
  simp only [updCtx_ctx_same]
  rw [onlyIf_pos (by simp [hst, hafter, howed]), leaveEnding, updCtx_ctx_same, hf]
  simp only [hsum, hgone]
  rfl

/-- What every way out of ENDING leaves. -/
structure LeftEnding (p : Pos) (s t : State) : Prop where
  fill : (t.ctx p).fill = none
  faultMark : (t.ctx p).faultMark = (s.ctx p).faultMark
  meter : t.meter p = { s.meter p with isOpen := false }
  others : ∀ q, q ≠ p → t.ctx q = s.ctx q
  ret : t.ret = s.ret
  bil : t.bil = s.bil

theorem leftEnding_hung (hmark : (g (s.ctx p)).faultMark = (s.ctx p).faultMark) :
    LeftEnding p s (hung p (summed p g sum s)) where
  fill := by rw [hung_ctx, summed_ctx]
  faultMark := by rw [hung_ctx, summed_ctx, ← hmark]
  meter := by rw [State.meter, hung_mtr, ← State.meter, summed_meter]
  others q hq := by rw [hung_ctx_ne hq, summed_ctx_ne hq]
  ret := by rw [hung_ret, summed_ret]
  bil := by rw [hung_bil, summed_bil]

theorem leftEnding_faulted (hmark : (g (s.ctx p)).faultMark = (s.ctx p).faultMark) :
    LeftEnding p s (faulted p (summed p g sum s)) where
  fill := by rw [faulted_ctx, summed_ctx]
  faultMark := by rw [faulted_ctx, summed_ctx, ← hmark]
  meter := by rw [State.meter, faulted_mtr, ← State.meter, summed_meter]
  others q hq := by rw [faulted_ctx_ne hq, summed_ctx_ne hq]
  ret := by rw [faulted_ret, summed_ret]
  bil := by rw [faulted_bil, summed_bil]

theorem leftEnding_vents (st : PosTimers → PosTimers) (hmark : (g (s.ctx p)).faultMark = (s.ctx p).faultMark) :
    LeftEnding p s (unqueued p (updCtx p (fun c => { c with state := .venting, timers := st c.timers })
      (openFull (.ventValve p) (summed p g sum s)))) where
  fill := by rw [unqueued_ctx, updCtx_ctx_same, openFull_ctx, summed_ctx]
  faultMark := by rw [unqueued_ctx, updCtx_ctx_same, openFull_ctx, summed_ctx, ← hmark]
  meter := by rw [State.meter, unqueued_mtr, updCtx_mtr, openFull_mtr, ← State.meter, summed_meter]
  others q hq := by rw [unqueued_ctx, updCtx_ctx_ne _ _ hq, openFull_ctx, summed_ctx_ne hq]
  ret := by rw [unqueued_ret, updCtx_ret, openFull_ret, summed_ret]
  bil := by rw [unqueued_bil, updCtx_bil, openFull_bil, summed_bil]

theorem summed_rest (hopened : (g (s.ctx p)).opened = (s.ctx p).opened) :
    (summed p g sum s).rest p = s.rest p := by
  have hhome : (summed p g sum s).home p = s.home p := home_congr (by rw [summed_ctx]; exact hopened) rfl rfl
  rw [State.rest, hhome]
  rfl

/-- R130: the vent valve opened with the vent timer, after the summary. -/
structure Vents (p : Pos) (sum : FillSummary) (s t : State) : Prop where
  state : (t.ctx p).state = .venting
  mail : t.mail = s.mail ++ [.categoryReport p none false, .fillSummary sum]
  rif : t.rif = (actuate (.ventValve p) .open 1000 s).rif
  timer : (t.ctx p).timers.vent = some (10 * (s.posRow p).ventLimit)

/-- R130: the venting over at once, after the summary: HANG-UP or what follows it. -/
structure Hangs (p : Pos) (sum : FillSummary) (s t : State) : Prop where
  mail : t.mail = s.mail ++ [.categoryReport p none false, .fillSummary sum] ++ [.descentReport]
  rif : t.rif = s.rif
  state : (t.ctx p).state = s.rest p

/-- R131: the venting over at once, after the summary: FAULT. -/
structure Faults (p : Pos) (sum : FillSummary) (s t : State) : Prop where
  mail : t.mail = s.mail ++ [.categoryReport p none false, .fillSummary sum] ++ [.descentReport]
  state : (t.ctx p).state = .fault
  rif : t.rif = (notice .positionFault p.num (u1 ((((s.ctx p).faultCause).map FaultCause.num).getD 0))
    (close (.controlValve p) (close (.dispenseValve p) s))).rif

theorem vents_summed (st : PosTimers → PosTimers)
    (ht : (st (g (s.ctx p)).timers).vent = some (10 * (s.posRow p).ventLimit)) :
    Vents p sum s (unqueued p (updCtx p (fun c => { c with state := .venting, timers := st c.timers })
      (openFull (.ventValve p) (summed p g sum s)))) where
  state := by rw [unqueued_ctx, updCtx_ctx_same]
  mail := by rw [unqueued_mail, updCtx_mail, openFull_mail, summed_mail]
  rif := by
    rw [unqueued_rif, updCtx_rif]
    exact (openFull_congr summed_sameRing _).rif
  timer := by rw [unqueued_ctx, updCtx_ctx_same, openFull_ctx, summed_ctx]; exact ht

theorem hangs_summed (hopened : (g (s.ctx p)).opened = (s.ctx p).opened) :
    Hangs p sum s (hung p (summed p g sum s)) where
  mail := by rw [hung_mail, summed_mail]
  rif := by rw [hung_rif, summed_rif]
  state := by rw [hung_ctx]; exact summed_rest hopened

theorem faults_summed (hcause : (g (s.ctx p)).faultCause = (s.ctx p).faultCause) :
    Faults p sum s (faulted p (summed p g sum s)) where
  mail := by rw [faulted_mail, summed_mail]
  state := by rw [faulted_ctx]
  rif := by
    rw [faulted_rif, State.faultNum, summed_ctx]
    simp only [hcause]
    exact (notice_congr (close_congr (close_congr summed_sameRing _) _) _ _ _).rif

/-- R129, R130: the way out of ENDING, by the latch, the nozzle pressure, the mark and the nozzle. -/
theorem leaves_summed (hst : (g (s.ctx p)).state = .ending)
    (hmark : (g (s.ctx p)).faultMark = (s.ctx p).faultMark)
    (hcause : (g (s.ctx p)).faultCause = (s.ctx p).faultCause)
    (hopened : (g (s.ctx p)).opened = (s.ctx p).opened) :
    let t := if s.latched then enterHangUp p (summed p g sum s) else enterVenting p (summed p g sum s)
    let vents : Prop := s.latched = false ∧ (s.posRow p).ventTarget < s.nozzle p
    let faults : Prop := (s.ctx p).faultMark = true ∧ (s.latched = false ∨ s.level (.holster p) = true)
    LeftEnding p s t ∧ (vents → Vents p sum s t)
      ∧ (¬ vents → (faults → Faults p sum s t) ∧ (¬ faults → Hangs p sum s t)) := by
  have hspan : ((summed p g sum s).ctx p).state.descentSpan = true := by rw [summed_ctx, hst]; rfl
  have hvmark : ((summed p g sum s).ctx p).faultMark = (s.ctx p).faultMark := by rw [summed_ctx, ← hmark]
  have hlevel : (summed p g sum s).level (.holster p) = s.level (.holster p) := rfl
  have hnozzle : (summed p g sum s).nozzle p = s.nozzle p := rfl
  have hrow : (summed p g sum s).posRow p = s.posRow p := rfl
  intro t vents faults
  cases hl : s.latched with
  | true =>
    have hdry : ¬ vents := fun hv => by simp [vents, hl] at hv
    have ht : t = enterHangUp p (summed p g sum s) := if_pos hl
    by_cases hf : (s.ctx p).faultMark = true ∧ s.level (.holster p) = true
    · rw [ht, enterHangUp_faulted hspan (hvmark.trans hf.1) (hlevel.trans hf.2)]
      exact ⟨leftEnding_faulted hmark, fun hv => absurd hv hdry,
        fun _ => ⟨fun _ => faults_summed hcause, fun hn => absurd ⟨hf.1, .inr hf.2⟩ hn⟩⟩
    · have hfree : ((summed p g sum s).ctx p).faultMark = false ∨
          (summed p g sum s).level (.holster p) = false := by
        rw [hvmark, hlevel]
        cases hm : (s.ctx p).faultMark <;> simp_all
      rw [ht, enterHangUp_hung hspan hfree]
      exact ⟨leftEnding_hung hmark, fun hv => absurd hv hdry,
        fun _ => ⟨fun hfault => absurd ⟨hfault.1, hfault.2.resolve_left (by simp [hl])⟩ hf,
          fun _ => hangs_summed hopened⟩⟩
  | false =>
    have ht : t = enterVenting p (summed p g sum s) := if_neg (by simp [hl])
    by_cases hhigh : ((s.posRow p).ventTarget : Int) < s.nozzle p
    · rw [ht, enterVenting_vents hspan (by rw [hnozzle, hrow]; exact hhigh)]
      exact ⟨leftEnding_vents (fun k => { k with vent := some (10 * (s.posRow p).ventLimit) }) hmark,
        fun _ => vents_summed (fun k => { k with vent := some (10 * (s.posRow p).ventLimit) }) rfl, fun hn => absurd ⟨hl, hhigh⟩ hn⟩
    · obtain ⟨hclean, hbad⟩ := enterVenting_over hspan (p := p) (s := summed p g sum s)
        (by rw [hnozzle, hrow]; exact not_lt.mp hhigh)
      have hdry : ¬ vents := fun hv => hhigh hv.2
      cases hm : (s.ctx p).faultMark with
      | false =>
        rw [ht, hclean (hvmark.trans hm)]
        exact ⟨leftEnding_hung hmark, fun hv => absurd hv hdry,
          fun _ => ⟨fun hfault => by simp [faults, hm] at hfault, fun _ => hangs_summed hopened⟩⟩
      | true =>
        rw [ht, hbad (hvmark.trans hm)]
        exact ⟨leftEnding_faulted hmark, fun hv => absurd hv hdry,
          fun _ => ⟨fun _ => faults_summed hcause, fun hn => absurd ⟨hm, .inl hl⟩ hn⟩⟩

/-- The way out of ENDING by an event that comes to `tryLeave` with the context `g` gives. -/
theorem leaves_of {i : Instr} (hreset : s.smc.inReset = false) {act : State → State} (hi : exec i s = running s act)
    (hact : act s = tryLeave p (updCtx p g s)) (hst : (g (s.ctx p)).state = .ending)
    (hf : (g (s.ctx p)).fill = some f)
    (hafter : (g (s.ctx p)).timers.afterRun = none) (howed : (g (s.ctx p)).awaited = [])
    (hmark : (g (s.ctx p)).faultMark = (s.ctx p).faultMark)
    (hcause : (g (s.ctx p)).faultCause = (s.ctx p).faultCause)
    (hopened : (g (s.ctx p)).opened = (s.ctx p).opened) (hsum : (updCtx p g s).summary p f = sum) :
    let vents : Prop := s.latched = false ∧ (s.posRow p).ventTarget < s.nozzle p
    let faults : Prop := (s.ctx p).faultMark = true ∧ (s.latched = false ∨ s.level (.holster p) = true)
    let cause : Nat := (((s.ctx p).faultCause).map FaultCause.num).getD 0
    ∃ t, exec i s = .next t
      ∧ (t.ctx p).fill = none ∧ (t.ctx p).faultMark = (s.ctx p).faultMark
      ∧ (t.meter p) = { s.meter p with isOpen := false }
      ∧ (∀ q, q ≠ p → t.ctx q = s.ctx q) ∧ t.ret = s.ret ∧ t.bil = s.bil
      ∧ (let told := s.mail ++ [.categoryReport p none false, .fillSummary sum]
        (vents → (t.ctx p).state = .venting ∧ t.mail = told
          ∧ t.rif = (actuate (.ventValve p) .open 1000 s).rif
          ∧ (t.ctx p).timers.vent = some (10 * (s.posRow p).ventLimit))
        ∧ (¬ vents → t.mail = told ++ [.descentReport]
          ∧ (faults → (t.ctx p).state = .fault ∧ t.rif = (notice .positionFault p.num (u1 cause)
              (close (.controlValve p) (close (.dispenseValve p) s))).rif)
          ∧ (¬ faults → t.rif = s.rif ∧ (t.ctx p).state = if s.level (.holster p) = false then .hangUp
              else if s.available p then .idle else .closed))) := by
  intro vents faults cause
  obtain ⟨hleft, hvents, hover⟩ := leaves_summed (p := p) (s := s) (g := g) (sum := sum) hst hmark hcause hopened
  refine ⟨_, hi.trans (running_of_eq hreset (hact.trans (tryLeave_eq hst hf hafter howed hsum))), hleft.fill,
    hleft.faultMark, hleft.meter, hleft.others, hleft.ret, hleft.bil, fun hv => ?_, fun hn => ?_⟩
  · exact ⟨(hvents hv).state, (hvents hv).mail, (hvents hv).rif, (hvents hv).timer⟩
  · obtain ⟨hfault, hfree⟩ := hover hn
    by_cases hf : faults
    · exact ⟨(hfault hf).mail, fun _ => ⟨(hfault hf).state, (hfault hf).rif⟩, fun hno => absurd hf hno⟩
    · exact ⟨(hfree hf).mail, fun hy => absurd hy hf, fun _ => ⟨(hfree hf).rif, (hfree hf).state⟩⟩

end Leaving

end Sys2Proof.Machine
end

section
/-! Session outcomes (R128), and VENTING and HANG-UP with their ends (R127, R130, R131). O41 follows. -/

namespace Sys2Proof.Machine

open Sys2Proof

section Ending

variable {p : Pos} {s : State} {b : Bank} {o : DrawOutcome}

/-- R128: an outcome collected, and the note of its bank cleared. -/
def Ctx.collected (b : Bank) (o : DrawOutcome) (c : Ctx) : Ctx :=
  { collectOutcome b o c with awaited := c.awaited.erase b }

theorem sessionOutcome_collected (hin : (s.ctx p).state.inProgress = true) :
    sessionOutcome p b o s = tryLeave p (updCtx p (Ctx.collected b o) s) := by
  rw [sessionOutcome, if_pos hin, clearAwaited, updCtx_updCtx]
  rfl

theorem tryLeave_stays (h : (s.ctx p).state ≠ .ending ∨ (s.ctx p).timers.afterRun ≠ none ∨ (s.ctx p).awaited ≠ []) :
    tryLeave p s = s := by
  rw [tryLeave, onlyIf_neg]
  rcases h with h | h | h
  · simp [h]
  · cases ha : (s.ctx p).timers.afterRun <;> simp_all
  · cases ha : (s.ctx p).awaited <;> simp_all

theorem sessionOutcome_stays (hin : (s.ctx p).state.inProgress = true)
    (h : (s.ctx p).state ≠ .ending ∨ (s.ctx p).timers.afterRun ≠ none ∨ (s.ctx p).awaited.erase b ≠ []) :
    sessionOutcome p b o s = updCtx p (Ctx.collected b o) s := by
  rw [sessionOutcome_collected hin, tryLeave_stays]
  rw [updCtx_ctx_same]
  exact h

theorem sessionOutcome_dropped (hin : (s.ctx p).state.inProgress = false) : sessionOutcome p b o s = s := by
  rw [sessionOutcome, if_neg (by simp [hin])]

/-- R128: a LOST in ENDING that names a bank the position does not draw from. -/
theorem lost_ending (hst : (s.ctx p).state = .ending) (hsrc : (s.ctx p).source ≠ some (.bank b)) :
    lost p (.bank b) s = tryLeave p (updCtx p (fun c => { c with awaited := c.awaited.erase b }) s) := by
  rw [lost]
  simp only [clearLost, clearAwaited, updCtx_ctx_same]
  rw [if_neg hsrc, waitEnded, if_neg (by simp [Ctx.waitsOn, hst])]

theorem summary_updCtx {g : Ctx → Ctx} (f : FillId) : (updCtx p g s).summary p f =
    let c := g (s.ctx p)
    { s.summary p f with
      reason := c.endReason, final := c.category, reRates := c.reRates, link := Link.carried c.link
      mismatch := c.mismatchMark, unchecked := c.uncheckedMark, uncertain := c.uncertainMark
      endTime := c.endTime } := by
  rw [State.summary, updCtx_ctx_same]
  rfl

end Ending

/-! ### VENTING -/

section Venting

variable {p : Pos} {s : State}

theorem ceilingCheck_below (h : s.nozzle p < Config.ceiling (s.posRow p).pclass) : ceilingCheck p s = s := by
  rw [ceilingCheck, onlyIf_neg (by simpa using h)]

theorem ceilingCheck_venting (hst : (s.ctx p).state = .venting)
    (h : (Config.ceiling (s.posRow p).pclass : Int) ≤ s.nozzle p) :
    ceilingCheck p s = updCtx p (Ctx.marked .ceiling) s := by
  rw [ceilingCheck, onlyIf_pos (by simpa using h), faultEvent_ending (.inr (.inl hst))]

theorem nozzlePressure_venting {u : State} (hc : ceilingCheck p s = u) (hst : (u.ctx p).state = .venting) :
    nozzlePressure p s = nozzleInVenting p u := by
  rw [nozzlePressure, hc]
  simp only [hst, if_true]

theorem nozzleInVenting_high (h : ((s.posRow p).ventTarget : Int) < s.nozzle p) : nozzleInVenting p s = s := by
  rw [nozzleInVenting, if_neg (by omega)]

/-- R130: the vent timer stopped. -/
def Ctx.unvented (c : Ctx) : Ctx := { c with timers := { c.timers with vent := none } }

theorem nozzleInVenting_low (h : s.nozzle p ≤ ((s.posRow p).ventTarget : Int)) :
    nozzleInVenting p s = ventDone p (updCtx p Ctx.unvented (close (.ventValve p) s)) := by
  rw [nozzleInVenting, if_pos h]
  rfl

/-- A position in FAULT after VENTING, with the cause numbered `n` and its vent valve commanded by `vent`. -/
structure FaultedFrom (p : Pos) (n : Nat) (cause : Option FaultCause) (u s t : State) : Prop where
  state : (t.ctx p).state = .fault
  timer : (t.ctx p).timers.vent = none
  mail : t.mail = s.mail ++ [.descentReport]
  others : ∀ q, q ≠ p → t.ctx q = s.ctx q
  rif : t.rif = (notice .positionFault p.num (u1 n) (close (.controlValve p) (close (.dispenseValve p) u))).rif
  cause : (t.ctx p).faultCause = cause

theorem faultedFrom {g : Ctx → Ctx} {v u : State} {n : Nat} {cause : Option FaultCause} (hring : State.SameRing v u)
    (hmail : v.mail = s.mail) (hfil : v.fil = s.fil) (hvent : (g (s.ctx p)).timers.vent = none)
    (hcause : (g (s.ctx p)).faultCause = cause) (hn : (cause.map FaultCause.num).getD 0 = n) :
    FaultedFrom p n cause u s (faulted p (updCtx p g v)) := by
  have hctx : ∀ q, v.ctx q = s.ctx q := fun q => by rw [State.ctx, hfil, State.ctx]
  have hu : (updCtx p g v).ctx p = g (s.ctx p) := by rw [updCtx_ctx_same, hctx]
  constructor
  case state => rw [faulted_ctx]
  case timer => rw [faulted_ctx, hu]; exact hvent
  case mail => rw [faulted_mail, updCtx_mail, hmail]
  case others => exact fun q hq => by rw [faulted_ctx_ne hq, updCtx_ctx_ne _ _ hq, hctx]
  case rif =>
    rw [faulted_rif, State.faultNum, hu, hcause, hn]
    have hsame : State.SameRing (updCtx p g v) u := ⟨hring.rif, hring.tables, hring.latch⟩
    exact (notice_congr (close_congr (close_congr hsame _) _) _ _ _).rif
  case cause => rw [faulted_ctx, hu]; exact hcause

theorem FaultedFrom.withSig {n : Nat} {cause : Option FaultCause} {u t : State} (h : FaultedFrom p n cause u s t)
    (z : List (Role × SigRec)) : FaultedFrom p n cause u s { t with sig := z } :=
  ⟨h.state, h.timer, h.mail, h.others, h.rif, h.cause⟩

/-- R127, R130: a nozzle pressure in VENTING, as the delivery carries it. -/
theorem filNozzlePressure_over (hreset : s.smc.inReset = false) {x : SigRec}
    (hx : x.value ≤ (s.posRow p).ventTarget) {g : Ctx → Ctx} {cause : Option FaultCause}
    (hc : ceilingCheck p (withRecord (.nozzlePressure p) x s) = updCtx p g (withRecord (.nozzlePressure p) x s))
    (hg : (g (s.ctx p)).state = .venting) (hm : (g (s.ctx p)).faultMark = true)
    (hcause : (g (s.ctx p)).faultCause = cause) :
    ∃ t, exec (.filNozzlePressure p x) s = .next t
      ∧ FaultedFrom p ((cause.map FaultCause.num).getD 0) cause (close (.ventValve p) s) s t := by
  let w := withRecord (.nozzlePressure p) x s
  have hn : (updCtx p g w).nozzle p = x.value := withRecord_nozzle_same x
  have hdone : nozzlePressure p w = faulted p (updCtx p (fun c => (g c).unvented) (close (.ventValve p) w)) := by
    rw [nozzlePressure_venting hc (by rw [updCtx_ctx_same]; exact hg),
      nozzleInVenting_low (by rw [hn]; exact hx), close_updCtx, updCtx_updCtx,
      ventDone_faulted (by rw [updCtx_ctx_same, close_ctx]; exact congrArg PState.descentSpan hg)
        (by rw [updCtx_ctx_same, close_ctx]; exact hm)]
  have hring : State.SameRing w s := ⟨rfl, rfl, rfl⟩
  have hmail : (close (.ventValve p) w).mail = s.mail := by rw [close_mail]; rfl
  have hfil : (close (.ventValve p) w).fil = s.fil := by rw [close_fil]; rfl
  have hcaused : ((g (s.ctx p)).unvented).faultCause = cause := hcause
  have hf := faultedFrom (g := fun c => (g c).unvented) (close_congr hring (.ventValve p)) hmail hfil rfl hcaused rfl
  exact ⟨_, running_of_eq hreset (seeing_of_eq hdone), hf.withSig s.sig⟩

end Venting

/-! ### The obligation -/

section Obligation

variable {p : Pos} {s : State}

/-- R129: what the summary carries of MTR's figures. -/
theorem summary_carries (f : FillId) :
    (s.summary p f).link = (if (s.ctx p).link = .pending then .none else (s.ctx p).link)
      ∧ (s.summary p f).reason = (s.ctx p).endReason ∧ (s.summary p f).endTime = (s.ctx p).endTime
      ∧ let m := (s.summary p f).masses
        m = ⟨(s.meter p).fill, (s.meter p).banks, (s.meter p).cmp, (s.meter p).unattr, (s.meter p).afterRun,
            (s.meter p).uncertain⟩
          ∧ (m.afterRun + m.unattr ≤ m.fill → m.fillG = m.drawnG + m.afterRunG + m.unattrG) := by
  refine ⟨?_, rfl, rfl, rfl, fun h => ?_⟩
  · simp only [State.summary]
    cases (s.ctx p).link <;> rfl
  · simp only [FillMasses.drawnG, FillMasses.fillG, FillMasses.afterRunG, FillMasses.unattrG]
    omega

/-- R130: the venting completed by a nozzle pressure, without the mark. -/
theorem filNozzlePressure_hangs (hreset : s.smc.inReset = false) (hst : (s.ctx p).state = .venting) {x : SigRec}
    (hx : x.value ≤ (s.posRow p).ventTarget) (hlow : x.value < Config.ceiling (s.posRow p).pclass)
    (hmark : (s.ctx p).faultMark = false) :
    exec (.filNozzlePressure p x) s = .next (post .descentReport (unqueued p (updCtx p (fun c =>
      { c with state := s.rest p, timers := { c.timers with vent := none } }) (close (.ventValve p) s)))) := by
  let w := withRecord (.nozzlePressure p) x s
  have hn : w.nozzle p = x.value := withRecord_nozzle_same x
  have hctx : (updCtx p Ctx.unvented (close (.ventValve p) w)).ctx p = (s.ctx p).unvented := by
    rw [updCtx_ctx_same, close_ctx]
    rfl
  have hrest : (updCtx p Ctx.unvented (close (.ventValve p) w)).rest p = s.rest p := by
    have hlevel : (updCtx p Ctx.unvented (close (.ventValve p) w)).level (.holster p) = s.level (.holster p) := by
      rw [close_onlyRif]
      exact congrArg SigRec.level (withRecord_record_ne x s (by simp))
    have hhome : (updCtx p Ctx.unvented (close (.ventValve p) w)).home p = s.home p :=
      home_congr (by rw [hctx]; rfl) (by simp [w]) (by simp [w])
    rw [State.rest, hlevel, hhome, State.rest]
  have hsigless : Sigless (fun u => post .descentReport (unqueued p (updCtx p (fun c =>
      { c with state := s.rest p, timers := { c.timers with vent := none } }) (close (.ventValve p) u)))) :=
    (show Sigless (fun u => post .descentReport (unqueued p (updCtx p _ u))) from fun _ _ => rfl).comp
      (sigless_close _)
  refine running_of_eq hreset (seeing_sigless hsigless ?_)
  change nozzlePressure p w = _
  have hbelow : ceilingCheck p w = w := ceilingCheck_below (by rw [hn]; exact hlow)
  rw [nozzlePressure_venting hbelow hst,
    nozzleInVenting_low (by rw [hn]; exact hx), ventDone_hung (by rw [hctx]; exact congrArg PState.descentSpan hst)
      (by rw [hctx]; exact hmark), hung, hrest, updCtx_updCtx]
  rfl

/-- R130: above the target the position goes on venting. -/
theorem filNozzlePressure_vents (hreset : s.smc.inReset = false) {x : SigRec}
    (hx : (s.posRow p).ventTarget < x.value) {g : Ctx → Ctx} (hg : (g (s.ctx p)).state = .venting)
    (hc : ceilingCheck p (withRecord (.nozzlePressure p) x s) = updCtx p g (withRecord (.nozzlePressure p) x s)) :
    exec (.filNozzlePressure p x) s = .next (updCtx p g s) := by
  have hn : (updCtx p g (withRecord (.nozzlePressure p) x s)).nozzle p = x.value := withRecord_nozzle_same x
  refine running_of_eq hreset (seeing_sigless (g := updCtx p g) (fun _ _ => rfl) ?_)
  rw [nozzlePressure_venting hc (by rw [updCtx_ctx_same]; exact hg),
    nozzleInVenting_high (by rw [hn]; exact hx)]

theorem ventExpiry_faulted (hreset : s.smc.inReset = false) (hst : (s.ctx p).state = .venting)
    (ht : (s.ctx p).timers.vent ≠ none) :
    ∃ t, exec (.ventTimerExpiry p) s = .next t ∧ FaultedFrom p 4 (some .vent) s s t := by
  have hv : ventExpiry p s = faulted p (updCtx p (fun c => { c.unvented with faultCause := some .vent }) s) := by
    rw [ventExpiry, expire_running ht, ventFault, updTimers, updCtx_updCtx,
      enterFault_told (by rw [updCtx_ctx_same]; exact congrArg PState.descentSpan hst)]
    rfl
  have hring : State.SameRing s s := ⟨rfl, rfl, rfl⟩
  exact ⟨_, running_of_eq hreset hv, faultedFrom hring rfl rfl rfl rfl rfl⟩

/-- R131: in HANG-UP with the mark set, the nozzle put back gives FAULT. -/
theorem holsterTransition_faulted (hst : (s.ctx p).state = .hangUp) (hmark : (s.ctx p).faultMark = true)
    (hl : s.level (.holster p) = true) : holsterTransition p s = notice .positionFault p.num (u1 (s.faultNum p))
      (unqueued p (updCtx p (fun c => { c with state := .fault }) (closeFlow p s))) := by
  unfold holsterTransition
  rw [hst, hl]
  simp only [endHangUp, hmark, if_true]
  rw [enterFault, goState_silent _ _ (by rw [closeFlow_ctx, hst]; rfl)]

theorem sigless_notice_faulted (n : Nat) : Sigless (fun u => notice .positionFault p.num (u1 n)
    (unqueued p (updCtx p (fun c => { c with state := .fault }) (closeFlow p u)))) :=
  (sigless_notice _ _ _).comp
    ((show Sigless (fun u => unqueued p (updCtx p _ u)) from fun _ _ => rfl).comp (sigless_closeFlow p))

/-- R128: the outcomes of sessions that leave the position where it is, and those that are dropped. -/
theorem outcomes_stay (b : Bank) (hreset : s.smc.inReset = false) :
    ((s.ctx p).state.inProgress = true →
      (s.ctx p).state ≠ .ending ∨ (s.ctx p).timers.afterRun ≠ none ∨ (s.ctx p).awaited.erase b ≠ [] →
      ∀ o, exec (.sessionOutcome p b o) s = .next (updCtx p (Ctx.collected b o) s))
    ∧ ((s.ctx p).state.inProgress = false → ∀ o, exec (.sessionOutcome p b o) s = .next s) :=
  ⟨fun hin h _ => running_of_eq hreset (sessionOutcome_stays hin h),
    fun hin _ => running_of_eq hreset (sessionOutcome_dropped hin)⟩

theorem collected_marks (b : Bank) (c : Ctx) :
    c.collected b .balanced =
        { c with awaited := c.awaited.erase b, outcomes := c.outcomes ++ [(b, .balanced)] }
      ∧ c.collected b .mismatch =
        { c with
          awaited := c.awaited.erase b, mismatchMark := true, outcomes := c.outcomes ++ [(b, .mismatch)] }
      ∧ c.collected b .unchecked =
        { c with
          awaited := c.awaited.erase b, uncheckedMark := true, outcomes := c.outcomes ++ [(b, .unchecked)] } := by
  simp [Ctx.collected, collectOutcome, show (DrawOutcome.balanced == .mismatch) = false from rfl,
    show (DrawOutcome.balanced == .unchecked) = false from rfl,
    show (DrawOutcome.mismatch == .unchecked) = false from rfl,
    show (DrawOutcome.unchecked == .mismatch) = false from rfl]

theorem FaultedFrom.spec {n : Nat} {cause : Option FaultCause} {u : State} {i : Instr}
    (h : ∃ t, exec i s = .next t ∧ FaultedFrom p n cause u s t) : ∃ t, exec i s = .next t
      ∧ ((t.ctx p).state = .fault ∧ (t.ctx p).timers.vent = none ∧ t.mail = s.mail ++ [.descentReport]
        ∧ (∀ q, q ≠ p → t.ctx q = s.ctx q)
        ∧ t.rif = (notice .positionFault p.num (u1 n) (close (.controlValve p) (close (.dispenseValve p) u))).rif)
      ∧ (t.ctx p).faultCause = cause := by
  obtain ⟨t, ht, hf⟩ := h
  exact ⟨t, ht, ⟨hf.state, hf.timer, hf.mail, hf.others, hf.rif⟩, hf.cause⟩

/-- R130, R131: the nozzle put back in HANG-UP with the mark set. -/
theorem hangUp_faulted (hreset : s.smc.inReset = false) (hst : (s.ctx p).state = .hangUp)
    (hmark : (s.ctx p).faultMark = true) {x : SigRec} (hl : x.level = true) :
    ∃ t, exec (.filHolsterTransition p x) s = .next t ∧ (t.ctx p).state = .fault
      ∧ (t.ctx p).faultCause = (s.ctx p).faultCause
      ∧ t.rif = (notice .positionFault p.num (u1 (s.faultNum p))
          (close (.controlValve p) (close (.dispenseValve p) s))).rif
      ∧ t.mail = s.mail ∧ (∀ q, q ≠ p → t.ctx q = s.ctx q) := by
  refine ⟨_, running_of_eq hreset (seeing_sigless (sigless_notice_faulted (s.faultNum p))
    (holsterTransition_faulted (s := withRecord (.holster p) x s) hst hmark
      ((withRecord_level_same _ _ _).trans hl))), ?_⟩
  rw [notice_unqueued, notice_updCtx, unqueued_rif, updCtx_rif, closeFlow]
  refine ⟨by simp, by simp, rfl, by simp, fun q hq => ?_⟩
  rw [unqueued_ctx, updCtx_ctx_ne _ _ hq]
  simp

end Obligation

end Sys2Proof.Machine

namespace Sys2Proof

open Sys2Proof.Machine

/-- Settles O41: every way out of ENDING is the one departure, from the context its event leaves; VENTING is over
when the nozzle pressure allows, and ends in HANG-UP, what follows it, or FAULT. -/
theorem endingAndVenting : Obligations.EndingAndVenting := by
  unfold Obligations.EndingAndVenting
  refine ⟨fun p s hreset hst => ?_, fun p b s hreset => ?_, fun p x s hreset => ?_⟩
  · refine ⟨fun howed ht f hf => ?_, fun b o howed ht f hf => ?_, fun b c howed ht hsrc f hf => ?_, summary_carries,
      fun howed ht => ?_⟩
    · exact leaves_of (act := afterRunExpiry p) (g := fun c => { c with timers := { c.timers with afterRun := none } })
        hreset rfl (expire_running ht) hst hf rfl howed rfl rfl rfl (summary_updCtx f)
    · exact leaves_of (act := sessionOutcome p b o) (g := Ctx.collected b o) hreset rfl
        (sessionOutcome_collected (by rw [hst]; rfl)) hst hf ht howed rfl rfl rfl (summary_updCtx f)
    · exact leaves_of (act := lost p (.bank b)) (g := fun c => { c with awaited := c.awaited.erase b }) hreset rfl
        (lost_ending hst hsrc) hst hf ht howed rfl rfl rfl (summary_updCtx f)
    · refine running_of_eq (f := afterRunExpiry p) hreset ?_
      rw [afterRunExpiry, expire_running ht, tryLeave_stays (.inr (.inr (by
        rw [updTimers, updCtx_ctx_same]; exact howed)))]
      rfl
  · obtain ⟨hstay, hdrop⟩ := outcomes_stay (p := p) (s := s) b hreset
    obtain ⟨hbal, hmis, hun⟩ := collected_marks b (s.ctx p)
    refine ⟨fun hin h => ⟨?_, ?_, ?_⟩, hdrop⟩
    · refine (hstay hin h _).trans (congrArg _ (updCtx_of_eq _ _ _ ?_))
      exact hbal
    · refine (hstay hin h _).trans (congrArg _ (updCtx_of_eq _ _ _ ?_))
      exact hmis
    · refine (hstay hin h _).trans (congrArg _ (updCtx_of_eq _ _ _ ?_))
      exact hun
  · have hn : (withRecord (.nozzlePressure p) x s).nozzle p = x.value := withRecord_nozzle_same x
    have hbelow (h : x.value < Config.ceiling (s.posRow p).pclass) :
        ceilingCheck p (withRecord (.nozzlePressure p) x s) =
          updCtx p (fun c => c) (withRecord (.nozzlePressure p) x s) :=
      (ceilingCheck_below (hn.trans_lt h)).trans (updCtx_self _ _ _ rfl).symm
    have habove (hst : (s.ctx p).state = .venting) (h : (Config.ceiling (s.posRow p).pclass : Int) ≤ x.value) :
        ceilingCheck p (withRecord (.nozzlePressure p) x s) =
          updCtx p (Ctx.marked .ceiling) (withRecord (.nozzlePressure p) x s) :=
      ceilingCheck_venting hst (h.trans_eq hn.symm)
    have hkept (hm : (s.ctx p).faultMark = true) : (s.ctx p).marked .ceiling = s.ctx p := by
      rw [Ctx.marked, hm, if_pos rfl, ← hm]
    refine ⟨fun hst => ⟨fun hx hlow hm => ?_, fun hx h => ?_,
      fun hx hc hm => ?_, fun hx hc hm => FaultedFrom.spec ?_, fun hx hm => FaultedFrom.spec ?_,
      fun ht => FaultedFrom.spec (ventExpiry_faulted hreset hst ht)⟩,
      fun hst hm hl => hangUp_faulted hreset hst hm hl⟩
    · rw [filNozzlePressure_hangs hreset hst hx hlow hm, unqueued, updCtx_bankWaitOrder, close_bankWaitOrder]
      rfl
    · by_cases hlow : x.value < Config.ceiling (s.posRow p).pclass
      · exact (filNozzlePressure_vents (g := fun c => c) hreset hx hst (hbelow hlow)).trans
          (congrArg _ (updCtx_self _ _ _ rfl))
      · have hm := h.resolve_left hlow
        exact (filNozzlePressure_vents hreset hx hst (habove hst (not_lt.mp hlow))).trans
          (congrArg _ (updCtx_self _ _ _ (hkept hm)))
    · refine (filNozzlePressure_vents hreset hx hst (habove hst hc)).trans (congrArg _ (updCtx_of_eq _ _ _ ?_))
      simp [Ctx.marked, hm]
    · exact filNozzlePressure_over (cause := some .ceiling) hreset hx (habove hst hc) hst rfl (by simp [Ctx.marked, hm])
    · by_cases hlow : x.value < Config.ceiling (s.posRow p).pclass
      · exact filNozzlePressure_over hreset hx (hbelow hlow) hst hm rfl
      · exact filNozzlePressure_over hreset hx (habove hst (not_lt.mp hlow)) hst rfl (by rw [hkept hm])

end Sys2Proof
end

section
/-! POSITION-OPEN, POSITION-CLOSE and POSITION-LIMIT (R109, R132, R133). O47 follows. -/

namespace Sys2Proof.Machine

open Sys2Proof

section Availability

variable {p : Pos} {s : State} {o : Bool}

/-- R109: what a position that is opened needs besides to be available. -/
def State.offers (s : State) (p : Pos) : Bool :=
  (s.posRow p).pulseWeight != 0 && s.smc.mode.allows (s.posRow p).required

theorem offers_iff : s.offers p = true ↔ (s.posRow p).pulseWeight ≠ 0
    ∧ (s.smc.mode = .run ∨ (s.smc.mode = .quiet ∧ (s.posRow p).required = .c00)) := by
  rw [State.offers, Bool.and_eq_true, bne_iff_ne]
  refine and_congr_right fun _ => ?_
  cases s.smc.mode <;> simp [Mode.allows]

theorem available_of_opened : s.available p = ((s.ctx p).opened && s.offers p) := by
  rw [State.available, State.offers, Bool.and_assoc]

theorem evalAvailability_opens (hst : (s.ctx p).state = .closed) (ha : s.available p = true) :
    evalAvailability p s = unqueued p (updCtx p (fun c =>
      { c with state := if s.level (.holster p) then .idle else .lifted }) s) := by
  have hspan : (s.ctx p).state.descentSpan =
      (if s.level (.holster p) then PState.idle else .lifted).descentSpan := by
    rw [hst]
    split <;> rfl
  unfold evalAvailability
  rw [hst, ha]
  exact goState_silent _ _ hspan

theorem evalAvailability_closes (hst : (s.ctx p).state = .idle ∨ (s.ctx p).state = .lifted)
    (ha : s.available p = false) :
    evalAvailability p s = unqueued p (updCtx p (fun c => { c with state := .closed }) s) := by
  unfold evalAvailability
  rcases hst with hst | hst <;> rw [hst, ha] <;> exact goState_silent _ _ (by rw [hst]; rfl)

theorem evalAvailability_offered (hst : (s.ctx p).state = .idle ∨ (s.ctx p).state = .lifted)
    (ha : s.available p = true) : evalAvailability p s = s := by
  unfold evalAvailability
  rcases hst with hst | hst <;> rw [hst, ha]

theorem evalAvailability_shut (hst : (s.ctx p).state = .closed) (ha : s.available p = false) :
    evalAvailability p s = s := by
  unfold evalAvailability
  rw [hst, ha]

theorem evalAvailability_busy (hst : (s.ctx p).state.busySpan = true ∨ (s.ctx p).state = .fault) :
    evalAvailability p s = s := by
  unfold evalAvailability
  cases h : (s.ctx p).state <;>
    simp_all [PState.busySpan, PState.descentSpan, PState.inProgress, PState.endable, PState.running]

/-! ### The flag -/

/-- A position's flag, with nothing else of it changed. -/
def flagged (p : Pos) (o : Bool) (s : State) : State := updCtx p (fun c => { c with opened := o }) s

theorem flagged_ctx : (flagged p o s).ctx p = { s.ctx p with opened := o } := updCtx_ctx_same _ _ _

theorem flagged_available : (flagged p o s).available p = (o && s.offers p) := by
  rw [available_of_opened, flagged_ctx]
  rfl

theorem setOpened_opens (hst : (s.ctx p).state = .closed) (ha : s.offers p = true) :
    setOpened p true s = unqueued p (updCtx p (fun c =>
      { c with opened := true, state := if s.level (.holster p) then .idle else .lifted }) s) := by
  change evalAvailability p (flagged p true s) = _
  rw [evalAvailability_opens (by rw [flagged_ctx]; exact hst) (by rw [flagged_available, ha]; rfl), flagged,
    updCtx_updCtx]
  rfl

theorem setOpened_closes (hst : (s.ctx p).state = .idle ∨ (s.ctx p).state = .lifted)
    (ha : (o && s.offers p) = false) : setOpened p o s =
      unqueued p (updCtx p (fun c => { c with opened := o, state := .closed }) s) := by
  change evalAvailability p (flagged p o s) = _
  rw [evalAvailability_closes (by rw [flagged_ctx]; exact hst) (flagged_available.trans ha), flagged, updCtx_updCtx]

theorem setOpened_flag (h : ((s.ctx p).state.busySpan = true ∨ (s.ctx p).state = .fault)
      ∨ ((s.ctx p).state = .closed ∧ (o && s.offers p) = false)
      ∨ (((s.ctx p).state = .idle ∨ (s.ctx p).state = .lifted) ∧ (o && s.offers p) = true)) :
    setOpened p o s = flagged p o s := by
  change evalAvailability p (flagged p o s) = _
  rcases h with h | ⟨h, ha⟩ | ⟨h, ha⟩
  · exact evalAvailability_busy (by rw [flagged_ctx]; exact h)
  · exact evalAvailability_shut (by rw [flagged_ctx]; exact h) (flagged_available.trans ha)
  · exact evalAvailability_offered (by rw [flagged_ctx]; exact h) (flagged_available.trans ha)

end Availability

/-! ### The requests -/

section Requests

variable {p : Pos} {s : State} {rq : Req}

@[simp] theorem reply_offers (n : Nat) (st : Status) (bs : List Byte) :
    (reply rq n st bs s).offers p = s.offers p := by
  rw [reply_onlyRif]
  rfl

@[simp] theorem reply_level (n : Nat) (st : Status) (bs : List Byte) (r : Role) :
    (reply rq n st bs s).level r = s.level r := by
  rw [reply_onlyRif]
  rfl

theorem positionOpen_opened (hst : (s.ctx p).state ≠ .fault) :
    positionOpenRequest rq p.num s = setOpened p true (reply rq 48 .ok [] s) := by
  unfold positionOpenRequest
  rw [ofNum_num]
  exact if_neg hst

theorem positionOpen_held (hst : (s.ctx p).state = .fault) (h : s.faultCleared p = false) :
    positionOpenRequest rq p.num s = reply rq 48 .state [] s := by
  unfold positionOpenRequest
  rw [ofNum_num]
  simp [hst, h]

theorem positionOpen_cleared (hst : (s.ctx p).state = .fault) (h : s.faultCleared p = true) :
    positionOpenRequest rq p.num s = leaveFault p (reply rq 48 .ok [] s) := by
  unfold positionOpenRequest
  rw [ofNum_num]
  simp [hst, h]

theorem positionClose_eq : positionCloseRequest rq p.num s = setOpened p false (reply rq 49 .ok [] s) := by
  unfold positionCloseRequest
  rw [ofNum_num]

theorem faultCleared_iff : s.faultCleared p = true ↔ s.quality (.nozzlePressure p) = .good
    ∧ s.quality (.holster p) = .good ∧ s.quality (.coupled p) = .good ∧ s.quality (.meter p) = .good
    ∧ (s.mapped (.outletTemp p) = false ∨ s.quality (.outletTemp p) = .good)
    ∧ s.level (.holster p) = true ∧ s.level (.coupled p) = false := by
  simp only [State.faultCleared, List.all_cons, List.all_nil, Bool.and_true, Bool.and_eq_true, beq_iff_eq,
    Bool.or_eq_true, Bool.not_eq_true']
  constructor
  · rintro ⟨⟨⟨⟨hn, hh, hc, hm⟩, ho⟩, hl⟩, hk⟩
    exact ⟨hn, hh, hc, hm, ho.symm, hl, hk⟩
  · rintro ⟨hn, hh, hc, hm, ho, hl, hk⟩
    exact ⟨⟨⟨⟨hn, hh, hc, hm⟩, ho.symm⟩, hl⟩, hk⟩

/-- R132, R138, R145: a position that leaves FAULT. -/
theorem leaveFault_spec (hst : (s.ctx p).state = .fault) (hl : s.level (.holster p) = true) :
    ((leaveFault p s).ctx p = { s.ctx p with
        opened := true, faultMark := false, faultCause := none
        state := if s.offers p then .idle else .closed })
      ∧ State.meter (leaveFault p s) p = { s.meter p with fault := false, outMass := 0, outNotice := false }
      ∧ (leaveFault p s).rif = (close (.ventValve p) s).rif := by
  let g : Ctx → Ctx := fun c => { c with faultMark := false, faultCause := none, state := .closed }
  rw [leaveFault, close_onlyRif]
  generalize (close (.ventValve p) s).rif = x
  let v : State := clearAlarms p { s with rif := x }
  have hgo : goState p .closed (clearAlarms p (updCtx p (fun c => { c with faultMark := false, faultCause := none })
      { s with rif := x })) = unqueued p (updCtx p g v) := by
    have hout : clearAlarms p (updCtx p (fun c => { c with faultMark := false, faultCause := none })
        { s with rif := x }) = updCtx p (fun c => { c with faultMark := false, faultCause := none }) v := rfl
    have hspan : (v.ctx p).state.descentSpan = PState.closed.descentSpan :=
      (congrArg PState.descentSpan (show (v.ctx p).state = .fault from hst)).trans rfl
    rw [hout, goState_silent _ _ (by rw [updCtx_ctx_same]; exact hspan), updCtx_updCtx]
  have hctx : (unqueued p (updCtx p g v)).ctx p = g (s.ctx p) := by rw [unqueued_ctx, updCtx_ctx_same]; rfl
  have hoffers : (unqueued p (updCtx p g v)).offers p = s.offers p := rfl
  have hlevel : (unqueued p (updCtx p g v)).level (.holster p) = true := hl
  have hmeter : (unqueued p (updCtx p g v)).meter p =
      { s.meter p with fault := false, outMass := 0, outNotice := false } :=
    updMeter_meter_same p (fun m => { m with fault := false, outMass := 0, outNotice := false }) s
  simp only [hgo]
  cases ho : s.offers p with
  | true =>
    rw [setOpened_opens (by rw [hctx]) (hoffers.trans ho), hlevel]
    refine ⟨?_, hmeter, rfl⟩
    rw [unqueued_ctx, updCtx_ctx_same, hctx]
    rfl
  | false =>
    rw [setOpened_flag (.inr (.inl ⟨by rw [hctx], by rw [hoffers, ho]; rfl⟩))]
    refine ⟨?_, hmeter, rfl⟩
    rw [flagged_ctx, hctx]
    rfl

/-! ### POSITION-LIMIT -/

theorem positionLimit_range {f : FillId} {n : Nat} (hend : (s.ctx p).state.endable = true)
    (hf : (s.ctx p).fill = some f) (h : n = 0 ∨ 200000 < n ∨ f.cap ≤ n) :
    positionLimitRequest rq p.num n s = reply rq 51 .range [] s := by
  unfold positionLimitRequest
  rw [ofNum_num]
  simp only [hend, hf]
  exact if_pos (h.imp_left (by omega))

theorem positionLimit_taken {f : FillId} {n : Nat} (hend : (s.ctx p).state.endable = true)
    (hf : (s.ctx p).fill = some f) (hlo : 1 ≤ n) (hhi : n ≤ 200000) (hcap : n < f.cap) :
    positionLimitRequest rq p.num n s = lowerCap p f n (reply rq 51 .ok [] s) := by
  unfold positionLimitRequest
  rw [ofNum_num]
  simp only [hend, hf]
  exact if_neg (by omega)

theorem positionLimit_idle {n : Nat} (h : (s.ctx p).state.endable = false ∨ (s.ctx p).fill = none) :
    positionLimitRequest rq p.num n s = reply rq 51 .state [] s := by
  unfold positionLimitRequest
  rw [ofNum_num]
  rcases h with h | h
  · simp only [h]
  · simp only
    rw [h]
    cases (s.ctx p).state.endable <;> rfl

/-- R133: the lowered cap told to BIL. -/
def capLowered (p : Pos) (f : FillId) (n : Nat) (s : State) : State :=
  post (.loweredCap p n) (updCtx p (fun c => { c with fill := some { f with cap := n } }) s)

theorem lowerCap_stays {f : FillId} {n : Nat}
    (h : (s.ctx p).state.running = false ∨ (s.meter p).fill / 1000 < n) : lowerCap p f n s = capLowered p f n s := by
  rw [lowerCap, onlyIf_neg (by rcases h with h | h <;> simp [h])]
  rfl

theorem lowerCap_ends {f : FillId} {n : Nat} (hrun : (s.ctx p).state.running = true)
    (h : n ≤ (s.meter p).fill / 1000) : lowerCap p f n s = endFill p .massCap (capLowered p f n s) := by
  rw [lowerCap, onlyIf_pos (by simp [hrun, h])]
  rfl

theorem capLowered_ctx {f : FillId} {n : Nat} :
    (capLowered p f n s).ctx p = { s.ctx p with fill := some { f with cap := n } } := by
  rw [capLowered, post_ctx, updCtx_ctx_same]

/-! ### The obligation -/

theorem positionOpen_range {n : Nat} (h : n = 0 ∨ 5 ≤ n) :
    positionOpenRequest rq n s = reply rq 48 .range [] s ∧ positionCloseRequest rq n s = reply rq 49 .range [] s := by
  rw [positionOpenRequest, positionCloseRequest, ofNum_outside h]
  exact ⟨rfl, rfl⟩

theorem not_fault_of {st : PState} (h : (s.ctx p).state = st) (hst : st ≠ .fault) : (s.ctx p).state ≠ .fault :=
  fun hf => hst (h.symm.trans hf)

theorem not_fault_of_busy (h : (s.ctx p).state.busySpan = true) : (s.ctx p).state ≠ .fault :=
  fun hf => by simp [hf, PState.busySpan, PState.descentSpan, PState.inProgress, PState.endable, PState.running] at h

theorem unqueued_reply (n : Nat) (st : Status) (bs : List Byte) (f : Ctx → Ctx) :
    unqueued p (updCtx p f (reply rq n st bs s)) = { updCtx p f (reply rq n st bs s) with
      bankWaitOrder := (reply rq n st bs s).bankWaitOrder.filter (fun q => q != p) } := rfl

theorem positionLimit_ends (hreset : s.smc.inReset = false) {f : FillId} {n : Nat}
    (hrun : (s.ctx p).state.running = true) (hf : (s.ctx p).fill = some f) (hlo : 1 ≤ n) (hhi : n ≤ 200000)
    (hcap : n < f.cap) (hm : n ≤ (s.meter p).fill / 1000) (hs : s.sourceless p) :
    ∃ t, exec (.positionLimit rq p.num n) s = .next t
      ∧ FillEnded p .massCap (capLowered p f n (reply rq 51 .ok [] s)) t := by
  have hend : (s.ctx p).state.endable = true := by simp [PState.endable, hrun]
  have hlimit := positionLimit_taken (rq := rq) hend hf hlo hhi hcap
  rw [reply_onlyRif] at hlimit ⊢
  generalize (reply rq 51 .ok [] s).rif = x at hlimit ⊢
  let v := capLowered p f n { s with rif := x }
  have hctx : v.ctx p = { s.ctx p with fill := some { f with cap := n } } := capLowered_ctx
  have hdry : v.sourceless p := ⟨by rw [hctx]; exact hs.source, hs.noBank, hs.noOutput, hs.window⟩
  have hend' : (v.ctx p).state.endable = true := by rw [hctx]; exact hend
  refine ⟨_, running_of_eq hreset (hlimit.trans (lowerCap_ends (s := { s with rif := x }) hrun hm)), ?_⟩
  rw [show endFill p .massCap v = _ from endFill_sourceless hend' hdry]
  exact fillEnded_endOut (v.ctx p)

end Requests

end Sys2Proof.Machine

namespace Sys2Proof

open Sys2Proof.Machine

/-- Settles O47: POSITION-OPEN and POSITION-CLOSE set the flag and evaluate the availability; POSITION-LIMIT lowers
the cap and may end the fill. -/
theorem positionRequests : Obligations.PositionRequests := by
  unfold Obligations.PositionRequests
  refine ⟨fun p rq s hreset => ?_, fun p rq n s hreset => ?_⟩
  · intro moved offered
    have hopened (hst : (s.ctx p).state ≠ .fault) {t : State} (h : setOpened p true (reply rq 48 .ok [] s) = t) :
        exec (.positionOpen rq p.num) s = .next t := running_of_eq hreset ((positionOpen_opened hst).trans h)
    have hclosed {t : State} (h : setOpened p false (reply rq 49 .ok [] s) = t) :
        exec (.positionClose rq p.num) s = .next t := running_of_eq hreset (positionClose_eq.trans h)
    have hstate (n : Nat) : ((reply rq n .ok [] s).ctx p).state = (s.ctx p).state := by rw [reply_ctx]
    have hoff (h : ¬ offered) : s.offers p = false := by
      rw [← Bool.not_eq_true, offers_iff]
      exact h
    have hhome : (if offered then PState.idle else .closed) = if s.offers p then .idle else .closed :=
      if_congr offers_iff.symm rfl rfl
    refine ⟨fun hst ho => ?_, fun hst ho => ?_, fun hst => ?_, fun hst => ⟨?_, ?_⟩, fun hst ho => ?_,
      fun hst ho => ?_, fun hst => ?_, fun hst hbad => ?_, fun hst hn hh hc hm hot hl hk => ?_, fun n hn =>
      ⟨running_of_eq hreset (positionOpen_range hn).1, running_of_eq hreset (positionOpen_range hn).2⟩⟩
    · refine hopened (not_fault_of hst (by decide)) ?_
      rw [setOpened_opens ((hstate 48).trans hst) (by rw [reply_offers]; exact offers_iff.mpr ho), reply_level,
        unqueued_reply]
    · exact hopened (not_fault_of hst (by decide)) (setOpened_flag
        (.inr (.inl ⟨(hstate 48).trans hst, by rw [reply_offers, hoff ho]; rfl⟩)))
    · refine hclosed ?_
      rw [setOpened_closes (by rw [hstate 49]; exact hst) rfl, unqueued_reply]
    · exact hopened (not_fault_of_busy hst) (setOpened_flag (.inl (.inl (by rw [hstate 48]; exact hst))))
    · exact hclosed (setOpened_flag (.inl (.inl (by rw [hstate 49]; exact hst))))
    · refine hopened (fun hf => by simp [hf] at hst) (setOpened_flag (.inr (.inr ⟨by rw [hstate 48]; exact hst, ?_⟩)))
      rw [reply_offers, offers_iff.mpr ho]
      rfl
    · refine hopened (fun hf => by simp [hf] at hst) ?_
      rw [setOpened_closes (by rw [hstate 48]; exact hst) (by rw [reply_offers, hoff ho]; rfl), unqueued_reply]
    · refine hclosed (setOpened_flag ?_)
      rw [hstate 49]
      exact hst.elim (fun h => .inr (.inl ⟨h, rfl⟩)) fun h => .inl (.inr h)
    · refine running_of_eq hreset (positionOpen_held hst ?_)
      rw [← Bool.not_eq_true, faultCleared_iff]
      rintro ⟨hn, hh, hc, hm, hot, hl, hk⟩
      rcases hbad with h | h | h | h | ⟨hmap, h⟩ | h | h
      · exact h hn
      · exact h hh
      · exact h hc
      · exact h hm
      · exact hot.elim (fun h' => by simp [h'] at hmap) h
      · simp [h] at hl
      · simp [h] at hk
    · have hspec := leaveFault_spec (s := reply rq 48 .ok [] s) ((congrArg Ctx.state (reply_ctx p s rq 48 .ok [])).trans
        hst) (by rw [reply_level]; exact hl)
      obtain ⟨hctx, hmeter, hrif⟩ := hspec
      refine ⟨_, running_of_eq hreset (positionOpen_cleared hst
        (faultCleared_iff.mpr ⟨hn, hh, hc, hm, hot, hl, hk⟩)), ?_, ?_, hrif⟩
      · rw [hctx, reply_ctx, reply_offers, hhome]
      · rw [hmeter, State.meter, reply_mtr, State.meter]
  · refine ⟨fun f hend hf hlo hhi hcap h => ?_, fun f hrun hf hlo hhi hcap hm hs =>
      positionLimit_ends hreset hrun hf hlo hhi hcap hm hs,
      fun f hend hf h => running_of_eq hreset (positionLimit_range hend hf h),
      fun h => running_of_eq hreset (positionLimit_idle h), fun m hm => ?_⟩
    · refine running_of_eq hreset ((positionLimit_taken hend hf hlo hhi hcap).trans (lowerCap_stays ?_))
      rw [reply_ctx, State.meter, reply_mtr]
      exact h.imp_left fun h => by rw [h]; rfl
    · refine running_of_eq (f := positionLimitRequest rq m n) hreset ?_
      rw [positionLimitRequest, ofNum_outside hm]

end Sys2Proof
end

section
/-! What the operations of BKM and CMP leave alone of the fill engine, and the positions at the trip (R134). O48
follows. -/

namespace Sys2Proof.Machine

open Sys2Proof

/-! ### What BKM and CMP leave alone -/

/-- The contexts of FIL, and what they are judged by: the tables, the records, the mode and the clock. -/
def State.beside (s : State) : PerPos Ctx × Tables × List (Role × SigRec) × Smc × Option Nat :=
  (s.fil, s.tables, s.sig, s.smc, s.ret.clock)

theorem beside_iff (s t : State) : t.beside = s.beside ↔ t.fil = s.fil ∧ t.tables = s.tables ∧ t.sig = s.sig
    ∧ t.smc = s.smc ∧ t.ret.clock = s.ret.clock := by simp [State.beside]

section Beside

variable (s : State)

@[simp] theorem post_beside (m : Instr) : (post m s).beside = s.beside := rfl
@[simp] theorem postAll_beside (ms : List Instr) : (postAll ms s).beside = s.beside := rfl
@[simp] theorem updBank_beside (b : Bank) (f : BankRec → BankRec) : (updBank b f s).beside = s.beside := rfl
@[simp] theorem updCmp_beside (f : Cmp → Cmp) : (updCmp f s).beside = s.beside := rfl
@[simp] theorem updPcl_beside (f : Pcl → Pcl) : (updPcl f s).beside = s.beside := rfl
@[simp] theorem leaveBankLists_beside (p : Pos) : (leaveBankLists p s).beside = s.beside := rfl
@[simp] theorem actuate_beside (r : Role) (c : ActCommand) (v : Nat) : (actuate r c v s).beside = s.beside := by
  simp [State.beside]
@[simp] theorem close_beside (r : Role) : (close r s).beside = s.beside := by simp [State.beside]
@[simp] theorem notice_beside (k : NoticeKind) (n : Nat) (bs : List Byte) : (notice k n bs s).beside = s.beside := by
  simp [State.beside]

@[simp] theorem onlyIf_beside (c : Bool) (f : State → State) :
    (onlyIf c f s).beside = if c then (f s).beside else s.beside := by cases c <;> rfl

/-! Banks -/

@[simp] theorem closeDraw_beside (b : Bank) (p : Pos) (x : Session) : (closeDraw b p x s).beside = s.beside := by
  simp only [closeDraw]
  repeat' split
  all_goals simp

@[simp] theorem closeSession_beside (b : Bank) : (closeSession b s).beside = s.beside := by
  simp only [closeSession]
  repeat' split
  all_goals simp

@[simp] theorem grantBank_beside (b : Bank) (p : Pos) : (grantBank b p s).beside = s.beside := by
  rw [grantBank_eq]
  simp

@[simp] theorem passBank_beside (b : Bank) : (passBank b s).beside = s.beside := by
  unfold passBank
  split <;> simp [announce]

@[simp] theorem releaseBank_beside (b : Bank) (h : Holder) : (releaseBank b h s).beside = s.beside := by
  unfold releaseBank
  split <;> simp

@[simp] theorem withdrawBank_beside (p : Pos) : (withdrawBank p s).2.beside = s.beside := by
  unfold withdrawBank
  repeat' split
  all_goals simp

@[simp] theorem claimForCompressor_beside (b : Bank) : (claimForCompressor b s).2.beside = s.beside := by
  unfold claimForCompressor
  split <;> simp [openSession]

/-! The compressor -/

@[simp] theorem cmpGoto_beside (st : CmpState) : (cmpGoto st s).beside = s.beside := by
  simp [cmpGoto, cmpReport]

@[simp] theorem noteRefillWant_beside : (noteRefillWant s).beside = s.beside := by
  simp [noteRefillWant]

@[simp] theorem startCompressor_beside : (startCompressor s).beside = s.beside := by
  simp [startCompressor, ageHistory]
  rfl

@[simp] theorem holdStart_beside (r : HeldReason) : (holdStart r s).beside = s.beside := by
  simp only [holdStart]
  repeat' split
  all_goals simp

@[simp] theorem endEpisode_beside : (endEpisode s).beside = s.beside := by
  simp [endEpisode]

@[simp] theorem startEval_beside : (startEval s).beside = s.beside := by
  simp only [startEval]
  repeat' split
  all_goals simp

@[simp] theorem enterCooldown_beside : (enterCooldown s).beside = s.beside := by
  simp only [enterCooldown]
  split <;> simp

@[simp] theorem stopIfDue_beside (ran : Bool) : (stopIfDue ran s).beside = s.beside := by
  unfold stopIfDue
  split <;> simp [normalStop]

theorem claimRefill_beside : ∀ (bs : List Bank) (s : State) {t : State}, claimRefill bs s = some t →
    t.beside = s.beside
  | [], _, _, h => nomatch h
  | b :: bs, s, t, h => by
    have hclaim := claimForCompressor_beside s b
    unfold claimRefill at h
    split at h
    · next u hu =>
      obtain rfl := Option.some.inj h
      simpa [hu] using hclaim
    · next a u _ hu =>
      rw [claimRefill_beside bs u h]
      simpa [hu] using hclaim

@[simp] theorem tellGranted_beside : (tellGranted s).beside = s.beside := by
  unfold tellGranted
  split <;> rfl

@[simp] theorem chooseTarget_beside (ran : Bool) : (chooseTarget ran s).beside = s.beside := by
  unfold chooseTarget
  split
  · simp [grantOutput]
  · split
    · split
      · next t h => exact claimRefill_beside _ s h
      · simp
    · simp

@[simp] theorem releaseOutput_beside (p : Pos) : (releaseOutput p s).beside = s.beside := by
  unfold releaseOutput enterUnloaded
  split <;> simp

@[simp] theorem withdrawOutput_beside (p : Pos) : (withdrawOutput p s).2.beside = s.beside := by
  rw [withdrawOutput_eq, updCmp_beside]

end Beside

/-! ### What FIL's operations at one position leave alone -/

/-- An operation at position `p` leaves the tables, the records, the mode, the clock and the other contexts. -/
structure Around (p : Pos) (s t : State) : Prop where
  tables : t.tables = s.tables
  sig : t.sig = s.sig
  smc : t.smc = s.smc
  clock : t.ret.clock = s.ret.clock
  others : ∀ q, q ≠ p → t.ctx q = s.ctx q

section Around

variable {p : Pos} {s t u : State} {r : EndReason}

theorem Around.refl (p : Pos) (s : State) : Around p s s := ⟨rfl, rfl, rfl, rfl, fun _ _ => rfl⟩

theorem Around.trans (h : Around p s t) (k : Around p t u) : Around p s u :=
  ⟨k.tables.trans h.tables, k.sig.trans h.sig, k.smc.trans h.smc, k.clock.trans h.clock,
    fun q hq => (k.others q hq).trans (h.others q hq)⟩

theorem around_updCtx (f : Ctx → Ctx) : Around p s (updCtx p f s) :=
  ⟨rfl, rfl, rfl, rfl, fun _ hq => updCtx_ctx_ne _ _ hq⟩

theorem around_beside (h : t.beside = s.beside) : Around p s t := by
  obtain ⟨hfil, htables, hsig, hsmc, hclock⟩ := (beside_iff s t).mp h
  exact ⟨htables, hsig, hsmc, hclock, fun q _ => by rw [State.ctx, hfil, State.ctx]⟩

theorem ctx_beside (h : t.beside = s.beside) (q : Pos) : t.ctx q = s.ctx q := by
  rw [State.ctx, ((beside_iff s t).mp h).1, State.ctx]

theorem around_goState (st : PState) : Around p s (goState p st s) :=
  ⟨goState_tables p st s, goState_sig p st s, goState_smc p st s, by rw [goState_ret],
    fun _ hq => goState_ctx_ne p st s hq⟩

/-- An operation that may give up the source and the wait of a position whose fill ends. -/
structure Sheds (p : Pos) (s t : State) : Prop where
  around : Around p s t
  state : (t.ctx p).state = (s.ctx p).state
  endReason : (t.ctx p).endReason = (s.ctx p).endReason
  endTime : (t.ctx p).endTime = (s.ctx p).endTime
  source : (s.ctx p).source = none → (t.ctx p).source = none

theorem Sheds.trans (h : Sheds p s t) (k : Sheds p t u) : Sheds p s u :=
  ⟨h.around.trans k.around, k.state.trans h.state, k.endReason.trans h.endReason, k.endTime.trans h.endTime,
    fun hs => k.source (h.source hs)⟩

theorem sheds_beside (h : t.beside = s.beside) : Sheds p s t :=
  ⟨around_beside h, by rw [ctx_beside h], by rw [ctx_beside h], by rw [ctx_beside h], fun hs => by rw [ctx_beside h, hs]⟩

theorem sheds_updCtx {f : Ctx → Ctx} (hst : (f (s.ctx p)).state = (s.ctx p).state)
    (hr : (f (s.ctx p)).endReason = (s.ctx p).endReason) (ht : (f (s.ctx p)).endTime = (s.ctx p).endTime)
    (hs : (s.ctx p).source = none → (f (s.ctx p)).source = none) : Sheds p s (updCtx p f s) :=
  ⟨around_updCtx f, by rw [updCtx_ctx_same, hst], by rw [updCtx_ctx_same, hr], by rw [updCtx_ctx_same, ht],
    fun h => by rw [updCtx_ctx_same, hs h]⟩

theorem sheds_releaseAwaited (b : Bank) : Sheds p s (releaseAwaited p b s) := by
  rw [releaseAwaited]
  cases (s.ctx p).state.inProgress
  · exact sheds_beside (releaseBank_beside _ b _)
  · exact (sheds_updCtx (f := fun k => { k with awaited := k.awaited ++ [b] }) rfl rfl rfl id).trans
      (sheds_beside (releaseBank_beside _ b _))

theorem sheds_releaseSource : Sheds p s (releaseSource p s) ∧ ((releaseSource p s).ctx p).source = none := by
  have hgone : Sheds p s (updCtx p (fun c => { c with source := none }) s) := sheds_updCtx rfl rfl rfl fun _ => rfl
  have hnone : ((updCtx p (fun c => { c with source := none }) s).ctx p).source = none := by rw [updCtx_ctx_same]
  unfold releaseSource
  simp only
  split
  · exact ⟨hgone.trans (sheds_releaseAwaited _), (sheds_releaseAwaited _).source hnone⟩
  · have hout : Sheds p _ (releaseOutput p (updCtx p (fun c => { c with source := none }) s)) :=
      sheds_beside (releaseOutput_beside _ p)
    exact ⟨hgone.trans hout, hout.source hnone⟩
  · exact ⟨hgone, hnone⟩

theorem sheds_dropWait : Sheds p s (dropWait p s) := by
  have hgone : Sheds p s (updCtx p (fun c => { c with waitOn := none }) s) := sheds_updCtx rfl rfl rfl id
  unfold dropWait
  split
  · exact sheds_beside rfl
  · have hbank {a : BankWithdrawal} {v : State}
        (h : withdrawBank p (updCtx p (fun c => { c with waitOn := none }) s) = (a, v)) : Sheds p s v :=
      hgone.trans (sheds_beside ((congrArg (fun x => x.2.beside) h).symm.trans (withdrawBank_beside _ p)))
    have hout {a : OutputWithdrawal} {v w : State} (h : withdrawOutput p v = (a, w)) : Sheds p v w :=
      sheds_beside ((congrArg (fun x => x.2.beside) h).symm.trans (withdrawOutput_beside v p))
    have hfree (w : State) : Sheds p w (releaseOutput p w) := sheds_beside (releaseOutput_beside w p)
    simp only
    split
    · next w hw =>
      split at hw
      · next b v hv => exact (((hbank hv).trans (sheds_releaseAwaited b)).trans (hout hw)).trans (hfree w)
      · next v hv => exact ((hbank hv).trans (hout hw)).trans (hfree w)
    · next w hw =>
      split at hw
      · next b v hv => exact ((hbank hv).trans (sheds_releaseAwaited b)).trans (hout hw)
      · next v hv => exact (hbank hv).trans (hout hw)

/-! ### The operations at one position -/

theorem around_onlyIf {c : Bool} {f : State → State} (h : Around p s (f s)) : Around p s (onlyIf c f s) := by
  cases c
  · exact Around.refl p s
  · exact h

theorem closeFlow_beside : (closeFlow p s).beside = s.beside := by simp [closeFlow]

theorem closeDrawn_beside : (closeDrawn p s).beside = s.beside := by
  unfold closeDrawn
  split <;> simp

theorem around_enterFault : Around p s (enterFault p s) :=
  ((around_beside closeFlow_beside).trans (around_goState .fault)).trans (around_beside (notice_beside _ _ _ _))

theorem around_endHangUp : Around p s (endHangUp p s) := by
  unfold endHangUp
  split
  · exact around_enterFault
  · exact around_goState _

theorem around_enterHangUp : Around p s (enterHangUp p s) :=
  (around_goState .hangUp).trans (around_onlyIf around_endHangUp)

theorem around_ventDone : Around p s (ventDone p s) := by
  unfold ventDone
  split
  · exact around_enterFault
  · exact around_enterHangUp

theorem around_enterVenting : Around p s (enterVenting p s) := by
  unfold enterVenting
  simp only
  split
  · exact (around_goState .venting).trans around_ventDone
  · exact ((around_goState .venting).trans (around_beside (actuate_beside _ _ _ _))).trans (around_updCtx _)

theorem around_leaveEnding : Around p s (leaveEnding p s) := by
  unfold leaveEnding
  split
  · exact around_goState _
  · have hgone : ∀ v : State, Around p v (updCtx p (fun c => { c with fill := none }) (closeFigures p v)) :=
      fun v => ⟨rfl, rfl, rfl, rfl, fun _ hq => updCtx_ctx_ne _ _ hq⟩
    have htold : ∀ ms, Around p s (postAll ms s) := fun _ => around_beside rfl
    simp only
    split
    · exact ((htold _).trans (hgone _)).trans around_enterHangUp
    · exact ((htold _).trans (hgone _)).trans around_enterVenting

theorem around_endFill : Around p s (endFill p r s) := by
  unfold endFill
  simp only
  split
  · exact Around.refl p s
  · have hclosed : ∀ v : State, Around p v (closeDrawn p (closeFlow p v)) :=
      fun _ => (around_beside closeFlow_beside).trans (around_beside closeDrawn_beside)
    have hcancel : ∀ v : State, Around p v (admissionCancel p v) := fun _ => around_beside rfl
    have hgiven : ∀ v : State, Around p v (dropWait p (releaseSource p v)) :=
      fun _ => sheds_releaseSource.1.around.trans sheds_dropWait.around
    exact (((((((around_updCtx _).trans (hclosed _)).trans (hgiven _)).trans (hcancel _)).trans
      (around_onlyIf (around_beside rfl))).trans (around_updCtx _)).trans (around_goState _)).trans
      (around_onlyIf around_leaveEnding)

/-- R128: the context that the end of a fill leaves, whatever the position holds or waits for. -/
theorem endFill_leaves (hend : (s.ctx p).state.endable = true) (hwin : 0 < (s.posRow p).afterRun) :
    ((endFill p r s).ctx p).state = .ending
      ∧ ((endFill p r s).ctx p).endReason = some r ∧ ((endFill p r s).ctx p).source = none
      ∧ ((endFill p r s).ctx p).endTime = s.ret.clock := by
  let u : State := closeDrawn p (closeFlow p (updCtx p (fun c =>
    { c with endReason := some r, endTime := s.ret.clock, opening := 0 }) s))
  have huctx : u.ctx p = { s.ctx p with endReason := some r, endTime := s.ret.clock, opening := 0 } :=
    (ctx_beside (closeDrawn_beside.trans closeFlow_beside) p).trans (updCtx_ctx_same _ _ _)
  obtain ⟨hshed, hsource⟩ := sheds_releaseSource (p := p) (s := u)
  let v : State := dropWait p (releaseSource p u)
  have hv : Sheds p u v := hshed.trans sheds_dropWait
  have hvsource : (v.ctx p).source = none := sheds_dropWait.source hsource
  have hout : endFill p r s = endOut p { v.ctx p with
      state := .ending, soc := none
      timers := { PosTimers.stopped with afterRun := some (s.posRow p).afterRun } } (s.ctx p).fromMain v :=
    endFill_eq (g := id) hend hwin (updCtx_self p id v rfl).symm (hv.state.trans (by rw [huctx]))
  rw [hout, endOut_ctx_same]
  exact ⟨rfl, hv.endReason.trans (by rw [huctx]), hvsource, hv.endTime.trans (by rw [huctx])⟩

/-! ### The trip at one position -/

theorem endFill_none (h : (s.ctx p).state.endable = false) : endFill p r s = s := by
  simp [endFill, h]

theorem tripPosition_offered (h : (s.ctx p).state = .idle ∨ (s.ctx p).state = .lifted) :
    tripPosition p s = goState p .closed s := by
  unfold tripPosition
  rcases h with h | h <;> rw [h]

theorem tripPosition_venting (h : (s.ctx p).state = .venting) :
    tripPosition p s = ventDone p (updCtx p Ctx.unvented s) := by
  unfold tripPosition
  rw [h]
  rfl

theorem tripPosition_ends (h : (s.ctx p).state ≠ .idle ∧ (s.ctx p).state ≠ .lifted ∧ (s.ctx p).state ≠ .venting) :
    tripPosition p s = endFill p .tripped s := by
  unfold tripPosition
  cases hst : (s.ctx p).state <;> simp_all

/-- R134: the trip at a position leaves the others alone. -/
theorem around_tripPosition : Around p s (tripPosition p s) := by
  unfold tripPosition
  split
  · exact around_goState _
  · exact around_goState _
  · exact (around_updCtx _).trans around_ventDone
  · exact around_endFill

/-! ### Positions in turn -/

/-- In an event at several positions, each finds its own context as the event began. -/
theorem forEach_at {f : Pos → State → State} (hf : ∀ q t, Around q t (f q t)) (p : Pos) :
    ∀ (ps : List Pos), ps.Nodup → p ∈ ps → ∀ s : State, ∃ u, u.ctx p = s.ctx p ∧ u.tables = s.tables
      ∧ u.sig = s.sig ∧ u.smc = s.smc ∧ u.ret.clock = s.ret.clock ∧ (forEach ps f s).ctx p = (f p u).ctx p
  | q :: ps, hnd, hp, s => by
    obtain ⟨hq, hnd⟩ := List.nodup_cons.mp hnd
    by_cases hpq : p = q
    · subst hpq
      have hkeep : ∀ (qs : List Pos) (t : State), p ∉ qs → (forEach qs f t).ctx p = t.ctx p := by
        intro qs
        induction qs with
        | nil => exact fun _ _ => rfl
        | cons x xs ih =>
          intro t hx
          obtain ⟨hne, hxs⟩ := not_or.mp (mt List.mem_cons.mpr hx)
          exact (ih (f x t) hxs).trans ((hf x t).others p hne)
      exact ⟨s, rfl, rfl, rfl, rfl, rfl, hkeep ps (f p s) hq⟩
    · have hin : p ∈ ps := (List.mem_cons.mp hp).resolve_left hpq
      obtain ⟨u, hctx, htables, hsig, hsmc, hclock, hlast⟩ := forEach_at hf p ps hnd hin (f q s)
      have hstep := hf q s
      exact ⟨u, hctx.trans (hstep.others p hpq), htables.trans hstep.tables, hsig.trans hstep.sig,
        hsmc.trans hstep.smc, hclock.trans hstep.clock, hlast⟩

/-- Settles O48: each position takes the trip from its own context, and no other position's part reaches it. -/
theorem positionsAtTrip : Obligations.PositionsAtTrip := by
  unfold Obligations.PositionsAtTrip
  refine fun s hreset => ⟨_, running_of_eq hreset (rfl : filTrip s = filTrip s), fun p => ?_⟩
  obtain ⟨u, hctx, htables, hsig, _, hclock, hlast⟩ := forEach_at (f := tripPosition)
    (fun q t => around_tripPosition) p Pos.all (by decide) (by cases p <;> decide) s
  have hfinal : (filTrip s).ctx p = (tripPosition p u).ctx p := hlast
  have hrow : u.posRow p = s.posRow p := congrArg (fun x => x.position.active.get p) htables
  rw [hfinal, ← hctx]
  refine ⟨fun hend hwin => ?_, fun hst => ?_, fun hst hmark hl => ?_, fun hst => ?_⟩
  · have hne : (u.ctx p).state ≠ .idle ∧ (u.ctx p).state ≠ .lifted ∧ (u.ctx p).state ≠ .venting := by
      refine ⟨fun h => ?_, fun h => ?_, fun h => ?_⟩ <;> rw [h] at hend <;> cases hend
    rw [tripPosition_ends hne]
    obtain ⟨hending, hreason, hsource, htime⟩ := endFill_leaves (r := .tripped) hend (by rw [hrow]; exact hwin)
    exact ⟨hending, hreason, hsource, htime.trans hclock⟩
  · rw [tripPosition_offered hst, goState_ctx_same]
  · have hlevel : (updCtx p Ctx.unvented u).level (.holster p) = false :=
      (congrArg SigRec.level (record_congr hsig _)).trans hl
    have hvctx : (updCtx p Ctx.unvented u).ctx p = (u.ctx p).unvented := updCtx_ctx_same _ _ _
    rw [tripPosition_venting hst, ventDone_hung (by rw [hvctx]; exact congrArg PState.descentSpan hst)
      (by rw [hvctx]; exact hmark), hung_ctx, hvctx, State.rest, if_pos hlevel]
    rfl
  · rw [tripPosition_ends (by rcases hst with h | h | h | h <;> rw [h] <;> decide),
      endFill_none (by rcases hst with h | h | h | h <;> rw [h] <;> rfl)]

end Around

end Sys2Proof.Machine
end

section
/-! The end of the pulse (R116, R117). -/

namespace Sys2Proof.Machine

open Sys2Proof

section Pulse

variable {p : Pos} {b : Bank} {s : State} {x : Session} {r : EndReason}

/-- R128: an end at a position with neither a source nor a wait. -/
theorem endFill_bare (hend : (s.ctx p).state.endable = true) (hwin : 0 < (s.posRow p).afterRun)
    (hsrc : (s.ctx p).source = none) (hwait : (s.ctx p).waitOn = none) :
    endFill p r s = endOut p (s.endedCtx p r []) (s.ctx p).fromMain (closeFlow p s) := by
  let g : Ctx → Ctx := fun c => { c with endReason := some r, endTime := s.ret.clock, opening := 0 }
  rw [endFill_eq (g := g) (v := closeFlow p s) hend hwin ?up (by simp [g])]
  case up =>
    rw [closeFlow_updCtx, closeDrawn_dry _ _ (by simp [hsrc]), releaseSource_none (by simp [hsrc]),
      dropWait_none (by simp [hwait])]
  simp [g, State.endedCtx, hsrc, hwait]

@[simp] theorem closeFlow_bkm : (closeFlow p s).bkm = s.bkm := by simp [closeFlow]
@[simp] theorem closeFlow_mail : (closeFlow p s).mail = s.mail := by simp [closeFlow]

/-- R116: the context after a pulse from a bank, with the starting pressure `n`. -/
def Ctx.pulsed (n : Int) (b : Bank) (c : Ctx) : Ctx :=
  { c with
    opening := 0, source := none, awaited := c.awaited ++ [b], p0 := some n
    timers := { c.timers with pulse := none } }

/-- R116: the state after a pulse from a bank. -/
def pulseOver (p : Pos) (b : Bank) (s : State) : State :=
  updCtx p (Ctx.pulsed (s.nozzle p) b) (bankFreed p b (closeFlow p s))

theorem pulseOver_ctx : (pulseOver p b s).ctx p = (s.ctx p).pulsed (s.nozzle p) b := by
  rw [pulseOver, updCtx_ctx_same, bankFreed_ctx, closeFlow_ctx]

theorem pulseOver_ctx_ne {q : Pos} (h : q ≠ p) : (pulseOver p b s).ctx q = s.ctx q := by
  rw [pulseOver, updCtx_ctx_ne _ _ h, bankFreed_ctx, closeFlow_ctx]

theorem pulseOver_reads : (pulseOver p b s).sig = s.sig ∧ (pulseOver p b s).tables = s.tables := by
  simp [pulseOver, bankFreed, closeFlow]

theorem pulseOver_mail : (pulseOver p b s).mail = s.mail ++
    [.sessionOutcome p b .unchecked, .filBankAnnouncement b, .cmpBankAnnouncement b] := by
  simp [pulseOver, bankFreed, closeFlow, updBank, setBank]

theorem bankFreed_bank : ((bankFreed p b s).bank b).state = .available := by
  rw [bankFreed, postAll_bank, updBank_bank_same]

theorem pulseOver_bank : ((pulseOver p b s).bank b).state = .available := by
  rw [pulseOver, State.bank, updCtx_bkm, ← State.bank, bankFreed_bank]

theorem pulseOver_rif : (pulseOver p b s).rif =
    (close (.bankValve b (.pos p)) (close (.controlValve p) (close (.dispenseValve p) s))).rif := by
  rw [pulseOver, updCtx_rif, bankFreed, postAll_rif, updBank_rif, closeFlow]

theorem pulseEnd_eq (hin : (s.ctx p).state.inProgress = true) (hd : s.draws p b x) :
    pulseEnd p (updTimers p (fun t => { t with pulse := none }) s) =
      if s.nozzle p < ((s.params p).minStart : Int) then endFill p .startPressure (pulseOver p b s)
      else if (Config.pEndCap (s.posRow p).pclass : Int) ≤ s.nozzle p then
        endFill p .completePressure (pulseOver p b s)
      else enterLeakCheck p (pulseOver p b s) := by
  let g : Ctx → Ctx := fun c => { c with opening := 0, timers := { c.timers with pulse := none } }
  have hfreed : releaseSource p (updCtx p g (closeFlow p s)) =
      updCtx p (fun c => { g c with source := none, awaited := c.awaited ++ [b] }) (bankFreed p b (closeFlow p s)) := by
    have hbank : (updCtx p g (closeFlow p s)).bank b = s.bank b := by simp [State.bank, closeFlow]
    rw [releaseSource_bank (b := b) (x := x) (by simp [g, hd.source]) (by simp [g, hin]) (by rw [hbank, hd.held])
      (by rw [hbank, hd.session]) hd.holder hd.skipped (by rw [hbank, hd.nobody]), bankFreed_updCtx, updCtx_updCtx]
  have hbegin : updCtx p (fun c => { c with opening := 0 })
      (closeFlow p (updTimers p (fun t => { t with pulse := none }) s)) = updCtx p g (closeFlow p s) := by
    rw [updTimers, closeFlow_updCtx, updCtx_updCtx]
  have hnozzle : ∀ f, (updCtx p f (bankFreed p b (closeFlow p s))).nozzle p = s.nozzle p := fun f =>
    nozzle_congr (by simp [bankFreed, closeFlow])
  have hparams : (updTimers p (fun t => { t with pulse := none }) s).params p = s.params p :=
    params_congr rfl (by rw [updTimers, updCtx_ctx_same])
  have hover : updCtx p (fun c => { c with p0 := some (s.nozzle p) })
      (updCtx p (fun c => { g c with source := none, awaited := c.awaited ++ [b] })
        (bankFreed p b (closeFlow p s))) = pulseOver p b s := by
    rw [updCtx_updCtx]
    rfl
  rw [pulseEnd]
  simp only [hbegin, hfreed, hnozzle, hover, hparams]
  rfl

theorem enterLeakCheck_eq (hspan : (s.ctx p).state.descentSpan = true) (hc : (s.ctx p).caused = false) :
    enterLeakCheck p s = unqueued p (updCtx p (fun c =>
      { c with
        leakRef := s.nozzle p, state := .leakCheck
        timers := { c.timers with leak := some (10 * (s.params p).leakTime) } }) s) := by
  rw [enterLeakCheck, if_neg (by simp [hc]), goState_silent _ _ (by rw [updCtx_ctx_same]; exact hspan)]
  simp only [updTimers, updCtx_unqueued, updCtx_updCtx]
  rfl

/-- What a pulse that ends the fill leaves. -/
theorem pulseOver_ends (hend : (s.ctx p).state = .pulse) (hwin : 0 < (s.posRow p).afterRun)
    (hwait : (s.ctx p).waitOn = none) : endFill p r (pulseOver p b s) =
      endOut p ((pulseOver p b s).endedCtx p r []) false (closeFlow p (pulseOver p b s)) := by
  have hrow : (pulseOver p b s).posRow p = s.posRow p :=
    congrArg (fun y => y.position.active.get p) pulseOver_reads.2
  have hfrom : ((pulseOver p b s).ctx p).fromMain = false := by
    rw [pulseOver_ctx]
    simp [Ctx.fromMain, Ctx.pulsed, hend]
  rw [endFill_bare (by rw [pulseOver_ctx]; simp [Ctx.pulsed, hend, PState.endable, PState.running])
    (by rw [hrow]; exact hwin) (by rw [pulseOver_ctx]; rfl) (by rw [pulseOver_ctx]; exact hwait), hfrom]

theorem pulseExpiry_spec (hreset : s.smc.inReset = false) (hst : (s.ctx p).state = .pulse)
    (ht : (s.ctx p).timers.pulse ≠ none) (hd : s.draws p b x) (hh : (s.ctx p).halt = false)
    (hsig : (s.ctx p).signal = false) (hwait : (s.ctx p).waitOn = none) (hwin : 0 < (s.posRow p).afterRun) :
    ∃ t, exec (.pulseTimerExpiry p) s = .next t
      ∧ (t.ctx p).p0 = some (s.nozzle p) ∧ (t.ctx p).source = none ∧ (t.ctx p).opening = 0
      ∧ (t.ctx p).awaited = [b] ∧ (t.ctx p).timers.pulse = none
      ∧ (t.bank b).state = .available
      ∧ t.mail = s.mail ++ [.sessionOutcome p b .unchecked, .filBankAnnouncement b,
          .cmpBankAnnouncement b]
      ∧ (∀ q, q ≠ p → t.ctx q = s.ctx q)
      ∧ (s.nozzle p < (s.params p).minStart →
          (t.ctx p).state = .ending ∧ (t.ctx p).endReason = some .startPressure)
      ∧ ((s.params p).minStart ≤ s.nozzle p → Config.pEndCap (s.posRow p).pclass ≤ s.nozzle p →
          (t.ctx p).state = .ending ∧ (t.ctx p).endReason = some .completePressure)
      ∧ ((s.params p).minStart ≤ s.nozzle p → s.nozzle p < Config.pEndCap (s.posRow p).pclass →
          (t.ctx p).state = .leakCheck ∧ (t.ctx p).leakRef = s.nozzle p
            ∧ (t.ctx p).timers.leak = some (10 * (s.params p).leakTime)
            ∧ t.rif = (close (.bankValve b (.pos p)) (close (.controlValve p)
                (close (.dispenseValve p) s))).rif) := by
  have howed : ((s.ctx p).pulsed (s.nozzle p) b).awaited = [b] := by simp [Ctx.pulsed, hd.noneOwed]
  have hfinal : pulseExpiry p s = _ :=
    (expire_running ht).trans (pulseEnd_eq (by rw [hst]; rfl) hd)
  have hended (r : EndReason) : ∀ u, u = endFill p r (pulseOver p b s) →
      (u.ctx p).p0 = some (s.nozzle p) ∧ (u.ctx p).source = none ∧ (u.ctx p).opening = 0
      ∧ (u.ctx p).awaited = [b] ∧ (u.ctx p).timers.pulse = none ∧ (u.bank b).state = .available
      ∧ u.mail = s.mail ++ [.sessionOutcome p b .unchecked, .filBankAnnouncement b, .cmpBankAnnouncement b]
      ∧ (∀ q, q ≠ p → u.ctx q = s.ctx q) ∧ (u.ctx p).state = .ending ∧ (u.ctx p).endReason = some r := by
    rintro u rfl
    rw [pulseOver_ends hst hwin hwait, endOut_ctx_same]
    refine ⟨?_, rfl, rfl, ?_, rfl, ?_, ?_, fun q hq => ?_, rfl, rfl⟩
    · rw [State.endedCtx, pulseOver_ctx]
      rfl
    · rw [State.endedCtx, pulseOver_ctx]
      exact (List.append_nil _).trans howed
    · rw [State.bank, endOut_bkm, closeFlow_bkm, ← State.bank, pulseOver_bank]
    · rw [endOut_mail, closeFlow_mail, pulseOver_mail]
      exact List.append_nil _
    · rw [endOut_ctx_ne _ _ _ _ hq, closeFlow_ctx, pulseOver_ctx_ne hq]
  refine ⟨_, running_of_eq hreset hfinal, ?_⟩
  by_cases hlow : s.nozzle p < ((s.params p).minStart : Int)
  · rw [if_pos hlow]
    obtain ⟨h0, h1, h2, h3, h4, h5, h6, h7, h8, h9⟩ := hended .startPressure _ rfl
    exact ⟨h0, h1, h2, h3, h4, h5, h6, h7, fun _ => ⟨h8, h9⟩, fun h => absurd hlow (not_lt.mpr h),
      fun h => absurd hlow (not_lt.mpr h)⟩
  · rw [if_neg hlow]
    by_cases hfull : (Config.pEndCap (s.posRow p).pclass : Int) ≤ s.nozzle p
    · rw [if_pos hfull]
      obtain ⟨h0, h1, h2, h3, h4, h5, h6, h7, h8, h9⟩ := hended .completePressure _ rfl
      exact ⟨h0, h1, h2, h3, h4, h5, h6, h7, fun h => absurd h hlow, fun _ _ => ⟨h8, h9⟩,
        fun _ h => absurd hfull (not_le.mpr h)⟩
    · rw [if_neg hfull, enterLeakCheck_eq (by rw [pulseOver_ctx]; simp [Ctx.pulsed, hst]; rfl)
        (by rw [pulseOver_ctx]; simp [Ctx.caused, Ctx.pulsed, hh, hsig])]
      have hnozzle : (pulseOver p b s).nozzle p = s.nozzle p := nozzle_congr pulseOver_reads.1
      have hparams : (pulseOver p b s).params p = s.params p :=
        params_congr pulseOver_reads.2 (by rw [pulseOver_ctx]; rfl)
      rw [unqueued_ctx, updCtx_ctx_same, hnozzle, hparams, pulseOver_ctx]
      exact ⟨rfl, rfl, rfl, howed, rfl, by rw [State.bank, unqueued_bkm, updCtx_bkm, ← State.bank, pulseOver_bank],
        by rw [unqueued_mail, updCtx_mail, pulseOver_mail],
        fun q hq => by rw [unqueued_ctx, updCtx_ctx_ne _ _ hq, pulseOver_ctx_ne hq],
        fun h => absurd h hlow, fun _ h => absurd h hfull, fun _ _ => ⟨rfl, rfl, rfl, by rw [unqueued_rif, updCtx_rif, pulseOver_rif]⟩⟩

end Pulse

end Sys2Proof.Machine
end

section
/-! The end of the leak check: the lookup, the admission, and entry into MAIN (R100, R101, R117 to R119). O42
follows. -/

namespace Sys2Proof.Machine

open Sys2Proof

/-! ### The lookup -/

section Lookup

variable {p : Pos} {s t : State}

theorem ambientBand_congr (ht : t.tables = s.tables) (hsig : t.sig = s.sig)
    (hf : (t.ctx p).fill = (s.ctx p).fill) : t.ambientBand p = s.ambientBand p := by
  have husable : t.usableValue .ambientTemp = s.usableValue .ambientTemp := by
    unfold State.usableValue State.usable State.quality State.value
    rw [record_congr hsig]
  unfold State.ambientBand
  rw [husable, latchedTable_congr ht hf]

theorem lookupAt_congr (ht : t.tables = s.tables) (hf : (t.ctx p).fill = (s.ctx p).fill)
    (hl : (t.ctx p).link = (s.ctx p).link) (x : Selection) (c : Category) : t.lookupAt p x c = s.lookupAt p x c := by
  have hrow : t.posRow p = s.posRow p := congrArg (fun y => y.position.active.get p) ht
  have hrate : ∀ k, t.rateCap k = s.rateCap k := fun k => by
    unfold State.rateCap State.stationRow
    rw [ht]
  simp only [State.lookupAt, latchedTable_congr ht hf, hl, hrow, hrate]

/-- R100, R101: the selection of a fill whose link is not ESTABLISHED. -/
def State.plainSelection (s : State) (p : Pos) : Selection :=
  let k := s.latchedTable p
  let vol := (s.posRow p).volClass
  let amb := s.ambientBand p
  let band := bandOf k.p0Edges (((s.ctx p).p0).getD 0)
  let cell := k.cell vol (s.ctx p).category amb band
  ⟨vol, false, amb, band, min cell.aprr (s.rateCap (s.posRow p).pclass), min cell.pEnd k.params.nonCommCap⟩

theorem selectionOf_unlinked (h : (s.ctx p).link = .none) : s.selectionOf p = s.plainSelection p := by
  have hvol : s.volumeClass p = ((s.posRow p).volClass, false) := by
    unfold State.volumeClass
    rw [h]
  rw [State.selectionOf, hvol]
  simp only [State.lookupAt, usedOf, h]
  rfl

/-- R117: the context after the lookup of a fill that the vehicle does not take part in. -/
def Ctx.lookedUp (x : Selection) (uncertain : Bool) (c : Ctx) : Ctx :=
  { c with
    link := .none, selection := some x, uncertainMark := c.uncertainMark || uncertain
    timers := { c.timers with leak := none } }

/-- R100, R117: the state after the lookup. -/
def lookedUp (p : Pos) (s : State) : State :=
  updCtx p (Ctx.lookedUp (s.plainSelection p) (s.quality .ambientTemp != .good)) s

theorem lookedUp_ctx : (lookedUp p s).ctx p =
    (s.ctx p).lookedUp (s.plainSelection p) (s.quality .ambientTemp != .good) := updCtx_ctx_same _ _ _

theorem makeLookup_unlinked (h : (s.ctx p).link = .none ∨ (s.ctx p).link = .pending) :
    makeLookup p (endPending p (updTimers p (fun k => { k with leak := none }) s)) = lookedUp p s := by
  let u : State := endPending p (updTimers p (fun k => { k with leak := none }) s)
  have hctx : u.ctx p = { s.ctx p with link := .none, timers := { (s.ctx p).timers with leak := none } } := by
    have hlink : (if (s.ctx p).link = .pending then Link.none else (s.ctx p).link) = .none := by
      rcases h with h | h <;> simp [h]
    simp only [u, endPending, updTimers, updCtx_ctx_same, hlink]
  have hu : u = updCtx p (fun _ => u.ctx p) s := by
    have hself : updCtx p (fun _ => u.ctx p) u = u := updCtx_self _ _ _ rfl
    rw [← hself]
    simp only [u, endPending, updTimers, updCtx_updCtx, updCtx_ctx_same]
  have hsel : u.selectionOf p = s.plainSelection p := by
    have hamb : u.ambientBand p = s.ambientBand p := ambientBand_congr rfl rfl (by rw [hctx])
    have htable : u.latchedTable p = s.latchedTable p := latchedTable_congr rfl (by rw [hctx])
    rw [selectionOf_unlinked (by rw [hctx]), State.plainSelection, hamb, htable, hctx]
    rfl
  change updCtx p (fun c =>
    { c with
      selection := some (u.selectionOf p)
      uncertainMark := c.uncertainMark || u.quality .ambientTemp != .good }) u = _
  rw [hsel, hu, updCtx_updCtx, ← hu, hctx]
  exact updCtx_of_eq _ _ _ rfl

theorem lookedUp_aprrUsed : (lookedUp p s).aprrUsed p = (s.plainSelection p).aprr := by
  rw [State.aprrUsed, lookedUp_ctx]
  rfl

/-- R117: a leak check that is passed. -/
theorem leakExpiry_passed (ht : (s.ctx p).timers.leak ≠ none)
    (hlink : (s.ctx p).link = .none ∨ (s.ctx p).link = .pending)
    (h : (s.ctx p).leakRef ≤ s.nozzle p + (s.params p).leakLimit) : leakExpiry p s =
      if (s.plainSelection p).aprr = 0 then endFill p .notPermitted (lookedUp p s)
      else askAdmission p (lookedUp p s) := by
  have hctx : (updTimers p (fun k => { k with leak := none }) s).ctx p =
      { s.ctx p with timers := { (s.ctx p).timers with leak := none } } := updCtx_ctx_same _ _ _
  have hparams : (updTimers p (fun k => { k with leak := none }) s).params p = s.params p :=
    params_congr rfl (by rw [hctx])
  have hnozzle : (updTimers p (fun k => { k with leak := none }) s).nozzle p = s.nozzle p := rfl
  rw [leakExpiry, expire_running ht, leakEnd, hparams, hnozzle, hctx, if_neg (by dsimp only; omega),
    makeLookup_unlinked hlink]
  simp only [lookedUp_aprrUsed]

/-- R117: a fall above the limit. -/
theorem leakExpiry_leak (ht : (s.ctx p).timers.leak ≠ none)
    (h : s.nozzle p + (s.params p).leakLimit < (s.ctx p).leakRef) :
    leakExpiry p s = endFill p .leak (updTimers p (fun k => { k with leak := none }) s) := by
  have hctx : (updTimers p (fun k => { k with leak := none }) s).ctx p =
      { s.ctx p with timers := { (s.ctx p).timers with leak := none } } := updCtx_ctx_same _ _ _
  have hparams : (updTimers p (fun k => { k with leak := none }) s).params p = s.params p :=
    params_congr rfl (by rw [hctx])
  have hnozzle : (updTimers p (fun k => { k with leak := none }) s).nozzle p = s.nozzle p := rfl
  rw [leakExpiry, expire_running ht, leakEnd, hparams, hnozzle, hctx, if_pos (by dsimp only; omega)]

end Lookup

/-! ### Entry into MAIN and PRECOOL-WAIT -/

section Admission

variable {p : Pos} {b : Bank} {s w u : State} {ms : List Instr} {x : Rif}

/-- R119: going on to MAIN with the one bank that is free. -/
theorem goMain_draws (hspan : (s.ctx p).state.descentSpan = true) (hc : (s.ctx p).caused = false)
    (h : s.onlyBank p b) :
    Draws p b [.sourceReport p (.bank b), .mainEntryReport p]
      (({ s.ctx p with timers := { (s.ctx p).timers with precool := none } } : Ctx).taking (.bank b)
        |>.mainFrom (s.nozzle p))
      (actuate (.controlValve p) .set (s.ctx p).opening (actuate (.dispenseValve p) .open 1000
        (actuate (.bankValve b (.pos p)) .open 1000 s))).rif s (goMain p s) := by
  let v : State := updTimers p (fun k => { k with precool := none }) s
  have hctx : v.ctx p = { s.ctx p with timers := { (s.ctx p).timers with precool := none } } := updCtx_ctx_same _ _ _
  have hgo : goMain p s = walkStage p .main v := by rw [goMain, if_neg (by simp [hc])]
  have hv : v.onlyBank p b := h.updCtx rfl
  have hd := draws_opened (p := p) (b := b) (ms := [.sourceReport p (.bank b), .mainEntryReport p]) (w := v) (s := s)
    (v.ctx p).opening (fun c => (c.taking (.bank b)).mainFrom (v.nozzle p)) ⟨rfl, rfl, rfl⟩
  rw [hgo, walkStage_main (by rw [hctx]; exact hspan) hv]
  rw [hctx] at hd ⊢
  exact ⟨hd.ctx, fun q hq => (hd.others q hq).trans (updCtx_ctx_ne _ _ hq), hd.mail, hd.bank, hd.ret, hd.mtr, hd.rif,
    hd.sig⟩

theorem mainFrom_anchored {c : Ctx} (h : c.reAnchor = true) (n : Int) :
    c.mainFrom n = { c with state := .main, anchor := n, tau := 0, reAnchor := false } := by
  rw [Ctx.mainFrom, if_pos h]

theorem mainFrom_kept {c : Ctx} (h : c.reAnchor = false) (n : Int) : c.mainFrom n = { c with state := .main } := by
  rw [Ctx.mainFrom, if_neg (by simp [h])]

/-- R117, R118: an admission at once. -/
theorem askAdmission_admits (h : (s.ctx p).category = .c00 ∨ s.admissible (s.ctx p).category = true) :
    askAdmission p s = goMain p s ∨ askAdmission p s = goMain p (setPending p none s) := by
  unfold askAdmission
  simp only
  by_cases hc : (s.ctx p).category = .c00
  · exact .inl (if_pos hc)
  · exact .inr (by rw [if_neg hc, requestAdmission, if_pos (h.resolve_left hc)])

/-- R118: PRECOOL-WAIT with its timer. -/
theorem precoolWait_enters {n : Nat} (hspan : (s.ctx p).state.descentSpan = true)
    (hlim : 0 < (s.params p).precoolWait) : precoolWait (n + 1) p s = unqueued p (updCtx p (fun c =>
      { c with
        state := .precoolWait
        timers := { c.timers with precool := some (10 * (s.params p).precoolWait) } }) s) := by
  rw [precoolWait]
  simp only
  rw [if_neg (by omega), goState_silent _ _ hspan, updTimers, updCtx_unqueued, updCtx_updCtx]
  rfl

theorem askAdmission_waits (hspan : (s.ctx p).state.descentSpan = true) (hc : (s.ctx p).category ≠ .c00)
    (ha : s.admissible (s.ctx p).category = false) (hlim : 0 < (s.params p).precoolWait) :
    askAdmission p s = unqueued p (updCtx p (fun c =>
      { c with
        state := .precoolWait
        timers := { c.timers with precool := some (10 * (s.params p).precoolWait) } })
      (setPending p (some (s.ctx p).category) s)) := by
  have hparams : (setPending p (some (s.ctx p).category) s).params p = s.params p := params_congr rfl rfl
  unfold askAdmission
  simp only
  rw [if_neg hc, requestAdmission, if_neg (by simp [ha])]
  simp only
  rw [precoolWait_enters (by exact hspan) (by rw [hparams]; exact hlim), hparams]

end Admission

/-! ### The obligation -/

section Obligation

variable {p : Pos} {s : State}

/-- R117, R119: the leak check passed and the fill admitted, with the one bank that is free. -/
theorem leakExpiry_main {b : Bank} (hst : (s.ctx p).state = .leakCheck)
    (hadmit : (s.ctx p).category = .c00 ∨ s.admissible (s.ctx p).category = true) (hh : (s.ctx p).halt = false)
    (hsig : (s.ctx p).signal = false) (h : s.onlyBank p b) :
    Draws p b [.sourceReport p (.bank b), .mainEntryReport p]
      (({ (lookedUp p s).ctx p with timers := { ((lookedUp p s).ctx p).timers with precool := none } } : Ctx).taking
        (.bank b) |>.mainFrom (s.nozzle p))
      (actuate (.controlValve p) .set (s.ctx p).opening (actuate (.dispenseValve p) .open 1000
        (actuate (.bankValve b (.pos p)) .open 1000 s))).rif s (askAdmission p (lookedUp p s)) := by
  have hspan : ((lookedUp p s).ctx p).state.descentSpan = true := by
    rw [lookedUp_ctx]
    exact congrArg PState.descentSpan hst
  have hcaused : ((lookedUp p s).ctx p).caused = false := by
    rw [lookedUp_ctx]
    simp [Ctx.caused, Ctx.lookedUp, hh, hsig]
  have hring : State.SameRing (lookedUp p s) s := ⟨rfl, rfl, rfl⟩
  have hgo : ∀ v : State, v.ctx p = (lookedUp p s).ctx p → v.onlyBank p b → v.nozzle p = s.nozzle p →
      State.SameRing v s → v.mail = s.mail → (∀ q, q ≠ p → v.ctx q = s.ctx q) → v.ret = s.ret → v.mtr = s.mtr →
      v.sig = s.sig → Draws p b [.sourceReport p (.bank b), .mainEntryReport p]
      (({ (lookedUp p s).ctx p with timers := { ((lookedUp p s).ctx p).timers with precool := none } } : Ctx).taking
        (.bank b) |>.mainFrom (s.nozzle p))
      (actuate (.controlValve p) .set (s.ctx p).opening (actuate (.dispenseValve p) .open 1000
        (actuate (.bankValve b (.pos p)) .open 1000 s))).rif s (goMain p v) := by
    intro v hctx honly hn hr hmail hothers hret hmtr hs
    have hd := goMain_draws (p := p) (by rw [hctx]; exact hspan) (by rw [hctx]; exact hcaused) honly
    have hopening : (v.ctx p).opening = (s.ctx p).opening := by rw [hctx, lookedUp_ctx]; rfl
    rw [hn, hopening, hctx, openedFlow_rif hr] at hd
    exact ⟨hd.ctx, fun q hq => (hd.others q hq).trans (hothers q hq), hd.mail.trans (by rw [hmail]), hd.bank,
      hd.ret.trans hret, hd.mtr.trans hmtr, hd.rif, hd.sig.trans hs⟩
  have honly : (lookedUp p s).onlyBank p b := h.updCtx rfl
  have hadmit' : ((lookedUp p s).ctx p).category = .c00 ∨
      (lookedUp p s).admissible ((lookedUp p s).ctx p).category = true := by
    rw [lookedUp_ctx]
    exact hadmit
  rcases askAdmission_admits hadmit' with hask | hask <;> rw [hask]
  · exact hgo _ rfl honly rfl hring rfl (fun q hq => updCtx_ctx_ne _ _ hq) rfl rfl rfl
  · exact hgo _ rfl (honly.congr rfl rfl rfl rfl rfl rfl) rfl ⟨rfl, rfl, rfl⟩ rfl (fun q hq => updCtx_ctx_ne _ _ hq)
      rfl rfl rfl

end Obligation

end Sys2Proof.Machine

namespace Sys2Proof

open Sys2Proof.Machine

/-- Settles O42: the pulse over, and then the leak check over, each by the checks of its chapter in their order. -/
theorem pulseAndLeakCheck : Obligations.PulseAndLeakCheck := by
  unfold Obligations.PulseAndLeakCheck
  refine ⟨fun p b x s hreset hst ht hd hh hsig hwait hwin => pulseExpiry_spec hreset hst ht hd hh hsig hwait hwin,
    fun p s hreset hst ht hs hlink => ?_⟩
  intro k vol amb band cell rate pEnd looked
  have hend : (s.ctx p).state.endable = true := by rw [hst]; rfl
  have hsel : s.plainSelection p = ⟨vol, false, amb, band, rate, pEnd⟩ := rfl
  have hlooked : ∀ t : State, (t.ctx p).link = .none → (t.ctx p).selection = some (s.plainSelection p) →
      (t.ctx p).uncertainMark = ((s.ctx p).uncertainMark || s.quality .ambientTemp != .good) → looked t :=
    fun t h1 h2 h3 => ⟨h1, h2.trans (congrArg some hsel), h3⟩
  refine ⟨fun hleak => ?_, fun hpass hrate => ?_, fun b hpass hrate hadmit hh hsig hanchor honly => ?_,
    fun hpass hrate hcat hadmit hlim => ?_⟩
  · have hends := (givesUp_sourceless hend hs).marked (marks_timers fun t => { t with leak := none }) .leak
    exact ⟨_, running_of_eq hreset ((leakExpiry_leak ht hleak).trans hends), fillEnded_endOut _⟩
  · have hdry : (lookedUp p s).sourceless p := ⟨by rw [lookedUp_ctx]; exact hs.source, hs.noBank, hs.noOutput, hs.window⟩
    have hends := endFill_sourceless (r := .notPermitted) (by rw [lookedUp_ctx]; exact hend) hdry
    refine ⟨_, running_of_eq hreset ((leakExpiry_passed ht hlink hpass).trans ((if_pos hrate).trans hends)), ?_, ?_,
      hlooked _ ?_ ?_ ?_⟩ <;> rw [endOut_ctx_same, State.endedCtx, lookedUp_ctx] <;> rfl
  · have hne : ¬ (s.plainSelection p).aprr = 0 := by rw [hsel]; exact hrate.ne'
    have hd := leakExpiry_main hst hadmit hh hsig honly
    refine ⟨_, running_of_eq hreset ((leakExpiry_passed ht hlink hpass).trans (if_neg hne)), ?_⟩
    have hctx := hd.ctx
    rw [mainFrom_anchored (by rw [lookedUp_ctx]; exact hanchor), lookedUp_ctx] at hctx
    refine ⟨by rw [hctx], hlooked _ (by rw [hctx]; rfl) (by rw [hctx]; rfl) (by rw [hctx]; rfl), by rw [hctx]; rfl,
      by rw [hctx], by rw [hctx], hd.bank, hd.mail, hd.others⟩
  · have hne : ¬ (s.plainSelection p).aprr = 0 := by rw [hsel]; exact hrate.ne'
    have hparams : (lookedUp p s).params p = s.params p := params_congr rfl (by rw [lookedUp_ctx]; rfl)
    have hask := askAdmission_waits (p := p) (s := lookedUp p s) (by rw [lookedUp_ctx]; exact congrArg PState.descentSpan hst)
      (by rw [lookedUp_ctx]; exact hcat) (by rw [lookedUp_ctx]; exact hadmit) (by rw [hparams]; exact hlim)
    rw [hparams, lookedUp_ctx] at hask
    refine ⟨_, running_of_eq hreset ((leakExpiry_passed ht hlink hpass).trans ((if_neg hne).trans hask)), ?_, hlooked _ ?_ ?_ ?_,
      ?_, rfl, rfl, rfl, fun q hq => ?_⟩
    · rw [unqueued_ctx, updCtx_ctx_same]
    · rw [unqueued_ctx, updCtx_ctx_same]
      exact congrArg Ctx.link lookedUp_ctx
    · rw [unqueued_ctx, updCtx_ctx_same]
      exact congrArg Ctx.selection lookedUp_ctx
    · rw [unqueued_ctx, updCtx_ctx_same]
      exact congrArg Ctx.uncertainMark lookedUp_ctx
    · rw [unqueued_ctx, updCtx_ctx_same]
      rfl
    · rw [unqueued_ctx, updCtx_ctx_ne _ _ hq]
      exact updCtx_ctx_ne _ _ hq

end Sys2Proof
end

section
/-! The precool wait, ADMIT and the re-rate (R102 to R104, R118). O43 follows. -/

namespace Sys2Proof.Machine

open Sys2Proof

/-! ### Causes that are not present -/

section Causes

variable {p : Pos} {s t : State}

/-- R122: a change of category brings no lost signal where OUTLET-TEMP counted already, or counts no longer. -/
theorem signalLost_recategorised (ht : t.tables = s.tables) (hsig : t.sig = s.sig)
    (hc : (t.ctx p).category = .c00 ∨ (s.ctx p).category ≠ .c00) (h : s.signalLost p = false) :
    t.signalLost p = false := by
  have husable : ∀ r, t.usable r = s.usable r := fun r => congrArg (fun y => y.quality.usable) (record_congr hsig r)
  have hhold : ∀ r, t.underHold r = s.underHold r := fun r => by
    unfold State.underHold
    rw [rowOf_congr ht]
  unfold State.signalLost at h ⊢
  simp only [husable, hhold, List.any_append, Bool.or_eq_false_iff] at h ⊢
  refine ⟨h.1, ?_⟩
  rcases hc with hc | hc
  · rw [if_pos hc]
    rfl
  · have hout := h.2
    rw [if_neg hc] at hout
    split
    · rfl
    · exact hout

/-- R122, R123: a re-evaluation that finds no cause, in a running state other than PAUSED. -/
theorem reviewCauses_clear {halt : Bool} (hrun : (s.ctx p).state.running = true) (hst : (s.ctx p).state ≠ .paused)
    (hh : halt = false) (hs : s.signalLost p = false) : reviewCauses p halt s = updCtx p Ctx.uncaused s := by
  have hctx : (updCtx p Ctx.uncaused s).ctx p = (s.ctx p).uncaused := updCtx_ctx_same _ _ _
  rw [reviewCauses, if_neg (by simp [hrun]), setCauses_clear hh hs, followCauses, hctx,
    if_neg (by simp [Ctx.caused, Ctx.uncaused]), resumeStage, hctx, if_neg (by exact hst)]

end Causes

/-! ### The precool wait -/

section Wait

variable {p : Pos} {s t : State} {r : EndReason}

/-- R84: a cancelled admission is part of what an end leaves. -/
theorem FillEnded.uncancelled (h : FillEnded p r (admissionCancel p s) t) : FillEnded p r s t where
  context := h.context
  others := h.others
  told := h.told
  admission := by
    rw [h.admission]
    simp [admissionCancel, setPending, updPcl]
  lists := h.lists
  output := h.output
  rest := h.rest

/-- R118: the state in which the expiry of the precool wait is judged. -/
def waitedOut (p : Pos) (s : State) : State :=
  updCtx p (fun c => { c with timers := { c.timers with precool := none } }) (admissionCancel p s)

theorem waitedOut_ctx : (waitedOut p s).ctx p =
    { s.ctx p with timers := { (s.ctx p).timers with precool := none } } := updCtx_ctx_same _ _ _

theorem precoolExpiry_eq (ht : (s.ctx p).timers.precool ≠ none) :
    precoolExpiry p s = precoolExpired (precoolWait 1 p) p (updTimers p (fun t => { t with precool := none }) s) :=
  expire_running ht

theorem admissionCancel_waited :
    admissionCancel p (updTimers p (fun t => { t with precool := none })
      (updTimers p (fun t => { t with precool := none }) s)) = waitedOut p s := by
  simp only [updTimers, updCtx_updCtx, admissionCancel_updCtx, waitedOut]

/-- R118: the wait has run out with no fallback left. -/
theorem precoolExpiry_unavailable (ht : (s.ctx p).timers.precool ≠ none)
    (h : (s.posRow p).fallback = none ∨ (s.ctx p).fellBack = true) :
    precoolExpiry p s = endFill p .precoolUnavailable (waitedOut p s) := by
  have hrow : ((waitedOut p s).posRow p).fallback = (s.posRow p).fallback := rfl
  rw [precoolExpiry_eq ht, precoolExpired]
  simp only [admissionCancel_waited, hrow, waitedOut_ctx]
  rcases h with h | h
  · rw [h]
  · rw [h]
    cases (s.posRow p).fallback <;> rfl

/-- R102: the context with the fallback's category and values. -/
def Ctx.fallenBack (c : Category) (y : Selection) (k : Ctx) : Ctx :=
  { k with category := c, selection := some y, fellBack := true, timers := { k.timers with precool := none } }

/-- R102: the fallback's category and values are taken, once. -/
def fallenBack (p : Pos) (c : Category) (y : Selection) (s : State) : State :=
  updCtx p (Ctx.fallenBack c y) (post (.categoryReport p (some c) false) (admissionCancel p s))

theorem fallenBack_eq (c : Category) (y : Selection) :
    updCtx p (fun k => { k with fellBack := true }) (setCategory p c y (waitedOut p s)) = fallenBack p c y s := by
  simp only [setCategory, waitedOut, post_updCtx, updCtx_updCtx]
  rfl

theorem fallenBack_ctx (c : Category) (y : Selection) :
    (fallenBack p c y s).ctx p = (s.ctx p).fallenBack c y := by
  rw [fallenBack, updCtx_ctx_same, post_ctx]
  rfl

/-- R102, R118: the wait has run out with a fallback that has not been used. -/
theorem precoolExpiry_fallback {c : Category} {x y : Selection} (ht : (s.ctx p).timers.precool ≠ none)
    (hfall : (s.posRow p).fallback = some c) (hback : (s.ctx p).fellBack = false)
    (hsel : (s.ctx p).selection = some x) (hy : y = s.lookupAt p x c) (hc : c ≠ .c00) : precoolExpiry p s =
      if y.aprr = 0 then endFill p .notPermitted (waitedOut p s)
      else
        let u := reviewCauses p (s.ctx p).halt (fallenBack p c y s)
        if u.admissible c then goMain p (setPending p none u) else precoolWait 1 p (setPending p (some c) u) := by
  have hrow : ((waitedOut p s).posRow p).fallback = (s.posRow p).fallback := rfl
  have hlook : (waitedOut p s).lookupAt p x c = y :=
    (lookupAt_congr (s := s) (t := waitedOut p s) rfl (by rw [waitedOut_ctx]) (by rw [waitedOut_ctx]) x c).trans hy.symm
  have hhalt : ((fallenBack p c y s).ctx p).halt = (s.ctx p).halt := by rw [fallenBack_ctx]; rfl
  rw [precoolExpiry_eq ht, precoolExpired]
  simp only [admissionCancel_waited, hrow, waitedOut_ctx, hfall, hback, hsel, hlook, if_neg hc]
  rw [fallenBack_eq, hhalt, requestAdmission]
  split
  · rfl
  · cases (reviewCauses p (s.ctx p).halt (fallenBack p c y s)).admissible c <;> rfl

/-- R102, R118: a fallback that PCL cannot take either waits again. -/
theorem precoolExpiry_waits {c : Category} {x y : Selection} (hst : (s.ctx p).state = .precoolWait)
    (ht : (s.ctx p).timers.precool ≠ none) (hcat : (s.ctx p).category ≠ .c00)
    (hfall : (s.posRow p).fallback = some c) (hback : (s.ctx p).fellBack = false)
    (hsel : (s.ctx p).selection = some x) (hy : y = s.lookupAt p x c) (hc : c ≠ .c00) (hrate : 0 < y.aprr)
    (hadm : s.admissible c = false) (hh : (s.ctx p).halt = false) (hsig : s.signalLost p = false)
    (hlim : 0 < (s.params p).precoolWait) : precoolExpiry p s = unqueued p (updCtx p (fun _ =>
      { ((s.ctx p).fallenBack c y).uncaused with
        state := .precoolWait
        timers := { ((s.ctx p).fallenBack c y).uncaused.timers with precool := some (10 * (s.params p).precoolWait) } })
      (setPending p (some c) (post (.categoryReport p (some c) false) (admissionCancel p s)))) := by
  let u : State := updCtx p Ctx.uncaused (fallenBack p c y s)
  have hctx : u.ctx p = ((s.ctx p).fallenBack c y).uncaused := by rw [updCtx_ctx_same, fallenBack_ctx]
  have hrev : reviewCauses p (s.ctx p).halt (fallenBack p c y s) = u := by
    refine reviewCauses_clear ?_ ?_ hh (signalLost_recategorised (s := s) rfl rfl (.inr hcat) hsig) <;>
      rw [fallenBack_ctx] <;> simp [hst, PState.running, Ctx.fallenBack]
  have hparams : (setPending p (some c) u).params p = s.params p :=
    params_congr rfl ((congrArg Ctx.fill hctx).trans rfl)
  have hadm' : ¬ u.admissible c = true := by
    have h : u.admissible c = s.admissible c := rfl
    simp [h, hadm]
  have hu : setPending p (some c) u = updCtx p (fun _ => ((s.ctx p).fallenBack c y).uncaused)
      (setPending p (some c) (post (.categoryReport p (some c) false) (admissionCancel p s))) := by
    simp only [u, fallenBack, updCtx_updCtx]
    exact (updPcl_updCtx _ _ _ _).trans (updCtx_of_eq _ _ _ rfl)
  rw [precoolExpiry_fallback ht hfall hback hsel hy hc, if_neg hrate.ne', hrev]
  simp only [if_neg hadm']
  rw [precoolWait_enters (s := setPending p (some c) u)
    ((congrArg (fun k => k.state.descentSpan) hctx).trans (congrArg PState.descentSpan hst)) (by rw [hparams]; exact hlim),
    hparams, hu, updCtx_updCtx]

theorem waitedOut_ends (hend : (s.ctx p).state.endable = true) (hs : s.sourceless p) (r : EndReason) :
    FillEnded p r s (endFill p r (waitedOut p s)) := by
  have hends := (givesUp_sourceless (s := admissionCancel p s) hend ⟨hs.source, hs.noBank, hs.noOutput, hs.window⟩).marked
    (marks_timers fun t => { t with precool := none }) r
  rw [waitedOut, hends]
  exact (fillEnded_endOut _).uncancelled

end Wait

/-! ### The re-rate -/

section ReRate

variable {p : Pos} {s : State} {c k : Category} {x y : Selection} {v : Int}

/-- R103: the categories that a re-rate may take, in order. -/
def State.reRateChoices (s : State) (p : Pos) (x : Selection) (c : Category) (v : Int) : List Category :=
  (c.warmerThan.dropWhile (fun k => !s.boundMeets v k)).filter (fun k => (s.lookupAt p x k).aprr != 0)

theorem reRateTo_eq : s.reRateTo p x c v =
    (s.reRateChoices p x c v).head?.map (fun k => (k, s.lookupAt p x k)) := by
  rw [State.reRateTo, State.reRateChoices, List.find?_map, List.head?_filter]
  rfl

theorem reRateRequest_ignored (h : (s.ctx p).state ≠ .main ∨ (s.ctx p).category ≠ c) : reRateRequest p c v s = s :=
  if_neg fun hmain => h.elim (absurd hmain.1) (absurd hmain.2)

theorem reRateRequest_manual (hst : (s.ctx p).state = .main) (hc : (s.ctx p).category = c)
    (hauto : (s.posRow p).autoReRate = false) : reRateRequest p c v s = endFill p .precoolLost s := by
  rw [reRateRequest, if_pos ⟨hst, hc⟩, if_pos (by simp [hauto])]

theorem reRateRequest_none (hst : (s.ctx p).state = .main) (hc : (s.ctx p).category = c)
    (hauto : (s.posRow p).autoReRate = true) (hsel : (s.ctx p).selection = some x)
    (h : s.reRateChoices p x c v = []) : reRateRequest p c v s = endFill p .precoolLost s := by
  rw [reRateRequest, if_pos ⟨hst, hc⟩, if_neg (by simp [hauto]), hsel]
  simp only [Option.bind_some, reRateTo_eq, h]
  rfl

theorem reRateRequest_some {ks : List Category} (hst : (s.ctx p).state = .main) (hc : (s.ctx p).category = c)
    (hauto : (s.posRow p).autoReRate = true) (hsel : (s.ctx p).selection = some x)
    (h : s.reRateChoices p x c v = k :: ks) : reRateRequest p c v s = reRate p c k (s.lookupAt p x k) v s := by
  rw [reRateRequest, if_pos ⟨hst, hc⟩, if_neg (by simp [hauto]), hsel]
  simp only [Option.bind_some, reRateTo_eq, h]
  rfl

/-- R104: the context after a re-rate. -/
def Ctx.reRated (k : Category) (y : Selection) (n : Int) (c : Ctx) : Ctx :=
  { c with category := k, reRates := c.reRates + 1, selection := some y, anchor := n, tau := 0, reAnchor := false }

/-- R104: the new category with its values, the ramp anchored afresh, and the notice. -/
def reRated (p : Pos) (c k : Category) (y : Selection) (v : Int) (s : State) : State :=
  updCtx p (Ctx.reRated k y (s.nozzle p)) (notice .reRated p.num
    (u1 c.rank ++ u1 k.rank ++ i2 v ++ u2 y.aprr ++ u2 y.pEnd) (post (.categoryReport p (some k) false) s))

theorem reRated_ctx : (reRated p c k y v s).ctx p = (s.ctx p).reRated k y (s.nozzle p) := by
  rw [reRated, updCtx_ctx_same, notice_ctx, post_ctx]

theorem reRated_mail : (reRated p c k y v s).mail = s.mail ++ [.categoryReport p (some k) false] := by
  rw [reRated, updCtx_mail, notice_onlyRif]
  rfl

theorem reRated_rif : (reRated p c k y v s).rif = (notice .reRated p.num
    (u1 c.rank ++ u1 k.rank ++ i2 v ++ u2 y.aprr ++ u2 y.pEnd) s).rif := by
  have h : State.SameRing (post (.categoryReport p (some k) false) s) s := ⟨rfl, rfl, rfl⟩
  rw [reRated, updCtx_rif]
  exact (notice_congr h _ _ _).rif

theorem reRated_ctx_ne {q : Pos} (h : q ≠ p) : (reRated p c k y v s).ctx q = s.ctx q := by
  rw [reRated, updCtx_ctx_ne _ _ h, notice_ctx, post_ctx]

theorem reRated_rest : (reRated p c k y v s).tables = s.tables ∧ (reRated p c k y v s).sig = s.sig
    ∧ (reRated p c k y v s).bkm = s.bkm ∧ (reRated p c k y v s).cmp = s.cmp := by
  rw [reRated, notice_onlyRif]
  exact ⟨rfl, rfl, rfl, rfl⟩

theorem reRate_eq : reRate p c k y v s =
    if (y.pEnd : Int) ≤ s.nozzle p then endFill p .completePressure (reRated p c k y v s)
    else reviewCauses p (s.ctx p).halt (reRated p c k y v s) := by
  have hanchor : anchorRamp p (updCtx p (fun c => { c with reRates := c.reRates + 1 })
      (setCategory p k y s)) = updCtx p (Ctx.reRated k y (s.nozzle p)) (post (.categoryReport p (some k) false) s) := by
    simp only [anchorRamp, setCategory, post_updCtx, updCtx_updCtx]
    rfl
  rw [reRate]
  simp only [hanchor, notice_updCtx]
  rw [← reRated, reRated_ctx]
  rfl

theorem reRated_ending (hst : (s.ctx p).state = .main) (hs : s.sourceless p) :
    ((reRated p c k y v s).ctx p).state.endable = true ∧ (reRated p c k y v s).sourceless p := by
  obtain ⟨htables, hsig, hbkm, hcmp⟩ := reRated_rest (p := p) (c := c) (k := k) (y := y) (v := v) (s := s)
  refine ⟨by rw [reRated_ctx, Ctx.reRated, hst]; rfl, ⟨by rw [reRated_ctx]; exact hs.source, ?_, ?_, ?_⟩⟩
  · unfold State.heldBank State.bank
    rw [hbkm]
    exact hs.noBank
  · unfold State.outputHolder
    rw [hcmp]
    exact hs.noOutput
  · unfold State.posRow
    rw [htables]
    exact hs.window

/-- R103: a category that a re-rate may take is warmer than the present one, which is therefore not C00. -/
theorem not_c00_of_choice {ks : List Category} (h : s.reRateChoices p x c v = k :: ks) : c ≠ .c00 := fun hc => by
  rw [hc] at h
  exact absurd h nofun

theorem reRated_reviewed {halt : Bool} (hst : (s.ctx p).state = .main) (hc : (s.ctx p).category ≠ .c00)
    (hh : halt = false) (hsig : s.signalLost p = false) :
    reviewCauses p halt (reRated p c k y v s) = updCtx p Ctx.uncaused (reRated p c k y v s) := by
  obtain ⟨htables, hsame, _, _⟩ := reRated_rest (p := p) (c := c) (k := k) (y := y) (v := v) (s := s)
  refine reviewCauses_clear ?_ ?_ hh (signalLost_recategorised (s := s) htables hsame (.inr hc) hsig) <;>
    rw [reRated_ctx] <;> simp [hst, PState.running, Ctx.reRated]

theorem ends_lost (hst : (s.ctx p).state = .main) (hs : s.sourceless p) {r : EndReason} :
    FillEnded p r s (endFill p r s) := by
  rw [endFill_sourceless (by rw [hst]; rfl) hs]
  exact fillEnded_endOut (s.ctx p)

end ReRate

end Sys2Proof.Machine

namespace Sys2Proof

open Sys2Proof.Machine

/-- Settles O43: the wait run out, ADMIT, and the re-rate, each by what its event finds. -/
theorem precoolAndReRate : Obligations.PrecoolAndReRate := by
  unfold Obligations.PrecoolAndReRate
  refine ⟨fun p s hreset hst ht hs hcat => ?_, fun p c s hreset => ?_, fun p c v s hreset => ?_⟩
  · have hend : (s.ctx p).state.endable = true := by rw [hst]; rfl
    refine ⟨fun hnone => ⟨_, running_of_eq hreset (precoolExpiry_unavailable ht hnone), waitedOut_ends hend hs _⟩,
      fun c x y hfall hback hsel hy hc => ⟨fun hrate => ?_, fun hrate hadm hh hsig hlim => ?_⟩⟩
    · have hnot := precoolExpiry_fallback ht hfall hback hsel hy hc
      rw [if_pos hrate] at hnot
      exact ⟨_, running_of_eq hreset hnot, waitedOut_ends hend hs _⟩
    · have hwait := precoolExpiry_waits hst ht hcat hfall hback hsel hy hc hrate hadm hh hsig hlim
      have hctx := hwait ▸ (unqueued_ctx _ _ _).trans (updCtx_ctx_same _ _ _)
      refine ⟨_, running_of_eq hreset rfl, by rw [hctx], by rw [hctx]; rfl, by rw [hctx]; rfl, by rw [hctx]; rfl,
        by rw [hctx], ?_, ?_, ?_⟩ <;> rw [hwait]
      · rw [unqueued_pcl, updCtx_pcl]
        exact PerPos.get_set_same _ _ _
      · rfl
      · rfl
  · refine ⟨fun h => running_of_eq hreset (if_neg fun hw => h.elim (absurd hw.1) (absurd hw.2)),
      fun b hst hc hh hsig hanchor honly => ?_⟩
    have hd := goMain_draws (p := p) (by rw [hst]; rfl) (by simp [Ctx.caused, hh, hsig]) honly
    have hctx := hd.ctx
    rw [mainFrom_anchored (by exact hanchor)] at hctx
    exact ⟨_, running_of_eq hreset (if_pos ⟨hst, hc⟩), hctx, hd.bank, hd.mail, hd.rif, hd.others⟩
  · intro t4 exceeds warmer rank
    have hexceeds : exceeds = fun k => !s.boundMeets v k := funext fun k => by
      cases k <;> simp [exceeds, t4, State.boundMeets, State.categoryRow, PrecoolTable.category,
        ← decide_not]
    have hwarmer : warmer = c.warmerThan := by cases c <;> rfl
    have hrank : ∀ k, rank k = k.rank := fun k => by cases k <;> rfl
    refine ⟨fun h => running_of_eq hreset (reRateRequest_ignored h), fun hst hc hauto hs =>
      ⟨_, running_of_eq hreset (reRateRequest_manual hst hc hauto), ?_⟩, fun x hst hc hauto hsel => ?_⟩
    · exact ends_lost hst hs
    · intro found
      have hfound : found = s.reRateChoices p x c v := by
        simp only [found, hexceeds, hwarmer, State.reRateChoices]
      refine ⟨fun hnone hs => ⟨_, running_of_eq hreset
        (reRateRequest_none hst hc hauto hsel (hfound.symm.trans hnone)), ends_lost hst hs⟩, fun k ks y hk hy => ?_⟩
      intro sent
      have heq := (reRateRequest_some hst hc hauto hsel (hfound.symm.trans hk)).trans reRate_eq
      rw [← hy] at heq
      refine ⟨fun hp hh hsig => ?_, fun hp hs => ?_⟩
      · rw [if_neg (by omega), reRated_reviewed hst (hc ▸ not_c00_of_choice (hfound.symm.trans hk)) hh hsig] at heq
        refine ⟨_, running_of_eq hreset heq, (updCtx_ctx_same _ _ _).trans ?_, reRated_mail, ?_, fun q hq => ?_⟩
        · rw [reRated_ctx, Ctx.uncaused, Ctx.reRated, ← hh]
        · rw [updCtx_rif, reRated_rif, ← hrank, ← hrank]
        · rw [updCtx_ctx_ne _ _ hq, reRated_ctx_ne hq]
      · rw [if_pos hp] at heq
        obtain ⟨hend, hdry⟩ := reRated_ending (c := c) (k := k) (y := y) (v := v) hst hs
        have hout := heq.trans (endFill_sourceless (r := .completePressure) hend hdry)
        have hctx : (reRateRequest p c v s).ctx p = _ := (congrArg (State.ctx · p) hout).trans (endOut_ctx_same _ _ _ _)
        rw [State.endedCtx, reRated_ctx] at hctx
        refine ⟨_, running_of_eq hreset rfl, congrArg Ctx.state hctx, congrArg Ctx.endReason hctx,
          congrArg Ctx.category hctx, congrArg Ctx.reRates hctx, ?_⟩
        rw [hout]
        rw [endOut_mail, (unwaited_rest _).1, closeFlow_mail, reRated_mail, reRated_ctx]
        simp [Ctx.fromMain, Ctx.reRated, hst]

end Sys2Proof
end

section
/-! MAIN: the ramp, the switch of source and the pause (R105, R120 to R123, R127). O45 follows. -/

namespace Sys2Proof.Machine

open Sys2Proof

/-! ### A nozzle pressure in MAIN -/

section Ramp

variable {p : Pos} {s : State} {x : Selection}

theorem seeing_congr {r : Role} {y : SigRec} {f g : State → State}
    (h : f (withRecord r y s) = g (withRecord r y s)) : seeing r y f s = seeing r y g s :=
  congrArg (fun t => { t with sig := s.sig }) h

theorem judgeMismatch_unlinked (h : (s.ctx p).link ≠ .established) : judgeMismatch p s = s := by
  rw [judgeMismatch]
  split
  · next hl _ => exact absurd hl h
  · rfl

theorem nozzlePressure_main (hc : s.nozzle p < Config.ceiling (s.posRow p).pclass) (hst : (s.ctx p).state = .main)
    (hl : (s.ctx p).link ≠ .established) : nozzlePressure p s = nozzleInMain p s := by
  rw [nozzlePressure, ceilingCheck_below hc]
  simp only [hst, if_true, judgeMismatch_unlinked hl]
  rfl

/-- R105: the ramp target recorded. -/
def aimed (p : Pos) (n : Int) (s : State) : State := updCtx p (fun c => { c with target := some n }) s

theorem aimed_ctx (n : Int) : (aimed p n s).ctx p = { s.ctx p with target := some n } := updCtx_ctx_same _ _ _

theorem nozzleInMain_full (hsel : (s.ctx p).selection = some x) (h : (x.pEnd : Int) ≤ s.nozzle p) :
    nozzleInMain p s = endFill p .completePressure s := by
  rw [nozzleInMain, hsel]
  exact if_pos h

theorem nozzleInMain_exceeds (hsel : (s.ctx p).selection = some x) (h : s.nozzle p < x.pEnd)
    (ha : s.rampTarget p x + (s.params p).abortBand < s.nozzle p) :
    nozzleInMain p s = endFill p .rampExceeded (aimed p (s.rampTarget p x) s) := by
  rw [nozzleInMain, hsel]
  simp only
  rw [if_neg (by omega), if_pos ha]
  rfl

theorem nozzleInMain_steps (hst : (s.ctx p).state = .main) (hsel : (s.ctx p).selection = some x)
    (hsrc : (s.ctx p).source = some .compressor) (h : s.nozzle p < x.pEnd)
    (ha : s.nozzle p ≤ s.rampTarget p x + (s.params p).abortBand) :
    nozzleInMain p s = rampStep p (s.rampTarget p x) (aimed p (s.rampTarget p x) s) := by
  have hswitch : switchByNozzle p (aimed p (s.rampTarget p x) s) = aimed p (s.rampTarget p x) s := by
    rw [switchByNozzle, aimed_ctx]
    simp only [hsrc]
  rw [nozzleInMain, hsel]
  simp only
  rw [if_neg (by omega), if_neg (by omega), ← aimed, hswitch, onlyIf_pos (by rw [aimed_ctx]; simp [hst])]

end Ramp

section Steps

variable {p : Pos} {s : State} {n : Int}

/-- R121: the control valve turned to another opening. -/
def turned (p : Pos) (n : Int) (o : Nat) (s : State) : State :=
  actuate (.controlValve p) .set o (updCtx p (fun c => { c with target := some n, opening := o }) s)

theorem sigless_turned (n : Int) (o : Nat) : Sigless (turned p n o) :=
  (sigless_actuate (.controlValve p) .set o).comp (f := actuate (.controlValve p) .set o) fun _ _ => rfl

theorem setOpening_aimed (o : Nat) : setOpening p o (aimed p n s) = turned p n o s := by
  rw [setOpening, aimed, updCtx_updCtx, turned]

theorem aimed_reads : (aimed p n s).nozzle p = s.nozzle p ∧ (aimed p n s).params p = s.params p :=
  ⟨rfl, params_congr rfl (by rw [aimed_ctx])⟩

theorem rampStep_down (h : n + (s.params p).upperBand < s.nozzle p) (ho : (s.ctx p).opening ≠ 0) :
    rampStep p n (aimed p n s) = turned p n ((s.ctx p).opening - 100) s := by
  have hreads := aimed_reads (p := p) (s := s) (n := n)
  rw [rampStep, hreads.1, hreads.2, aimed_ctx]
  simp only
  rw [if_pos h, if_neg ho, setOpening_aimed]

theorem rampStep_up (h : s.nozzle p ≤ n + (s.params p).upperBand) (hl : s.nozzle p < n - (s.params p).lowerBand)
    (ho : (s.ctx p).opening ≤ 900) :
    rampStep p n (aimed p n s) = turned p n ((s.ctx p).opening + 100) s := by
  have hreads := aimed_reads (p := p) (s := s) (n := n)
  rw [rampStep, hreads.1, hreads.2, aimed_ctx]
  simp only
  rw [if_neg (by omega), if_pos hl, if_neg (by omega), min_eq_left (by omega), setOpening_aimed]

theorem rampStep_within (h : s.nozzle p ≤ n + (s.params p).upperBand)
    (hl : n - (s.params p).lowerBand ≤ s.nozzle p) : rampStep p n (aimed p n s) = aimed p n s := by
  have hreads := aimed_reads (p := p) (s := s) (n := n)
  rw [rampStep, hreads.1, hreads.2]
  rw [if_neg (by omega), if_neg (by omega)]

theorem rampStep_shut (h : n + (s.params p).upperBand < s.nozzle p) (ho : (s.ctx p).opening = 0) :
    rampStep p n (aimed p n s) = aimed p n s := by
  have hreads := aimed_reads (p := p) (s := s) (n := n)
  rw [rampStep, hreads.1, hreads.2, aimed_ctx]
  simp only
  rw [if_pos h, if_pos ho]

theorem rampStep_open (h : s.nozzle p ≤ n + (s.params p).upperBand) (hl : s.nozzle p < n - (s.params p).lowerBand)
    (ho : 1000 ≤ (s.ctx p).opening) : rampStep p n (aimed p n s) = aimed p n s := by
  have hreads := aimed_reads (p := p) (s := s) (n := n)
  rw [rampStep, hreads.1, hreads.2, aimed_ctx]
  simp only
  rw [if_neg (by omega), if_pos hl, if_pos ho]

end Steps

/-! ### The switch of source -/

section Switch

variable {p : Pos} {b c : Bank} {s : State}

theorem bankFreed_mail : (bankFreed p c s).mail = s.mail ++
    [.sessionOutcome p c .unchecked, .filBankAnnouncement c, .cmpBankAnnouncement c] := by
  simp [bankFreed, updBank, setBank]

theorem bankFreed_rif : (bankFreed p c s).rif = (close (.bankValve c (.pos p)) s).rif := by
  rw [bankFreed, postAll_rif, updBank_rif]

theorem bankFreed_bank_ne {d : Bank} (h : d ≠ c) : (bankFreed p c s).bank d = s.bank d := by
  rw [bankFreed, postAll_bank, updBank_bank_ne _ _ h, close_bank]

/-- R120: the bank given up, its outcome awaited. -/
def Ctx.gaveUp (c : Bank) (k : Ctx) : Ctx := { k with source := none, awaited := k.awaited ++ [c] }

/-- R120: the bank drawn from given up. -/
def gaveUp (p : Pos) (c : Bank) (s : State) : State := updCtx p (Ctx.gaveUp c) (bankFreed p c s)

/-- R120: the one bank that is free taken in MAIN. -/
def switchedTo (p : Pos) (b : Bank) (s : State) : State :=
  actuate (.bankValve b (.pos p)) .open 1000
    (updCtx p (Ctx.taking (.bank b)) (post (.sourceReport p (.bank b)) (walked p b s)))

theorem walkOn_onlyBank (h : s.onlyBank p b) : walkOn p s = switchedTo p b s := by
  rw [walkOn, if_neg (by simp [h.clear]), walk_onlyBank h]
  simp only [takeSource_eq]
  rw [openDrawn_bank _ _ (b := b) (by simp [Ctx.taking])]
  rfl

theorem gaveUp_ctx : (gaveUp p c s).ctx p = (s.ctx p).gaveUp c := by
  rw [gaveUp, updCtx_ctx_same, bankFreed_ctx]

theorem gaveUp_ctx_ne {q : Pos} (h : q ≠ p) : (gaveUp p c s).ctx q = s.ctx q := by
  rw [gaveUp, updCtx_ctx_ne _ _ h, bankFreed_ctx]

theorem gaveUp_bank : ((gaveUp p c s).bank c).state = .available := by
  rw [gaveUp, State.bank, updCtx_bkm, ← State.bank, bankFreed_bank]

theorem gaveUp_bank_ne {d : Bank} (h : d ≠ c) : (gaveUp p c s).bank d = s.bank d := by
  rw [gaveUp, State.bank, updCtx_bkm, ← State.bank, bankFreed_bank_ne h]

theorem gaveUp_reads : (gaveUp p c s).tables = s.tables ∧ (gaveUp p c s).sig = s.sig
    ∧ (gaveUp p c s).cmp = s.cmp ∧ (gaveUp p c s).smc = s.smc := by
  simp [gaveUp, bankFreed]

/-- R120: the bank drawn from is given up, and the one other bank of the sequence is free. -/
theorem onlyBank_gaveUp (hbc : b ≠ c) (hl : s.latched = false) (hseq : s.sequence (s.posRow p).pclass = [.bank b])
    (hsuit : s.suitable p (.bank b) = true) (hfree : (s.bank b).state = .available)
    (hother : ∀ d, d ≠ c → (s.bank d).state ≠ .claimedPos p) (hout : s.outputHolder ≠ some p) :
    (gaveUp p c s).onlyBank p b := by
  obtain ⟨htables, hsig, hcmp, hsmc⟩ := gaveUp_reads (p := p) (c := c) (s := s)
  have hbank := gaveUp_bank_ne (p := p) (s := s) hbc
  have hfill : ((gaveUp p c s).ctx p).fill = (s.ctx p).fill := by rw [gaveUp_ctx]; rfl
  constructor
  case sequence =>
    simp only [State.sequence, State.posRow, htables]
    exact hseq
  case suitable => rw [suitable_congr htables hsig hfill (by rw [hbank])]; exact hsuit
  case free => rw [hbank]; exact hfree
  case clear => simp only [State.latched, hsmc]; exact hl
  case noBank =>
    refine List.find?_eq_none.mpr fun d _ => ?_
    by_cases hd : d = c
    · rw [hd, gaveUp_bank]
      simp
    · rw [gaveUp_bank_ne hd]
      simpa using hother d hd
  case noOutput => simp only [State.outputHolder, hcmp]; exact hout

/-- R120: a switch trigger, with one other bank to draw from. -/
theorem switchSource_to {y : Session} (hst : (s.ctx p).state = .main) (hd : s.draws p c y)
    (h : (gaveUp p c s).onlyBank p b) : switchSource p s = switchedTo p b (gaveUp p c s) := by
  rw [switchSource, releaseSource_bank hd.source (by rw [hst]; rfl) hd.held hd.session hd.holder hd.skipped hd.nobody]
  exact walkOn_onlyBank h

theorem switchedTo_ctx : (switchedTo p b s).ctx p = (s.ctx p).taking (.bank b) := by
  rw [switchedTo, actuate_ctx, updCtx_ctx_same, post_ctx, walked_ctx]

theorem switchedTo_ctx_ne {q : Pos} (h : q ≠ p) : (switchedTo p b s).ctx q = s.ctx q := by
  rw [switchedTo, actuate_ctx, updCtx_ctx_ne _ _ h, post_ctx, walked_ctx]

theorem switchedTo_bank : ((switchedTo p b s).bank b).state = .claimedPos p := by
  rw [switchedTo, actuate_bank, State.bank, updCtx_bkm, post_bkm, ← State.bank, walked_state]

theorem switchedTo_bank_ne {d : Bank} (h : d ≠ b) : ((switchedTo p b s).bank d).state = (s.bank d).state := by
  rw [switchedTo, actuate_bank, State.bank, updCtx_bkm, post_bkm, ← State.bank, walked_bank_ne _ _ _ h]

theorem switchedTo_mail : (switchedTo p b s).mail = s.mail ++ [.sourceReport p (.bank b)] := by
  rw [switchedTo, actuate_mail, updCtx_mail]
  rfl

theorem switchedTo_rif : (switchedTo p b s).rif = (actuate (.bankValve b (.pos p)) .open 1000 s).rif := by
  have h : State.SameRing (updCtx p (Ctx.taking (.bank b)) (post (.sourceReport p (.bank b)) (walked p b s))) s :=
    ⟨rfl, rfl, rfl⟩
  rw [switchedTo, (actuate_congr h _ _ _).rif]

/-! ### A bank pressure at the positions -/

theorem bankPressureAt_out {a : Arrival} (h : ¬ ((s.ctx p).state = .main ∧ (s.ctx p).source = some (.bank c))) :
    bankPressureAt c a p s = s := if_neg h

theorem filBankPressure_at {a : Arrival} {u : State} (h : bankPressureAt c a p s = u)
    (hothers : ∀ q, q ≠ p → (s.ctx q).state ≠ .main) (hu : ∀ q, q ≠ p → u.ctx q = s.ctx q) :
    filBankPressure c a s = u := by
  have hbefore : ∀ q, q ≠ p → bankPressureAt c a q s = s := fun q hq =>
    bankPressureAt_out fun hmain => hothers q hq hmain.1
  have hafter : ∀ q, q ≠ p → bankPressureAt c a q u = u := fun q hq =>
    bankPressureAt_out fun hmain => hothers q hq (hu q hq ▸ hmain.1)
  unfold filBankPressure
  cases p <;> simp [Pos.all, hbefore, hafter, h]

theorem suitable_withRecord (x : SigRec) (h : b ≠ c) :
    (withRecord (.bankPressure c) x s).suitable p (.bank b) = s.suitable p (.bank b) := by
  have hne : Role.bankPressure b ≠ .bankPressure c := by simpa using h
  have hvalue := withRecord_value_ne x s hne
  have husable := withRecord_usable_ne x s hne
  have hnozzle : (withRecord (.bankPressure c) x s).nozzle p = s.nozzle p := withRecord_value_ne x s (by simp)
  have hparams : (withRecord (.bankPressure c) x s).params p = s.params p := params_congr rfl rfl
  simp only [State.suitable, hvalue, husable, hnozzle, hparams]
  rfl

end Switch

/-! ### The pause of MAIN and its return -/

section Pause

variable {p : Pos} {s : State} {halt : Bool}

/-- R122, R123: MAIN paused for a lost signal, with the pause timer at `n` seconds. -/
def Ctx.mainPaused (n : Nat) (c : Ctx) : Ctx :=
  { c with
    state := .paused, resume := .main, signal := true
    timers := { c.timers with pause := some (10 * n) } }

/-- R123: MAIN left for PAUSED at a position that the output feeds. -/
def mainPaused (p : Pos) (n : Nat) (s : State) : State :=
  post (.mainLeaveReport p) (unqueued p (updCtx p (Ctx.mainPaused n) (closeFlow p s)))

theorem reviewCauses_pauses (hst : (s.ctx p).state = .main) (hsrc : (s.ctx p).source = some .compressor)
    (hh : (s.ctx p).halt = false) (hsig : (s.ctx p).signal = false) (hlost : s.signalLost p = true) :
    reviewCauses p (s.ctx p).halt s = mainPaused p (s.params p).pauseLimit s := by
  rw [reviewCauses, if_neg (by simp [hst, PState.running]), setCauses_first (.inr hlost) (by simp [Ctx.caused, hh, hsig]),
    followCauses, updCtx_ctx_same, if_pos (by simp [Ctx.caused, hlost]), takePause]
  simp only [updCtx_ctx_same, hst]
  rw [closeFlow_updCtx, closeDrawn_dry _ _ (by simp [hsrc]), pauseIn_eq (by simp [hst, PState.descentSpan, PState.inProgress, PState.endable, PState.running]),
    updCtx_updCtx, mainPaused, updCtx_of_eq]
  simp [Ctx.mainPaused, hlost, hh]

theorem sigless_mainPaused (n : Nat) : Sigless (mainPaused p n) := fun u z => by
  rw [mainPaused, sigless_closeFlow p u z]
  rfl

/-- R105, R123: MAIN resumed, the ramp anchored at `n`. -/
def Ctx.mainResumed (n : Int) (c : Ctx) : Ctx :=
  { c with
    state := .main, signal := false, anchor := n, tau := 0, reAnchor := false
    timers := { c.timers with pause := none } }

/-- R123: MAIN resumed at a position that the output feeds. -/
def mainResumed (p : Pos) (n : Int) (o : Nat) (s : State) : State :=
  unqueued p (updCtx p (Ctx.mainResumed n) (post (.mainEntryReport p)
    (actuate (.controlValve p) .set o (actuate (.dispenseValve p) .open 1000 s))))

theorem reviewCauses_resumes (hst : (s.ctx p).state = .paused) (hres : (s.ctx p).resume = .main)
    (hsrc : (s.ctx p).source = some .compressor) (hh : (s.ctx p).halt = false) (hlost : s.signalLost p = false) :
    reviewCauses p (s.ctx p).halt s = mainResumed p (s.nozzle p) (s.ctx p).opening s := by
  have hcaused : (s.ctx p).uncaused.caused = false := rfl
  rw [reviewCauses, if_neg (by simp [hst, PState.running]), setCauses_clear hh hlost, followCauses, updCtx_ctx_same,
    if_neg (by simp [hcaused]), resumeStage, updCtx_ctx_same, if_pos (by exact hst)]
  have hres' : (s.ctx p).uncaused.resume = .main := hres
  rw [hres']
  simp only [resumeMain, updCtx_ctx_same, updCtx_updCtx]
  rw [if_pos (by simp [Ctx.uncaused, hsrc]), beginMain_eq (by rw [updCtx_ctx_same]; exact congrArg PState.descentSpan hst),
    openFlow_dry (by rw [updCtx_ctx_same]; simp [Ctx.uncaused, hsrc]), updCtx_ctx_same, actuate_updCtx, actuate_updCtx,
    post_updCtx, updCtx_updCtx, mainResumed]
  congr 1
  refine updCtx_of_eq _ _ _ ?_
  rw [post_ctx, actuate_ctx, actuate_ctx, mainFrom_anchored (by rfl)]
  simp only [Ctx.mainResumed, Ctx.uncaused, hh]
  rfl

theorem sigless_mainResumed (n : Int) (o : Nat) : Sigless (mainResumed p n o) := fun u z => by
  have h := ((sigless_actuate (.controlValve p) .set o).comp (sigless_actuate (.dispenseValve p) .open 1000)) u z
  dsimp only at h
  rw [mainResumed, h]
  rfl

end Pause

end Sys2Proof.Machine

namespace Sys2Proof

open Sys2Proof.Machine

/-- Settles O45: a nozzle pressure in MAIN by the target, a bank pressure by the bank drawn from, and a change of
quality by the causes. -/
theorem mainPhase : Obligations.MainPhase := by
  unfold Obligations.MainPhase
  refine ⟨fun p r x s hreset hst hsel hlink hceil => ?_, fun p c r s hreset hothers hst => ?_,
    fun p r x s hreset => ?_⟩
  · intro v k target aimed' turned'
    let w : State := withRecord (.nozzlePressure p) r s
    have hn : w.nozzle p = v := withRecord_nozzle_same r
    have hk : w.params p = k := params_congr rfl rfl
    have hmain : nozzlePressure p w = nozzleInMain p w :=
      nozzlePressure_main (s := w) (hn.trans_lt hceil) hst (by
        have h : (w.ctx p).link = .none := hlink
        simp [h])
    have hend : (s.ctx p).state.endable = true := by rw [hst]; rfl
    have htarget : w.rampTarget p x = target := rfl
    have hsteps {g : State → State} (hg : Sigless g) (hsrc : (s.ctx p).source = some .compressor) (h : v < x.pEnd)
        (ha : v ≤ target + k.abortBand) (hstep : rampStep p target (aimed p target w) = g w) :
        exec (.filNozzlePressure p r) s = .next (g s) :=
      running_of_eq hreset (seeing_sigless hg (hmain.trans
        ((nozzleInMain_steps (s := w) hst hsel hsrc (hn.trans_lt h) (by rw [hn, htarget, hk]; exact ha)).trans hstep)))
    have hstands := hsteps (g := aimed p target) fun _ _ => rfl
    refine ⟨fun hs hv => ?_, fun hs hv ha => ?_, fun hsrc hv ha hu ho => ?_, fun hsrc hv ha hu hl ho => ?_,
      fun hsrc hv ha hl hu => ?_, fun hsrc hv ha h => ?_⟩
    · have hends := (givesUp_sourceless hend hs).seen (x := r) marks_none .completePressure
        (ρ := .nozzlePressure p) (fun b => by simp)
      have hfull : nozzlePressure p w = endFill p .completePressure (updCtx p (fun c => c) w) := by
        rw [updCtx_self _ _ _ rfl, hmain]
        exact nozzleInMain_full (s := w) hsel (hv.trans_eq hn.symm)
      exact ⟨_, running_of_eq hreset ((seeing_congr (g := fun u => endFill p .completePressure (updCtx p (fun c => c) u))
        hfull).trans hends), fillEnded_endOut _⟩
    · have hctx : (aimed p target w).ctx p = { s.ctx p with target := some target } := aimed_ctx target
      have hdry : (aimed p target w).sourceless p := ⟨by rw [hctx]; exact hs.source, hs.noBank, hs.noOutput, hs.window⟩
      have hends := endFill_sourceless (s := aimed p target w) (r := .rampExceeded) (by rw [hctx]; exact hend) hdry
      have hex := hmain.trans ((nozzleInMain_exceeds (s := w) hsel (hn.trans_lt hv)
        (by rw [hn, htarget, hk]; exact ha)).trans hends)
      have hfinal := endOut_ctx_same (p := p) (c := (aimed p target w).endedCtx p .rampExceeded [])
        (b := ((aimed p target w).ctx p).fromMain) (v := unwaited p (closeFlow p (aimed p target w)))
      exact ⟨_, running_of_eq hreset (seeing_of_eq hex), congrArg Ctx.state hfinal, congrArg Ctx.endReason hfinal⟩
    · exact hsteps (sigless_turned target _) hsrc hv ha
        (rampStep_down (s := w) (by rw [hk, hn]; exact hu) (by exact (by omega : (s.ctx p).opening ≠ 0)))
    · exact hsteps (sigless_turned target _) hsrc hv ha
        (rampStep_up (s := w) (by rw [hk, hn]; exact hu) (by rw [hk, hn]; exact hl) (by exact ho))
    · exact hstands hsrc hv ha (rampStep_within (s := w) (by rw [hk, hn]; exact hu) (by rw [hk, hn]; exact hl))
    · refine hstands hsrc hv ha ?_
      rcases h with ⟨hu, ho⟩ | ⟨hu, hl, ho⟩
      · exact rampStep_shut (s := w) (by rw [hk, hn]; exact hu) ho
      · exact rampStep_open (s := w) (by rw [hk, hn]; exact hu) (by rw [hk, hn]; exact hl) ho
  · intro low
    let w : State := withRecord (.bankPressure c) r s
    have hn : w.nozzle p = s.nozzle p := withRecord_value_ne r s (by simp)
    have hv : w.value (.bankPressure c) = r.value := withRecord_value_same _ _ _
    have hk : w.params p = s.params p := params_congr rfl rfl
    have hlow : w.bankTooLow p c = true ↔ low := by
      simp only [State.bankTooLow, hn, hv, hk, low, Bool.or_eq_true, decide_eq_true_eq]
      have hrow : w.bankRow c = s.bankRow c := rfl
      rw [hrow]
      omega
    have hstands : ∀ (v : SigRec) (a : Arrival), a.record = v →
        bankPressureAt c a p (withRecord (.bankPressure c) v s) = withRecord (.bankPressure c) v s →
        exec (.filBankPressure c a) s = .next s := by
      rintro v a rfl h
      exact running_of_eq hreset (seeing_of_eq (t := withRecord (.bankPressure c) a.record s)
        (filBankPressure_at (s := withRecord (.bankPressure c) a.record s) h hothers fun _ _ => rfl))
    refine ⟨fun hsrc hl => hstands r (.value r) rfl ?_, fun hsrc hu => hstands r (.quality r) rfl ?_,
      fun a hsrc => hstands _ a rfl (bankPressureAt_out fun hmain => hsrc hmain.2),
      fun b y a hd hbc hlatch hwait hseq hsuit hfree hother hout htrig => ?_⟩
    · rw [bankPressureAt, if_pos ⟨hst, hsrc⟩]
      exact onlyIf_neg (Bool.eq_false_iff.mpr (hlow.not.mpr hl)) _ _
    · rw [bankPressureAt, if_pos ⟨hst, hsrc⟩]
      exact onlyIf_neg (by simp [State.usable, State.quality, withRecord_record_same, hu]) _ _
    · let z : State := withRecord (.bankPressure c) a.record s
      have hdraws : z.draws p c y := ⟨hd.source, hd.held, hd.session, hd.holder, hd.skipped, hd.nobody, hd.noneOwed⟩
      have honly := onlyBank_gaveUp (p := p) (s := z) hbc hlatch hseq ((suitable_withRecord a.record hbc).trans hsuit)
        hfree hother hout
      have htrigger : bankPressureAt c a p z = switchSource p z := by
        rcases htrig with ⟨rfl, hu⟩ | ⟨rfl, hl⟩ <;> rw [bankPressureAt, if_pos ⟨hst, hd.source⟩]
        · exact onlyIf_pos (by simp [z, State.usable, State.quality, withRecord_record_same, hu, Arrival.record]) _ _
        · exact onlyIf_pos (hlow.mpr hl) _ _
      have hto := htrigger.trans (switchSource_to (s := z) hst hdraws honly)
      have hne {q : Pos} (hq : q ≠ p) : (switchedTo p b (gaveUp p c z)).ctx q = s.ctx q := by
        rw [switchedTo_ctx_ne hq, gaveUp_ctx_ne hq]
        rfl
      have hctx : (switchedTo p b (gaveUp p c z)).ctx p = ((s.ctx p).gaveUp c).taking (.bank b) := by
        rw [switchedTo_ctx, gaveUp_ctx]
        rfl
      refine ⟨_, running_of_eq hreset (seeing_of_eq (filBankPressure_at (s := z) hto hothers fun q hq => hne hq)),
        (congrArg Ctx.state hctx).trans hst, congrArg Ctx.source hctx, (congrArg Ctx.awaited hctx).trans ?_, ?_,
        switchedTo_bank, ?_, ?_, fun q hq => hne hq, rfl⟩
      · exact congrArg (· ++ [c]) hd.noneOwed
      · exact (switchedTo_bank_ne (s := gaveUp p c z) (Ne.symm hbc)).trans gaveUp_bank
      · refine switchedTo_mail.trans ?_
        rw [gaveUp, updCtx_mail, bankFreed_mail, List.append_assoc]
        rfl
      · refine switchedTo_rif.trans ?_
        have hclose : State.SameRing (gaveUp p c z) (close (.bankValve c (.pos p)) s) := by
          have hz : State.SameRing z s := ⟨rfl, rfl, rfl⟩
          have hsame := close_congr hz (.bankValve c (.pos p))
          exact ⟨(updCtx_rif _ _ _).trans (bankFreed_rif.trans hsame.rif), gaveUp_reads.1.trans (by rw [close_onlyRif]; rfl),
            (congrArg Smc.latch gaveUp_reads.2.2.2).trans (by rw [close_onlyRif]; rfl)⟩
        exact (actuate_congr hclose _ _ _).rif
  · intro u
    have hring : State.SameRing u s := ⟨rfl, rfl, rfl⟩
    refine ⟨fun hrun => running_of_eq hreset (seeing_of_eq (t := u) (if_pos (by
        rw [show (u.ctx p).state.running = false from hrun]
        rfl))), fun hst hsrc hh hsig hlost => ?_, fun hst hres hsrc hh hlost => ?_⟩
    · have hpause := seeing_sigless (sigless_mainPaused (s.params p).pauseLimit)
        ((reviewCauses_pauses (s := u) hst hsrc hh hsig hlost).trans
          (congrArg (fun k : FillParams => mainPaused p k.pauseLimit u) (params_congr rfl rfl)))
      refine ⟨_, running_of_eq hreset hpause, ?_, ?_, ?_, fun q hq => ?_, ?_, ?_⟩
      · rw [mainPaused, post_ctx, unqueued_ctx, updCtx_ctx_same, closeFlow_ctx]
        rfl
      · rw [mainPaused, post_mail, unqueued_mail, updCtx_mail, closeFlow_mail]
      · rw [mainPaused, post_rif, unqueued_rif, updCtx_rif]
        rfl
      · rw [mainPaused, post_ctx, unqueued_ctx, updCtx_ctx_ne _ _ hq, closeFlow_ctx]
      · rw [mainPaused, closeFlow_onlyRif]
        rfl
      · rw [mainPaused, closeFlow_onlyRif]
        rfl
    · have hresume := seeing_sigless (sigless_mainResumed (u.nozzle p) (s.ctx p).opening)
        (reviewCauses_resumes (s := u) hst hres hsrc hh hlost)
      refine ⟨_, running_of_eq hreset hresume, ?_, ?_, ?_, fun q hq => ?_⟩
      · rw [mainResumed, unqueued_ctx, updCtx_ctx_same, post_ctx, actuate_ctx, actuate_ctx]
        rfl
      · rw [mainResumed, unqueued_mail, updCtx_mail, post_mail, actuate_mail, actuate_mail]
      · rw [mainResumed, unqueued_rif, updCtx_rif, post_rif]
      · rw [mainResumed, unqueued_ctx, updCtx_ctx_ne _ _ hq, post_ctx, actuate_ctx, actuate_ctx]

end Sys2Proof
end

section
/-! Grants, fresh walks and lost sources (R115, R116, R120, R128, R134). O46 follows. -/

namespace Sys2Proof.Machine

open Sys2Proof

/-! ### A source taken in BANK-WAIT -/

section Taking

variable {p : Pos} {x : Source} {s : State}

/-- R116: the bank's valve of a source opened. -/
def openFrom (p : Pos) (x : Source) (s : State) : State :=
  match x with
  | .bank b => actuate (.bankValve b (.pos p)) .open 1000 s
  | .compressor => s

theorem openFrom_onlyRif (p : Pos) (x : Source) (s : State) :
    openFrom p x s = { s with rif := (openFrom p x s).rif } := by
  cases x
  · exact actuate_onlyRif _ _ _ _
  · rfl

theorem openFrom_congr {t : State} (h : State.SameRing s t) : State.SameRing (openFrom p x s) (openFrom p x t) := by
  cases x
  · exact actuate_congr h _ _ _
  · exact h

theorem openFrom_updCtx (f : Ctx → Ctx) : openFrom p x (updCtx p f s) = updCtx p f (openFrom p x s) := by
  cases x
  · exact actuate_updCtx _ _ _ _ _ _
  · rfl

theorem openDrawn_taken : openDrawn p (updCtx p (Ctx.taking x) s) = updCtx p (Ctx.taking x) (openFrom p x s) := by
  rw [← openFrom_updCtx]
  cases x with
  | bank b => exact openDrawn_bank _ _ (by rw [updCtx_ctx_same]; rfl)
  | compressor => exact openDrawn_dry _ _ (by rw [updCtx_ctx_same]; exact nofun)

/-- R116, R120: the valves from a source opened, the control valve to `n`. -/
def flowing (p : Pos) (x : Source) (n : Nat) (s : State) : State :=
  actuate (.controlValve p) .set n (actuate (.dispenseValve p) .open 1000 (openFrom p x s))

theorem flowing_onlyRif (p : Pos) (x : Source) (n : Nat) (s : State) :
    flowing p x n s = { s with rif := (flowing p x n s).rif } := by
  rw [flowing, actuate_onlyRif, actuate_onlyRif (.dispenseValve p), openFrom_onlyRif]

theorem flowing_rif {t : State} (h : State.SameRing s t) (n : Nat) : (flowing p x n s).rif = (flowing p x n t).rif :=
  (actuate_congr (actuate_congr (openFrom_congr h) _ _ _) _ _ _).rif

/-- R115: a stage begun from BANK-WAIT: the source taken, the messages `ms` sent and the valves opened. -/
def begun (p : Pos) (x : Source) (n : Nat) (ms : List Instr) (f : Ctx → Ctx) (s : State) : State :=
  unqueued p (updCtx p f (flowing p x n (postAll ms s)))

variable {n : Nat} {ms : List Instr} {f : Ctx → Ctx}

theorem begun_ctx : (begun p x n ms f s).ctx p = f (s.ctx p) := by
  rw [begun, unqueued_ctx, updCtx_ctx_same, flowing_onlyRif]
  rfl

theorem begun_ctx_ne {q : Pos} (h : q ≠ p) : (begun p x n ms f s).ctx q = s.ctx q := by
  rw [begun, unqueued_ctx, updCtx_ctx_ne _ _ h, flowing_onlyRif]
  rfl

theorem begun_mail : (begun p x n ms f s).mail = s.mail ++ ms := by
  rw [begun, unqueued_mail, updCtx_mail, flowing_onlyRif]
  rfl

theorem begun_rif : (begun p x n ms f s).rif = (flowing p x n s).rif := by
  have h : State.SameRing (postAll ms s) s := ⟨rfl, rfl, rfl⟩
  rw [begun, unqueued_rif, updCtx_rif, flowing_rif h]

theorem begun_bkm : (begun p x n ms f s).bkm = s.bkm := by
  rw [begun, unqueued_bkm, updCtx_bkm, flowing_onlyRif]
  rfl

theorem begun_cmp : (begun p x n ms f s).cmp = s.cmp := by
  rw [begun, unqueued_cmp, updCtx_cmp, flowing_onlyRif]
  rfl

theorem begun_order : (begun p x n ms f s).bankWaitOrder = s.bankWaitOrder.filter (fun q => q ≠ p) := by
  rw [begun, flowing_onlyRif, ← filter_bne_eq]
  rfl

theorem flowing_post (m : Instr) : flowing p x n (post m s) = post m (flowing p x n s) := by
  have hfrom : openFrom p x (post m s) = post m (openFrom p x s) := by
    cases x
    · exact (plain_post _).actuate _ _ _ _
    · rfl
  rw [flowing, hfrom, (plain_post _).actuate, (plain_post _).actuate, flowing]

/-- R119: MAIN begun with the source taken. -/
theorem beginMain_taken (hspan : (s.ctx p).state.descentSpan = true) : beginMain p (takeSource p x s) =
    begun p x (s.ctx p).opening [.sourceReport p x, .mainEntryReport p]
      (fun c => (c.taking x).mainFrom (s.nozzle p)) s := by
  have hflow : openFlow p (updCtx p (Ctx.taking x) (post (.sourceReport p x) s)) =
      updCtx p (Ctx.taking x) (flowing p x (s.ctx p).opening (post (.sourceReport p x) s)) := by
    rw [openFlow, openDrawn_taken, updCtx_ctx_same, openFull_updCtx, actuate_updCtx]
    rfl
  have hn : (updCtx p (Ctx.taking x) (post (.sourceReport p x) s)).nozzle p = s.nozzle p := nozzle_congr rfl
  rw [takeSource_eq, beginMain_eq (by rw [updCtx_ctx_same]; exact hspan), hflow, hn, post_updCtx, updCtx_updCtx,
    ← flowing_post, begun, post_eq_postAll, post_eq_postAll, postAll_append]
  rfl

/-- R116: the pulse begun with the source taken. -/
theorem startPulse_taken (hspan : (s.ctx p).state.descentSpan = true) : startPulse p (takeSource p x s) =
    begun p x 100 [.sourceReport p x] (fun c => (c.taking x).pulsing (s.params p)) s := by
  have hp : (updCtx p (Ctx.taking x) (post (.sourceReport p x) s)).params p = s.params p :=
    params_congr rfl (by rw [updCtx_ctx_same]; rfl)
  rw [takeSource_eq, startPulse_eq (by rw [updCtx_ctx_same]; exact hspan), hp, openDrawn_taken, openFull_updCtx,
    actuate_updCtx, updCtx_updCtx, begun, post_eq_postAll]
  rfl

/-- R115: a grant in BANK-WAIT with no cause of a pause present. -/
theorem leaveBankWait_begins (hc : (s.ctx p).caused = false) :
    leaveBankWait p x s = enterStage p (s.ctx p).waitStage (takeSource p x s) := by
  have hctx : (takeSource p x s).ctx p = (s.ctx p).taking x := by rw [takeSource_eq, updCtx_ctx_same, post_ctx]
  rw [leaveBankWait, hctx]
  exact if_neg (by simpa [Ctx.caused, Ctx.taking] using hc)

end Taking

/-! ### A fresh walk -/

section Fresh

variable {p : Pos} {b : Bank} {s : State}

theorem freshWalk_draws (hst : (s.ctx p).state = .bankWait) (hstage : (s.ctx p).waitStage = .pulse)
    (hc : (s.ctx p).caused = false) (h : s.onlyBank p b) : freshWalk p s =
      begun p (.bank b) 100 [.sourceReport p (.bank b)] (fun c => (c.taking (.bank b)).pulsing (s.params p))
        (walked p b s) := by
  have hp : (walked p b s).params p = s.params p := params_congr rfl rfl
  rw [freshWalk, if_neg (by simp [h.clear]), walk_onlyBank h]
  simp only
  rw [leaveBankWait_begins (s := walked p b s) hc, walked_ctx, hstage, enterStage, startPulse_taken (by rw [walked_ctx, hst]; rfl), hp]

theorem freshWalk_empty (hl : s.latched = false) (hseq : s.sequence (s.posRow p).pclass = []) :
    freshWalk p s = endFill p .banksExhausted s := by
  have hwalk : walk p s = (.empty, s) := by
    unfold walk
    simp only [hseq, List.filter_nil, walkFree, walkWait]
  rw [freshWalk, if_neg (by simp [hl]), hwalk]

/-- R115: the wait set aside, or left as it is. -/
def rewaited (p : Pos) (w : Option Source) (s : State) : State := updCtx p (fun c => { c with waitOn := w }) s

theorem rewaited_ctx (w : Option Source) : (rewaited p w s).ctx p = { s.ctx p with waitOn := w } :=
  updCtx_ctx_same _ _ _

theorem rewaited_self : rewaited p (s.ctx p).waitOn s = s := updCtx_self _ _ _ rfl

/-- R115, R116: a fresh walk to the pulse, whatever the wait was. -/
theorem freshWalk_pulse (w : Option Source) (hst : (s.ctx p).state = .bankWait) (horder : s.bankWaitOrder = [p])
    (hstage : (s.ctx p).waitStage = .pulse) (hc : (s.ctx p).caused = false) (h : s.onlyBank p b) :
    ∃ t, freshWalk p (rewaited p w s) = t ∧ (t.ctx p).state = .pulse ∧ (t.ctx p).source = some (.bank b)
      ∧ (t.ctx p).waitOn = none ∧ (t.ctx p).timers.bankWait = none
      ∧ (t.ctx p).timers.pulse = some (10 * (s.params p).pulseTime)
      ∧ (t.bank b).state = .claimedPos p ∧ t.mail = s.mail ++ [.sourceReport p (.bank b)]
      ∧ t.bankWaitOrder = [] ∧ (∀ q, q ≠ p → t.ctx q = s.ctx q) := by
  have hctx := rewaited_ctx (p := p) (s := s) w
  have hp : (rewaited p w s).params p = s.params p := params_congr rfl (by rw [hctx])
  have hwalk := freshWalk_draws (s := rewaited p w s) (b := b) (by rw [hctx]; exact hst) (by rw [hctx]; exact hstage)
    (by rw [hctx]; exact hc) (h.updCtx rfl)
  rw [hp] at hwalk
  have hfinal := begun_ctx (p := p) (x := .bank b) (n := 100) (ms := [.sourceReport p (.bank b)])
    (f := fun c => (c.taking (.bank b)).pulsing (s.params p)) (s := walked p b (rewaited p w s))
  refine ⟨_, hwalk, congrArg Ctx.state hfinal, congrArg Ctx.source hfinal, congrArg Ctx.waitOn hfinal,
    congrArg (fun c : Ctx => c.timers.bankWait) hfinal, congrArg (fun c : Ctx => c.timers.pulse) hfinal, ?_, ?_, ?_,
    fun q hq => ?_⟩
  · rw [State.bank, begun_bkm, ← State.bank, walked_state]
  · rw [begun_mail]
    rfl
  · rw [begun_order, walked_bankWaitOrder]
    simp [rewaited, horder]
  · rw [begun_ctx_ne hq, walked_ctx, rewaited, updCtx_ctx_ne _ _ hq]

/-- R115: a fresh walk that finds no entry that suits, whatever the wait was. -/
theorem freshWalk_exhausted (w : Option Source) (hst : (s.ctx p).state = .bankWait) (hs : s.sourceless p)
    (hl : s.latched = false) (hseq : s.sequence (s.posRow p).pclass = []) :
    ∃ t, freshWalk p (rewaited p w s) = t ∧ (t.ctx p).state = .ending ∧ (t.ctx p).endReason = some .banksExhausted
      ∧ (t.ctx p).timers.afterRun ≠ none := by
  have hctx := rewaited_ctx (p := p) (s := s) w
  have hdry : (rewaited p w s).sourceless p := ⟨by rw [hctx]; exact hs.source, hs.noBank, hs.noOutput, hs.window⟩
  have hwalk := (freshWalk_empty (s := rewaited p w s) hl hseq).trans
    (endFill_sourceless (by rw [hctx, hst]; rfl) hdry)
  have hfinal := endOut_ctx_same (p := p) (c := (rewaited p w s).endedCtx p .banksExhausted [])
    (b := ((rewaited p w s).ctx p).fromMain) (v := unwaited p (closeFlow p (rewaited p w s)))
  refine ⟨_, hwalk, congrArg Ctx.state hfinal, congrArg Ctx.endReason hfinal, ?_⟩
  rw [hfinal]
  exact Option.some_ne_none _

theorem serveWaiters_one (h : s.bankWaitOrder = [p]) (hst : (s.ctx p).state = .bankWait) :
    serveWaiters s = freshWalk p s := by
  rw [serveWaiters, h, forEach_cons, forEach_nil, if_pos hst]

theorem serveWaiters_nobody (h : s.bankWaitOrder = []) : serveWaiters s = s := by
  rw [serveWaiters, h, forEach_nil]

theorem waitEnded_stands {x : Source} (h : (s.ctx p).state ≠ .bankWait ∨ (s.ctx p).waitOn ≠ some x) :
    waitEnded p x s = s := by
  rw [waitEnded, if_neg]
  rcases h with h | h <;> simp [Ctx.waitsOn, h]

theorem waitEnded_walks {x : Source} (hst : (s.ctx p).state = .bankWait) (hw : (s.ctx p).waitOn = some x) :
    waitEnded p x s = freshWalk p (rewaited p none s) := by
  rw [waitEnded, if_pos (by simp [Ctx.waitsOn, hst, hw]), rewaited]

theorem clearLost_unnoted {x : Source} (h : ∀ d, x = .bank d → (s.ctx p).awaited.count d = 0) : clearLost p x s = s := by
  cases x with
  | compressor => rfl
  | bank d =>
    refine (updCtx_self p _ s ?_ : clearAwaited p d s = s)
    rw [List.erase_of_not_mem (List.count_eq_zero.mp (h d rfl))]

theorem lost_elsewhere {x : Source} (ha : (s.ctx p).awaited = []) (hsrc : (s.ctx p).source = none) :
    lost p x s = tryLeave p (waitEnded p x s) := by
  rw [lost, clearLost_unnoted fun d _ => by rw [ha]; rfl, hsrc]
  exact if_neg nofun

theorem lost_inMain {x : Source} (hst : (s.ctx p).state = .main) (hsrc : (s.ctx p).source = some x)
    (ha : ∀ d, x = .bank d → (s.ctx p).awaited.count d = 0) :
    lost p x s = walkOn p (updCtx p (fun c => { c with source := none }) s) := by
  rw [lost, clearLost_unnoted ha]
  simp only [hsrc, if_true, hst]

end Fresh

end Sys2Proof.Machine

namespace Sys2Proof

open Sys2Proof.Machine

/-- Settles O46: a grant by the stage it begins, a wait that ends by the walk it brings, and a LOST by the state it
finds. -/
theorem sourceGrants : Obligations.SourceGrants := by
  unfold Obligations.SourceGrants
  refine ⟨fun p s hreset => ⟨fun b hst hw hstage hh hsig hanchor => ?_, fun hst hw hh hsig => ?_,
    fun x hst hsrc => ?_, fun b y hst hsrc hheld hsess hy hskip hnobody => ?_⟩, fun p k s hreset => ?_,
    fun p k s hreset => ⟨fun b x hst hsrc hne honly ha => ?_, fun x hst hsrc hl ha => ?_, fun b hst hsrc ht => ?_⟩⟩
  · have hcaused : (s.ctx p).caused = false := by simp [Ctx.caused, hh, hsig]
    have hgo : granted p (.bank b) s = beginMain p (takeSource p (.bank b) s) := by
      rw [granted, if_pos ⟨hst, hw⟩, leaveBankWait_begins hcaused, hstage, enterStage]
    refine ⟨_, running_of_eq hreset (hgo.trans (beginMain_taken (by rw [hst]; rfl))), ?_, begun_mail, begun_rif,
      fun q hq => begun_ctx_ne hq⟩
    rw [begun_ctx, mainFrom_kept (by exact hanchor)]
    rfl
  · intro goes
    have hcaused : (s.ctx p).caused = false := by simp [Ctx.caused, hh, hsig]
    have hgo : granted p .compressor s = enterStage p (s.ctx p).waitStage (takeSource p .compressor s) := by
      rw [granted, if_pos ⟨hst, hw⟩, leaveBankWait_begins hcaused]
    have hspan : (s.ctx p).state.descentSpan = true := by rw [hst]; rfl
    refine ⟨fun hstage hanchor => ?_, fun hstage => ?_⟩
    · rw [hstage, enterStage, beginMain_taken hspan] at hgo
      refine ⟨_, running_of_eq hreset hgo, ?_, begun_mail, begun_rif, begun_cmp, begun_bkm, begun_order,
        fun q hq => begun_ctx_ne hq⟩
      rw [begun_ctx, mainFrom_kept (by exact hanchor)]
      rfl
    · rw [hstage, enterStage, startPulse_taken hspan] at hgo
      exact ⟨_, running_of_eq hreset hgo, begun_ctx, begun_mail, begun_rif, begun_cmp, begun_bkm, begun_order,
        fun q hq => begun_ctx_ne hq⟩
  · refine running_of_eq hreset ?_
    rw [granted, if_neg fun h => hst h.1, if_pos hsrc]
  · have hfreed : granted p (.bank b) s = bankFreed p b s := by
      rw [granted, if_neg (by simp [hst]), if_neg (by simp [hsrc]), releaseUnwanted]
      rw [releaseAwaited, onlyIf_neg (by rw [hst]; rfl), releaseBank_unchecked hheld hsess hy hskip hnobody]
    refine ⟨_, running_of_eq hreset hfreed, bankFreed_bank, bankFreed_mail, ?_, bankFreed_rif⟩
    rw [bankFreed, postAll_fil, updBank_fil, close_fil]
  · intro draws empty waits
    refine ⟨fun ⟨hst, horder, hsrc, ha⟩ hstage hh hsig b honly => ?_, fun ⟨hst, horder, hsrc, ha⟩ hs hl hseq => ?_,
      fun h => ⟨fun _ => running_of_eq hreset (serveWaiters_nobody h), running_of_eq hreset (serveWaiters_nobody h)⟩,
      fun x h => running_of_eq hreset (waitEnded_stands h), fun x ⟨hst, horder, hsrc, ha⟩ hne => ?_⟩
    · obtain ⟨t, ht, hdrawn⟩ := freshWalk_pulse (b := b) (s.ctx p).waitOn hst horder hstage
        (by simp [Ctx.caused, hh, hsig]) honly
      obtain ⟨u, hu, hafter⟩ := freshWalk_pulse (b := b) none hst horder hstage
        (by simp [Ctx.caused, hh, hsig]) honly
      rw [rewaited_self, ← serveWaiters_one horder hst] at ht
      refine ⟨fun d => ⟨t, running_of_eq hreset ht, hdrawn⟩, ⟨t, running_of_eq hreset ht, hdrawn⟩, fun x hw => ?_⟩
      have hend : waitEnded p x s = u := (waitEnded_walks hst hw).trans hu
      refine ⟨⟨u, running_of_eq hreset hend, hafter⟩, ⟨u, running_of_eq hreset ?_, hafter⟩⟩
      rw [lost_elsewhere ha hsrc, hend, tryLeave_stays (.inl (by simp [hafter.1]))]
    · obtain ⟨t, ht, hst', hreason, _⟩ := freshWalk_exhausted (s.ctx p).waitOn hst hs hl hseq
      obtain ⟨u, hu, hst'', hreason', htimer⟩ := freshWalk_exhausted none hst hs hl hseq
      rw [rewaited_self, ← serveWaiters_one horder hst] at ht
      refine ⟨fun d => ⟨t, running_of_eq hreset ht, hst', hreason⟩, ⟨t, running_of_eq hreset ht, hst', hreason⟩,
        fun x hw => ?_⟩
      have hend : waitEnded p x s = u := (waitEnded_walks hst hw).trans hu
      refine ⟨⟨u, running_of_eq hreset hend, hst'', hreason'⟩, ⟨u, running_of_eq hreset ?_, hst'', hreason'⟩⟩
      rw [lost_elsewhere ha hsrc, hend, tryLeave_stays (.inr (.inl htimer))]
    · refine running_of_eq hreset ((lost_elsewhere ha hsrc).trans ?_)
      rw [waitEnded_stands (.inr hne), tryLeave_stays (.inl (by simp [hst]))]
  · let v : State := updCtx p (fun c => { c with source := none }) s
    have hto : lost p x s = switchedTo p b v :=
      (lost_inMain hst hsrc ha).trans (walkOn_onlyBank (honly.updCtx rfl))
    have hctx : (switchedTo p b v).ctx p = ({ s.ctx p with source := none } : Ctx).taking (.bank b) := by
      rw [switchedTo_ctx, updCtx_ctx_same]
    have hring : State.SameRing v s := ⟨rfl, rfl, rfl⟩
    refine ⟨_, running_of_eq hreset hto, (congrArg Ctx.state hctx).trans hst, congrArg Ctx.source hctx, switchedTo_bank,
      switchedTo_mail, switchedTo_rif.trans (actuate_congr hring _ _ _).rif, fun q hq => ?_⟩
    rw [switchedTo_ctx_ne hq, updCtx_ctx_ne _ _ hq]
  · refine running_of_eq hreset ((lost_inMain hst hsrc ha).trans ?_)
    exact if_pos hl
  · refine running_of_eq hreset ((lost_ending hst (by simp [hsrc])).trans (tryLeave_stays (.inr (.inl ?_))))
    rw [updCtx_ctx_same]
    exact ht

end Sys2Proof
end

section
/-! Restarts (R169, R177, R200, R204 to R207). O60 follows. -/

namespace Sys2Proof.Machine

open Sys2Proof

/-! ### The retained domain of the three restarts -/

section Retaining

variable (l : Lines) (s : State)

/-- R205, R206: what a restart with the domain held keeps, with the flags `f` and the last trip cause `x`. -/
def resumed (f : CauseFlags) (x : Option TripCause) : Retained :=
  { s.ret.elapse l.downSeconds with flags := f, lastTrip := x }

/-- R205: the flags that a restart other than POWER-ON keeps. -/
def State.keptFlags : CauseFlags := { s.ret.flags with tripAtRestart := s.ret.flags.tripAtRestart || s.latched }

/-- R205: the last trip cause after a restart other than POWER-ON. -/
def State.keptTrip : Option TripCause :=
  match s.smc.latch with
  | some x => some x.cause
  | none => s.ret.lastTrip

theorem keepTrip_eq (r : Retained) (hr : r.flags = s.ret.flags) (hx : r.lastTrip = s.ret.lastTrip) :
    keepTrip s.smc.latch r = { r with flags := s.keptFlags, lastTrip := s.keptTrip } := by
  unfold State.keptFlags State.keptTrip State.latched
  cases s.smc.latch with
  | none => simp [keepTrip, ← hr, ← hx]
  | some x => simp [keepTrip, ← hr]

theorem supplyDip_eq : supplyDip l s =
    restart s.tables (resumed l s { s.keptFlags with supplyDip := true } s.keptTrip) l s := by
  rw [supplyDip, keepTrip_eq s (s.ret.elapse l.downSeconds) rfl rfl]
  rfl

theorem commandRestart_eq : commandRestart l s =
    restart s.tables (resumed l s { s.keptFlags with command := true } s.keptTrip) l s := by
  rw [commandRestart, keepTrip_eq s (s.ret.elapse l.downSeconds) rfl rfl]
  rfl

/-- R205: a restart with the backup domain held, whatever its cause. -/
theorem exec_held {c : Instr}
    (hc : c = .powerOn true l ∨ c = .supplyDip l ∨ (c = .commandRestart l ∧ s.smc.inReset = false)) :
    ∃ f x, exec c s = .next (restart s.tables (resumed l s f x) l s) := by
  rcases hc with rfl | rfl | ⟨rfl, hreset⟩
  · exact ⟨_, _, rfl⟩
  · exact ⟨_, _, congrArg Host.Outcome.next (supplyDip_eq l s)⟩
  · exact ⟨_, _, running_of_eq hreset (commandRestart_eq l s)⟩

end Retaining

/-! ### The blocks brought up -/

section Up

variable {tb : Tables} {r : Retained} {l : Lines} {s : State}

/-- R19, R55: the blocks up, every actuator commanded closed and the aged starts gone. -/
def closedUp (tb : Tables) (r : Retained) (l : Lines) (s : State) : State :=
  ageHistory (closeAll (bringUp tb.restart r l s))

theorem beforeLoop_eq : beforeLoop tb r l s = checkDay (settleSnapshots (closedUp tb r l s)) := rfl

theorem closedUp_onlyRif : closedUp tb r l s =
    { bringUp tb.restart r l s with
      rif := (closeAll (bringUp tb.restart r l s)).rif
      ret := { r with history := r.history.filter (young r.runSeconds) } } := by
  rw [closedUp, closeAll_onlyRif]
  rfl

/-- R19: the CLOSEs are queued as at any state with the tables, the ring interface and the latch brought up. -/
theorem closedUp_sameRing {t : State} (h : State.SameRing (bringUp tb.restart r l s) t) :
    State.SameRing (closedUp tb r l s) (closeAll t) := by
  have hsame := closeAll_congr h
  rw [closedUp_onlyRif]
  exact ⟨hsame.rif, (closeAll_tables (bringUp tb.restart r l s)).symm.trans hsame.tables,
    (congrArg Smc.latch (closeAll_smc (bringUp tb.restart r l s))).symm.trans hsame.latch⟩

/-- R169: a position without a live snapshot has nothing to settle. -/
theorem settleSnapshot_none {p : Pos} (h : s.ret.snapshots.get p = none) : settleSnapshot p s = s := by
  rw [settleSnapshot, h]

theorem settleSnapshots_none (h : ∀ p, s.ret.snapshots.get p = none) : settleSnapshots s = dropStray s := by
  simp [settleSnapshots, Pos.all, settleSnapshot_none (h _)]

/-- R169: one live snapshot alone is settled. -/
theorem settleSnapshots_one {p : Pos} {u : State} (hu : settleSnapshot p s = u)
    (hbefore : ∀ q, q ≠ p → s.ret.snapshots.get q = none) (hafter : ∀ q, q ≠ p → u.ret.snapshots.get q = none) :
    settleSnapshots s = dropStray u := by
  have hs : ∀ q, q ≠ p → settleSnapshot q s = s := fun q hq => settleSnapshot_none (hbefore q hq)
  have hu' : ∀ q, q ≠ p → settleSnapshot q u = u := fun q hq => settleSnapshot_none (hafter q hq)
  unfold settleSnapshots
  cases p <;> simp [Pos.all, hs, hu', hu]

theorem judgeLoop_closed (h : s.pins.loopOpen = false) : judgeLoop s = s := onlyIf_neg h _ _

theorem judgeLoop_open (h : s.pins.loopOpen = true) (hl : s.smc.latch = none) : judgeLoop s = setLatch .loop s := by
  rw [judgeLoop, onlyIf_pos h, tripOn, if_neg (by simp [State.latched, hl])]

theorem dropStray_reservations : (dropStray s).reservations = 0 := rfl

theorem dropStray_snapshots (p : Pos) : (dropStray s).ret.snapshots.get p = none := by
  rw [dropStray, updRet_ret, PerPos.get_all]

/-- R204: what the trip at a restart leaves of the state. -/
theorem setLatch_leaves (c : TripCause) : setLatch c s = { setLatch c s with
    ret := s.ret, tables := s.tables, mail := s.mail ++ tripMessages
    smc := { s.smc with latch := some ⟨c, s.ret.clock⟩, mode := .trip, idleTimer := none, parkTimer := none }
    pins := { s.pins with masterIsolation := false } } := by
  rw [setLatch_eq, notice_onlyRif, closeAll_onlyRif]
  rfl

/-- R204: NOTICE TRIP goes behind the CLOSEs of the trip. -/
theorem setLatch_rif {t : State} {c : TripCause} (h : State.SameRing (latching c s) t) : (setLatch c s).rif =
    (notice .trip 0 (tripData c s.ret.clock) (closeAll t)).rif := by
  have hclosed := closeAll_congr h
  have htold : State.SameRing (postAll tripMessages (setMode .trip (closeAll (latching c s)))) (closeAll t) :=
    ⟨hclosed.rif, hclosed.tables, hclosed.latch⟩
  rw [setLatch_eq]
  exact (notice_congr htold _ _ _).rif

/-- R200, R204, R207: a restart that interrupts no fill, before its trip loop is judged. -/
theorem beforeLoop_quiet (hclock : r.clock = none) (hsnap : ∀ p, r.snapshots.get p = none) :
    beforeLoop tb r l s = dropStray (closedUp tb r l s) := by
  have hret : (closedUp tb r l s).ret = { r with history := r.history.filter (young r.runSeconds) } := by
    rw [closedUp_onlyRif]
  rw [beforeLoop_eq, settleSnapshots_none (by rw [hret]; exact hsnap), checkDay_of_unset]
  rw [dropStray, updRet_ret, hret]
  exact hclock

/-- The state of the part after a restart into the tables `tb`, with the trip loop closed. -/
structure CameUp (tb : Tables) (r : Retained) (l : Lines) (s t : State) : Prop where
  tables : t.tables = tb.restart
  flags : t.ret.flags = r.flags
  lastTrip : t.ret.lastTrip = r.lastTrip
  clock : t.ret.clock = r.clock
  runSeconds : t.ret.runSeconds = r.runSeconds
  bq : t.bkmBq = tb.restart.precool.active.row0.bq
  smc : t.smc = ⟨restartMode tb.restart, none, 0, none, none, false⟩
  pins : t.pins = ⟨l.straps, l.loopOpen, (restartMode tb.restart).energises⟩
  sig : t.sig = recordsOf (validRows tb.restart.nodeMap.active)
  units : t.fil = .all .start ∧ t.mtr = .all .start ∧ t.bil = .all none ∧ t.cmp = .start ∧ t.pcl = .start
    ∧ t.mail = [] ∧ t.bankWaitOrder = [] ∧ t.pending = s.pending
  banks : ∀ b, t.bank b = BankRec.start (tb.restart.bank.active.rows.get b).configured
  reservations : t.reservations = 0
  ring : State.SameRing t (closedUp tb r l s)

theorem cameUp_quiet : CameUp tb r l s (dropStray (closedUp tb r l s)) := by
  refine ⟨?_, ?_, ?_, ?_, ?_, ?_, ?_, ?_, ?_, ?_, ?_, dropStray_reservations, ⟨rfl, rfl, rfl⟩⟩ <;>
    rw [closedUp_onlyRif]
  case refine_10 => exact ⟨rfl, rfl, rfl, rfl, rfl, rfl, rfl, rfl⟩
  case refine_11 => exact fun b => PerBank.get_map _ _ _
  all_goals rfl

end Up

/-! ### The trip loop at a restart -/

section Loop

variable {tb : Tables} {r : Retained} {l : Lines} {s t : State}

theorem beforeLoop_pins : (beforeLoop tb r l s).pins = ⟨l.straps, l.loopOpen, (restartMode tb.restart).energises⟩ :=
  ((station_iff _ _).mp (beforeLoop_station tb r l s)).2.2

theorem beforeLoop_smc : (beforeLoop tb r l s).smc = ⟨restartMode tb.restart, none, 0, none, none, false⟩ :=
  ((station_iff _ _).mp (beforeLoop_station tb r l s)).2.1

theorem restart_closed (h : l.loopOpen = false) : restart tb r l s = beforeLoop tb r l s :=
  judgeLoop_closed ((congrArg Pins.loopOpen beforeLoop_pins).trans h)

theorem restart_open (h : l.loopOpen = true) : restart tb r l s = setLatch .loop (beforeLoop tb r l s) :=
  judgeLoop_open ((congrArg Pins.loopOpen beforeLoop_pins).trans h) (congrArg Smc.latch beforeLoop_smc)

/-- R204: the trip at a restart. -/
theorem restart_open_rif (h : l.loopOpen = true) (hclock : (beforeLoop tb r l s).ret.clock = none)
    (ht : State.SameRing (latching .loop (beforeLoop tb r l s)) t) : (restart tb r l s).rif =
      (notice .trip 0 (u1 TripCause.loop.num ++ optField 1 none ++ optField 4 none) (closeAll t)).rif := by
  rw [restart_open h, setLatch_rif ht, hclock]
  rfl

end Loop

/-! ### The fill that a restart interrupts -/

section Interrupted

variable {p : Pos} {x : Snapshot} {s : State} {rc : TxnRecord}

theorem recorded_counts (h : s.ret.reserved.get rc.pos = true) : (recorded rc s).queueCounts =
    u1 (s.ret.records.length + 1) ++ u1 (s.reservations - 1) := by
  have hcount := countP_set_false s.ret.reserved rc.pos
  rw [if_pos h] at hcount
  have hless : (recorded rc s).reservations = s.reservations - 1 := by
    unfold State.reservations
    rw [recorded_ret]
    exact Nat.eq_sub_of_add_eq hcount
  rw [State.queueCounts, hless, recorded_ret, List.length_append]
  rfl

/-- R169, R177: the interrupted fill settled, and its record in the place reserved for it. -/
def interruptedFill (p : Pos) (x : Snapshot) (s : State) : State :=
  notice .recordReady p.num (u4 x.txn ++ (u1 (s.ret.records.length + 1) ++ u1 (s.reservations - 1)))
    (recorded (s.interrupted p x) (settle (x.settlement p) s))

theorem settle_places (y : Settlement) : (settle y s).ret.records = s.ret.records
    ∧ (settle y s).ret.reserved = s.ret.reserved ∧ (settle y s).ret.clock = s.ret.clock
    ∧ (settle y s).ret.snapshots = s.ret.snapshots := by
  unfold settle
  split
  · exact ⟨rfl, rfl, rfl, rfl⟩
  · simp [fillEnd]

theorem settleSnapshot_some (h : s.ret.snapshots.get p = some x) (hr : s.ret.reserved.get p = true) :
    settleSnapshot p s = interruptedFill p x s := by
  obtain ⟨hrecords, hreserved, -, -⟩ := settle_places (s := s) (x.settlement p)
  have hplace : (settle (x.settlement p) s).ret.reserved.get (s.interrupted p x).pos = true := hreserved ▸ hr
  have hcount : (settle (x.settlement p) s).reservations = s.reservations := by
    unfold State.reservations
    rw [hreserved]
  rw [settleSnapshot, h]
  simp only
  rw [placeRecord_eq hplace, recorded_counts hplace, hrecords, hcount]
  rfl

theorem interruptedFill_ret : (interruptedFill p x s).ret = (recorded (s.interrupted p x) (settle (x.settlement p) s)).ret :=
  noticeTo_ret _ _ _ _ _

theorem interruptedFill_snapshots {q : Pos} (h : q ≠ p) (hq : s.ret.snapshots.get q = none) :
    (interruptedFill p x s).ret.snapshots.get q = none := by
  rw [interruptedFill_ret, recorded_ret]
  exact (PerPos.get_set_ne _ _ h).trans (by rw [(settle_places _).2.2.2, hq])

/-- R169: a restart that interrupts one fill, before its trip loop is judged. -/
theorem beforeLoop_interrupted {tb : Tables} {r : Retained} {l : Lines} (hclock : r.clock = none)
    (h : r.snapshots.get p = some x) (hothers : ∀ q, q ≠ p → r.snapshots.get q = none)
    (hr : r.reserved.get p = true) :
    beforeLoop tb r l s = dropStray (interruptedFill p x (closedUp tb r l s)) := by
  have hret : (closedUp tb r l s).ret = { r with history := r.history.filter (young r.runSeconds) } := by
    rw [closedUp_onlyRif]
  have hone := settleSnapshot_some (s := closedUp tb r l s) (p := p) (x := x) (by rw [hret]; exact h) (by rw [hret]; exact hr)
  rw [beforeLoop_eq, settleSnapshots_one hone (fun q hq => by rw [hret]; exact hothers q hq)
    (fun q hq => interruptedFill_snapshots hq (by rw [hret]; exact hothers q hq)), checkDay_of_unset]
  rw [dropStray, updRet_ret, interruptedFill_ret, recorded_ret]
  exact (settle_places _).2.2.1.trans (by rw [hret]; exact hclock)

/-- R177: the record of an interrupted fill, with the clock unset. -/
theorem interrupted_unset (hclock : s.ret.clock = none) : s.interrupted p x =
    { txn := x.txn, pos := p, pclass := (s.posRow p).pclass, kind := x.kind, reference := x.reference
      account := x.account, start := x.start.getD 0, endTime := 0, required := (s.posRow p).required
      final := (s.posRow p).required, reRates := 0, link := .none, fillMass := x.fill / 1000
      billed := min (x.fill / 1000) x.cap, afterRun := x.afterRun / 1000, unattr := x.unattr / 1000
      price := x.price, amount := (min (x.fill / 1000) x.cap * x.price + 50000) / 100000, reason := none
      interrupted := true, mismatch := false, unchecked := true, timeUnset := true, uncertain := false } := by
  rw [State.interrupted, hclock]
  simp only [Option.isNone_none, Bool.or_true]
  rfl

theorem interruptedFill_records : (dropStray (interruptedFill p x s)).ret.records =
    s.ret.records ++ [s.interrupted p x] := by
  rw [dropStray, updRet_ret, interruptedFill_ret, recorded_ret]
  exact congrArg (· ++ [s.interrupted p x]) (settle_places _).1

theorem interruptedFill_clock : (dropStray (interruptedFill p x s)).ret.clock = s.ret.clock := by
  rw [dropStray, updRet_ret, interruptedFill_ret, recorded_ret]
  exact (settle_places _).2.2.1

theorem interruptedFill_mail : (dropStray (interruptedFill p x s)).mail = s.mail := by
  rw [dropStray, updRet_mail, interruptedFill, notice_mail]
  exact (settle_others _ _).1

theorem interruptedFill_accounts : (dropStray (interruptedFill p x s)).ret.accounts =
    (settle (x.settlement p) s).ret.accounts.map (Option.map (fun a => { a with holds := [] })) := by
  rw [dropStray, updRet_ret, interruptedFill_ret, recorded_ret]

theorem interruptedFill_sameRing {t : State} (h : State.SameRing (settle (x.settlement p) s) t) :
    State.SameRing (dropStray (interruptedFill p x s))
      (notice .recordReady p.num (u4 x.txn ++ (u1 (s.ret.records.length + 1) ++ u1 (s.reservations - 1))) t) := by
  have hrecorded : State.SameRing (recorded (s.interrupted p x) (settle (x.settlement p) s)) t :=
    ⟨h.rif, h.tables, h.latch⟩
  have hnotice := notice_congr hrecorded .recordReady p.num
    (u4 x.txn ++ (u1 (s.ret.records.length + 1) ++ u1 (s.reservations - 1)))
  exact ⟨hnotice.rif, hnotice.tables, hnotice.latch⟩

/-- R162, R169: the accounts after a debit, with every hold dropped. -/
theorem debited_accounts {accounts : List (Option Account)} {i amount billed : Nat}
    (hused : ∀ n ∈ (accounts.filterMap id).map Account.used, n + billed < 2 ^ 32) :
    (accounts.map (Option.map (fun a => if a.id = i then debit p amount billed a else a))).map
      (Option.map (fun a => { a with holds := [] })) =
    accounts.map (Option.map (fun a =>
      if a.id = i then { a with balance := a.balance - amount, used := a.used + billed, holds := [] }
      else { a with holds := [] })) := by
  rw [List.map_map]
  refine List.map_congr_left fun o ho => ?_
  cases o with
  | none => rfl
  | some a =>
    have hfit : a.used + billed < 2 ^ 32 :=
      hused _ (List.mem_map.mpr ⟨a, List.mem_filterMap.mpr ⟨some a, ho, rfl⟩, rfl⟩)
    by_cases hi : a.id = i
    · simp [hi, debit, dropHold, hold32_of_lt hfit]
    · simp [hi]

end Interrupted

/-! ### The obligation -/

section Obligation

variable {tb : Tables} {r : Retained} {l : Lines} {s : State}

/-- The state whose CLOSEs a restart queues (R19). -/
def comingUp (tb : Tables) (l : Lines) (s : State) : State :=
  { s with
    tables := tb.restart, rif := Rif.start (240 + l.straps.val)
    smc := ⟨restartMode tb.restart, none, 0, none, none, false⟩ }

theorem closedUp_comingUp : State.SameRing (closedUp tb r l s) (closeAll (comingUp tb l s)) :=
  closedUp_sameRing ⟨rfl, rfl, rfl⟩

theorem resumed_runSeconds {f : CauseFlags} {x : Option TripCause} (h : s.ret.runSeconds + l.downSeconds < 2 ^ 32) :
    (resumed l s f x).runSeconds = s.ret.runSeconds + l.downSeconds := hold32_of_lt h

theorem resumed_clock_unset {f : CauseFlags} {x : Option TripCause} (h : s.ret.clock = none) :
    (resumed l s f x).clock = none := by
  rw [resumed, Retained.elapse]
  exact congrArg (Option.map _) h

theorem resumed_clock_set {f : CauseFlags} {x : Option TripCause} {n : Nat} (h : s.ret.clock = some n)
    (hn : n + l.downSeconds < 2 ^ 32) : (resumed l s f x).clock = some (n + l.downSeconds) := by
  rw [resumed, Retained.elapse]
  exact (congrArg (Option.map _) h).trans (congrArg some (hold32_of_lt hn))

/-- R169: what the settlement of an interrupted fill reads of the state brought up. -/
theorem closedUp_reads (p : Pos) (f : CauseFlags) (x : Option TripCause) (hclock : s.ret.clock = none) :
    let w := closedUp s.tables (resumed l s f x) l s
    w.ret.clock = none ∧ w.posRow p = s.tables.position.active.get p ∧ w.ret.records = s.ret.records
      ∧ w.ret.accounts = s.ret.accounts ∧ w.reservations = s.reservations := by
  intro w
  have hw : w = _ := closedUp_onlyRif
  refine ⟨?_, ?_, ?_, ?_, ?_⟩
  · rw [hw]
    exact resumed_clock_unset (f := f) (x := x) hclock
  · rw [State.posRow, hw]
    rfl
  · rw [hw]
    rfl
  · rw [hw]
    rfl
  · unfold State.reservations
    rw [hw]
    rfl

end Obligation

end Sys2Proof.Machine

namespace Sys2Proof

open Sys2Proof.Machine

/-- Settles O60: each restart as its tables and its retained domain brought up, then the interrupted fill, the day and
the trip loop. -/
theorem restarts : Obligations.Restarts := by
  unfold Obligations.Restarts
  refine ⟨fun l s hloop hclock hsnap hhist hrun => ?_, fun n c l s hloop hc hclock hsnap hrun hn => ?_,
    fun l s hloop hclock hsnap => ?_, fun p x c l s hx hothers hres hc hloop hclock hkind hused hcap => ?_,
    fun p x c l s hx hothers hres hclock hkind hc => ?_⟩
  · intro up kept last
    have hup : ∀ (c : Instr) (tb : Tables) (r : Retained), exec c s = .next (restart tb r l s) → r.clock = none →
        (∀ p, r.snapshots.get p = none) → up c tb.restart r.flags r.lastTrip r.runSeconds := by
      intro c tb r hexec hr hs
      have ht := cameUp_quiet (tb := tb) (r := r) (l := l) (s := s)
      rw [← beforeLoop_quiet hr hs, ← restart_closed hloop] at ht
      obtain ⟨hfil, hmtr, hbil, hcmp, hpcl, hmail, horder, hpending⟩ := ht.units
      exact ⟨_, hexec, ht.tables, ht.flags, ht.lastTrip, ht.clock.trans hr, ht.runSeconds, ht.bq, ht.smc,
        ht.pins.trans (by rw [hloop]; rfl), ht.sig, hfil, hmtr, hbil, hcmp, hpcl, hmail, horder, hpending, ht.banks,
        ht.reservations, ht.ring.rif.trans closedUp_comingUp.rif⟩
    have hheld : ∀ (c : Instr) (f : CauseFlags) (x : Option TripCause),
        exec c s = .next (restart s.tables (resumed l s f x) l s) →
        up c s.tables.restart f x (s.ret.runSeconds + l.downSeconds) := by
      intro c f x hexec
      have h := hup c s.tables (resumed l s f x) hexec (resumed_clock_unset hclock) hsnap
      rwa [resumed_runSeconds hrun] at h
    refine ⟨hheld _ _ _ rfl, hup _ Tables.dflt retainLost rfl rfl fun p => PerPos.get_all _ _,
      hheld _ _ _ (congrArg Host.Outcome.next (supplyDip_eq l s)), fun hreset =>
      hheld _ _ _ (running_of_eq hreset (commandRestart_eq l s))⟩
  · intro tb now day shut
    obtain ⟨f, y, hexec⟩ := exec_held l s hc
    let r : Retained := resumed l s f y
    let u : State := dropStray (closedUp s.tables r l s)
    have hclock' : r.clock = some (n + l.downSeconds) := resumed_clock_set hclock hn
    have hrun' : r.runSeconds = now := resumed_runSeconds hrun
    have hret : (closedUp s.tables r l s).ret = { r with history := r.history.filter (young r.runSeconds) } := by
      rw [closedUp_onlyRif]
    have hu : u.ret = { r with
        history := r.history.filter (young r.runSeconds), reserved := .all false, snapshots := .all none
        accounts := r.accounts.map (Option.map (fun a => { a with holds := [] })) } := by
      change (dropStray (closedUp s.tables r l s)).ret = _
      rw [dropStray, updRet_ret, hret]
    have hclk : u.ret.clock = some (n + l.downSeconds) := by rw [hu]; exact hclock'
    have hring : State.SameRing u shut := by
      have h := closedUp_comingUp (tb := s.tables) (r := r) (l := l) (s := s)
      exact ⟨h.rif, h.tables, h.latch⟩
    have hroll : u.tariff.rollover = tb.tariff.active.rollover := by
      rw [State.tariff, hring.tables, closeAll_tables]
    have hbefore : beforeLoop s.tables r l s = checkDay u := by
      rw [beforeLoop_eq, settleSnapshots_none fun p => by rw [hret]; exact hsnap p]
    have hstart := hexec.trans (congrArg Host.Outcome.next ((restart_closed hloop).trans hbefore))
    have hheld : u.ret.heldDay = s.ret.heldDay := by rw [hu]; rfl
    by_cases hday : s.ret.heldDay = some day
    · have hsame := checkDay_of_same hclk (by rw [hheld, hroll]; exact hday)
      refine ⟨u, hstart.trans (congrArg _ hsame), hclk, by rw [hu]; exact hrun', ?_, hheld.trans hday,
        fun _ => ⟨hring.rif, by rw [hu]; rfl⟩, fun h => absurd hday h⟩
      rw [hu, hrun']
      rfl
    · have hother := checkDay_of_other hclk (by rw [hheld, hroll]; exact hday)
      have hrollover : (rollover day u).ret = { u.ret with
          heldDay := some day
          accounts := u.ret.accounts.map (fun o => o.map (fun a => { a with used := 0 })) } := noticeTo_ret _ _ _ _ _
      rw [hroll] at hother
      refine ⟨rollover day u, hstart.trans (congrArg _ hother), by rw [hrollover]; exact hclk,
        by rw [hrollover, hu]; exact hrun', ?_, by rw [hrollover], fun h => absurd h hday, fun _ => ⟨?_, ?_⟩⟩
      · rw [hrollover, hu, hrun']
        rfl
      · have hcleared : State.SameRing (updRet (fun k => { k with
            heldDay := some day
            accounts := k.accounts.map (fun o => o.map (fun a => { a with used := 0 })) }) u) shut :=
          ⟨hring.rif, hring.tables, hring.latch⟩
        exact (notice_congr hcleared _ _ _).rif
      · rw [hrollover, hu]
        simp only [List.map_map]
        exact List.map_congr_left fun o _ => by cases o <;> rfl
  · intro up
    have hup : ∀ (c : Instr) (tb : Tables) (r : Retained), exec c s = .next (restart tb r l s) → r.clock = none →
        (∀ p, r.snapshots.get p = none) → up c tb.restart := by
      intro c tb r hexec hr hs
      let shut : State := closeAll (comingUp tb l s)
      let set : Smc := { (comingUp tb l s).smc with latch := some ⟨.loop, none⟩ }
      have ht := cameUp_quiet (tb := tb) (r := r) (l := l) (s := s)
      rw [← beforeLoop_quiet hr hs] at ht
      have hclk := ht.clock.trans hr
      have hleaves := (restart_open (tb := tb) (r := r) (s := s) hloop).trans (setLatch_leaves .loop)
      have hring : State.SameRing (beforeLoop tb r l s) shut :=
        ⟨ht.ring.rif.trans closedUp_comingUp.rif, ht.ring.tables.trans closedUp_comingUp.tables,
          ht.ring.latch.trans closedUp_comingUp.latch⟩
      have hlatch : State.SameRing (latching .loop (beforeLoop tb r l s)) { shut with smc := set } := by
        refine ⟨hring.rif, hring.tables, ?_⟩
        rw [latching, hclk]
      refine ⟨_, hexec, ?_, ?_, ?_, restart_open_rif hloop hclk hlatch⟩ <;> rw [hleaves]
      · rw [ht.smc, hclk]
      · rw [ht.pins, hloop]
      · exact congrArg (· ++ tripMessages) ht.units.2.2.2.2.2.1
    have hheld : ∀ (c : Instr) (f : CauseFlags) (x : Option TripCause),
        exec c s = .next (restart s.tables (resumed l s f x) l s) → up c s.tables.restart :=
      fun c f x hexec => hup c s.tables (resumed l s f x) hexec (resumed_clock_unset hclock) hsnap
    exact ⟨hheld _ _ _ rfl, hup _ Tables.dflt retainLost rfl rfl fun p => PerPos.get_all _ _,
      hheld _ _ _ (congrArg Host.Outcome.next (supplyDip_eq l s)), fun hreset =>
      hheld _ _ _ (running_of_eq hreset (commandRestart_eq l s))⟩
  · intro row billed amount
    obtain ⟨f, y, hexec⟩ := exec_held l s hc
    have hfill := beforeLoop_interrupted (tb := s.tables) (r := resumed l s f y) (l := l) (s := s)
      (resumed_clock_unset hclock) hx hothers hres
    obtain ⟨hwclock, hrow, hrecords, haccounts, hplaces⟩ := closedUp_reads (l := l) p f y hclock
    let w : State := closedUp s.tables (resumed l s f y) l s
    have hsettle : settle (x.settlement p) w = updAccount x.account (debit p amount billed) w :=
      settle_of_fleet hkind
    have hring : State.SameRing (settle (x.settlement p) w) (closeAll (comingUp s.tables l s)) := by
      rw [hsettle]
      exact ⟨closedUp_comingUp.rif, closedUp_comingUp.tables, closedUp_comingUp.latch⟩
    refine ⟨_, hexec.trans (congrArg _ ((restart_closed hloop).trans hfill)), ?_, ?_, dropStray_reservations,
      dropStray_snapshots, ?_⟩
    · rw [interruptedFill_records, hrecords, interrupted_unset hwclock, hrow, hkind]
    · rw [interruptedFill_accounts, hsettle, updAccount, updRet_ret, haccounts]
      exact debited_accounts fun n hn => lt_of_le_of_lt
        (Nat.add_le_add_left ((Nat.min_le_right _ _).trans hcap) n) (hused n hn)
    · rw [(interruptedFill_sameRing hring).rif, hrecords, hplaces, List.append_assoc]
      rfl
  · intro tb row billed amount on told
    obtain ⟨f, y, hexec⟩ := exec_held l s hc
    have hfill := beforeLoop_interrupted (tb := s.tables) (r := resumed l s f y) (l := l) (s := s)
      (resumed_clock_unset hclock) hx hothers hres
    obtain ⟨hwclock, hrow, hrecords, haccounts, hplaces⟩ := closedUp_reads (l := l) p f y hclock
    let w : State := closedUp s.tables (resumed l s f y) l s
    have hsettle : settle (x.settlement p) w = noticeTo x.node .fillEnd p.num
        (u4 x.txn ++ u4 x.reference ++ u4 billed ++ u4 amount ++ uFlag false) w := settle_of_card hkind
    have hring : State.SameRing (settle (x.settlement p) w) (noticeTo x.node .fillEnd p.num
        (u4 x.txn ++ u4 x.reference ++ u4 billed ++ u4 amount ++ uFlag false) (closeAll (comingUp s.tables l s))) := by
      rw [hsettle]
      exact noticeTo_congr closedUp_comingUp _ _ _ _
    have htold : State.SameRing (beforeLoop s.tables (resumed l s f y) l s) told := by
      have h := interruptedFill_sameRing hring
      rw [hrecords, hplaces, ← List.append_assoc] at h
      rw [hfill]
      exact h
    have hret : ∀ t : State, t.ret = (beforeLoop s.tables (resumed l s f y) l s).ret →
        t.ret.records = s.ret.records ++ [w.interrupted p x]
        ∧ t.ret.accounts = s.ret.accounts.map (Option.map (fun a => { a with holds := [] }))
        ∧ t.reservations = 0 ∧ ∀ q, t.ret.snapshots.get q = none := by
      intro t ht
      unfold State.reservations
      rw [ht, hfill, interruptedFill_records, interruptedFill_accounts, settle_of_card_ret hkind, hrecords, haccounts]
      exact ⟨rfl, rfl, dropStray_reservations, dropStray_snapshots⟩
    rw [interrupted_unset hwclock, hrow, hkind] at hret
    have hclk : (beforeLoop s.tables (resumed l s f y) l s).ret.clock = none := by
      rw [hfill, interruptedFill_clock]
      exact hwclock
    cases hloop : l.loopOpen with
    | false =>
      obtain ⟨h1, h2, h3, h4⟩ := hret _ rfl
      rw [← restart_closed hloop] at h1 h2 h3 h4 htold
      refine ⟨_, hexec, h1, h2, h3, h4, fun _ => ⟨htold.rif, ?_⟩, nofun⟩
      rw [restart_closed hloop, hfill, interruptedFill_mail, closedUp_onlyRif]
      rfl
    | true =>
      have hopen := (restart_open (tb := s.tables) (r := resumed l s f y) (s := s) hloop).trans (setLatch_leaves .loop)
      obtain ⟨h1, h2, h3, h4⟩ := hret (restart s.tables (resumed l s f y) l s) (by rw [hopen])
      refine ⟨_, hexec, h1, h2, h3, h4, nofun, fun _ => ⟨by rw [hopen], restart_open_rif hloop hclk ⟨htold.rif, htold.tables, ?_⟩⟩⟩
      rw [latching, hclk]

end Sys2Proof
end

section
/-! Vehicle data at a fill and the vehicle link (R124 to R127). -/

namespace Sys2Proof.Machine

open Sys2Proof

/-! ### The link -/

section Linking

variable {p : Pos} {s : State} {f : VehicleFields}

/-- R125: the mismatch timer after a judgement of the tank pressure against the nozzle pressure. -/
def mismatchAfter (k : FillParams) (tank nozzle : Int) (old : Option Nat) : Option Nat :=
  if (tank - nozzle).natAbs ≤ k.mismatchTol then none
  else if old = none then some (10 * k.mismatchTime)
  else old

theorem judgeMismatch_linked {tank : Int} (hl : (s.ctx p).link = .established)
    (ht : (s.record (.vehicle p)).vehicle.pressure = some tank) : judgeMismatch p s =
      updTimers p (fun t => { t with mismatch := mismatchAfter (s.params p) tank (s.nozzle p) t.mismatch }) s := by
  rw [judgeMismatch, hl, ht]
  simp only
  refine updCtx_of_eq _ _ _ ?_
  by_cases hfar : (tank - s.nozzle p).natAbs ≤ (s.params p).mismatchTol
  · simp [mismatchAfter, hfar]
  · cases ho : (s.ctx p).timers.mismatch <;>
      simp [mismatchAfter, hfar, not_le.mp hfar, ho, startSeconds]

/-- R125: an established link, its timer started again and the pressures judged. -/
def Ctx.linked (k : FillParams) (tank nozzle : Int) (c : Ctx) : Ctx :=
  { c with
    link := .established
    timers := { c.timers with
      vehicle := some k.vehTimeout, mismatch := mismatchAfter k tank nozzle c.timers.mismatch } }

theorem judgeMismatch_kept {tank : Int} (ht : (s.record (.vehicle p)).vehicle.pressure = some tank) :
    judgeMismatch p (keepLink p s) = updCtx p (Ctx.linked (s.params p) tank (s.nozzle p)) s := by
  have hctx : (keepLink p s).ctx p =
      { s.ctx p with
        link := .established
        timers := { (s.ctx p).timers with vehicle := startTimer (s.params p).vehTimeout } } := updCtx_ctx_same _ _ _
  have hk : (keepLink p s).params p = s.params p := params_congr rfl (by rw [hctx])
  have hn : (keepLink p s).nozzle p = s.nozzle p := rfl
  rw [judgeMismatch_linked (by rw [hctx]) (by exact ht), hk, hn]
  exact updCtx_updCtx _ _ _ _

/-- R125: the link dropped. -/
def Ctx.unlinked (cap : Nat) (c : Ctx) : Ctx :=
  { c with
    link := .dropped
    selection := c.selection.map (fun x => { x with pEnd := min x.pEnd cap })
    timers := { c.timers with vehicle := none, mismatch := none } }

theorem dropLink_eq (d : DropCause) : dropLink p d s = updCtx p (Ctx.unlinked (s.params p).nonCommCap)
    { s with rif := (notice .linkDropped p.num (u1 d.num) s).rif } := by
  rw [dropLink]
  simp only
  rw [notice_updCtx, notice_onlyRif]
  rfl

/-- R125: the limit at which a drop ends the fill. -/
def State.dropLimit (s : State) (p : Pos) : Nat :=
  match (s.ctx p).selection with
  | some y => min y.pEnd (s.params p).nonCommCap
  | none => (s.params p).nonCommCap

theorem dropCompletes_unlinked {v : State} (hctx : (v.ctx p).selection =
      ((s.ctx p).unlinked (s.params p).nonCommCap).selection) (hk : v.params p = s.params p)
    (hn : v.nozzle p = s.nozzle p) : v.dropCompletes p = decide ((s.dropLimit p : Int) ≤ s.nozzle p) := by
  rw [State.dropCompletes, hctx, hk, hn, State.dropLimit, Ctx.unlinked]
  cases (s.ctx p).selection <;> rfl

/-- R124: an arrival that is consistent, as its fields and the position's class stand. -/
theorem isConsistent_pressure {k : PClass} (h : isConsistent f k = true) : ∃ pr, f.pressure = some pr := by
  have hp : f.pressure.isSome = true := by
    simp only [isConsistent, Bool.and_eq_true] at h
    exact h.1.1.2
  exact Option.isSome_iff_exists.mp hp

end Linking

/-! ### An arrival -/

section Arrival

variable {p : Pos} {u : State} {g : Ctx → Ctx} {y : Rif}

/-- R126: the state in which the ends are judged, the link judged by `g` with the ring interface `y`. -/
def arrived (p : Pos) (g : Ctx → Ctx) (y : Rif) (u : State) : State :=
  applyCommand p (u.vehicleOf p) (updCtx p (fun c => { g c with soc := u.socOf p (u.vehicleOf p) }) { u with rif := y })

/-- R125: the link is dropped by this arrival. -/
def dropsBy (p : Pos) (g : Ctx → Ctx) (u : State) : Bool :=
  (u.ctx p).link == .established && (g (u.ctx p)).link == .dropped

theorem vehicleData_out (h : (u.ctx p).state.running = false) : vehicleData p u = u := by
  rw [vehicleData, h]
  rfl

theorem vehicleData_judged (hrun : (u.ctx p).state.running = true)
    (hj : judgeLink p u = updCtx p g { u with rif := y }) :
    ((arrived p g y u).vehicleEnd p (u.vehicleOf p) (dropsBy p g u) = none →
      vehicleData p u = followCauses p (arrived p g y u))
    ∧ ∀ r, (arrived p g y u).vehicleEnd p (u.vehicleOf p) (dropsBy p g u) = some r →
      vehicleData p u = endFill p r (arrived p g y u) := by
  have hlink : ((updCtx p g { u with rif := y }).ctx p).link = (g (u.ctx p)).link := by
    rw [updCtx_ctx_same]
    rfl
  have harrived : applyCommand p (u.vehicleOf p) (updCtx p (fun c =>
      { c with soc := (updCtx p g { u with rif := y }).socOf p (u.vehicleOf p) }) (updCtx p g { u with rif := y })) =
      arrived p g y u := by
    rw [updCtx_updCtx]
    rfl
  refine ⟨fun hnone => ?_, fun r hsome => ?_⟩ <;> rw [vehicleData, if_neg (by simp [hrun])] <;>
    simp only [hj, hlink, harrived] <;> rw [← dropsBy]
  · rw [hnone]
  · rw [hsome]

/-- R124: a link that is not looked for is left as it is. -/
theorem judgeLink_idle (h : (u.ctx p).link = .none ∨ (u.ctx p).link = .dropped) :
    judgeLink p u = updCtx p (fun c => c) { u with rif := u.rif } := by
  rw [updCtx_self _ _ _ rfl, judgeLink]
  rcases h with h | h <;> rw [h]

theorem judgeLink_kept {tank : Int} (h : (u.ctx p).link = .established)
    (hgood : isConsistent (u.vehicleOf p) (u.posRow p).pclass = true)
    (ht : (u.vehicleOf p).pressure = some tank) :
    judgeLink p u = updCtx p (Ctx.linked (u.params p) tank (u.nozzle p)) { u with rif := u.rif } := by
  rw [judgeLink, h]
  simp only [hgood, if_true]
  exact judgeMismatch_kept ht

theorem judgeLink_dropped (h : (u.ctx p).link = .established)
    (hbad : isConsistent (u.vehicleOf p) (u.posRow p).pclass = false) :
    judgeLink p u = updCtx p (Ctx.unlinked (u.params p).nonCommCap)
      { u with rif := (notice .linkDropped p.num (u1 0) u).rif } := by
  rw [judgeLink, h]
  simp only [hbad, Bool.false_eq_true, if_false]
  exact dropLink_eq .inconsistent

/-- R124: an arrival counted, or the count begun again. -/
theorem judgeLink_counts {n : Nat} (h : (u.ctx p).link = .pending) (hn : n < 2)
    (hcount : (if isConsistent (u.vehicleOf p) (u.posRow p).pclass then (u.ctx p).consistent + 1 else 0) = n) :
    judgeLink p u = updCtx p (fun c => { c with consistent := n }) { u with rif := u.rif } := by
  rw [judgeLink, h]
  simp only [hcount]
  exact if_neg (by omega)

/-- R124: the second consistent arrival in a row. -/
theorem judgeLink_establishes {tank : Int} (h : (u.ctx p).link = .pending) (hc : (u.ctx p).consistent = 1)
    (hgood : isConsistent (u.vehicleOf p) (u.posRow p).pclass = true)
    (ht : (u.vehicleOf p).pressure = some tank) :
    judgeLink p u = updCtx p (fun c => Ctx.linked (u.params p) tank (u.nozzle p) { c with consistent := 2 })
      { u with rif := u.rif } := by
  have hk : (updCtx p (fun c => { c with consistent := 2 }) u).params p = u.params p :=
    params_congr rfl (by rw [updCtx_ctx_same])
  have hn : (updCtx p (fun c => { c with consistent := 2 }) u).nozzle p = u.nozzle p := rfl
  rw [judgeLink, h]
  simp only [hgood, if_true, hc]
  rw [judgeMismatch_kept (s := updCtx p (fun c => { c with consistent := 2 }) u) ht, updCtx_updCtx, hk, hn]
  exact if_pos (by omega)

end Arrival

/-! ### The causes after an arrival -/

section Causes

variable {p : Pos} {u : State} {g : Ctx → Ctx} {y : Rif}

/-- R126: the context after an arrival that leaves no cause of a pause. -/
def Ctx.cleared (soc : Option Nat) (c : Ctx) : Ctx :=
  { c with soc := soc, halt := false, signal := false, timers := { c.timers with pause := none } }

theorem arrived_clear (hg : (g (u.ctx p)).category = (u.ctx p).category) (hlost : u.signalLost p = false)
    (hh : haltAfter (g (u.ctx p)).halt (u.vehicleOf p).command = false) :
    arrived p g y u = updCtx p (fun c => (g c).cleared (u.socOf p (u.vehicleOf p))) { u with rif := y } := by
  let w : State := updCtx p (fun c => { g c with soc := u.socOf p (u.vehicleOf p) }) { u with rif := y }
  have hctx : w.ctx p = { g (u.ctx p) with soc := u.socOf p (u.vehicleOf p) } := updCtx_ctx_same _ _ _
  have hlost' : w.signalLost p = false :=
    (signalLost_congr (t := w) (s := u) rfl rfl (by rw [hctx]; exact hg)).trans hlost
  have hset := setCauses_clear (s := w) (halt := haltAfter (w.ctx p).halt (u.vehicleOf p).command)
    (by rw [hctx]; exact hh) hlost'
  exact hset.trans (updCtx_updCtx _ _ _ _)

/-- R126, R127: no end is met. -/
theorem vehicleEnd_none {f : VehicleFields} {d : Bool} (ht : overTemp (u.params p).tankTempMax f = false)
    (ha : f.command ≠ some .abort) (hs : socComplete (u.params p).socLimit (u.ctx p) = false)
    (hd : (d && u.dropCompletes p) = false) : u.vehicleEnd p f d = none := by
  simp [State.vehicleEnd, ht, ha, hs, hd]

theorem vehicleEnd_hot {f : VehicleFields} {d : Bool} (ht : overTemp (u.params p).tankTempMax f = true) :
    u.vehicleEnd p f d = some .overtemp := by
  simp [State.vehicleEnd, ht]

theorem vehicleEnd_abort {f : VehicleFields} {d : Bool} (ht : overTemp (u.params p).tankTempMax f = false)
    (ha : f.command = some .abort) : u.vehicleEnd p f d = some .vehicleStop := by
  simp [State.vehicleEnd, ht, ha]

theorem vehicleEnd_soc {f : VehicleFields} {d : Bool} (ht : overTemp (u.params p).tankTempMax f = false)
    (ha : f.command ≠ some .abort) (hs : socComplete (u.params p).socLimit (u.ctx p) = true) :
    u.vehicleEnd p f d = some .completeSoc := by
  simp [State.vehicleEnd, ht, ha, hs]

theorem vehicleEnd_dropped {f : VehicleFields} {d : Bool} (ht : overTemp (u.params p).tankTempMax f = false)
    (ha : f.command ≠ some .abort) (hs : socComplete (u.params p).socLimit (u.ctx p) = false)
    (hd : (d && u.dropCompletes p) = true) : u.vehicleEnd p f d = some .completePressure := by
  simp [State.vehicleEnd, ht, ha, hs, hd]

theorem socComplete_unlinked {n : Nat} {c : Ctx} (h : c.link ≠ .established) : socComplete n c = false := by
  unfold socComplete
  split
  · simp [h]
  · rfl

/-- R123: a stage that no cause stops goes on. -/
theorem followCauses_on (hc : (u.ctx p).caused = false) (hst : (u.ctx p).state ≠ .paused) : followCauses p u = u := by
  rw [followCauses, if_neg (by simp [hc]), resumeStage, if_neg hst]

end Causes

/-! ### An end at an arrival -/

section Ends

variable {p : Pos} {r : EndReason} {o v t s : State}

/-- An end overwrites the charge and the timers, and the ring interface and the records are not part of it. -/
theorem FillEnded.of_similar (h : FillEnded p r v t) (hctx : ∃ w k, v.ctx p = { o.ctx p with soc := w, timers := k })
    (hv : ∃ x z, { o with fil := v.fil, rif := x, sig := z } = v) (hothers : ∀ q, q ≠ p → v.ctx q = o.ctx q) :
    FillEnded p r o { t with sig := o.sig } := by
  obtain ⟨x, z, hrest⟩ := hv
  obtain ⟨w, k, hctx⟩ := hctx
  have hended : v.endedCtx p r [] = o.endedCtx p r [] := by
    have hret : v.ret = o.ret := by rw [← hrest]
    have hrow : v.posRow p = o.posRow p := by rw [← hrest]; rfl
    simp only [State.endedCtx, hctx, hret, hrow]
  have hfrom : (v.ctx p).fromMain = (o.ctx p).fromMain := by rw [hctx]; rfl
  have hwait : (v.ctx p).waitOn = (o.ctx p).waitOn := by rw [hctx]
  constructor
  case context => exact h.context.trans (by rw [hended]; rfl)
  case others => exact fun q hq => (h.others q hq).trans (hothers q hq)
  case told => exact h.told.trans (by rw [hfrom, ← hrest])
  case admission => exact h.admission.trans (by rw [← hrest])
  case lists =>
    refine h.lists.trans ?_
    rw [hwait, ← hrest]
    rfl
  case output =>
    refine h.output.trans ?_
    rw [hwait, ← hrest]
  case rest =>
    obtain ⟨h1, h2, -, h4, h5, h6, h7, h8⟩ := h.rest
    rw [← hrest] at h1 h2 h4 h5 h6 h7 h8
    exact ⟨h1, h2, rfl, h4, h5, h6, h7, h8⟩

theorem FillEnded.of_similar_here (h : FillEnded p r v t)
    (hctx : ∃ w k, v.ctx p = { o.ctx p with soc := w, timers := k }) (hv : ∃ x, { o with fil := v.fil, rif := x } = v)
    (hothers : ∀ q, q ≠ p → v.ctx q = o.ctx q) : FillEnded p r o t := by
  obtain ⟨x, hx⟩ := hv
  have hsig : t.sig = o.sig := h.rest.2.2.1.trans (congrArg State.sig hx).symm
  have hended := h.of_similar hctx ⟨x, o.sig, hx⟩ hothers
  rwa [← hsig] at hended

/-- R126, R128: an end at an arrival, with the link and the causes judged by `G`. -/
theorem arrival_ends {G H : Ctx → Ctx} {x : Rif} {z : List (Role × SigRec)}
    (hend : (H (s.ctx p)).state.endable = true) (hs : s.sourceless p) (hsrc : (H (s.ctx p)).source = none)
    (hG : ∃ w k, G (s.ctx p) = { H (s.ctx p) with soc := w, timers := k }) :
    FillEnded p r (updCtx p H s)
      { endFill p r (updCtx p G { s with rif := x, sig := z }) with sig := (updCtx p H s).sig }
    ∧ (endFill p r (updCtx p G { s with rif := x, sig := z })).rif =
      (close (.controlValve p) (close (.dispenseValve p) { s with rif := x })).rif
    ∧ ((endFill p r (updCtx p G { s with rif := x, sig := z })).ctx p).faultMark = (H (s.ctx p)).faultMark
    ∧ ((endFill p r (updCtx p G { s with rif := x, sig := z })).ctx p).faultCause = (H (s.ctx p)).faultCause := by
  obtain ⟨w, k, hG⟩ := hG
  let v : State := updCtx p G { s with rif := x, sig := z }
  have hv : v.ctx p = { H (s.ctx p) with soc := w, timers := k } := (updCtx_ctx_same _ _ _).trans hG
  have ho : (updCtx p H s).ctx p = H (s.ctx p) := updCtx_ctx_same _ _ _
  have hdry : v.sourceless p := ⟨by rw [hv]; exact hsrc, hs.noBank, hs.noOutput, hs.window⟩
  have hends : endFill p r v = _ := endFill_sourceless (s := v) (by rw [hv]; exact hend) hdry
  have hring : State.SameRing v { s with rif := x } := ⟨rfl, rfl, rfl⟩
  refine ⟨?_, ?_, ?_, ?_⟩
  · refine FillEnded.of_similar (v := v) (hends ▸ fillEnded_endOut (v.ctx p)) ⟨w, k, hv.trans (by rw [ho])⟩ ⟨x, z, rfl⟩
      fun q hq => ?_
    rw [updCtx_ctx_ne _ _ hq, updCtx_ctx_ne _ _ hq]
    rfl
  · rw [hends, endOut_rif_dry]
    exact (close_congr (close_congr hring _) _).rif
  · rw [hends, endOut_ctx_same, State.endedCtx, hv]
  · rw [hends, endOut_ctx_same, State.endedCtx, hv]

end Ends

end Sys2Proof.Machine
end

section
/-! The vehicle's part in a fill (R17, R31, R123 to R127). O44 follows. -/

namespace Sys2Proof.Machine

open Sys2Proof

/-! ### What an arrival reads and leaves -/

section Reads

variable {p : Pos} {x : SigRec} {s u : State} {g : Ctx → Ctx} {y : Rif} {f : VehicleFields}

/-- R17, R18: what a VEHDATA arrival finds. -/
structure Finds (p : Pos) (x : SigRec) (s w : State) : Prop where
  fields : w.vehicleOf p = x.vehicle
  lost : w.signalLost p = s.signalLost p
  nozzle : w.nozzle p = s.nozzle p
  params : w.params p = s.params p

theorem finds (p : Pos) (x : SigRec) (s : State) : Finds p x s (withRecord (.vehicle p) x s) where
  fields := congrArg SigRec.vehicle (withRecord_record_same _ _ _)
  lost := by
    have husable : ∀ r, r ≠ Role.vehicle p → (withRecord (.vehicle p) x s).usable r = s.usable r := fun r hr =>
      withRecord_usable_ne x s hr
    have hhold : ∀ r, (withRecord (.vehicle p) x s).underHold r = s.underHold r := fun _ => rfl
    have hctx : (withRecord (.vehicle p) x s).ctx p = s.ctx p := rfl
    unfold State.signalLost
    rw [hctx]
    split <;> simp [husable, hhold]
  nozzle := withRecord_value_ne x s (by simp)
  params := params_congr rfl rfl

theorem socOf_eq : s.socOf p f = f.pressure.bind (fun pr => f.temp.map (fun te =>
    stateOfCharge s.bq (s.posRow p).pclass pr te)) := by
  unfold State.socOf
  cases f.pressure <;> cases f.temp <;> rfl

theorem overTemp_eq (n : Nat) : overTemp n f = f.temp.any (fun te => decide ((n : Int) ≤ te)) := by
  unfold overTemp
  cases f.temp <;> rfl

theorem haltAfter_eq (h : Bool) (c : Option FillCommand) :
    haltAfter h c = if c = some .halt then true else if c = some .run then false else h := by
  rcases c with _ | (_ | _ | _) <;> rfl

/-- R126: the context after an arrival with its causes. -/
def Ctx.ordered (k : FillParams) (soc : Option Nat) (halt signal : Bool) (c : Ctx) : Ctx :=
  { c with
    soc := soc, halt := halt, signal := signal
    timers := { c.timers with
      pause := if !(halt || signal) then none else if c.caused then c.timers.pause else startSeconds k.pauseLimit } }

theorem arrived_eq (hg : (g (u.ctx p)).category = (u.ctx p).category) (hf : (g (u.ctx p)).fill = (u.ctx p).fill) :
    arrived p g y u = updCtx p (fun c => (g c).ordered (u.params p) (u.socOf p (u.vehicleOf p))
      (haltAfter (g (u.ctx p)).halt (u.vehicleOf p).command) (u.signalLost p)) { u with rif := y } := by
  let w : State := updCtx p (fun c => { g c with soc := u.socOf p (u.vehicleOf p) }) { u with rif := y }
  have hctx : w.ctx p = { g (u.ctx p) with soc := u.socOf p (u.vehicleOf p) } := updCtx_ctx_same _ _ _
  have hlost : w.signalLost p = u.signalLost p :=
    signalLost_congr (t := w) (s := u) rfl rfl (by rw [hctx]; exact hg)
  have hk : w.params p = u.params p := params_congr rfl (by rw [hctx]; exact hf)
  have hset : arrived p g y u = setCauses p (haltAfter (w.ctx p).halt (u.vehicleOf p).command) w := rfl
  rw [hset, setCauses, hlost, hk, hctx]
  simp only
  exact (updCtx_updCtx _ _ _ _).trans (updCtx_of_eq _ _ _ rfl)

/-- What the ends are judged by. -/
theorem arrived_reads (hg : (g (u.ctx p)).category = (u.ctx p).category)
    (hf : (g (u.ctx p)).fill = (u.ctx p).fill) :
    (arrived p g y u).params p = u.params p ∧ (arrived p g y u).nozzle p = u.nozzle p
    ∧ ((arrived p g y u).ctx p).soc = u.socOf p (u.vehicleOf p)
    ∧ ((arrived p g y u).ctx p).link = (g (u.ctx p)).link
    ∧ ((arrived p g y u).ctx p).selection = (g (u.ctx p)).selection := by
  have hctx : (arrived p g y u).ctx p = (g (u.ctx p)).ordered (u.params p) (u.socOf p (u.vehicleOf p))
      (haltAfter (g (u.ctx p)).halt (u.vehicleOf p).command) (u.signalLost p) := by
    rw [arrived_eq hg hf]
    exact updCtx_ctx_same _ _ _
  refine ⟨params_congr ?_ (by rw [hctx]; exact hf), nozzle_congr ?_, by rw [hctx]; rfl, by rw [hctx]; rfl,
    by rw [hctx]; rfl⟩ <;> rw [arrived_eq hg hf] <;> rfl

end Reads

/-! ### An arrival that ends the fill -/

section Ending

variable {p : Pos} {x : SigRec} {s : State} {g : Ctx → Ctx} {r : EndReason}

/-- R126: the causes after an arrival. -/
def orderedBy (p : Pos) (x : SigRec) (s : State) : State :=
  updCtx p (fun c => { c with signal := s.signalLost p, halt := haltAfter c.halt x.vehicle.command }) s

/-- R126, R127: an arrival that meets an end, at a position without a source. -/
theorem filVehdata_ends {k : PosTimers} (hreset : s.smc.inReset = false) (hrun : (s.ctx p).state.running = true)
    (hs : s.sourceless p) (hg : g (s.ctx p) = { s.ctx p with timers := k })
    (hj : judgeLink p (withRecord (.vehicle p) x s) = updCtx p g
      { withRecord (.vehicle p) x s with rif := (withRecord (.vehicle p) x s).rif })
    (hend : (arrived p g s.rif (withRecord (.vehicle p) x s)).vehicleEnd p x.vehicle
      (dropsBy p g (withRecord (.vehicle p) x s)) = some r) :
    ∃ t, exec (.filVehdata p x) s = .next t ∧ FillEnded p r (orderedBy p x s) t
      ∧ t.rif = (close (.controlValve p) (close (.dispenseValve p) s)).rif
      ∧ (t.ctx p).faultMark = (s.ctx p).faultMark ∧ (t.ctx p).faultCause = (s.ctx p).faultCause := by
  have hfind := finds p x s
  have hw : (withRecord (.vehicle p) x s).ctx p = s.ctx p := rfl
  have hends := (vehicleData_judged (u := withRecord (.vehicle p) x s) hrun hj).2 r (by rw [hfind.fields]; exact hend)
  have hgc : (g ((withRecord (.vehicle p) x s).ctx p)).category = ((withRecord (.vehicle p) x s).ctx p).category := by
    rw [hw, hg]
  have hgf : (g ((withRecord (.vehicle p) x s).ctx p)).fill = ((withRecord (.vehicle p) x s).ctx p).fill := by
    rw [hw, hg]
  rw [arrived_eq hgc hgf] at hends
  obtain ⟨hended, hrif, hmark, hcause⟩ := arrival_ends (r := r) (x := s.rif) (z := (withRecord (.vehicle p) x s).sig)
    (s := s)
    (G := fun c => (g c).ordered ((withRecord (.vehicle p) x s).params p)
      ((withRecord (.vehicle p) x s).socOf p ((withRecord (.vehicle p) x s).vehicleOf p))
      (haltAfter (g ((withRecord (.vehicle p) x s).ctx p)).halt ((withRecord (.vehicle p) x s).vehicleOf p).command)
      ((withRecord (.vehicle p) x s).signalLost p))
    (H := fun c => { c with signal := s.signalLost p, halt := haltAfter c.halt x.vehicle.command })
    (by simp [PState.endable, hrun]) hs hs.source ⟨_, _, by
      rw [hw, hg, hfind.lost, hfind.fields]
      rfl⟩
  exact ⟨_, running_of_eq hreset (seeing_of_eq hends), hended, hrif, hmark, hcause⟩

end Ending

/-! ### An arrival that ends nothing -/

section Going

variable {p : Pos} {x : SigRec} {s : State} {g : Ctx → Ctx} {y : Rif}

/-- R31: the charge that an arrival gives. -/
def chargeOf (p : Pos) (x : SigRec) (s : State) : Option Nat := s.socOf p x.vehicle

theorem filVehdata_goes (hreset : s.smc.inReset = false) (hrun : (s.ctx p).state.running = true)
    (hj : judgeLink p (withRecord (.vehicle p) x s) = updCtx p g { withRecord (.vehicle p) x s with rif := y })
    (hend : (arrived p g y (withRecord (.vehicle p) x s)).vehicleEnd p x.vehicle
      (dropsBy p g (withRecord (.vehicle p) x s)) = none) :
    exec (.filVehdata p x) s =
      .next { followCauses p (arrived p g y (withRecord (.vehicle p) x s)) with sig := s.sig } :=
  running_of_eq hreset (seeing_of_eq ((vehicleData_judged (u := withRecord (.vehicle p) x s) hrun hj).1
    (by rw [(finds p x s).fields]; exact hend)))

theorem cleared_of_quiet {c : Ctx} {n : Option Nat} (hh : c.halt = false) (hs : c.signal = false) :
    c.cleared n = { c with soc := n, timers := { c.timers with pause := none } } := by
  simp [Ctx.cleared, hh, hs]

theorem arrived_found (hg : (g (s.ctx p)).category = (s.ctx p).category) (hlost : s.signalLost p = false)
    (hh : haltAfter (g (s.ctx p)).halt x.vehicle.command = false) :
    arrived p g y (withRecord (.vehicle p) x s) =
      updCtx p (fun c => (g c).cleared (chargeOf p x s)) { withRecord (.vehicle p) x s with rif := y } := by
  have hfind := finds p x s
  have h := arrived_clear (p := p) (g := g) (y := y) (u := withRecord (.vehicle p) x s) hg (hfind.lost.trans hlost)
    (by rw [hfind.fields]; exact hh)
  rw [hfind.fields] at h
  exact h

/-- R126: an arrival that meets no end and leaves no cause, in a stage that goes on. -/
theorem filVehdata_quiet (hreset : s.smc.inReset = false) (hrun : (s.ctx p).state.running = true)
    (hst : (g (s.ctx p)).state ≠ .paused) (hlost : s.signalLost p = false)
    (hcommand : x.vehicle.command = some .run) (hg : (g (s.ctx p)).category = (s.ctx p).category)
    (hj : judgeLink p (withRecord (.vehicle p) x s) = updCtx p g { withRecord (.vehicle p) x s with rif := y })
    (hend : (arrived p g y (withRecord (.vehicle p) x s)).vehicleEnd p x.vehicle
      (dropsBy p g (withRecord (.vehicle p) x s)) = none) :
    exec (.filVehdata p x) s =
      .next (updCtx p (fun c => (g c).cleared (chargeOf p x s)) { s with rif := y }) := by
  have harr := arrived_found (y := y) hg hlost (by rw [hcommand]; rfl)
  have hctx : (arrived p g y (withRecord (.vehicle p) x s)).ctx p = (g (s.ctx p)).cleared (chargeOf p x s) := by
    rw [harr]
    exact updCtx_ctx_same _ _ _
  have hon := followCauses_on (u := arrived p g y (withRecord (.vehicle p) x s)) (by rw [hctx]; rfl)
    (by rw [hctx]; exact hst)
  rw [filVehdata_goes hreset hrun hj hend, hon, harr]
  rfl

/-- R126, R127: the ends judged at an arrival with the command RUN and a tank that is not hot. -/
theorem no_end {d : Bool} (hcommand : x.vehicle.command = some .run)
    (hhot : x.vehicle.temp.any (fun te => decide (((s.params p).tankTempMax : Int) ≤ te)) = false)
    (hg : (g (s.ctx p)).category = (s.ctx p).category) (hf : (g (s.ctx p)).fill = (s.ctx p).fill)
    (hsoc : (g (s.ctx p)).link ≠ .established ∨
      (chargeOf p x s).any (fun n => decide ((s.params p).socLimit ≤ n)) = false)
    (hd : (d && (arrived p g y (withRecord (.vehicle p) x s)).dropCompletes p) = false) :
    (arrived p g y (withRecord (.vehicle p) x s)).vehicleEnd p x.vehicle d = none := by
  have hfind := finds p x s
  obtain ⟨hk, -, hcharge, hlink, -⟩ := arrived_reads (p := p) (g := g) (y := y) (u := withRecord (.vehicle p) x s) hg hf
  refine vehicleEnd_none (by rw [hk, hfind.params, overTemp_eq]; exact hhot) (by simp [hcommand]) ?_ hd
  rcases hsoc with hsoc | hsoc
  · exact socComplete_unlinked (by rw [hlink]; exact hsoc)
  · have hsame : (withRecord (.vehicle p) x s).socOf p ((withRecord (.vehicle p) x s).vehicleOf p) = chargeOf p x s := by
      rw [hfind.fields]
      rfl
    unfold socComplete
    rw [hcharge, hsame, hk, hfind.params]
    revert hsoc
    cases chargeOf p x s with
    | none => exact fun _ => rfl
    | some n => simpa using fun h _ => h

end Going

/-! ### A link dropped by an arrival -/

section Losing

variable {p : Pos} {x : SigRec} {s : State}

/-- R125: the ring interface after NOTICE LINK-DROPPED at an inconsistent arrival. -/
def droppedRif (p : Pos) (s : State) : Rif := (notice .linkDropped p.num (u1 0) s).rif

theorem judgeLink_loses (hl : (s.ctx p).link = .established)
    (hbad : isConsistent x.vehicle (s.posRow p).pclass = false) :
    judgeLink p (withRecord (.vehicle p) x s) = updCtx p (Ctx.unlinked (s.params p).nonCommCap)
      { withRecord (.vehicle p) x s with rif := droppedRif p s } := by
  have hfind := finds p x s
  have hring : State.SameRing (withRecord (.vehicle p) x s) s := ⟨rfl, rfl, rfl⟩
  have h := judgeLink_dropped (p := p) (u := withRecord (.vehicle p) x s) hl (by rw [hfind.fields]; exact hbad)
  rwa [hfind.params, (notice_congr hring _ _ _).rif] at h

theorem arrived_loses {y : Rif} :
    (arrived p (Ctx.unlinked (s.params p).nonCommCap) y (withRecord (.vehicle p) x s)).dropCompletes p =
      decide ((s.dropLimit p : Int) ≤ s.nozzle p) := by
  have hfind := finds p x s
  obtain ⟨hk, hn, -, -, hsel⟩ := arrived_reads (p := p) (g := Ctx.unlinked (s.params p).nonCommCap) (y := y)
    (u := withRecord (.vehicle p) x s) rfl rfl
  exact dropCompletes_unlinked hsel (hk.trans hfind.params) (hn.trans hfind.nozzle)

/-- R125, R127: a drop at an arrival that completes the fill. -/
theorem filVehdata_completes (hreset : s.smc.inReset = false) (hrun : (s.ctx p).state.running = true)
    (hs : s.sourceless p) (hl : (s.ctx p).link = .established) (hlost : s.signalLost p = false)
    (hh : (s.ctx p).halt = false) (hsig : (s.ctx p).signal = false) (hcommand : x.vehicle.command = some .run)
    (hhot : x.vehicle.temp.any (fun te => decide (((s.params p).tankTempMax : Int) ≤ te)) = false)
    (hbad : isConsistent x.vehicle (s.posRow p).pclass = false) (hn : (s.dropLimit p : Int) ≤ s.nozzle p) :
    ∃ t, exec (.filVehdata p x) s = .next t
      ∧ FillEnded p .completePressure (updCtx p (Ctx.unlinked (s.params p).nonCommCap) s) t := by
  have hfind := finds p x s
  let w : State := withRecord (.vehicle p) x s
  obtain ⟨hk, -, -, hlink, -⟩ := arrived_reads (p := p) (g := Ctx.unlinked (s.params p).nonCommCap)
    (y := droppedRif p s) (u := w) rfl rfl
  have hdrop : dropsBy p (Ctx.unlinked (s.params p).nonCommCap) w = true := by
    have hw : (w.ctx p).link = .established := hl
    simp [dropsBy, hw, Ctx.unlinked]
  have hend := vehicleEnd_dropped (u := arrived p (Ctx.unlinked (s.params p).nonCommCap) (droppedRif p s) w)
    (f := x.vehicle) (d := true) (by rw [hk, hfind.params, overTemp_eq]; exact hhot) (by simp [hcommand])
    (socComplete_unlinked (by rw [hlink]; exact nofun)) (by rw [arrived_loses]; simpa using hn)
  have hends := (vehicleData_judged (u := w) hrun (judgeLink_loses hl hbad)).2 .completePressure
    (by rw [hfind.fields, hdrop]; exact hend)
  rw [arrived_found rfl hlost (by rw [hcommand]; rfl)] at hends
  refine ⟨_, running_of_eq hreset (seeing_of_eq hends), (arrival_ends (H := Ctx.unlinked (s.params p).nonCommCap)
    (z := w.sig) (by simp [Ctx.unlinked, PState.endable, hrun]) hs hs.source ⟨chargeOf p x s,
      (((s.ctx p).unlinked (s.params p).nonCommCap).cleared (chargeOf p x s)).timers, ?_⟩).1⟩
  rw [cleared_of_quiet (by exact hh) (by exact hsig)]

end Losing

/-! ### The expiries of the link's timers -/

section Dropping

variable {p : Pos} {s : State} {d : DropCause} {stop : PosTimers → PosTimers} {left : PosTimers → Option Nat}

/-- R125: a drop at the expiry of a timer that the drop itself stops. -/
theorem dropLink_expired (hstop : ∀ k, { stop k with vehicle := none, mismatch := none } =
      { k with vehicle := none, mismatch := none }) : dropLink p d (updTimers p stop s) = dropLink p d s := by
  have hk : (updTimers p stop s).params p = s.params p := params_congr rfl (by rw [updTimers, updCtx_ctx_same])
  rw [dropLink, hk, dropLink]
  simp only [updTimers, updCtx_updCtx, hstop]

theorem dropAndCheck_expired (ht : left (s.ctx p).timers ≠ none)
    (hstop : ∀ k, { stop k with vehicle := none, mismatch := none } = { k with vehicle := none, mismatch := none }) :
    expire p left stop (dropAndCheck p d) s = dropAndCheck p d s := by
  rw [expire_running ht, dropAndCheck, dropLink_expired hstop, dropAndCheck]

theorem vehicleExpiry_eq (ht : (s.ctx p).timers.vehicle ≠ none) : vehicleExpiry p s = dropAndCheck p .timeout s :=
  dropAndCheck_expired (left := PosTimers.vehicle) (stop := fun t => { t with vehicle := none }) ht fun _ => rfl

theorem mismatchExpiry_eq (ht : (s.ctx p).timers.mismatch ≠ none) :
    mismatchExpiry p s = dropAndCheck p .mismatch s :=
  dropAndCheck_expired (left := PosTimers.mismatch) (stop := fun t => { t with mismatch := none }) ht fun _ => rfl

theorem dropLink_completes : (dropLink p d s).dropCompletes p = decide ((s.dropLimit p : Int) ≤ s.nozzle p) := by
  have hctx : (dropLink p d s).ctx p = (s.ctx p).unlinked (s.params p).nonCommCap := by
    rw [dropLink_eq]
    exact updCtx_ctx_same _ _ _
  refine dropCompletes_unlinked (s := s) (by rw [hctx]) (params_congr ?_ (by rw [hctx]; rfl)) (nozzle_congr ?_) <;>
    rw [dropLink_eq] <;> rfl

theorem dropAndCheck_goes (hn : s.nozzle p < s.dropLimit p) : dropAndCheck p d s = dropLink p d s := by
  rw [dropAndCheck, dropLink_completes, onlyIf_neg (by simpa using hn)]

theorem dropAndCheck_ends (hn : (s.dropLimit p : Int) ≤ s.nozzle p) :
    dropAndCheck p d s = endFill p .completePressure (dropLink p d s) := by
  rw [dropAndCheck, dropLink_completes, onlyIf_pos (by simpa using hn)]

/-- R125, R127: the drop of a link that completes the fill. -/
theorem dropAndCheck_completed (hend : (s.ctx p).state.endable = true) (hs : s.sourceless p)
    (hn : (s.dropLimit p : Int) ≤ s.nozzle p) : FillEnded p .completePressure
      (updCtx p (Ctx.unlinked (s.params p).nonCommCap) s) (dropAndCheck p d s) := by
  let v : State := updCtx p (Ctx.unlinked (s.params p).nonCommCap)
    { s with rif := (notice .linkDropped p.num (u1 d.num) s).rif }
  have hv : v.ctx p = (s.ctx p).unlinked (s.params p).nonCommCap := updCtx_ctx_same _ _ _
  have hends := endFill_sourceless (p := p) (s := v) (r := .completePressure) (by rw [hv]; exact hend)
    ⟨by rw [hv]; exact hs.source, hs.noBank, hs.noOutput, hs.window⟩
  rw [dropAndCheck_ends hn, dropLink_eq]
  refine FillEnded.of_similar_here (v := v) (hends ▸ fillEnded_endOut (v.ctx p)) ⟨(v.ctx p).soc, (v.ctx p).timers,
    by rw [hv, updCtx_ctx_same]⟩ ⟨_, rfl⟩ fun q hq => ?_
  rw [updCtx_ctx_ne _ _ hq, updCtx_ctx_ne _ _ hq]
  rfl

end Dropping

/-! ### A link kept by an arrival -/

section Keeping

variable {p : Pos} {x : SigRec} {s : State} {tank te : Int}

/-- R124, R125: a consistent arrival on an established link that meets no end. -/
theorem filVehdata_keeps (hreset : s.smc.inReset = false) (hrun : (s.ctx p).state.running = true)
    (hst : (s.ctx p).state ≠ .paused) (hh : (s.ctx p).halt = false) (hsig : (s.ctx p).signal = false)
    (hlost : s.signalLost p = false) (hl : (s.ctx p).link = .established) (hvol : x.vehicle.volume.isSome)
    (hcls : x.vehicle.pclass = some (s.posRow p).pclass) (hpr : x.vehicle.pressure = some tank)
    (hte : x.vehicle.temp = some te) (hcool : te < (s.params p).tankTempMax)
    (hcommand : x.vehicle.command = some .run)
    (hsoc : stateOfCharge s.bq (s.posRow p).pclass tank te < (s.params p).socLimit) :
    exec (.filVehdata p x) s = .next (updCtx p (fun c =>
      { c with
        soc := some (stateOfCharge s.bq (s.posRow p).pclass tank te)
        timers := { c.timers with
          mismatch := mismatchAfter (s.params p) tank (s.nozzle p) c.timers.mismatch
          vehicle := some (s.params p).vehTimeout, pause := none } }) s) := by
  have hfind := finds p x s
  have hgood : isConsistent x.vehicle (s.posRow p).pclass = true := by
    simp [isConsistent, hvol, hcls, hpr, hte]
  have hj := judgeLink_kept (p := p) (u := withRecord (.vehicle p) x s) hl (by rw [hfind.fields]; exact hgood)
    (by rw [hfind.fields]; exact hpr)
  rw [hfind.params, hfind.nozzle] at hj
  have hcharge : chargeOf p x s = some (stateOfCharge s.bq (s.posRow p).pclass tank te) := by
    rw [chargeOf, socOf_eq, hpr, hte]
    rfl
  have hdrop : dropsBy p (Ctx.linked (s.params p) tank (s.nozzle p)) (withRecord (.vehicle p) x s) = false := by
    simp [dropsBy, Ctx.linked]
  have hquiet := filVehdata_quiet (g := Ctx.linked (s.params p) tank (s.nozzle p)) (y := s.rif) hreset hrun hst hlost
    hcommand rfl hj (no_end hcommand (by rw [hte]; simpa using hcool) rfl rfl
      (.inr (by rw [hcharge]; simpa using hsoc)) (by rw [hdrop]; rfl))
  rw [hquiet, hcharge]
  refine congrArg Host.Outcome.next (updCtx_of_eq p _ s ((cleared_of_quiet (by exact hh) (by exact hsig)).trans ?_))
  simp [Ctx.linked, ← hl]

end Keeping

/-! ### A stage stopped, and a stage resumed -/

section Resuming

variable {p : Pos} {s : State}

/-- R123: the leak check stopped. -/
theorem followCauses_leakCheck (hc : (s.ctx p).caused = true) (hst : (s.ctx p).state = .leakCheck) :
    followCauses p s = unqueued p (updCtx p (fun c =>
      { c with resume := .leakCheck, state := .paused, timers := { c.timers with leak := none } }) s) := by
  rw [followCauses, if_pos hc, takePause, hst]
  simp only
  rw [pauseIn_eq (by rw [updTimers, updCtx_ctx_same]; exact congrArg PState.descentSpan hst), updTimers, updCtx_updCtx]

/-- R105, R119: MAIN with the ramp anchored at `n`. -/
def Ctx.anchored (n : Int) (c : Ctx) : Ctx := { c with state := .main, anchor := n, tau := 0, reAnchor := false }

theorem followCauses_resumes (hc : (s.ctx p).caused = false) : followCauses p s = resumeStage p s :=
  if_neg (by simp [hc])

theorem resumeStage_main (hst : (s.ctx p).state = .paused) (hres : (s.ctx p).resume = .main) :
    resumeStage p s = resumeMain p s := by rw [resumeStage, if_pos hst, hres]

theorem resumeStage_leakCheck (hst : (s.ctx p).state = .paused) (hres : (s.ctx p).resume = .leakCheck) :
    resumeStage p s = enterLeakCheck p s := by rw [resumeStage, if_pos hst, hres]

theorem resumeStage_pulse (hst : (s.ctx p).state = .paused) (hres : (s.ctx p).resume = .pulse) :
    resumeStage p s = walkStage p .pulse s := by rw [resumeStage, if_pos hst, hres]

theorem resumeMain_feeding (hst : (s.ctx p).state = .paused) (hsrc : (s.ctx p).source = some .compressor) :
    resumeMain p s = unqueued p (updCtx p (Ctx.anchored (s.nozzle p)) (post (.mainEntryReport p)
      (actuate (.controlValve p) .set (s.ctx p).opening (actuate (.dispenseValve p) .open 1000 s)))) := by
  let w : State := updCtx p (fun c => { c with reAnchor := true }) s
  have hctx : w.ctx p = { s.ctx p with reAnchor := true } := updCtx_ctx_same _ _ _
  have hn : w.nozzle p = s.nozzle p := rfl
  have hbegin := beginMain_eq (p := p) (s := w) (by rw [hctx]; exact congrArg PState.descentSpan hst)
  rw [openFlow_dry (by rw [hctx]; simp [hsrc]), hctx, hn] at hbegin
  rw [resumeMain, if_pos (by simp [hsrc])]
  refine hbegin.trans ?_
  rw [actuate_updCtx, actuate_updCtx, post_updCtx, updCtx_updCtx]
  exact congrArg (unqueued p) (updCtx_of_eq _ _ _ (mainFrom_anchored (by rfl) _))

end Resuming

/-! ### The mismatch timer at a nozzle pressure -/

section Judging

variable {p : Pos} {s : State} {y : Selection} {n : Int}

theorem nozzlePressure_running (hc : s.nozzle p < Config.ceiling (s.posRow p).pclass)
    (hrun : (s.ctx p).state.running = true) (hst : (s.ctx p).state ≠ .main) :
    nozzlePressure p s = judgeMismatch p s := by
  have hvent : (s.ctx p).state ≠ .venting := fun h => by
    rw [h] at hrun
    exact absurd hrun (by decide)
  rw [nozzlePressure, ceilingCheck_below hc]
  simp only [hvent, hrun, hst, if_false, if_true]

theorem nozzlePressure_judged (hc : s.nozzle p < Config.ceiling (s.posRow p).pclass)
    (hst : (s.ctx p).state = .main) : nozzlePressure p s = nozzleInMain p (judgeMismatch p s) := by
  rw [nozzlePressure, ceilingCheck_below hc]
  simp only [hst, if_true]
  rfl

theorem rampStep_timers : ((rampStep p n s).ctx p).timers = (s.ctx p).timers := by
  have hset : ∀ o, ((setOpening p o s).ctx p).timers = (s.ctx p).timers := fun o => by
    rw [setOpening, actuate_ctx, updCtx_ctx_same]
  rw [rampStep]
  split
  · split
    · rfl
    · exact hset _
  · split
    · split
      · rfl
      · exact hset _
    · rfl

end Judging

/-! ### The fill command RUN in PAUSED -/

section Returning

variable {p : Pos} {x : SigRec} {s : State}

/-- R126: the state after the fill command RUN in PAUSED, with no signal lost. -/
def released (p : Pos) (x : SigRec) (s : State) : State :=
  updCtx p (Ctx.cleared (chargeOf p x s)) (withRecord (.vehicle p) x s)

theorem released_ctx : (released p x s).ctx p = (s.ctx p).cleared (chargeOf p x s) := updCtx_ctx_same _ _ _

theorem released_sameRing : State.SameRing (released p x s) s := ⟨rfl, rfl, rfl⟩

theorem released_nozzle : (released p x s).nozzle p = s.nozzle p := (finds p x s).nozzle

theorem released_params : (released p x s).params p = s.params p := params_congr rfl (by rw [released_ctx]; rfl)

theorem released_onlyBank {b : Bank} (h : s.onlyBank p b) : (released p x s).onlyBank p b := by
  have hvalue := withRecord_value_ne x s (r := .vehicle p) (q := .bankPressure b) (by simp)
  have husable := withRecord_usable_ne x s (r := .vehicle p) (q := .bankPressure b) (by simp)
  have hseen : (withRecord (.vehicle p) x s).onlyBank p b := by
    refine ⟨h.sequence, ?_, h.free, h.clear, h.noBank, h.noOutput⟩
    have hparams : (withRecord (.vehicle p) x s).params p = s.params p := (finds p x s).params
    have hnozzle : (withRecord (.vehicle p) x s).nozzle p = s.nozzle p := (finds p x s).nozzle
    rw [← h.suitable]
    simp only [State.suitable, hvalue, husable, hnozzle, hparams]
    rfl
  exact hseen.updCtx rfl

/-- R123, R126: the stage that RUN resumes. -/
theorem filVehdata_resumes (hreset : s.smc.inReset = false) (hst : (s.ctx p).state = .paused)
    (hl : (s.ctx p).link = .none) (hlost : s.signalLost p = false) (hcommand : x.vehicle.command = some .run)
    (hhot : x.vehicle.temp.any (fun te => decide (((s.params p).tankTempMax : Int) ≤ te)) = false) :
    exec (.filVehdata p x) s = .next { resumeStage p (released p x s) with sig := s.sig } := by
  have hdrop : dropsBy p (fun c => c) (withRecord (.vehicle p) x s) = false := by
    simp [dropsBy, hl]
  have hgo := filVehdata_goes (g := fun c => c) (y := s.rif) hreset (by rw [hst]; rfl)
    (judgeLink_idle (u := withRecord (.vehicle p) x s) (.inl hl))
    (no_end hcommand hhot rfl rfl (.inl (by simp [hl])) (by rw [hdrop]; rfl))
  rw [arrived_found rfl hlost (by rw [hcommand]; rfl)] at hgo
  have hreleased : updCtx p (fun c => c.cleared (chargeOf p x s)) { withRecord (.vehicle p) x s with rif := s.rif } =
      released p x s := rfl
  rwa [hreleased, followCauses_resumes (by rw [released_ctx]; rfl)] at hgo

/-- R123: what a stage resumed leaves at the position, in the mail and at the ring. -/
structure Resumes (p : Pos) (c : Ctx) (ms : List Instr) (rif : Rif) (s t : State) : Prop where
  ctx : t.ctx p = c
  mail : t.mail = s.mail ++ ms
  rif : t.rif = rif

theorem filVehdata_main (hres : (s.ctx p).resume = .main) (hsrc : (s.ctx p).source = some .compressor)
    (hst : (s.ctx p).state = .paused) : Resumes p (((s.ctx p).cleared (chargeOf p x s)).anchored (s.nozzle p))
      [.mainEntryReport p]
      (actuate (.controlValve p) .set (s.ctx p).opening (actuate (.dispenseValve p) .open 1000 s)).rif s
      (resumeStage p (released p x s)) := by
  have hctx := released_ctx (p := p) (x := x) (s := s)
  rw [resumeStage_main (by rw [hctx]; exact hst) (by rw [hctx]; exact hres),
    resumeMain_feeding (by rw [hctx]; exact hst) (by rw [hctx]; exact hsrc), released_nozzle, hctx]
  refine ⟨?_, ?_, ?_⟩
  · rw [unqueued_ctx, updCtx_ctx_same, post_ctx, actuate_ctx, actuate_ctx, hctx]
  · rw [unqueued_mail, updCtx_mail, post_mail, actuate_mail, actuate_mail]
    rfl
  · rw [unqueued_rif, updCtx_rif, post_rif]
    exact (actuate_congr (actuate_congr released_sameRing _ _ _) _ _ _).rif

theorem filVehdata_leakCheck (hres : (s.ctx p).resume = .leakCheck) (hst : (s.ctx p).state = .paused) :
    Resumes p (let c := (s.ctx p).cleared (chargeOf p x s)
      { c with
        leakRef := s.nozzle p, state := .leakCheck
        timers := { c.timers with leak := some (10 * (s.params p).leakTime) } }) [] s.rif s
      (resumeStage p (released p x s)) := by
  have hctx := released_ctx (p := p) (x := x) (s := s)
  rw [resumeStage_leakCheck (by rw [hctx]; exact hst) (by rw [hctx]; exact hres),
    enterLeakCheck_eq (by rw [hctx]; exact congrArg PState.descentSpan hst) (by rw [hctx]; rfl), released_nozzle,
    released_params]
  refine ⟨?_, ?_, ?_⟩
  · rw [unqueued_ctx, updCtx_ctx_same, hctx]
  · rw [unqueued_mail, updCtx_mail, List.append_nil]
    rfl
  · rw [unqueued_rif, updCtx_rif]
    rfl

theorem filVehdata_pulse {b : Bank} (hres : (s.ctx p).resume = .pulse) (hst : (s.ctx p).state = .paused)
    (h : s.onlyBank p b) : Resumes p ((((s.ctx p).cleared (chargeOf p x s)).taking (.bank b)).pulsing (s.params p))
      [.sourceReport p (.bank b)] (actuate (.controlValve p) .set 100 (actuate (.dispenseValve p) .open 1000
        (actuate (.bankValve b (.pos p)) .open 1000 s))).rif s (resumeStage p (released p x s))
      ∧ ((resumeStage p (released p x s)).bank b).state = .claimedPos p := by
  have hctx := released_ctx (p := p) (x := x) (s := s)
  have hd := draws_opened (p := p) (b := b) (ms := [.sourceReport p (.bank b)]) (w := released p x s) (s := s) 100
    (fun c => (c.taking (.bank b)).pulsing (s.params p)) released_sameRing
  rw [resumeStage_pulse (by rw [hctx]; exact hst) (by rw [hctx]; exact hres),
    walkStage_pulse (by rw [hctx]; exact congrArg PState.descentSpan hst) (released_onlyBank h), released_params]
  exact ⟨⟨hd.ctx.trans (by rw [hctx]), hd.mail, hd.rif⟩, hd.bank⟩

/-- R122: a set of causes that stays occupied keeps its timer. -/
theorem ordered_halted {k : FillParams} {n : Option Nat} {c : Ctx} (hh : c.halt = true) :
    c.ordered k n false true = { c with halt := false, signal := true, soc := n } := by
  simp [Ctx.ordered, Ctx.caused, hh]

/-- R126: RUN in PAUSED with a signal still lost. -/
theorem filVehdata_stays (hreset : s.smc.inReset = false) (hst : (s.ctx p).state = .paused)
    (hh : (s.ctx p).halt = true) (hl : (s.ctx p).link = .none) (hlost : s.signalLost p = true)
    (hcommand : x.vehicle.command = some .run)
    (hhot : x.vehicle.temp.any (fun te => decide (((s.params p).tankTempMax : Int) ≤ te)) = false) :
    exec (.filVehdata p x) s =
      .next (updCtx p (fun c => { c with halt := false, signal := true, soc := chargeOf p x s }) s) := by
  have hfind := finds p x s
  let w : State := withRecord (.vehicle p) x s
  have hdrop : dropsBy p (fun c => c) w = false := by simp [w, dropsBy, hl]
  have hgo := filVehdata_goes (g := fun c => c) (y := s.rif) hreset (by rw [hst]; rfl) (judgeLink_idle (u := w) (.inl hl))
    (no_end hcommand hhot rfl rfl (.inl (by simp [hl])) (by rw [hdrop]; rfl))
  have harr : arrived p (fun c => c) s.rif w =
      updCtx p (fun c => { c with halt := false, signal := true, soc := chargeOf p x s }) w := by
    rw [arrived_eq rfl rfl, hfind.lost, hfind.fields, hcommand, hlost]
    exact updCtx_of_eq p _ w (ordered_halted hh)
  have hctx : (arrived p (fun c => c) s.rif w).ctx p =
      { s.ctx p with halt := false, signal := true, soc := chargeOf p x s } := by
    rw [harr]
    exact updCtx_ctx_same _ _ _
  have hstop : followCauses p (arrived p (fun c => c) s.rif w) = arrived p (fun c => c) s.rif w := by
    rw [followCauses, if_pos (by rw [hctx]; rfl), takePause, hctx]
    simp only [hst]
  rw [hgo, hstop, harr]
  rfl

end Returning

end Sys2Proof.Machine
end

namespace Sys2Proof

open Sys2Proof.Machine

/-- Settles O44: an arrival of vehicle data by the link it leaves, the end it meets and the causes it brings. -/
theorem vehicleData : Obligations.VehicleData := by
  unfold Obligations.VehicleData
  refine ⟨fun p x s hreset => ?_, fun p x s hreset => ?_, fun p x tank s hreset => ?_, fun p x s hreset hst hhalt
    hlink hcommand hhot => ?_⟩
  · intro f limit kind ordered ends
    let w : State := withRecord (.vehicle p) x s
    have hfind := finds p x s
    have hordered : orderedBy p x s = ordered := updCtx_of_eq _ _ _ (by rw [haltAfter_eq])
    have hends {g : Ctx → Ctx} {k : PosTimers} {r : EndReason} (hrun : (s.ctx p).state.running = true)
        (hs : s.sourceless p) (hg : g (s.ctx p) = { s.ctx p with timers := k })
        (hj : judgeLink p w = updCtx p g { w with rif := w.rif })
        (hend : (arrived p g s.rif w).vehicleEnd p f (dropsBy p g w) = some r) : ends r := by
      have h := filVehdata_ends hreset hrun hs hg hj hend
      rwa [hordered] at h
    have hidle (h : (s.ctx p).link = .none) : judgeLink p w = updCtx p (fun c => c) { w with rif := w.rif } :=
      judgeLink_idle (u := w) (.inl h)
    have hreads := arrived_reads (p := p) (g := fun c => c) (y := s.rif) (u := w) rfl rfl
    have hk : (arrived p (fun c => c) s.rif w).params p = s.params p := hreads.1.trans hfind.params
    refine ⟨fun hrun => running_of_eq hreset (seeing_of_eq (t := w) (vehicleData_out (u := w) hrun)),
      fun v hrun hs hl ht hv => ?_, fun hrun hs hl ht ha => ?_,
      fun pr te hrun hs hl hvol hcls hpr hte hlt ha hsoc => ?_,
      fun pr te hst hl hh hsig hlost hpr hte hlt ha => ?_⟩
    · refine hends hrun hs rfl (hidle hl) (vehicleEnd_hot ?_)
      rw [hk, overTemp_eq, ht]
      simpa using hv
    · refine hends hrun hs rfl (hidle hl) (vehicleEnd_abort ?_ ha)
      rw [hk, overTemp_eq]
      cases hte : f.temp with
      | none => rfl
      | some te => simpa using ht te hte
    · let g : Ctx → Ctx := Ctx.linked (w.params p) pr (w.nozzle p)
      have hg : g (s.ctx p) = { s.ctx p with timers := (g (s.ctx p)).timers } := by
        simp [g, Ctx.linked, ← hl]
      have hgood : isConsistent (w.vehicleOf p) (w.posRow p).pclass = true := by
        rw [hfind.fields]
        have hcls' : x.vehicle.pclass = some (w.posRow p).pclass := hcls
        simp only [isConsistent, hcls', Bool.and_eq_true, beq_self_eq_true, and_true]
        exact ⟨⟨hvol, by rw [hpr]; rfl⟩, by rw [hte]; rfl⟩
      have hreads' := arrived_reads (p := p) (g := g) (y := s.rif) (u := w) rfl rfl
      have hk' : (arrived p g s.rif w).params p = s.params p := hreads'.1.trans hfind.params
      have hcharge : ((arrived p g s.rif w).ctx p).soc = some (stateOfCharge s.bq kind pr te) := by
        rw [hreads'.2.2.1, hfind.fields, socOf_eq, hpr, hte]
        rfl
      refine hends hrun hs hg (judgeLink_kept (u := w) hl hgood (by rw [hfind.fields]; exact hpr))
        (vehicleEnd_soc ?_ ha ?_)
      · rw [hk', overTemp_eq, hte]
        simpa using hlt
      · unfold socComplete
        rw [hcharge, hreads'.2.2.2.1, hk']
        simpa [g, Ctx.linked] using hsoc
    · have hctx : (arrived p (fun c => c) s.rif w).ctx p =
          (s.ctx p).ordered (s.params p) (some (stateOfCharge s.bq kind pr te)) true false := by
        have h := arrived_eq (p := p) (g := fun c => c) (y := s.rif) (u := w) rfl rfl
        rw [hfind.params, hfind.lost, hlost, hfind.fields, ha, socOf_eq, hpr, hte] at h
        rw [h]
        exact updCtx_ctx_same _ _ _
      have hnone : (arrived p (fun c => c) s.rif w).vehicleEnd p f (dropsBy p (fun c => c) w) = none := by
        refine vehicleEnd_none (by rw [hk, overTemp_eq, hte]; simpa using hlt) (by simp [ha])
          (socComplete_unlinked (by rw [hctx]; simp [Ctx.ordered, hl])) ?_
        have hdrop : dropsBy p (fun c => c) w = false := by
          have h : (w.ctx p).link = .none := hl
          simp [dropsBy, h]
        rw [hdrop]
        rfl
      have hhas : (arrived p (fun c => c) s.rif w).mail = s.mail ∧ (arrived p (fun c => c) s.rif w).rif = s.rif := by
        rw [arrived_eq (p := p) (g := fun c => c) (y := s.rif) (u := w) rfl rfl]
        exact ⟨rfl, rfl⟩
      have hstop := followCauses_leakCheck (p := p) (s := arrived p (fun c => c) s.rif w) (by rw [hctx]; rfl)
        (by rw [hctx]; exact hst)
      have hexec := filVehdata_goes hreset (by rw [hst]; rfl) (hidle hl) hnone
      have hfinal := (congrArg (State.ctx · p) hstop).trans ((unqueued_ctx _ _ _).trans (updCtx_ctx_same _ _ _))
      dsimp only at hfinal
      rw [hctx] at hfinal
      refine ⟨_, hexec, congrArg Ctx.state hfinal, congrArg Ctx.resume hfinal, congrArg Ctx.halt hfinal,
        congrArg Ctx.soc hfinal, (congrArg (fun c : Ctx => c.timers.pause) hfinal).trans ?_,
        congrArg (fun c : Ctx => c.timers.leak) hfinal, ?_, ?_⟩
      · simp [Ctx.ordered, Ctx.caused, hh, hsig, startSeconds]
      · exact (congrArg State.mail hstop).trans hhas.1
      · exact (congrArg State.rif hstop).trans hhas.2
  · intro f kind good hot charge loose dropped limit quiet
    let w : State := withRecord (.vehicle p) x s
    have hfind := finds p x s
    have hcharge : chargeOf p x s = charge := socOf_eq
    have hgood : isConsistent (w.vehicleOf p) (w.posRow p).pclass = good := by
      rw [hfind.fields]
      rfl
    have hloose : loose = Ctx.unlinked (s.params p).nonCommCap := rfl
    have hlimit : limit = s.dropLimit p := rfl
    have hquiet {g : Ctx → Ctx} {y : Rif} (hq : quiet) (hgs : (g (s.ctx p)).state = (s.ctx p).state)
        (hg : (g (s.ctx p)).category = (s.ctx p).category) (hf : (g (s.ctx p)).fill = (s.ctx p).fill)
        (hj : judgeLink p w = updCtx p g { w with rif := y })
        (hsoc : (g (s.ctx p)).link ≠ .established ∨
          charge.any (fun n => decide ((s.params p).socLimit ≤ n)) = false)
        (hd : (dropsBy p g w && (arrived p g y w).dropCompletes p) = false) :
        exec (.filVehdata p x) s = .next (updCtx p (fun c => (g c).cleared charge) { s with rif := y }) := by
      obtain ⟨hrun, hne, _, _, hlost, hcommand, hhot⟩ := hq
      rw [← hcharge] at hsoc ⊢
      exact filVehdata_quiet hreset hrun (by rw [hgs]; exact hne) hlost hcommand hg hj
        (no_end hcommand hhot hg hf hsoc hd)
    have hundropped {g : Ctx → Ctx} {y : Rif} (h : (s.ctx p).link ≠ .established ∨ (g (s.ctx p)).link ≠ .dropped) :
        (dropsBy p g w && (arrived p g y w).dropCompletes p) = false := by
      have hdrop : dropsBy p g w = false := by
        have hw : w.ctx p = s.ctx p := rfl
        rw [dropsBy, hw]
        rcases h with h | h <;> simp [h]
      rw [hdrop]
      rfl
    refine ⟨fun hq hl hbad => ?_, fun hq hl hc hg => ?_, fun hq hl hc hg hsoc => ?_, fun hq hl hbad hn => ?_,
      fun hq hs hl hbad hn => ?_, fun hq hl => ?_, fun ht hn => ?_, fun ht hn => ?_, fun hend hs hn => ⟨fun ht => ?_,
      fun ht => ?_⟩, fun ht => running_of_eq hreset (expire_stopped ht),
      fun ht => running_of_eq hreset (expire_stopped ht)⟩
    · have hexec := hquiet (g := fun c => { c with consistent := 0 }) (y := w.rif) hq rfl rfl rfl
        (judgeLink_counts (u := w) hl (by omega) (by rw [hgood, hbad]; rfl)) (.inl (by simp [hl]))
        (hundropped (.inl (by simp [hl])))
      exact ⟨_, hexec, rfl, rfl, (updCtx_ctx_same _ _ _).trans (cleared_of_quiet hq.2.2.1 hq.2.2.2.1)⟩
    · have hexec := hquiet (g := fun c => { c with consistent := 1 }) (y := w.rif) hq rfl rfl rfl
        (judgeLink_counts (u := w) hl (by omega) (by rw [hgood, hg]; exact congrArg (· + 1) hc)) (.inl (by simp [hl]))
        (hundropped (.inl (by simp [hl])))
      exact ⟨_, hexec, rfl, rfl, (updCtx_ctx_same _ _ _).trans (cleared_of_quiet hq.2.2.1 hq.2.2.2.1)⟩
    · obtain ⟨tank, htank⟩ := isConsistent_pressure (hgood.trans hg)
      have hexec := hquiet (g := fun c => Ctx.linked (w.params p) tank (w.nozzle p) { c with consistent := 2 })
        (y := w.rif) hq rfl rfl rfl (judgeLink_establishes (u := w) hl hc (hgood.trans hg) htank) (.inr hsoc)
        (hundropped (.inl (by simp [hl])))
      let after : Ctx → Ctx := fun c => (Ctx.linked (w.params p) tank (w.nozzle p) { c with consistent := 2 }).cleared charge
      have hctx : (updCtx p after { s with rif := w.rif }).ctx p = after (s.ctx p) := updCtx_ctx_same _ _ _
      refine ⟨_, hexec, congrArg Ctx.link hctx, (congrArg (fun c : Ctx => c.timers.vehicle) hctx).trans ?_,
        (congrArg Ctx.state hctx :), (congrArg Ctx.soc hctx :), rfl, rfl⟩
      exact congrArg (fun k : FillParams => some k.vehTimeout) hfind.params
    · have hexec := hquiet (g := loose) (y := droppedRif p s) hq rfl rfl rfl (judgeLink_loses hl hbad) (.inl nofun)
        (by rw [hloose, arrived_loses, Bool.and_eq_false_iff]; exact .inr (decide_eq_false (not_le.mpr hn)))
      exact ⟨_, hexec, (updCtx_ctx_same _ _ _).trans (cleared_of_quiet hq.2.2.1 hq.2.2.2.1), rfl, rfl,
        fun q hq => updCtx_ctx_ne _ _ hq⟩
    · obtain ⟨hrun, _, hh, hsig, hlost, hcommand, hhot⟩ := hq
      exact filVehdata_completes hreset hrun hs hl hlost hh hsig hcommand hhot hbad hn
    · have hexec := hquiet (g := fun c => c) (y := w.rif) hq rfl rfl rfl (judgeLink_idle (u := w) hl)
        (.inl (by rcases hl with hl | hl <;> simp [hl])) (hundropped (.inl (by rcases hl with hl | hl <;> simp [hl])))
      rw [hexec]
      exact congrArg Host.Outcome.next (updCtx_of_eq _ _ _ (cleared_of_quiet hq.2.2.1 hq.2.2.2.1))
    · exact running_of_eq hreset ((vehicleExpiry_eq ht).trans (dropAndCheck_goes hn))
    · exact running_of_eq hreset ((mismatchExpiry_eq ht).trans (dropAndCheck_goes hn))
    · exact ⟨_, running_of_eq hreset (vehicleExpiry_eq ht), dropAndCheck_completed hend hs hn⟩
    · exact ⟨_, running_of_eq hreset (mismatchExpiry_eq ht), dropAndCheck_completed hend hs hn⟩
  · intro f k timer below
    have htimer : ∀ v, timer tank v = mismatchAfter (s.params p) tank v (s.ctx p).timers.mismatch := fun _ => rfl
    let w : State := withRecord (.nozzlePressure p) x s
    have hn : w.nozzle p = x.value := withRecord_nozzle_same x
    have hk : w.params p = k := params_congr rfl rfl
    have htank {h : (s.record (.vehicle p)).vehicle.pressure = some tank} :
        (w.record (.vehicle p)).vehicle.pressure = some tank :=
      (congrArg (fun y : SigRec => y.vehicle.pressure) (withRecord_record_ne x s (by simp))).trans h
    have hjudge (hl : (s.ctx p).link = .established) (h : (s.record (.vehicle p)).vehicle.pressure = some tank) :
        judgeMismatch p w = updTimers p (fun t => { t with mismatch := timer tank x.value }) w := by
      rw [judgeMismatch_linked (s := w) hl (htank (h := h)), hk, hn]
      exact updCtx_of_eq _ _ _ rfl
    refine ⟨fun hrun hne hl h hb => ?_, fun y hst hsrc hsel hl h hb hlow hramp => ?_, fun hrun hne hl hb => ?_,
      fun te hst hh hsig hlost hl hvol hcls hpr hte hlt hcommand hsoc => ?_⟩
    · exact running_of_eq hreset (seeing_of_eq ((nozzlePressure_running (s := w) (hn.trans_lt hb) hrun hne).trans
        (hjudge hl h)))
    · let v : State := updTimers p (fun t => { t with mismatch := timer tank x.value }) w
      have hctx : v.ctx p = { s.ctx p with timers := { (s.ctx p).timers with mismatch := timer tank x.value } } :=
        updCtx_ctx_same _ _ _
      have hv : v.nozzle p = x.value := hn
      have hkv : v.params p = k := (params_congr (t := v) (s := w) rfl (by rw [hctx]; rfl)).trans hk
      have htarget : v.rampTarget p y = Machine.rampTarget (s.ctx p).anchor y.aprr (s.ctx p).tau y.pEnd := by
        rw [State.rampTarget, hctx]
      have hstep := nozzleInMain_steps (p := p) (s := v) (x := y) (by rw [hctx]; exact hst) (by rw [hctx]; exact hsel)
        (by rw [hctx]; exact hsrc) (hv.trans_lt hlow) (by rw [hv, htarget, hkv]; exact hramp)
      refine ⟨_, running_of_eq hreset (seeing_of_eq (((nozzlePressure_judged (s := w) (hn.trans_lt hb) hst).trans
        (congrArg (nozzleInMain p) (hjudge hl h))).trans hstep)), ?_⟩
      exact rampStep_timers.trans (by rw [aimed_ctx, hctx])
    · exact running_of_eq hreset (seeing_of_eq (t := w) ((nozzlePressure_running (s := w) (hn.trans_lt hb) hrun hne).trans
        (judgeMismatch_unlinked hl)))
    · have hexec := filVehdata_keeps hreset (by rw [hst]; rfl) (by simp [hst]) hh hsig hlost hl hvol hcls hpr hte hlt
        hcommand hsoc
      exact ⟨_, hexec, rfl, rfl, updCtx_ctx_same _ _ _⟩
  · intro charge c k
    have hcharge : chargeOf p x s = charge := socOf_eq
    have hresumes (hlost : s.signalLost p = false) := filVehdata_resumes hreset hst hlink hlost hcommand hhot
    rw [← hcharge]
    refine ⟨fun hlost hres hsrc => ?_, fun hlost hres => ?_, fun b hlost hres honly => ?_, fun hlost =>
      filVehdata_stays hreset hst hhalt hlink hlost hcommand hhot⟩
    · have h := filVehdata_main (x := x) hres hsrc hst
      exact ⟨_, hresumes hlost, h.ctx, h.mail, h.rif⟩
    · have h := filVehdata_leakCheck (x := x) hres hst
      exact ⟨_, hresumes hlost, h.ctx, h.mail.trans (List.append_nil _), h.rif⟩
    · obtain ⟨h, hbank⟩ := filVehdata_pulse (x := x) hres hst honly
      exact ⟨_, hresumes hlost, h.ctx, hbank, h.mail, h.rif⟩

end Sys2Proof

section
/-! Metering (R137 to R150). O49 follows. -/

namespace Sys2Proof.Machine

open Sys2Proof

/-! ### What a count does, whatever the records are -/

section Sightless

variable {p : Pos} {n mg : Nat} {u : Bool}

theorem updMeter_updMeter (f g : MeterCtx → MeterCtx) (s : State) :
    updMeter p f (updMeter p g s) = updMeter p (fun m => f (g m)) s := by
  simp only [updMeter, setMeter, State.meter, PerPos.get_set_same, PerPos.set_set]

theorem sigless_meterFault (b : Nat) : Sigless (meterFault p b n) := fun s z => by
  have h := sigless_notice .meterFault p.num (u2 b ++ u2 n ++ u2 (countDelta b n))
    (updMeter p (fun m => { m with fault := true }) s) z
  exact congrArg (post (.meterFaultReport p)) h

theorem sigless_outsideIncrement : Sigless (outsideIncrement p mg n) := fun s z => by
  have h := sigless_notice .unauthorisedFlow p.num (u4 mg ++ u1 (s.ctx p).state.num ++ u2 n)
    (updMeter p (fun m => { m with outNotice := true }) (updMeter p (placeIncrement .outOfFill mg) s)) z
  have hmeter : State.meter { s with sig := z } p = s.meter p := rfl
  unfold outsideIncrement
  rw [hmeter]
  cases (s.meter p).outNotice
  · exact congrArg (postAll _) h
  · rfl

theorem sigless_acceptIncrement : Sigless (acceptIncrement p mg n u) := fun s z => by
  have hctx : State.ctx { s with sig := z } p = s.ctx p := rfl
  have hout := sigless_outsideIncrement (p := p) (n := n) (mg := mg) (addTotal p mg s) z
  unfold acceptIncrement
  rw [hctx]
  split
  · rfl
  · cases attributionOf (s.ctx p).state (s.ctx p).source
    case outOfFill => exact hout
    all_goals rfl

theorem sigless_takeCount : Sigless (takeCount p n u) := fun s z => by
  have hmeter : State.meter { s with sig := z } p = s.meter p := rfl
  unfold takeCount
  rw [hmeter]
  split
  · rfl
  · next b _ =>
    have hrow : State.posRow { s with sig := z } p = s.posRow p := rfl
    rw [hrow]
    split
    · exact sigless_meterFault b (updMeter p (fun m => { m with baseline := some n }) s) z
    · exact sigless_acceptIncrement (updMeter p (fun m => { m with baseline := some n }) s) z

/-- R18, R137: METER_COUNT takes the count and the quality it delivers. -/
theorem exec_meterCount {s : State} (hreset : s.smc.inReset = false) (q : Quality) :
    exec (.meterCount p n q) s = .next (takeCount p n (q == .uncertain) s) := by
  refine running_of_eq hreset (seeing_sigless sigless_takeCount ?_)
  rw [meterCount, State.quality, withRecord_value_same, withRecord_record_same]
  rfl

/-- R138: METER_QUALITY_CHANGE drops the baseline for a record that is absent, and does nothing else. -/
theorem meterQualityChange_judged {s : State} {x : SigRec} (hreset : s.smc.inReset = false) :
    exec (.meterQualityChange p x) s = if x.quality = .absent then .next (dropBaseline p s) else .next s := by
  have hq : State.quality (withRecord (.meter p) x s) (.meter p) = x.quality := by
    rw [State.quality, withRecord_record_same]
  split
  · next h =>
    refine running_of_eq hreset (seeing_sigless (fun _ _ => rfl) (g := dropBaseline p) ?_)
    rw [meterQuality, hq, h]
  · next h =>
    refine running_of_eq hreset (seeing_sigless (fun _ _ => rfl) (g := id) ?_)
    rw [meterQuality, hq]
    cases hx : x.quality with
    | absent => exact absurd hx h
    | good | uncertain | bad | stale => rfl

end Sightless

/-! ### The branches of a count -/

section Counts

variable {p : Pos} {n b mg : Nat} {u : Bool} {s : State}

/-- R137: the count taken becomes the baseline. -/
def based (p : Pos) (n : Nat) (s : State) : State := updMeter p (fun m => { m with baseline := some n }) s

theorem based_meter : (based p n s).meter p = { s.meter p with baseline := some n } := updMeter_meter_same _ _ _

theorem takeCount_first (h : (s.meter p).baseline = none) : takeCount p n u s = based p n s := by
  rw [takeCount, h]
  rfl

theorem takeCount_faulty (h : (s.meter p).baseline = some b) (hd : (s.posRow p).maxDelta < countDelta b n) :
    takeCount p n u s = meterFault p b n (based p n s) := by
  rw [takeCount, h]
  exact if_pos hd

theorem takeCount_accepts (h : (s.meter p).baseline = some b) (hd : countDelta b n ≤ (s.posRow p).maxDelta) :
    takeCount p n u s = acceptIncrement p (countDelta b n * (s.posRow p).pulseWeight) n u (based p n s) := by
  rw [takeCount, h]
  exact if_neg (by omega)

theorem acceptIncrement_zero (h : mg = 0) : acceptIncrement p mg n u s = s := if_pos h

theorem acceptIncrement_fill {a : Attribution} (hmg : 0 < mg) (ha : attributionOf (s.ctx p).state (s.ctx p).source = a)
    (hne : a ≠ .outOfFill) : acceptIncrement p mg n u s = fillIncrement p mg a u (addTotal p mg s) := by
  rw [acceptIncrement, if_neg (by omega)]
  simp only [ha]

theorem acceptIncrement_outside (hmg : 0 < mg)
    (ha : attributionOf (s.ctx p).state (s.ctx p).source = .outOfFill) :
    acceptIncrement p mg n u s = outsideIncrement p mg n (addTotal p mg s) := by
  rw [acceptIncrement, if_neg (by omega), ha]

/-- R145: outside the collecting states an increment belongs to no fill. -/
theorem attributionOf_outside {st : PState} (src : Option Source) (h : st.collecting = false) :
    attributionOf st src = .outOfFill := by
  cases st <;> first | rfl | exact absurd h (by decide)

end Counts

/-! ### The obligation -/

section Placing

variable {p : Pos} {n b : Nat} {q : Quality} {s : State} {a : Attribution} {k : MeterCtx}

/-- R140 to R144, R149: an increment of a fill, with the figures `k` of the attribution that takes it. -/
theorem meterCount_placed (hreset : s.smc.inReset = false) (hb : (s.meter p).baseline = some b)
    (hd : countDelta b n ≤ (s.posRow p).maxDelta) {mg : Nat} (hmg : countDelta b n * (s.posRow p).pulseWeight = mg)
    (hpos : 0 < mg) (htotal : s.ret.totaliser.get p + mg < 2 ^ 64)
    (ha : attributionOf (s.ctx p).state (s.ctx p).source = a) (hne : a ≠ .outOfFill)
    (hplace : placeIncrement a mg { s.meter p with baseline := some n } =
      { k with baseline := some n, fill := (s.meter p).fill + mg })
    (hu : k.uncertain = (s.meter p).uncertain) :
    ∃ t, exec (.meterCount p n q) s = .next t
      ∧ t.meter p = { k with
          baseline := some n, fill := (s.meter p).fill + mg
          uncertain := (s.meter p).uncertain || q == .uncertain }
      ∧ t.ret = { s.ret with
          totaliser := s.ret.totaliser.set p (s.ret.totaliser.get p + mg)
          snapshots := s.ret.snapshots.set p ((s.ret.snapshots.get p).map (fun x =>
            { x with fill := (s.meter p).fill + mg, afterRun := k.afterRun, unattr := k.unattr })) }
      ∧ t.mail = s.mail ++ [.bankIncrementReport p mg a, .coldConsumption p ⟨mg, a⟩,
          .filMassReport p ((s.meter p).fill + mg) a (q == .uncertain)]
      ∧ t.rif = s.rif ∧ t.fil = s.fil ∧ (∀ r, r ≠ p → t.meter r = s.meter r) := by
  let v : State := updMeter p (fun m => markUncertain (q == .uncertain) (placeIncrement a mg m))
    (addTotal p mg (based p n s))
  have hv : v.meter p = { k with
      baseline := some n, fill := (s.meter p).fill + mg
      uncertain := (s.meter p).uncertain || q == .uncertain } := by
    have hbase : (addTotal p mg (based p n s)).meter p = { s.meter p with baseline := some n } := based_meter
    rw [updMeter_meter_same, hbase, hplace, markUncertain, ← hu]
  have htake : takeCount p n (q == .uncertain) s = fillIncrement p mg a (q == .uncertain) (addTotal p mg (based p n s)) := by
    rw [takeCount_accepts hb hd, hmg]
    exact acceptIncrement_fill hpos ha hne
  have hret : (addTotal p mg (based p n s)).ret =
      { s.ret with totaliser := s.ret.totaliser.set p (s.ret.totaliser.get p + mg) } := by
    rw [addTotal, updRet_ret, ← hold64_of_lt htotal]
    rfl
  refine ⟨_, (exec_meterCount hreset q).trans (congrArg _ htake), hv, ?_, ?_, rfl, rfl, fun r hr => ?_⟩
  · rw [fillIncrement, postAll_ret, writeSnapshot, updRet_ret]
    simp only
    rw [hv, updMeter_ret, hret]
  · have hfill : ((writeSnapshot p v).meter p).fill = (s.meter p).fill + mg := congrArg MeterCtx.fill hv
    rw [fillIncrement, postAll_mail, ← hfill]
    rfl
  · have hbased : (based p n s).meter r = s.meter r := updMeter_meter_ne _ s hr
    have hplaced : v.meter r = s.meter r := (updMeter_meter_ne _ (addTotal p mg (based p n s)) hr).trans hbased
    exact hplaced

/-- R145: an increment outside a fill. -/
theorem meterCount_outside (hreset : s.smc.inReset = false) (hb : (s.meter p).baseline = some b)
    (hd : countDelta b n ≤ (s.posRow p).maxDelta) {mg : Nat} (hmg : countDelta b n * (s.posRow p).pulseWeight = mg)
    (hpos : 0 < mg) (hout : (s.meter p).outMass + mg < 2 ^ 64) (htotal : s.ret.totaliser.get p + mg < 2 ^ 64)
    (hst : (s.ctx p).state.collecting = false) :
    ∃ t, exec (.meterCount p n q) s = .next t
      ∧ t.meter p = { s.meter p with
          baseline := some n, outMass := (s.meter p).outMass + mg, outNotice := true }
      ∧ t.ret = { s.ret with totaliser := s.ret.totaliser.set p (s.ret.totaliser.get p + mg) }
      ∧ t.mail = s.mail ++ [.bankIncrementReport p mg .outOfFill, .coldConsumption p ⟨mg, .outOfFill⟩,
          .unauthorisedFlowReport p]
      ∧ t.rif = (if (s.meter p).outNotice then s else notice .unauthorisedFlow p.num
          (u4 mg ++ u1 (s.ctx p).state.num ++ u2 n) s).rif
      ∧ t.fil = s.fil := by
  let w : State := addTotal p mg (based p n s)
  let v : State := updMeter p (placeIncrement .outOfFill mg) w
  have hw : w.meter p = { s.meter p with baseline := some n } := based_meter
  have hv : v.meter p = { s.meter p with baseline := some n, outMass := (s.meter p).outMass + mg } := by
    rw [updMeter_meter_same, hw, placeIncrement]
    simp only [hold64_of_lt hout]
  have htake : takeCount p n (q == .uncertain) s = outsideIncrement p mg n w := by
    rw [takeCount_accepts hb hd, hmg]
    exact acceptIncrement_outside hpos (attributionOf_outside _ hst)
  have hret : v.ret = { s.ret with totaliser := s.ret.totaliser.set p (s.ret.totaliser.get p + mg) } := by
    rw [updMeter_ret, show w = addTotal p mg (based p n s) from rfl, addTotal, updRet_ret, ← hold64_of_lt htotal]
    rfl
  have hring : State.SameRing (updMeter p (fun m => { m with outNotice := true }) v) s := ⟨rfl, rfl, rfl⟩
  let reports : List Instr := massReports p mg .outOfFill ++ [.unauthorisedFlowReport p]
  have hexec (z : State) (hz : outsideIncrement p mg n w = postAll reports z) :
      exec (.meterCount p n q) s = .next (postAll reports z) :=
    (exec_meterCount hreset q).trans (congrArg _ (htake.trans hz))
  cases hnotice : (s.meter p).outNotice with
  | true =>
    have hz : outsideIncrement p mg n w = postAll reports v := by
      rw [outsideIncrement, hw]
      simp only [hnotice, if_true]
      rfl
    exact ⟨_, hexec v hz, hv.trans (by rw [← hnotice]), hret, rfl, rfl, rfl⟩
  | false =>
    let z : State := notice .unauthorisedFlow p.num (u4 mg ++ u1 (w.ctx p).state.num ++ u2 n)
      (updMeter p (fun m => { m with outNotice := true }) v)
    have hz : outsideIncrement p mg n w = postAll reports z := by
      rw [outsideIncrement, hw]
      simp only [hnotice]
      rfl
    refine ⟨_, hexec z hz, ?_, ?_, ?_, ?_, ?_⟩
    · rw [State.meter, postAll_mtr, notice_mtr, ← State.meter, updMeter_meter_same, hv]
    · rw [postAll_ret, notice_ret, updMeter_ret, hret]
    · rw [postAll_mail, notice_mail]
      rfl
    · rw [postAll_rif]
      exact (notice_congr hring _ _ _).rif
    · rw [postAll_fil, notice_fil]
      rfl

end Placing

end Sys2Proof.Machine

namespace Sys2Proof

open Sys2Proof.Machine

/-- Settles O49: a count by its delta, and an increment by the state that attributes it. -/
theorem metering : Obligations.Metering := by
  unfold Obligations.Metering
  refine ⟨fun p n q x s hreset => ?_, fun p b n q s hreset => ?_, fun p b n q s hreset => ?_⟩
  · intro base
    refine ⟨fun h => (exec_meterCount hreset q).trans (congrArg _ (takeCount_first h)), fun b h hd => ?_, fun h => ?_,
      fun b h hw hd => ?_, fun h => ?_, fun h => ?_⟩
    · rw [exec_meterCount hreset, takeCount_faulty h hd, meterFault, based, updMeter_updMeter]
      rfl
    · have hd : countDelta n n = 0 := by
        unfold countDelta
        omega
      have hself : based p n s = s := by
        have hm : { s.meter p with baseline := some n } = s.meter p := by rw [← h]
        rw [based, updMeter, hm]
        simp [setMeter, State.meter]
      rw [exec_meterCount hreset, takeCount_accepts h (by omega), acceptIncrement_zero (by rw [hd, Nat.zero_mul]), hself]
    · rw [exec_meterCount hreset, takeCount_accepts h hd, acceptIncrement_zero (by rw [hw, Nat.mul_zero])]
      rfl
    · refine (meterQualityChange_judged hreset).trans (if_pos h)
    · refine (meterQualityChange_judged hreset).trans (if_neg h)
  · intro u d mg m hb hd hmg hfill hcmp hunattr hafter hbanks htotal placed
    have hplaced {a : Attribution} {k : MeterCtx} (ha : attributionOf (s.ctx p).state (s.ctx p).source = a)
        (hne : a ≠ .outOfFill) (hplace : placeIncrement a mg { m with baseline := some n } =
          { k with baseline := some n, fill := m.fill + mg }) (hu : k.uncertain = m.uncertain) : placed a k :=
      meterCount_placed hreset hb hd rfl hmg htotal ha hne hplace hu
    have hf := hold64_of_lt hfill
    refine ⟨fun c hst hsrc => ?_, fun hst hsrc => ?_, fun hst => ?_, fun hst => ?_⟩
    · refine hplaced ?_ nofun ?_ rfl
      · rcases hst with hst | hst <;> rw [hst, hsrc] <;> rfl
      · simp only [placeIncrement, hf, hold64_of_lt (hbanks c)]
    · refine hplaced ?_ nofun ?_ rfl
      · rcases hst with hst | hst <;> rw [hst, hsrc] <;> rfl
      · simp only [placeIncrement, hf, hold64_of_lt hcmp]
    · refine hplaced ?_ nofun ?_ rfl
      · rcases hst with hst | hst | hst | hst | ⟨hst, hsrc⟩
        case inr.inr.inr.inr => rw [hst, hsrc]; rfl
        all_goals rw [hst]; rfl
      · simp only [placeIncrement, hf, hold64_of_lt hunattr]
    · refine hplaced ?_ nofun ?_ rfl
      · rw [hst]
        rfl
      · simp only [placeIncrement, hf, hold64_of_lt hafter]
  · intro d mg m hb hd hmg hout htotal hst
    exact meterCount_outside hreset hb hd rfl hmg hout htotal hst

end Sys2Proof
end

section
/-! The trip latch and the requests on it (R204, R205). O57 follows. -/

namespace Sys2Proof.Machine

open Sys2Proof

section Latch

variable {s u : State} {c : TripCause}

/-- R204: what the trip leaves beside what it queues at the ring. -/
theorem setLatch_only : setLatch c s = { s with
    rif := (setLatch c s).rif
    mail := s.mail ++ tripMessages
    smc := { s.smc with latch := some ⟨c, s.ret.clock⟩, mode := .trip, idleTimer := none, parkTimer := none }
    pins := { s.pins with masterIsolation := false } } := by
  rw [setLatch_eq, notice_onlyRif, closeAll_onlyRif]
  rfl

/-- R204: a later cause is counted. -/
def furtherCause (s : State) : State := updSmc (fun k => { k with further := min 255 (k.further + 1) }) s

theorem tripOn_latched (h : s.latched = true) : tripOn c s = furtherCause s := if_pos h

theorem tripOn_clear (h : s.latched = false) : tripOn c s = setLatch c s := if_neg (by simp [h])

/-- The trip of `u`, a state that holds what `s` holds but for its input pins. -/
structure Tripped (s u : State) (c : TripCause) (t : State) : Prop where
  smc : t.smc = { s.smc with
    mode := .trip, latch := some ⟨c, s.ret.clock⟩, idleTimer := none, parkTimer := none }
  pins : t.pins = { u.pins with masterIsolation := false }
  mail : t.mail = s.mail ++ [.rifTrip, .bkmTrip, .cmpTrip, .pclTrip, .filTrip]
  units : t.ret = s.ret ∧ t.fil = s.fil ∧ t.bkm = s.bkm ∧ t.cmp = s.cmp ∧ t.pcl = s.pcl
    ∧ t.tables = s.tables ∧ t.sig = s.sig

/-- R204: NOTICE TRIP behind the CLOSE of every actuator role. -/
def toldTrip (c : TripCause) (s : State) : State :=
  notice .trip 0 (tripData c s.ret.clock) (closeAll (updSmc (fun k => { k with latch := some ⟨c, s.ret.clock⟩ }) s))

theorem tripped_setLatch : Tripped s s c (setLatch c s) := by
  rw [setLatch_only]
  exact ⟨rfl, rfl, rfl, rfl, rfl, rfl, rfl, rfl, rfl, rfl⟩

theorem tripped_loop : Tripped s { s with pins := { s.pins with loopOpen := true } } c
    (setLatch c { s with pins := { s.pins with loopOpen := true } }) := by
  rw [setLatch_only]
  exact ⟨rfl, rfl, rfl, rfl, rfl, rfl, rfl, rfl, rfl, rfl⟩

theorem setLatch_told : (setLatch c s).rif = (toldTrip c s).rif :=
  setLatch_rif (t := updSmc (fun k => { k with latch := some ⟨c, s.ret.clock⟩ }) s) ⟨rfl, rfl, rfl⟩

theorem setLatch_loop_told : (setLatch c { s with pins := { s.pins with loopOpen := true } }).rif = (toldTrip c s).rif :=
  setLatch_rif (s := { s with pins := { s.pins with loopOpen := true } })
    (t := updSmc (fun k => { k with latch := some ⟨c, s.ret.clock⟩ }) s) ⟨rfl, rfl, rfl⟩

/-- R204, R205: the trip for the supply, with the latch clear. -/
theorem supplyTrip_clear (h : s.latched = false) :
    (supplyTrip s).smc = { s.smc with
      mode := .trip, latch := some ⟨.supply, s.ret.clock⟩, idleTimer := none, parkTimer := none, inReset := true }
    ∧ (supplyTrip s).pins = { s.pins with masterIsolation := false } ∧ (supplyTrip s).mail = []
    ∧ (supplyTrip s).ret = s.ret ∧ (supplyTrip s).pending = s.pending := by
  unfold supplyTrip
  rw [tripOn_clear h, setLatch_only]
  exact ⟨rfl, rfl, rfl, rfl, rfl⟩

/-- R205: RESTART is answered OK in a reserved place, with the mark that takes the restart. -/
theorem restartRequested_reserved {rq : Req} (hplace : 0 < s.rif.reserved) (hsend : s.rif.ringOut ≠ none) :
    restartRequested rq s = updRif (fun r =>
      { r with
        reserved := r.reserved - 1
        replies := r.replies ++ [⟨rq.src, 18, rq.tag, 0, [], true⟩] }) s := by
  have hpush : s.rif.pushReply ⟨rq.src, 18, rq.tag, 0, [], true⟩ = { s.rif with
      reserved := s.rif.reserved - 1
      replies := s.rif.replies ++ [⟨rq.src, 18, rq.tag, 0, [], true⟩] } := if_pos hplace
  have hqueued : updRif (Rif.pushReply ⟨rq.src, 18, rq.tag, 0, [], true⟩) s = updRif (fun r =>
      { r with
        reserved := r.reserved - 1
        replies := r.replies ++ [⟨rq.src, 18, rq.tag, 0, [], true⟩] }) s :=
    congrArg (fun r => { s with rif := r }) hpush
  exact (congrArg kick hqueued).trans (kick_of_sending hsend)

end Latch

end Sys2Proof.Machine

namespace Sys2Proof

open Sys2Proof.Machine

/-- Settles O57: the first cause trips and every later one is counted. -/
theorem tripLatch : Obligations.TripLatch := by
  unfold Obligations.TripLatch
  refine ⟨fun rq s hreset => ?_, fun rq s hreset => ⟨fun hplace hsend => ?_, running_of_eq hreset rfl⟩⟩
  · intro opened tripped told counted
    have htripped {u t : State} {c : TripCause} (h : Tripped s u c t) : tripped u c t :=
      ⟨h.smc, h.pins, h.mail, h.units⟩
    refine ⟨fun hclear => ⟨fun c => ?_, ?_, ?_, ?_⟩, fun hset => ⟨fun c => ?_, ?_, ?_, ?_⟩⟩
    · exact ⟨_, running_of_eq hreset (tripOn_clear hclear), htripped tripped_setLatch, setLatch_told⟩
    · exact ⟨_, running_of_eq hreset (tripOn_clear (s := opened) hclear), htripped tripped_loop, setLatch_loop_told⟩
    · exact ⟨_, running_of_eq hreset (congrArg (reply rq 17 .ok []) (tripOn_clear hclear)),
        htripped tripped_setLatch, setLatch_told⟩
    · exact ⟨_, running_of_eq hreset rfl, supplyTrip_clear hclear⟩
    · exact running_of_eq hreset (tripOn_latched hset)
    · exact running_of_eq hreset (tripOn_latched (s := opened) hset)
    · exact running_of_eq hreset (congrArg (reply rq 17 .ok []) (tripOn_latched hset))
    · refine running_of_eq hreset ?_
      unfold supplyTrip
      rw [tripOn_latched hset]
      rfl
  · exact running_of_eq hreset (restartRequested_reserved hplace hsend)

end Sys2Proof
end

section
/-! What changes no mode, and the descent timers (R201 to R203). O56 follows. -/

namespace Sys2Proof.Machine

open Sys2Proof

/-! ### A falling nozzle -/

section Wake

variable {p : Pos} {m : Mode} {s : State} {x : SigRec}

theorem wakeMode_unserved (h : (s.ctx p).opened = false ∨ (s.posRow p).pulseWeight = 0) : s.wakeMode p = none :=
  if_pos (by rcases h with h | h <;> simp [h])

theorem wakeMode_asleep (h : s.smc.mode = .run ∨ s.smc.mode = .configuring ∨ s.smc.mode = .trip
    ∨ (s.smc.mode = .parked ∧ (s.posRow p).wakeEnable = false)
    ∨ (s.smc.mode = .quiet ∧ (s.posRow p).required = .c00)) : s.wakeMode p = none := by
  unfold State.wakeMode
  simp only
  split
  · rfl
  · rcases h with h | h | h | ⟨h, hrow⟩ | ⟨h, hrow⟩ <;> simp [*]

theorem smcHolster_up (h : s.level (.holster p) = true) : smcHolster p s = s := by
  unfold smcHolster
  rw [h]

theorem smcHolster_asleep (h : s.wakeMode p = none) : smcHolster p s = s := by
  unfold smcHolster
  rw [h]
  cases s.level (.holster p) <;> rfl

theorem smcHolster_wakes (hl : s.level (.holster p) = false) (h : s.wakeMode p = some m) :
    smcHolster p s = changeMode m s := by
  unfold smcHolster
  rw [hl, h]

/-- R202: a delivery that wakes nothing leaves the state as it is. -/
theorem smcHolster_stands (hreset : s.smc.inReset = false) (h : x.level = true ∨ s.wakeMode p = none) :
    exec (.smcHolsterTransition p x) s = .next s := by
  refine running_of_eq hreset (seeing_sigless (g := id) (fun _ _ => rfl) ?_)
  rcases h with h | h
  · refine smcHolster_up ?_
    rw [State.level, withRecord_record_same]
    exact h
  · exact smcHolster_asleep (s := withRecord (.holster p) x s) h

end Wake

/-! ### MODE-SET -/

section ModeSet

variable {rq : Req} {n : Nat} {s : State}

theorem modeSet_range (h : n = 0 ∨ 4 ≤ n) : modeSetRequest rq n s = reply rq 16 .range [] s := by
  have hn : namedMode n = none := by
    rcases h with rfl | h
    · rfl
    · obtain ⟨k, rfl⟩ := Nat.exists_eq_add_of_le h
      rw [Nat.add_comm]
      rfl
  rw [modeSetRequest, hn]

theorem namedMode_isSome (hlo : 1 ≤ n) (hhi : n ≤ 3) : ∃ m, namedMode n = some m := by
  obtain rfl | rfl | rfl : n = 1 ∨ n = 2 ∨ n = 3 := by omega
  · exact ⟨_, rfl⟩
  · exact ⟨_, rfl⟩
  · exact ⟨_, rfl⟩

theorem modeSet_state (hlo : 1 ≤ n) (hhi : n ≤ 3) (h : s.smc.mode = .configuring ∨ s.smc.mode = .trip) :
    modeSetRequest rq n s = reply rq 16 .state [] s := by
  obtain ⟨m, hm⟩ := namedMode_isSome hlo hhi
  unfold modeSetRequest
  rw [hm]
  rcases h with h | h <;> simp only [h]

theorem modeSet_ok {m : Mode} (hn : namedMode n = some m)
    (h : s.smc.mode = .parked ∨ s.smc.mode = .quiet ∨ s.smc.mode = .run) :
    modeSetRequest rq n s = reply rq 16 .ok [] (changeMode m s) := by
  unfold modeSetRequest
  rw [hn]
  rcases h with h | h | h <;> simp only [h]

theorem namedMode_eq {m : Mode} (h : (n = 1 ∧ m = Mode.parked) ∨ (n = 2 ∧ m = .quiet) ∨ (n = 3 ∧ m = .run)) :
    namedMode n = some m := by
  rcases h with ⟨rfl, rfl⟩ | ⟨rfl, rfl⟩ | ⟨rfl, rfl⟩ <;> rfl

theorem changeMode_same {m : Mode} (h : s.smc.mode = m) : changeMode m s = s := if_pos h

end ModeSet

/-! ### The descent timers -/

section Descent

variable {s : State}

theorem noFills_iff : s.noFills = true ↔ ∀ q, (s.ctx q).state.descentSpan = false := by
  simp only [State.noFills, PerPos.toList, List.all_cons, List.all_nil, Bool.and_true, Bool.and_eq_true,
    Bool.not_eq_true']
  constructor
  · rintro ⟨h1, h2, h3, h4⟩ q
    cases q
    · exact h1
    · exact h2
    · exact h3
    · exact h4
  · exact fun h => ⟨h .p1, h .p2, h .p3, h .p4⟩

theorem descentTimer_fails (n : Nat) (t : Option Nat) : descentTimer false n t = none := rfl

theorem descentTimer_runs (n k : Nat) : descentTimer true n (some k) = some k := rfl

theorem descentTimer_starts (n : Nat) :
    descentTimer true n none = if n = 0 then none else some (10 * n) := rfl

theorem descent_run (h : s.smc.mode = .run) : descent s =
    updSmc (fun k => { k with idleTimer := descentTimer s.noFills s.stationRow.idleTime k.idleTimer }) s := by
  unfold descent State.descends
  rw [h]

theorem descent_quiet (h : s.smc.mode = .quiet) : descent s =
    updSmc (fun k => { k with
      parkTimer := descentTimer (s.noFills && (s.cmp.state == .stopped || !s.cmpFitted))
        s.stationRow.parkTime k.parkTimer }) s := by
  unfold descent State.descends
  rw [h]

theorem descent_other (h : s.smc.mode = .configuring ∨ s.smc.mode = .parked ∨ s.smc.mode = .trip) :
    descent s = s := by
  unfold descent
  rcases h with h | h | h <;> rw [h]

end Descent

end Sys2Proof.Machine

namespace Sys2Proof

open Sys2Proof.Machine

/-- Settles O56: the ways of a mode change by what withholds it, and the descent timers by their condition. -/
theorem modeKept : Obligations.ModeKept := by
  unfold Obligations.ModeKept
  refine ⟨fun p rq x s hreset => ⟨fun n h => ?_, fun n hlo hhi h => ?_, fun n h => ?_, fun h => ?_, fun h => ?_,
    fun h => ?_, fun h => ?_, fun h => ?_, fun h => ?_⟩, fun s hreset => ?_⟩
  · exact running_of_eq hreset (modeSet_range h)
  · exact running_of_eq hreset (modeSet_state hlo hhi h)
  · refine running_of_eq hreset ?_
    rcases h with ⟨rfl, h⟩ | ⟨rfl, h⟩ | ⟨rfl, h⟩
    · rw [modeSet_ok (m := .parked) rfl (.inl h), changeMode_same h]
    · rw [modeSet_ok (m := .quiet) rfl (.inr (.inl h)), changeMode_same h]
    · rw [modeSet_ok (m := .run) rfl (.inr (.inr h)), changeMode_same h]
  · exact smcHolster_stands hreset (.inl h)
  · refine smcHolster_stands hreset (.inr (wakeMode_asleep ?_))
    exact h.imp_right (Or.imp_right .inl)
  · refine smcHolster_stands hreset (.inr ?_)
    rcases h with h | h | h | h
    · exact wakeMode_unserved (.inl h)
    · exact wakeMode_unserved (.inr h)
    · exact wakeMode_asleep (.inr (.inr (.inr (.inl h))))
    · exact wakeMode_asleep (.inr (.inr (.inr (.inr h))))
  · refine running_of_eq hreset (onlyIf_neg ?_ _ _)
    rcases h with h | h <;> simp [h]
  · exact running_of_eq hreset (onlyIf_neg (by simp [h]) _ _)
  · exact running_of_eq hreset (onlyIf_neg (by simp [h]) _ _)
  · intro quietNow off idle park
    have hoff : (s.cmp.state == .stopped || !s.cmpFitted) = true ↔ off := by
      simp [off, State.cmpFitted]
    have hrun {t : Option Nat} (h : s.smc.mode = .run)
        (ht : descentTimer s.noFills s.stationRow.idleTime s.smc.idleTimer = t) :
        exec .descentReport s = .next (idle t) :=
      running_of_eq hreset ((descent_run h).trans (congrArg (fun t => idle t) ht))
    have hquiet {t : Option Nat} (h : s.smc.mode = .quiet)
        (ht : descentTimer (s.noFills && (s.cmp.state == .stopped || !s.cmpFitted)) s.stationRow.parkTime
          s.smc.parkTimer = t) : exec .descentReport s = .next (park t) :=
      running_of_eq hreset ((descent_quiet h).trans (congrArg (fun t => park t) ht))
    refine ⟨fun h hq ht htime => ?_, fun h hq ht htime => ?_, fun n h hq ht => ?_, fun h hq => ?_,
      fun h hq ho ht htime => ?_, fun h hq => ?_, fun h => running_of_eq hreset (descent_other h)⟩
    · refine hrun h ?_
      rw [noFills_iff.mpr hq, ht, descentTimer_starts, if_neg (by omega)]
    · have hidle : idle s.smc.idleTimer = s := rfl
      rw [← hidle]
      refine hrun h ?_
      rw [noFills_iff.mpr hq, ht, descentTimer_starts, if_pos htime]
    · have hidle : idle s.smc.idleTimer = s := rfl
      rw [← hidle]
      refine hrun h ?_
      rw [noFills_iff.mpr hq, ht, descentTimer_runs]
    · refine hrun h ?_
      rw [Bool.eq_false_iff.mpr (fun hf => hq (noFills_iff.mp hf)), descentTimer_fails]
    · refine hquiet h ?_
      rw [noFills_iff.mpr hq, hoff.mpr ho, ht]
      exact (descentTimer_starts _).trans (if_neg (by omega))
    · refine hquiet h ?_
      have hfails : (s.noFills && (s.cmp.state == .stopped || !s.cmpFitted)) = false := by
        rw [Bool.and_eq_false_iff, Bool.eq_false_iff, Bool.eq_false_iff]
        exact hq.imp (fun hn hf => hn (noFills_iff.mp hf)) (fun hn hf => hn (hoff.mp hf))
      rw [hfails, descentTimer_fails]

end Sys2Proof
end

section
/-! TABLE-READ, TABLE-DISCARD and READ-ITEM (R195, R197). O59 follows. -/

namespace Sys2Proof.Machine

open Sys2Proof

/-! ### Rows and copies -/

section Rows

variable {n row : Nat}

theorem Pos.ofNum_none (h : 5 ≤ n) : Pos.ofNum n = none := by
  obtain ⟨k, rfl⟩ := Nat.exists_eq_add_of_le' h
  rfl

theorem Bank.ofNum_of_eq {b : Bank} (h : n = b.num) : Bank.ofNum n = some b := by rw [h, Bank.ofNum_num]

theorem Pos.ofNum_of_eq {p : Pos} (h : n = p.num) : Pos.ofNum n = some p := by rw [h, Pos.ofNum_num]

theorem knownTable_of (hlo : 1 ≤ n) (hhi : n ≤ 9) : knownTable n = true := decide_eq_true ⟨hlo, hhi⟩

theorem unknownTable_of (h : n = 0 ∨ 10 ≤ n) : knownTable n = false := decide_eq_false (by omega)

theorem pick_eq {α : Type} (c : Copy α) {copy : Nat} (h : copy ≤ 1) :
    (if copy = 0 then c.active else c.shadow) = c.pick (copy == 1) := by
  obtain rfl | rfl : copy = 0 ∨ copy = 1 := by omega
  · rfl
  · rfl

theorem onlyRow_zero {α : Type} (x : Option α) (h : row = 0) : onlyRow row x = x := if_pos h

theorem onlyRow_other {α : Type} (x : Option α) (h : row ≠ 0) : onlyRow row x = none := if_neg h

theorem bankRowData_bank (t : BankTable) {b : Bank} (h : row + 1 = b.num) :
    bankRowData t row = some (printBankRow (t.rows.get b)) := by
  rw [bankRowData, Bank.ofNum_of_eq h]

theorem bankRowData_none (t : BankTable) (h : 6 ≤ row) : bankRowData t row = none := by
  rw [bankRowData, Bank.ofNum_none (by omega)]
  simp only
  rw [if_neg (by omega), if_neg (by omega)]

end Rows

/-! ### TABLE-READ and TABLE-DISCARD -/

section Tables

variable {rq : Req} {n row copy : Nat} {s : State}

theorem tableRead_unknown (h : n = 0 ∨ 10 ≤ n) : tableReadRequest rq n row copy s = reply rq 2 .unknown [] s := by
  rw [tableReadRequest, unknownTable_of h]
  rfl

theorem tableRead_copy (hlo : 1 ≤ n) (hhi : n ≤ 9) (h : 2 ≤ copy) :
    tableReadRequest rq n row copy s = reply rq 2 .range [] s := by
  rw [tableReadRequest, knownTable_of hlo hhi]
  exact if_pos (by omega)

theorem tableRead_row {d : List Byte} (hlo : 1 ≤ n) (hhi : n ≤ 9) (hcopy : copy ≤ 1)
    (h : s.tables.rowData n row (copy == 1) = some d) : tableReadRequest rq n row copy s =
      reply rq 2 .ok (u1 n ++ u1 row ++ u1 copy ++ u2 (s.tables.genOf n) ++ d) s := by
  rw [tableReadRequest, knownTable_of hlo hhi, h]
  exact (if_neg nofun).trans (if_neg (by omega))

theorem tableRead_none (hlo : 1 ≤ n) (hhi : n ≤ 9) (hcopy : copy ≤ 1)
    (h : s.tables.rowData n row (copy == 1) = none) :
    tableReadRequest rq n row copy s = reply rq 2 .range [] s := by
  rw [tableReadRequest, knownTable_of hlo hhi, h]
  exact (if_neg nofun).trans (if_neg (by omega))

theorem tableDiscard_unknown (h : n = 0 ∨ 10 ≤ n) : tableDiscardRequest rq n s = reply rq 4 .unknown [] s := by
  rw [tableDiscardRequest, unknownTable_of h]
  rfl

end Tables

/-! ### READ-ITEM -/

section Items

variable {rq : Req} {n index unit second sect : Nat} {s : State} {bs : List Byte}

theorem readItem_unknown (h : n = 0 ∨ 11 ≤ n) :
    readItemRequest rq n index unit second sect s = reply rq 1 .unknown [] s := if_pos (by omega)

theorem readItem_none (hlo : n ≠ 0) (hhi : n ≤ 10) (h : s.item n index unit second = none) :
    readItemRequest rq n index unit second sect s = reply rq 1 .range [] s := by
  rw [readItemRequest, if_neg (by omega), h]

/-- R197: a section that the content has is answered, and any other is out of range. -/
theorem readItem_sends (hlo : n ≠ 0) (hhi : n ≤ 10) (h : s.item n index unit second = some bs) :
    readItemRequest rq n index unit second sect s = if sect < max 1 ((bs.length + 50) / 51)
      then reply rq 1 .ok (u1 sect ++ u1 (max 1 ((bs.length + 50) / 51)) ++ (bs.drop (51 * sect)).take 51)
        (if n = 3 then updRif (fun r => { r with overrun := false }) s else s)
      else reply rq 1 .range [] s := by
  have hcount : sectionCount bs = max 1 ((bs.length + 50) / 51) := rfl
  rw [readItemRequest, if_neg (by omega), h]
  simp only [hcount]
  by_cases hsect : sect < max 1 ((bs.length + 50) / 51)
  · rw [if_neg (by omega), if_pos hsect, sectionData, hcount, Nat.mul_comm sect]
    congr 1
    by_cases h3 : n = 3
    · rw [clearOverrun, onlyIf_pos (by simp [h3]), if_pos h3]
    · rw [clearOverrun, onlyIf_neg (by simp [h3]), if_neg h3]
  · rw [if_pos (by omega), if_neg hsect]

/-- A content of one section is answered whole. -/
theorem readItem_whole (hlo : n ≠ 0) (hhi : n ≤ 10) (h3 : n ≠ 3) (h : s.item n index unit second = some bs)
    (hlen : bs.length ≤ 51) : readItemRequest rq n index unit second 0 s =
      reply rq 1 .ok (u1 0 ++ u1 1 ++ bs) s := by
  have hcount : max 1 ((bs.length + 50) / 51) = 1 := by omega
  rw [readItem_sends hlo hhi h, hcount, if_pos (by omega), if_neg h3, List.drop_zero, List.take_of_length_le hlen]

theorem noIndex_zero (bs : List Byte) (h : index = 0) : noIndex index bs = some bs := if_pos h

theorem totaliser_item {p : Pos} (h : index = p.num) : s.item 10 index unit second = some (s.totaliserItem p) :=
  congrArg (Option.map s.totaliserItem) (Pos.ofNum_of_eq h)

theorem totaliserItem_length (p : Pos) (s : State) : (s.totaliserItem p).length = 11 := rfl

theorem clockItem_length (s : State) : s.clockItem.length = 9 := by
  unfold State.clockItem clockField
  cases s.ret.clock <;> rfl

theorem bank_item {b : Bank} (h : index = b.num) : s.item 6 index unit second = some (s.bankItem b) :=
  congrArg (Option.map s.bankItem) (Bank.ofNum_of_eq h)

theorem position_item {p : Pos} (h : index = p.num) : s.item 9 index unit second = some (s.positionItem p) :=
  congrArg (Option.map s.positionItem) (Pos.ofNum_of_eq h)

/-- R54: the run timer of item 7, as the run-seconds since the start. -/
theorem runTimerField_eq : s.runTimerField = clockField (s.cmp.startedAt.map (fun n => s.ret.runSeconds - n)) := by
  unfold State.runTimerField State.runTimer
  cases s.cmp.startedAt <;> rfl

theorem posIndex_map (h : Option (Pos × Option Nat)) :
    posIndex (h.map (·.1)) = u1 ((h.map (fun x => x.1.num)).getD 0) := by
  cases h <;> rfl

/-- R108: the fields of item 9 before its timers. -/
def ctxHead (c : Ctx) : List Byte :=
  u1 c.state.num ++ uFlag c.opened ++ uFlag c.faultMark
    ++ optField 1 (c.faultCause.map (fun f => u1 f.num)) ++ optField 16 (c.fill.map fillIdBytes)
    ++ u1 c.category.rank ++ u1 c.reRates ++ optField 8 (c.selection.map selectionBytes)
    ++ optField 2 (c.p0.map i2) ++ u1 (sourceNum c.source) ++ u1 (sourceNum c.waitOn)
    ++ u1 c.waitStage.num ++ i2 c.anchor ++ u2 c.tau ++ optField 2 (c.target.map i2) ++ u2 c.opening
    ++ uFlag c.halt ++ uFlag c.signal ++ u1 c.resume.num ++ u1 c.link.num ++ u1 c.consistent
    ++ optField 2 (c.soc.map u2)

/-- R108: the timers of item 9 behind `x`, one after the other. -/
def andTimers (x : List Byte) (t : PosTimers) : List Byte :=
  x ++ timerField t.fill ++ optField 1 (t.pulse.map u1) ++ timerField t.leak ++ timerField t.precool
    ++ timerField t.bankWait ++ timerField t.pause ++ timerField t.vehicle ++ timerField t.mismatch
    ++ timerField t.afterRun ++ timerField t.vent

def andOutcomes (x : List Byte) (os : List (Bank × DrawOutcome)) : List Byte :=
  x ++ countByte (os.countP (fun y => y.2 == .balanced)) ++ countByte (os.countP (fun y => y.2 == .mismatch))
    ++ countByte (os.countP (fun y => y.2 == .unchecked))

/-- R136: the meter context of item 9 behind `x`, one figure after the other. -/
def andMeter (x : List Byte) (m : MeterCtx) : List Byte :=
  x ++ optField 2 (m.baseline.map u2) ++ uFlag m.fault ++ u1 (if m.isOpen then 0 else 1) ++ u8 m.fill
    ++ m.banks.toList.flatMap u8 ++ u8 m.cmp ++ u8 m.unattr ++ u8 m.afterRun ++ uFlag m.uncertain
    ++ u8 m.outMass ++ uFlag m.outNotice

theorem append_timersBytes (x : List Byte) (t : PosTimers) : x ++ timersBytes t = andTimers x t := by
  simp only [timersBytes, andTimers, List.append_assoc]

theorem append_outcomesBytes (x : List Byte) (os : List (Bank × DrawOutcome)) :
    x ++ outcomesBytes os = andOutcomes x os := by
  simp only [outcomesBytes, andOutcomes, List.flatMap_cons, List.flatMap_nil, List.append_nil, List.append_assoc]

theorem append_meterBytes (x : List Byte) (m : MeterCtx) : x ++ meterBytes m = andMeter x m := by
  simp only [meterBytes, andMeter, List.append_assoc]

theorem ctxBytes_fields (c : Ctx) : ctxBytes c = andOutcomes (andTimers (ctxHead c) c.timers) c.outcomes
    ++ uFlag c.uncertainMark ++ u1 (endReasonNum c.endReason) ++ awaitedBytes c.awaited := by
  rw [← append_timersBytes, ← append_outcomesBytes]
  rfl

/-- R108, R136: the fields of item 9, one after the other. -/
theorem positionItem_fields {p : Pos} : s.positionItem p =
    andMeter (andOutcomes (andTimers (ctxHead (s.ctx p)) (s.ctx p).timers) (s.ctx p).outcomes
      ++ uFlag (s.ctx p).uncertainMark ++ u1 (endReasonNum (s.ctx p).endReason) ++ awaitedBytes (s.ctx p).awaited)
      (s.meter p) ++ optField 39 ((s.bil.get p).map tenderBytes) := by
  rw [← ctxBytes_fields, ← append_meterBytes]
  rfl

theorem signal_item {o : Role} (hcode : (index, unit, second) = o.code) (hin : o.kind.isInput = true) :
    s.item 5 index unit second = some (s.signalItem o) := by
  have hof : Role.ofCode index unit second = some o := by
    have h := Role.ofCode_code o
    rwa [← hcode] at h
  have hitem : s.item 5 index unit second =
      ((Role.ofCode index unit second).filter (fun r => r.kind.isInput)).map s.signalItem := rfl
  rw [hitem, hof, Option.filter_some, if_pos hin]
  rfl

theorem signal_item_none {o : Role} (hcode : (index, unit, second) = o.code) (hin : o.kind.isInput = false) :
    s.item 5 index unit second = none := by
  have hof : Role.ofCode index unit second = some o := by
    have h := Role.ofCode_code o
    rwa [← hcode] at h
  have hitem : s.item 5 index unit second =
      ((Role.ofCode index unit second).filter (fun r => r.kind.isInput)).map s.signalItem := rfl
  rw [hitem, hof, Option.filter_some, if_neg (by simp [hin])]
  rfl

/-- R7: the contents of the record of a mapped role. -/
theorem signalItem_mapped {o : Role} {row : Nat} {x : NodeRow} (h : s.rowOf o = some (row, x)) :
    s.signalItem o = u1 1 ++ u1 row ++ u1 (s.record o).quality.num ++ recordContents o (s.record o)
      ++ u1 (s.record o).region.num ++ u2 ((s.record o).timer.getD 0) := by
  rw [State.signalItem, h]
  rfl

end Items

end Sys2Proof.Machine

namespace Sys2Proof

open Sys2Proof.Machine

/-- Settles O59: each request by the row or the item it names. -/
theorem readRequests : Obligations.ReadRequests := by
  unfold Obligations.ReadRequests
  refine ⟨fun rq row copy s hreset => ?_, fun rq index unit second sect s hreset => ?_,
    fun rq index unit second sect s hreset => ?_⟩
  · intro ok gone
    refine ⟨fun n h => ⟨running_of_eq hreset (tableRead_unknown h), running_of_eq hreset (tableDiscard_unknown h)⟩,
      fun n hlo hhi h => running_of_eq hreset (tableRead_copy hlo hhi h), fun hcopy => ?_,
      running_of_eq hreset rfl, running_of_eq hreset rfl, running_of_eq hreset rfl, running_of_eq hreset rfl,
      running_of_eq hreset rfl, running_of_eq hreset rfl, running_of_eq hreset rfl, running_of_eq hreset rfl,
      running_of_eq hreset rfl⟩
    intro own reads none' k
    have hown {α : Type} (c : Copy α) : own c = c.pick (copy == 1) := pick_eq c hcopy
    have hreads {n : Nat} {d : List Byte} (hlo : 1 ≤ n) (hhi : n ≤ 9)
        (h : s.tables.rowData n row (copy == 1) = some d) : reads n (s.tables.genOf n) d :=
      running_of_eq hreset (tableRead_row hlo hhi hcopy h)
    have hnone {n : Nat} (hlo : 1 ≤ n) (hhi : n ≤ 9) (h : s.tables.rowData n row (copy == 1) = none) : none' n :=
      running_of_eq hreset (tableRead_none hlo hhi hcopy h)
    refine ⟨fun r h => ?_, fun h => ?_, fun h => ?_, fun b h => ?_, fun h => ?_, fun h => ?_, fun h => ?_, fun h => ?_,
      fun h => ?_, fun p h => ?_, fun h => ⟨?_, ?_⟩, fun h => ?_, fun h => ⟨?_, ?_⟩, fun h => ?_, fun h => ?_,
      fun h => ?_, fun h => ⟨?_, ?_⟩, fun h => ?_⟩
    · rw [hown] at h
      exact hreads (n := 1) (by omega) (by omega) (congrArg (Option.map printNodeRow) h)
    · rw [hown] at h
      exact hnone (n := 1) (by omega) (by omega) (congrArg (Option.map printNodeRow) (List.getElem?_eq_none h))
    · rw [hown]
      exact hreads (n := 2) (by omega) (by omega) (onlyRow_zero _ h)
    · rw [hown]
      exact hreads (n := 3) (by omega) (by omega) (bankRowData_bank _ h)
    · rw [hown]
      subst h
      exact hreads (n := 3) (by omega) (by omega) rfl
    · rw [hown]
      subst h
      exact hreads (n := 3) (by omega) (by omega) rfl
    · rw [hown]
      exact hreads (n := 4) (by omega) (by omega) (onlyRow_zero _ h)
    · rw [hown]
      exact hreads (n := 5) (by omega) (by omega) (if_pos h)
    · rw [hown]
      subst h
      exact hreads (n := 5) (by omega) (by omega) rfl
    · rw [hown]
      exact hreads (n := 6) (by omega) (by omega) (congrArg (Option.map _) (Pos.ofNum_of_eq h))
    · rw [hown]
      exact hreads (n := 7) (by omega) (by omega) (if_pos h)
    · rw [hown]
      exact hreads (n := 8) (by omega) (by omega) (if_pos h)
    · rw [hown]
      exact hreads (n := 9) (by omega) (by omega) (if_pos h)
    · exact hnone (n := 2) (by omega) (by omega) (onlyRow_other _ (by omega))
    · exact hnone (n := 4) (by omega) (by omega) (onlyRow_other _ (by omega))
    · exact hnone (n := 3) (by omega) (by omega) (bankRowData_none _ h)
    · exact hnone (n := 5) (by omega) (by omega) ((if_neg (by omega)).trans (if_neg (by omega)))
    · exact hnone (n := 6) (by omega) (by omega) (congrArg (Option.map _) (Pos.ofNum_none (by omega)))
    · exact hnone (n := 7) (by omega) (by omega) (if_neg (by omega))
    · exact hnone (n := 8) (by omega) (by omega) (if_neg (by omega))
    · exact hnone (n := 9) (by omega) (by omega) (if_neg (by omega))
  · refine ⟨fun n h => running_of_eq hreset (readItem_unknown h), fun n hlo hhi h =>
      running_of_eq hreset (readItem_none hlo hhi h), fun p hp hsect => ?_, fun p hp hsect => ?_, fun h hsect => ?_,
      fun h hsect => ?_⟩
    · subst hsect
      exact running_of_eq hreset (readItem_whole (by omega) (by omega) (by omega) (totaliser_item hp)
        (Nat.le_of_eq (totaliserItem_length p s) |>.trans (by omega)))
    · refine running_of_eq hreset ?_
      rw [readItem_sends (by omega) (by omega) (totaliser_item hp), totaliserItem_length]
      exact if_neg (by omega)
    · subst hsect
      exact running_of_eq hreset (readItem_whole (by omega) (by omega) (by omega) (noIndex_zero _ h)
        (Nat.le_of_eq (clockItem_length s) |>.trans (by omega)))
    · subst hsect
      exact ⟨_, running_of_eq hreset ((readItem_sends (by omega) (by omega)
        (show s.item 3 index unit second = some s.rif.item from noIndex_zero _ h)).trans (if_pos (by omega)))⟩
  · intro sends timer clock category cause value level m f r
    have hsends {n : Nat} {bs : List Byte} (hlo : n ≠ 0) (hhi : n ≤ 10)
        (h : s.item n index unit second = some bs) : sends n bs :=
      running_of_eq hreset (readItem_sends hlo hhi h)
    have hplain {n : Nat} {bs cs : List Byte} (hlo : n ≠ 0) (hhi : n ≤ 10) (hindex : index = 0)
        (h : s.item n index unit second = noIndex index bs) (hbytes : bs = cs) : sends n cs :=
      hsends hlo hhi (h.trans ((noIndex_zero bs hindex).trans (congrArg some hbytes)))
    refine ⟨fun h => ?_, fun h => ?_, fun h => ?_, fun o row x hcode hrow => ?_, fun o hcode => ⟨fun hin hrow => ?_, fun hin => ?_⟩,
      fun b hb => ?_, fun h => ?_, fun h => ?_, fun p hp => ?_⟩
    · exact hplain (n := 1) (by omega) (by omega) h rfl rfl
    · exact hplain (n := 2) (by omega) (by omega) h rfl rfl
    · exact hplain (n := 3) (by omega) (by omega) h rfl rfl
    · intro y v item
      have hitem {bs : List Byte} (hin : o.kind.isInput = true) (hbs : recordContents o y = bs) : item bs := by
        rw [← hbs]
        exact hsends (by omega) (by omega) ((signal_item hcode hin).trans (congrArg some (signalItem_mapped hrow)))
      refine ⟨fun h => ?_, fun h => ?_, fun h => ?_⟩
      · rcases h with h | h
        · exact hitem (by rw [h]; rfl) (by rw [recordContents, h])
        · exact hitem (by rw [h]; rfl) (by rw [recordContents, h])
      · exact hitem (by rw [h]; rfl) (by rw [recordContents, h])
      · exact hitem (by rw [h]; rfl) (by rw [recordContents, h]; rfl)
    · refine hsends (by omega) (by omega) ((signal_item hcode hin).trans (congrArg some ?_))
      rw [State.signalItem, hrow]
      rfl
    · exact running_of_eq hreset (readItem_none (by omega) (by omega) (signal_item_none hcode hin))
    · intro k figures opened state
      have hstate : u1 k.state.num ++ u1 k.state.holderNum = state := by
        dsimp only [state]
        cases k.state <;> rfl
      have hopened : sessionBytes = opened := by
        funext y
        dsimp only [opened]
        rw [sessionBytes]
        cases y.holder <;> rfl
      have hfigures : lastBytes = figures := by
        funext l
        cases l <;> rfl
      refine hsends (by omega) (by omega) ((bank_item hb).trans (congrArg some ?_))
      rw [State.bankItem, hstate, hopened, hfigures]
      rfl
    · intro k dest
      refine hplain (n := 7) (by omega) (by omega) h rfl ?_
      have hdest : destBytes = dest := by
        funext d
        cases d <;> rfl
      rw [State.compressorItem, runTimerField_eq, posIndex_map, hdest]
      rfl
    · intro k monitor
      exact hplain (n := 8) (by omega) (by omega) h rfl rfl
    · intro c t g least outcome only
      exact hsends (by omega) (by omega) ((position_item hp).trans (congrArg some positionItem_fields))
end Sys2Proof
end

section
/-! What the compressor's and the chiller's operations leave alone of each other and of RIF. -/

namespace Sys2Proof.Machine

open Sys2Proof

/-! ### The chiller's context beside BKM and CMP -/

section Chill

variable (s : State)

@[simp] theorem onlyIf_pcl (c : Bool) (f : State → State) :
    (onlyIf c f s).pcl = if c then (f s).pcl else s.pcl := by cases c <;> rfl

@[simp] theorem closeDraw_pcl (b : Bank) (p : Pos) (x : Session) : (closeDraw b p x s).pcl = s.pcl := by
  simp only [closeDraw]
  repeat' split
  all_goals simp

@[simp] theorem closeSession_pcl (b : Bank) : (closeSession b s).pcl = s.pcl := by
  simp only [closeSession]
  repeat' split
  all_goals simp

@[simp] theorem grantBank_pcl (b : Bank) (p : Pos) : (grantBank b p s).pcl = s.pcl := by
  rw [grantBank_eq]
  simp [leaveBankLists]

@[simp] theorem passBank_pcl (b : Bank) : (passBank b s).pcl = s.pcl := by
  unfold passBank
  split <;> simp [announce]

@[simp] theorem releaseBank_pcl (b : Bank) (h : Holder) : (releaseBank b h s).pcl = s.pcl := by
  unfold releaseBank
  split <;> simp

@[simp] theorem claimForCompressor_pcl (b : Bank) : (claimForCompressor b s).2.pcl = s.pcl := by
  unfold claimForCompressor
  split <;> simp [openSession]

@[simp] theorem cmpGoto_pcl (st : CmpState) : (cmpGoto st s).pcl = s.pcl := by
  simp [cmpGoto, cmpReport]

@[simp] theorem noteRefillWant_pcl : (noteRefillWant s).pcl = s.pcl := by
  simp [noteRefillWant]

@[simp] theorem startCompressor_pcl : (startCompressor s).pcl = s.pcl := by
  simp [startCompressor, ageHistory]

@[simp] theorem holdStart_pcl (r : HeldReason) : (holdStart r s).pcl = s.pcl := by
  simp only [holdStart]
  repeat' split
  all_goals simp

@[simp] theorem startEval_pcl : (startEval s).pcl = s.pcl := by
  simp only [startEval]
  repeat' split
  all_goals simp [endEpisode]

@[simp] theorem enterCooldown_pcl : (enterCooldown s).pcl = s.pcl := by
  simp only [enterCooldown]
  split <;> simp

@[simp] theorem stopIfDue_pcl (ran : Bool) : (stopIfDue ran s).pcl = s.pcl := by
  unfold stopIfDue
  split <;> simp [normalStop]

theorem claimRefill_pcl : ∀ (bs : List Bank) (s : State) {t : State}, claimRefill bs s = some t → t.pcl = s.pcl
  | [], _, _, h => nomatch h
  | b :: bs, s, t, h => by
    have hclaim := claimForCompressor_pcl s b
    unfold claimRefill at h
    split at h
    · next u hu =>
      obtain rfl := Option.some.inj h
      simpa [hu] using hclaim
    · next a u _ hu =>
      rw [claimRefill_pcl bs u h]
      simpa [hu] using hclaim

@[simp] theorem tellGranted_pcl : (tellGranted s).pcl = s.pcl := by
  unfold tellGranted
  split <;> rfl

@[simp] theorem chooseTarget_pcl (ran : Bool) : (chooseTarget ran s).pcl = s.pcl := by
  unfold chooseTarget
  split
  · simp [grantOutput]
  · split
    · split
      · next t h => exact claimRefill_pcl _ s h
      · simp
    · simp

@[simp] theorem endRefill_pcl (b : Bank) : (endRefill b s).pcl = s.pcl := by
  simp [endRefill, enterUnloaded]

@[simp] theorem endRefill_beside (b : Bank) : (endRefill b s).beside = s.beside := by
  simp [endRefill, enterUnloaded]

@[simp] theorem cmpModeChange_pcl (old : Mode) : (cmpModeChange old s).pcl = s.pcl := by
  unfold cmpModeChange
  repeat' split
  all_goals simp [targetChoice]

@[simp] theorem cmpModeChange_beside (old : Mode) : (cmpModeChange old s).beside = s.beside := by
  unfold cmpModeChange
  repeat' split
  all_goals simp [targetChoice]

end Chill

/-! ### What the chiller leaves alone -/

/-- A state with the chiller's context and the ring interface of another. -/
def State.chilled (s t : State) : State := { s with pcl := t.pcl, rif := t.rif }

section Cold

variable {s : State}

theorem runEval_chilled : runEval s = s.chilled (runEval s) := by
  have hpark : parkChiller s = s.chilled (parkChiller s) := by
    rw [parkChiller_eq, close_onlyRif]
    rfl
  have hstart : startChiller s = s.chilled (startChiller s) := by
    unfold startChiller
    simp only
    rw [openFull_onlyRif]
    split
    · rfl
    · rfl
  unfold runEval
  split
  · rfl
  · split
    · cases s.runCondition
      · rfl
      · exact hstart
    · split
      · rfl
      · unfold beginPark
        repeat' split
        · rfl
        · exact hpark
        · rfl
    · split
      · rfl
      · unfold beginPark
        repeat' split
        · rfl
        · exact hpark
        · rfl
    · rfl

end Cold

/-! ### The ring interface while it sends -/

/-- A unit's event while RING-OUT sends: the send goes on, and what the filters read stands. -/
structure SendsOn (s t : State) : Prop where
  ringOut : t.rif.ringOut = s.rif.ringOut
  tripTaken : t.rif.tripTaken = s.rif.tripTaken
  nodeMap : t.tables.nodeMap.active = s.tables.nodeMap.active
  latch : t.smc.latch = s.smc.latch

section Sending

variable {s t u : State}

theorem SendsOn.refl (s : State) : SendsOn s s := ⟨rfl, rfl, rfl, rfl⟩

theorem SendsOn.trans (h : SendsOn s t) (k : SendsOn t u) : SendsOn s u :=
  ⟨k.ringOut.trans h.ringOut, k.tripTaken.trans h.tripTaken, k.nodeMap.trans h.nodeMap, k.latch.trans h.latch⟩

theorem actuate_sending {r : Role} {c : ActCommand} {v : Nat} (h : s.rif.ringOut ≠ none) :
    actuate r c v s = if s.mapped r then
      updRif (fun x => { x with commands := enqueue (heldEntry s.tripHeld ⟨r, c, v⟩) x.commands }) s else s := by
  unfold actuate
  split
  · exact kick_of_sending h
  · rfl

theorem actuate_sendsOn {r : Role} {c : ActCommand} {v : Nat} (h : s.rif.ringOut ≠ none) :
    SendsOn s (actuate r c v s) := by
  rw [actuate_sending h]
  split
  · exact ⟨rfl, rfl, rfl, rfl⟩
  · exact .refl s

theorem noticeTo_sendsOn {d : Nat} {k : NoticeKind} {n : Nat} {bs : List Byte} (h : s.rif.ringOut ≠ none) :
    SendsOn s (noticeTo d k n bs s) := by
  rw [noticeTo_of_sending h]
  refine ⟨?_, pushNotice_tripTaken _ _, rfl, rfl⟩
  simp only [updRif, Rif.pushNotice]
  split <;> rfl

theorem reply_sendsOn {rq : Req} {n : Nat} {st : Status} {bs : List Byte} (h : s.rif.ringOut ≠ none) :
    SendsOn s (reply rq n st bs s) := by
  have hpush (y : Reply) : (s.rif.pushReply y).ringOut = s.rif.ringOut := by
    unfold Rif.pushReply
    repeat' split
    all_goals rfl
  unfold reply
  rw [kick_of_sending (by exact fun hn => h ((hpush _).symm.trans hn))]
  exact ⟨hpush _, (pushReply_keeps _ _).2.2.2, rfl, rfl⟩

/-- While RING-OUT sends, an event of the units starts no other frame. -/
theorem RingEvent.sendsOn (he : RingEvent s t) (h : s.rif.ringOut ≠ none) : SendsOn s t := by
  induction he with
  | start => exact .refl s
  | other _ hk ih =>
    exact ih.trans ⟨congrArg (fun x => (RingPart.rif x).ringOut) hk, congrArg (fun x => (RingPart.rif x).tripTaken) hk,
      congrArg RingPart.nodeMap hk, congrArg RingPart.latch hk⟩
  | actuate r c v _ _ ih => exact ih.trans (actuate_sendsOn (by rwa [ih.ringOut]))
  | noticeTo d k n bs _ ih => exact ih.trans (noticeTo_sendsOn (by rwa [ih.ringOut]))
  | reply rq n st bs _ ih => exact ih.trans (reply_sendsOn (by rwa [ih.ringOut]))
  | reserve n _ _ ih => exact ih.trans ⟨rfl, rfl, rfl, rfl⟩

theorem SendsOn.mapped (h : SendsOn s t) (r : Role) : t.mapped r = s.mapped r := by
  rw [State.mapped, State.mapped, State.rowOf, State.rowOf, State.nodeRows, State.nodeRows, h.nodeMap]

theorem SendsOn.tripHeld (h : SendsOn s t) : t.tripHeld = s.tripHeld := tripHeld_congr h.latch h.tripTaken

theorem enqueue_mem (e : CmdEntry) (q : List CmdEntry) : e ∈ enqueue e q := by
  unfold enqueue
  split
  · simp
  · next old hold =>
    have hrole : (fun x : CmdEntry => x.role == e.role) old = true :=
      List.find?_some (p := fun x : CmdEntry => x.role == e.role) hold
    split
    · simp
    · exact List.mem_map.mpr ⟨old, List.mem_of_find?_eq_some hold, if_pos hrole⟩

/-- R190: a command queued while RING-OUT sends stands in the queue. -/
theorem mem_actuate_sending {r : Role} {c : ActCommand} {v : Nat} (h : s.rif.ringOut ≠ none)
    (hmap : s.mapped r = true) (hclear : s.tripHeld = false) (hv : c = .close → v = 0) :
    ⟨r, c, v⟩ ∈ (actuate r c v s).rif.commands := by
  rw [actuate_sending h, if_pos hmap, hclear]
  have hheld : heldEntry false ⟨r, c, v⟩ = ⟨r, c, v⟩ := by
    by_cases hc : c = .close
    · rw [hc, hv hc]
      rfl
    · simp [heldEntry, hc]
  rw [hheld]
  exact enqueue_mem ⟨r, c, v⟩ s.rif.commands

end Sending

end Sys2Proof.Machine
end

section
/-! A change of mode, taken apart: the mode with its timers and the positions, the compressor, the chiller (R201). -/

namespace Sys2Proof.Machine

open Sys2Proof

/-! ### The positions -/

section Positions

variable {s : State} {p : Pos}

/-- R109: an availability evaluation changes the context and the place in the wait order alone. -/
theorem evalAvailability_only (p : Pos) (s : State) : evalAvailability p s = { s with
    fil := (evalAvailability p s).fil, bankWaitOrder := (evalAvailability p s).bankWaitOrder } := by
  by_cases hst : (s.ctx p).state = .closed
  · cases ha : s.available p with
    | true =>
      rw [evalAvailability_opens hst ha]
      rfl
    | false => rw [evalAvailability_shut hst ha]
  · by_cases hup : (s.ctx p).state = .idle ∨ (s.ctx p).state = .lifted
    · cases ha : s.available p with
      | true => rw [evalAvailability_offered hup ha]
      | false =>
        rw [evalAvailability_closes hup ha]
        rfl
    · have hbusy : (s.ctx p).state.busySpan = true ∨ (s.ctx p).state = .fault := by
        revert hst hup
        cases (s.ctx p).state <;> simp [PState.busySpan, PState.descentSpan, PState.inProgress, PState.endable,
          PState.running]
      rw [evalAvailability_busy hbusy]

theorem around_evalAvailability (p : Pos) (s : State) : Around p s (evalAvailability p s) := by
  have hsame : Around p s s := Around.refl p s
  have hgo (st : PState) : Around p s (goState p st s) := around_goState st
  unfold evalAvailability
  split
  · exact hgo _
  · exact hgo _
  · exact hgo _
  · exact hsame

theorem evalAllAvailability_only (s : State) : evalAllAvailability s = { s with
    fil := (evalAllAvailability s).fil, bankWaitOrder := (evalAllAvailability s).bankWaitOrder } := by
  have hstep (p : Pos) (x : PerPos Ctx) (y : List Pos) (u : State) (hu : u = { s with fil := x, bankWaitOrder := y }) :
      ∃ x' y', evalAvailability p u = { s with fil := x', bankWaitOrder := y' } := by
    rw [evalAvailability_only, hu]
    exact ⟨_, _, rfl⟩
  obtain ⟨x1, y1, h1⟩ := hstep .p1 s.fil s.bankWaitOrder s rfl
  obtain ⟨x2, y2, h2⟩ := hstep .p2 x1 y1 _ h1
  obtain ⟨x3, y3, h3⟩ := hstep .p3 x2 y2 _ h2
  obtain ⟨x4, y4, h4⟩ := hstep .p4 x3 y3 _ h3
  have hall : evalAllAvailability s = { s with fil := x4, bankWaitOrder := y4 } := h4
  rw [hall]

/-- R109: each position is judged by its own context, the tables, the records and the mode. -/
theorem evalAllAvailability_at (s : State) (p : Pos) : ∃ u, u.ctx p = s.ctx p ∧ u.tables = s.tables ∧ u.sig = s.sig
    ∧ u.smc = s.smc ∧ (evalAllAvailability s).ctx p = (evalAvailability p u).ctx p := by
  obtain ⟨u, hctx, htables, hsig, hsmc, -, hlast⟩ :=
    forEach_at around_evalAvailability p Pos.all (by decide) (by cases p <;> decide) s
  exact ⟨u, hctx, htables, hsig, hsmc, hlast⟩

/-- R109: what the evaluation of every position makes of one, by its state and its availability. -/
structure Offered (s t : State) (p : Pos) : Prop where
  opens : (s.ctx p).state = .closed → s.available p = true →
    t.ctx p = { s.ctx p with state := if s.level (.holster p) then .idle else .lifted }
  closes : (s.ctx p).state = .idle ∨ (s.ctx p).state = .lifted → s.available p = false →
    t.ctx p = { s.ctx p with state := .closed }
  shut : (s.ctx p).state = .closed → s.available p = false → t.ctx p = s.ctx p
  stays : (s.ctx p).state = .idle ∨ (s.ctx p).state = .lifted → s.available p = true → t.ctx p = s.ctx p
  busy : (s.ctx p).state.busySpan = true ∨ (s.ctx p).state = .fault → t.ctx p = s.ctx p

theorem evalAllAvailability_offered (s : State) (p : Pos) : Offered s (evalAllAvailability s) p := by
  obtain ⟨u, hctx, htables, hsig, hsmc, hlast⟩ := evalAllAvailability_at s p
  have ha : u.available p = s.available p := by
    simp only [State.available, State.posRow, hctx, htables, hsmc]
  have hl : u.level (.holster p) = s.level (.holster p) := by
    simp only [State.level, State.record, hsig]
  refine ⟨fun hst h => ?_, fun hst h => ?_, fun hst h => ?_, fun hst h => ?_, fun hst => ?_⟩
  · rw [hlast, evalAvailability_opens (by rw [hctx]; exact hst) (ha.trans h), unqueued_ctx, updCtx_ctx_same, hctx, hl]
  · rw [hlast, evalAvailability_closes (by rw [hctx]; exact hst) (ha.trans h), unqueued_ctx, updCtx_ctx_same, hctx]
  · rw [hlast, evalAvailability_shut (by rw [hctx]; exact hst) (ha.trans h), hctx]
  · rw [hlast, evalAvailability_offered (by rw [hctx]; exact hst) (ha.trans h), hctx]
  · rw [hlast, evalAvailability_busy (by rw [hctx]; exact hst), hctx]

end Positions

/-! ### The mode itself -/

section Mode

variable {m : Mode} {u : State}

/-- R201, R203: the mode with its descent timer, before the positions and the units are told. -/
def inMode (m : Mode) (u : State) : State := descent (setMode m u)

theorem setMode_noFills : (setMode m u).noFills = u.noFills := rfl

/-- R203: the timers of SMC after a change to an active mode or to PARKED. -/
theorem inMode_eq (hm : m = .parked ∨ m = .quiet ∨ m = .run) : inMode m u = { u with
    smc := { u.smc with
      mode := m
      idleTimer := if m = .run ∧ u.noFills = true ∧ u.stationRow.idleTime ≠ 0
        then some (10 * u.stationRow.idleTime) else none
      parkTimer := if m = .quiet ∧ u.noFills = true ∧ (u.cmp.state = .stopped ∨ u.cmpRow.fitted = false)
          ∧ u.stationRow.parkTime ≠ 0
        then some (10 * u.stationRow.parkTime) else none }
    pins := { u.pins with masterIsolation := true } } := by
  have htimer (b : Bool) (n : Nat) : descentTimer b n none = if b = true ∧ n ≠ 0 then some (10 * n) else none := by
    cases b
    · rfl
    · rw [descentTimer_starts]
      by_cases hn : n = 0 <;> simp [hn]
  have hstation : (setMode m u).stationRow = u.stationRow := rfl
  rcases hm with rfl | rfl | rfl
  · rw [inMode, descent_other (s := setMode .parked u) (.inr (.inl rfl))]
    rfl
  · rw [inMode, descent_quiet (s := setMode .quiet u) rfl, hstation, setMode_noFills]
    have hoff : ((u.noFills && ((setMode .quiet u).cmp.state == .stopped || !(setMode .quiet u).cmpFitted)) = true
        ∧ u.stationRow.parkTime ≠ 0) ↔ (Mode.quiet = .quiet ∧ u.noFills = true
          ∧ (u.cmp.state = .stopped ∨ u.cmpRow.fitted = false) ∧ u.stationRow.parkTime ≠ 0) := by
      have hfit : (setMode .quiet u).cmpFitted = u.cmpRow.fitted := rfl
      have hcmp : (setMode .quiet u).cmp = u.cmp := rfl
      rw [hfit, hcmp]
      simp [and_assoc]
    have hsmc : (setMode .quiet u).smc.parkTimer = none := rfl
    rw [updSmc, hsmc, htimer, if_congr hoff rfl rfl]
    rfl
  · rw [inMode, descent_run (s := setMode .run u) rfl, hstation, setMode_noFills]
    have hidle : (u.noFills = true ∧ u.stationRow.idleTime ≠ 0) ↔
        (Mode.run = .run ∧ u.noFills = true ∧ u.stationRow.idleTime ≠ 0) := by simp
    have hsmc : (setMode .run u).smc.idleTimer = none := rfl
    rw [updSmc, hsmc, htimer, if_congr hidle rfl rfl]
    rfl

/-- R201: the mode, its timer and the positions, before the units are told. -/
def moded (m : Mode) (u : State) : State := evalAllAvailability (inMode m u)

theorem changeMode_differs (h : u.smc.mode ≠ m) :
    changeMode m u = pclModeChange (cmpModeChange u.smc.mode (moded m u)) := if_neg h

theorem moded_smc : (moded m u).smc = (inMode m u).smc := by
  rw [moded, evalAllAvailability_only]

end Mode

/-! ### The chiller's part -/

section Chiller

variable {m : Mode} {u : State}

/-- R76: with no request pending a change of mode is a run evaluation. -/
theorem pclModeChange_eq (h : ∀ q, u.pcl.pending.get q = none) : pclModeChange u = runEval u := by
  refine reEvaluate_none fun q => ?_
  have hpend : (runEval u).pcl.pending = u.pcl.pending := by
    have hpark : (beginPark u).pcl.pending = u.pcl.pending := by
      unfold beginPark
      repeat' split
      · rfl
      · rw [parkChiller_eq, updPcl_pcl, close_pcl]
        rfl
      · rfl
    unfold runEval
    split
    · rfl
    · split
      · cases u.runCondition
        · rfl
        · show (startChiller u).pcl.pending = _
          unfold startChiller
          simp only
          split
          · show (openFull .chillerDrive u).pcl.pending = _
            rw [openFull_pcl]
          · show (openFull .chillerDrive u).pcl.pending = _
            rw [openFull_pcl]
      · split
        · rfl
        · exact hpark
      · split
        · rfl
        · exact hpark
      · rfl
  rw [hpend]
  exact h q

end Chiller

end Sys2Proof.Machine
end

section
/-! The compressor at a change of mode (R69, R60, R61). -/

namespace Sys2Proof.Machine

open Sys2Proof

/-! ### States that the compressor finds alike -/

/-- `w` differs from `s` in the records of the nozzles, in SMC, the pins and FIL alone, and not in the latch. -/
structure Alike (w s : State) : Prop where
  same : w = { s with
    sig := w.sig, smc := w.smc, pins := w.pins, fil := w.fil, bankWaitOrder := w.bankWaitOrder }
  latch : w.smc.latch = s.smc.latch
  reads : ∀ r, (∀ q, r ≠ .holster q) → w.record r = s.record r

section Alike

variable {w s : State}

theorem Alike.cmp (h : Alike w s) : w.cmp = s.cmp := by rw [h.same]
theorem Alike.bkm (h : Alike w s) : w.bkm = s.bkm := by rw [h.same]
theorem Alike.mail (h : Alike w s) : w.mail = s.mail := by rw [h.same]
theorem Alike.ret (h : Alike w s) : w.ret = s.ret := by rw [h.same]
theorem Alike.tables (h : Alike w s) : w.tables = s.tables := by rw [h.same]
theorem Alike.rif (h : Alike w s) : w.rif = s.rif := by rw [h.same]
theorem Alike.pcl (h : Alike w s) : w.pcl = s.pcl := by rw [h.same]

theorem Alike.sameRing (h : Alike w s) : State.SameRing w s := ⟨h.rif, h.tables, h.latch⟩

theorem Alike.latched (h : Alike w s) : w.latched = s.latched := by rw [State.latched, h.latch, State.latched]

theorem Alike.bank (h : Alike w s) (b : Bank) : w.bank b = s.bank b := by rw [State.bank, h.bkm, State.bank]

theorem Alike.cmpRow (h : Alike w s) : w.cmpRow = s.cmpRow := by rw [State.cmpRow, h.tables, State.cmpRow]

theorem Alike.runTimer (h : Alike w s) : w.runTimer = s.runTimer := by
  rw [State.runTimer, h.cmp, h.ret, State.runTimer]

theorem Alike.youngStarts (h : Alike w s) : w.youngStarts = s.youngStarts := by
  rw [State.youngStarts, h.ret, State.youngStarts]

theorem Alike.usable (h : Alike w s) {r : Role} (hr : ∀ q, r ≠ .holster q) : w.usable r = s.usable r := by
  rw [State.usable, State.quality, h.reads r hr, State.usable, State.quality]

theorem Alike.value (h : Alike w s) {r : Role} (hr : ∀ q, r ≠ .holster q) : w.value r = s.value r := by
  rw [State.value, h.reads r hr, State.value]

theorem Alike.level (h : Alike w s) {r : Role} (hr : ∀ q, r ≠ .holster q) : w.level r = s.level r := by
  rw [State.level, h.reads r hr, State.level]

theorem Alike.mapped (h : Alike w s) (r : Role) : w.mapped r = s.mapped r := by
  rw [State.mapped, State.rowOf, State.nodeRows, h.tables, State.mapped, State.rowOf, State.nodeRows]

theorem Alike.bankRow (h : Alike w s) (b : Bank) : w.bankRow b = s.bankRow b := by
  rw [State.bankRow, h.tables, State.bankRow]

theorem Alike.refillable (h : Alike w s) (b : Bank) (n : Nat) : w.refillable b n = s.refillable b n := by
  rw [State.refillable, State.refillable, h.bankRow, h.mapped, h.bank, h.usable (r := .bankPressure b) (fun _ => nofun),
    h.value (r := .bankPressure b) (fun _ => nofun)]

theorem Alike.refillWanted (h : Alike w s) : w.refillWanted = s.refillWanted := by
  simp only [State.refillWanted, h.cmpRow, h.bankRow, h.refillable]

theorem Alike.refillCandidates (h : Alike w s) : w.refillCandidates = s.refillCandidates := by
  simp only [State.refillCandidates, h.cmpRow, h.bankRow, h.refillable]

theorem Alike.startRefusal (h : Alike w s) : w.startRefusal = s.startRefusal := by
  have hthreshold : w.suctionThreshold = s.suctionThreshold := by
    rw [State.suctionThreshold, h.cmpRow, h.cmp, State.suctionThreshold]
  have hsuction : w.suctionOk = s.suctionOk := by
    rw [State.suctionOk, hthreshold, h.usable (r := .suctionPressure) (fun _ => nofun),
      h.value (r := .suctionPressure) (fun _ => nofun), State.suctionOk]
  have hsignals : w.startSignalsOk = s.startSignalsOk := by
    rw [State.startSignalsOk, h.usable (r := .dischargeTemp) (fun _ => nofun),
      h.value (r := .dischargeTemp) (fun _ => nofun), h.usable (r := .compressorRunning) (fun _ => nofun),
      h.level (r := .compressorRunning) (fun _ => nofun), h.cmpRow, State.startSignalsOk]
  rw [State.startRefusal, hsuction, hsignals, h.cmpRow, h.youngStarts, State.startRefusal]

theorem Alike.wanted (h : Alike w s) : w.wanted ↔ s.wanted := by
  rw [State.wanted, State.wanted, h.cmp, h.refillWanted]

theorem Alike.mayStart (h : Alike w s) (hm : w.smc.mode = s.smc.mode) : w.mayStart ↔ s.mayStart := by
  rw [State.mayStart, State.mayStart, h.cmpRow, h.latched, hm]

/-! ### What the compressor keeps and what it sends, at two states it finds alike -/

/-- Two states hold the same of the compressor, the banks, the retained domain and what is in flight. -/
structure SameOutcome (t v : State) : Prop where
  cmp : t.cmp = v.cmp
  ret : t.ret = v.ret
  bkm : t.bkm = v.bkm
  mail : t.mail = v.mail

theorem startEval_alike (h : Alike w s) (hm : w.smc.mode = s.smc.mode) (hs : s.cmp.state = .stopped) :
    SameOutcome (startEval w) (startEval s) := by
  have hws : w.cmp.state = .stopped := by rw [h.cmp, hs]
  by_cases hgo : s.wanted ∧ s.mayStart
  · obtain ⟨hwant, hmay⟩ := hgo
    have hwant' := h.wanted.mpr hwant
    have hmay' := (h.mayStart hm).mpr hmay
    cases hr : s.startRefusal with
    | none =>
      rw [startEval_taken hwant' hmay' (h.startRefusal.trans hr), startEval_taken hwant hmay hr,
        startCompressor_noted hws, startCompressor_noted hs]
      refine ⟨?_, ?_, ?_, ?_⟩
      · simp [h.cmp, h.ret, h.cmpRow, h.refillWanted]
      · simp [h.ret]
      · simp [h.bkm]
      · simp [h.mail]
    | some r =>
      rw [startEval_refused hwant' hmay' (h.startRefusal.trans hr), startEval_refused hwant hmay hr]
      cases hheld : s.cmp.held with
      | none =>
        rw [(holdStart_noted _ r).1 (by rw [h.cmp, hheld]), (holdStart_noted _ r).1 hheld]
        exact ⟨by simp [h.cmp, h.refillWanted], by simp [h.ret], by simp [h.bkm], by simp [h.mail]⟩
      | some k =>
        rw [(holdStart_noted _ r).2 (by rw [h.cmp, hheld]; nofun), (holdStart_noted _ r).2 (by rw [hheld]; nofun)]
        exact ⟨by simp [h.cmp, h.refillWanted], by simp [h.ret], by simp [h.bkm], by simp [h.mail]⟩
  · have hno : ¬s.wanted ∨ ¬s.mayStart := not_and_or.mp hgo
    have hno' : ¬w.wanted ∨ ¬w.mayStart := by rwa [h.wanted, h.mayStart hm]
    by_cases hlow : s.smc.mode = .parked ∧ s.cmp.refillWant = false ∧ s.refillWanted = true
    · obtain ⟨hmode, hflag, hr⟩ := hlow
      rw [startEval_low (hm.trans hmode) (by rw [h.cmp]; exact hflag) (h.refillWanted.trans hr),
        startEval_low hmode hflag hr]
      exact ⟨by simp [h.cmp, h.refillWanted], by simp [h.ret], by simp [h.bkm], by simp [h.mail]⟩
    · have hsilent : s.smc.mode ≠ .parked ∨ s.cmp.refillWant = true ∨ s.refillWanted = false := by
        rw [not_and_or, not_and_or, Bool.not_eq_false, Bool.not_eq_true] at hlow
        exact hlow
      rw [startEval_silent hno' (by rwa [hm, h.cmp, h.refillWanted]), startEval_silent hno hsilent]
      exact ⟨by simp [h.cmp, h.refillWanted], by simp [h.ret], by simp [h.bkm], by simp [h.mail]⟩

end Alike

/-! ### A change of mode at the compressor -/

section Change

variable {w : State} {old : Mode}

theorem cmpModeChange_between (h : old.active = true ∧ w.smc.mode.active = true) : cmpModeChange old w = w :=
  if_pos (by rw [h.1, h.2]; rfl)

/-- R69: one of the modes of the change is not an active one. -/
def crosses (old : Mode) (w : State) : Prop := ¬(old.active = true ∧ w.smc.mode.active = true)

theorem cmpModeChange_stopped (h : crosses old w) (hs : w.cmp.state = .stopped) :
    cmpModeChange old w = startEval w := by
  unfold cmpModeChange
  rw [if_neg (by rwa [Bool.and_eq_true]), hs]

theorem cmpModeChange_unloaded (h : crosses old w) (hs : w.cmp.state = .unloaded) :
    cmpModeChange old w = targetChoice false w := by
  unfold cmpModeChange
  rw [if_neg (by rwa [Bool.and_eq_true]), hs]

theorem cmpModeChange_idle (hs : w.cmp.state ≠ .stopped ∧ w.cmp.state ≠ .unloaded) (hr : w.refillBank = none) :
    cmpModeChange old w = w := by
  unfold cmpModeChange
  split
  · rfl
  · split
    · next h => exact absurd h hs.1
    · next h => exact absurd h hs.2
    · rw [hr]

theorem cmpModeChange_refill {b : Bank} (hs : w.cmp.state = .loaded) (hd : w.cmp.dest = some (.refill b))
    (hm : w.smc.mode.active = false) : cmpModeChange old w = endRefill b w := by
  unfold cmpModeChange
  rw [if_neg (by rw [hm, Bool.and_false]; exact Bool.false_ne_true), hs]
  simp only [refillBank_of_refill hs hd, hm]

theorem refillBank_of_state (h : w.cmp.state ≠ .loaded) : w.refillBank = none := by
  unfold State.refillBank
  split
  · exact if_neg h
  · rfl

theorem refillBank_of_direct {q : Pos} (h : w.cmp.dest = some (.direct q)) : w.refillBank = none := by
  rw [State.refillBank, h]

/-- R60: with nothing to fill, or in a mode that fills nothing, only the stop that is due remains. -/
theorem chooseTarget_still (hn : w.nextHolder = none) (h : w.smc.mode.active = false ∨ w.refillCandidates = []) :
    chooseTarget false w = stopIfDue false w := by
  rcases h with h | h
  · rw [chooseTarget, hn]
    simp only [h, Bool.false_eq_true, if_false]
  · exact chooseTarget_none false hn h

theorem targetChoice_grants {q : Pos} {qs : List Pos} (hl : w.latched = false) (hw : w.cmp.waiters = q :: qs)
    (hs : w.cmp.state = .unloaded) : targetChoice false w =
      postAll (.filGranted q .compressor :: cmpReports) (updCmp (fun c => c.feeding q w.ret.clock) w) := by
  have hn := nextHolder_waiting hl hw
  rw [targetChoice, tellGranted_waiting hn, chooseTarget_grant false (q := q) (by exact hn), grantOutput_eq]
  rw [if_neg (by exact fun h => nomatch hs.symm.trans h)]
  simp [postAll, post, updCmp]

theorem targetChoice_stays (hw : w.cmp.waiters = []) (h : w.smc.mode.active = false ∨ w.refillCandidates = [])
    (hrun : w.runTimer < w.cmpRow.minRun) : targetChoice false w = w := by
  rw [targetChoice, tellGranted_none (nextHolder_none hw), chooseTarget_still (nextHolder_none hw) h,
    stopIfDue_stays hrun]

theorem targetChoice_stops (hw : w.cmp.waiters = []) (h : w.smc.mode.active = false ∨ w.refillCandidates = [])
    (hrun : w.cmpRow.minRun ≤ w.runTimer) : targetChoice false w = normalStop w := by
  rw [targetChoice, tellGranted_none (nextHolder_none hw), chooseTarget_still (nextHolder_none hw) h,
    stopIfDue_due hrun]

theorem enterUnloaded_still (hne : w.cmp.state ≠ .unloaded) (hw : w.cmp.waiters = [])
    (h : w.smc.mode.active = false) : enterUnloaded w =
      stopIfDue false (postAll cmpReports (updCmp Cmp.unloading w)) := by
  rw [enterUnloaded_waitless hne hw]
  exact chooseTarget_still (w := postAll cmpReports (updCmp Cmp.unloading w)) (nextHolder_none hw) (.inl h)

end Change

end Sys2Proof.Machine
end

section
/-! The ways the mode changes, and what a change does (R201, R202, R69, R76). O55 follows. -/

namespace Sys2Proof.Machine

open Sys2Proof

/-! ### What stays beside the chiller's part -/

section Frames

variable {s : State}

theorem runEval_beside : (runEval s).beside = s.beside := by
  rw [runEval_chilled]
  rfl

theorem reEvaluateAt_beside (p : Pos) : (reEvaluateAt p s).beside = s.beside := by
  unfold reEvaluateAt
  split
  · rfl
  · next c _ => cases s.admissible c <;> rfl

theorem pclModeChange_beside : (pclModeChange s).beside = s.beside := by
  have hall : (reEvaluate (runEval s)).beside = (runEval s).beside :=
    (reEvaluateAt_beside .p4).trans ((reEvaluateAt_beside .p3).trans ((reEvaluateAt_beside .p2).trans
      (reEvaluateAt_beside .p1)))
  exact hall.trans runEval_beside

end Frames

/-! ### A change of mode, by the state it is taken at -/

/-- R18: `u` is `s` with a nozzle's record as a delivery carries it. -/
structure Found (s u : State) : Prop where
  same : u = { s with sig := u.sig }
  reads : ∀ r, (∀ q, r ≠ .holster q) → u.record r = s.record r

/-- Whom a command answers behind what it does. -/
def answered (c : Instr) (u : State) : State :=
  match c with
  | .modeSet r _ => reply r 16 .ok [] u
  | _ => u

/-- What a change of mode can be seen by, but for RIF. -/
def State.shown (s : State) : Smc × Pins × PerPos Ctx × Cmp × PerBank BankRec × List Instr × Pcl × Retained :=
  (s.smc, s.pins, s.fil, s.cmp, s.bkm, s.mail, s.pcl, s.ret)

/-- The command `c` at `s` changes the mode to `m`, finding the state `u`, and leaves `t`. -/
structure Changes (c : Instr) (m : Mode) (s u t : State) : Prop where
  found : Found s u
  runs : exec c s = .next t
  shown : t.shown = (changeMode m u).shown
  answers : ∀ v, State.SameRing (changeMode m u) v → t.rif = (answered c v).rif
  commands : s.rif.ringOut ≠ none → t.rif.commands = (changeMode m u).rif.commands
  leaves : s.smc.mode = .parked ∨ s.smc.mode = .quiet ∨ s.smc.mode = .run
  enters : m = .parked ∨ m = .quiet ∨ m = .run
  differs : s.smc.mode ≠ m

section Changes

variable {c : Instr} {m : Mode} {s u t : State} {p : Pos} {x : SigRec}

theorem Found.refl (s : State) : Found s s := ⟨rfl, fun _ _ => rfl⟩

theorem found_withRecord : Found s (withRecord (.holster p) x s) :=
  ⟨rfl, fun _ h => withRecord_record_ne x s (h p)⟩

theorem Found.smc (h : Found s u) : u.smc = s.smc := by rw [h.same]

theorem Found.ctx (h : Found s u) (q : Pos) : u.ctx q = s.ctx q := by rw [h.same]; rfl

theorem Found.sendsOn (h : Found s u) : SendsOn s u := by
  rw [h.same]
  exact ⟨rfl, rfl, rfl, rfl⟩

theorem reply_commands_sending {rq : Req} {n : Nat} {st : Status} {bs : List Byte} (h : s.rif.ringOut ≠ none) :
    (reply rq n st bs s).rif.commands = s.rif.commands := by
  have hpush (y : Reply) : (s.rif.pushReply y).ringOut = s.rif.ringOut := by
    unfold Rif.pushReply
    repeat' split
    all_goals rfl
  unfold reply
  rw [kick_of_sending (by exact fun hn => h ((hpush _).symm.trans hn))]
  exact (pushReply_keeps _ _).2.2.1

theorem changes_modeSet {rq : Req} {n : Nat} (hreset : s.smc.inReset = false) (hn : namedMode n = some m)
    (hm : m = .parked ∨ m = .quiet ∨ m = .run)
    (hfrom : s.smc.mode = .parked ∨ s.smc.mode = .quiet ∨ s.smc.mode = .run) (hne : s.smc.mode ≠ m) :
    Changes (.modeSet rq n) m s s (reply rq 16 .ok [] (changeMode m s)) where
  found := .refl s
  runs := running_of_eq hreset (modeSet_ok hn hfrom)
  shown := by simp [State.shown]
  answers v hv := (reply_congr hv _ _ _ _).rif
  commands h := reply_commands_sending (by
    rw [((changeMode_event m .start).ringEvent.sendsOn h).ringOut]
    exact h)
  leaves := hfrom
  enters := hm
  differs := hne

theorem changes_plain (hrun : exec c s = .next (changeMode m s)) (hans : ∀ v, answered c v = v)
    (hm : m = .parked ∨ m = .quiet ∨ m = .run)
    (hfrom : s.smc.mode = .parked ∨ s.smc.mode = .quiet ∨ s.smc.mode = .run) (hne : s.smc.mode ≠ m) :
    Changes c m s s (changeMode m s) where
  found := .refl s
  runs := hrun
  shown := rfl
  answers v hv := by rw [hans]; exact hv.rif
  commands _ := rfl
  leaves := hfrom
  enters := hm
  differs := hne

/-- R202: what a nozzle lifted wakes the station to. -/
theorem wakeMode_wakes (hopen : (s.ctx p).opened = true) (hweight : (s.posRow p).pulseWeight ≠ 0)
    (h : (s.smc.mode = .parked ∧ (s.posRow p).wakeEnable = true
        ∧ m = if (s.posRow p).required = .c00 then .quiet else .run)
      ∨ (s.smc.mode = .quiet ∧ (s.posRow p).required ≠ .c00 ∧ m = .run)) : s.wakeMode p = some m := by
  unfold State.wakeMode
  simp only [hopen, Bool.not_true, Bool.false_or, beq_iff_eq, if_neg hweight]
  rcases h with ⟨hmode, hwake, hm⟩ | ⟨hmode, hcold, hm⟩
  · rw [hmode, hm]
    exact if_pos hwake
  · rw [hmode, hm]
    exact if_neg hcold

theorem changes_holster (hreset : s.smc.inReset = false) (hl : x.level = false) (hwake : s.wakeMode p = some m)
    (hm : m = .parked ∨ m = .quiet ∨ m = .run)
    (hfrom : s.smc.mode = .parked ∨ s.smc.mode = .quiet ∨ s.smc.mode = .run) (hne : s.smc.mode ≠ m) :
    Changes (.smcHolsterTransition p x) m s (withRecord (.holster p) x s)
      { changeMode m (withRecord (.holster p) x s) with sig := s.sig } where
  found := found_withRecord
  runs := running_of_eq hreset (seeing_of_eq (smcHolster_wakes (s := withRecord (.holster p) x s)
    (by rw [State.level, withRecord_record_same]; exact hl) hwake))
  shown := rfl
  answers _ hv := hv.rif
  commands _ := rfl
  leaves := hfrom
  enters := hm
  differs := hne

/-! ### The mode, the pins and the positions -/

theorem beside_fil {v w : State} (h : v.beside = w.beside) : v.fil = w.fil := ((beside_iff w v).mp h).1

theorem Changes.fil (h : Changes c m s u t) : t.fil = (moded m u).fil := by
  have ht : t.fil = (changeMode m u).fil := congrArg (fun x => x.2.2.1) h.shown
  have hne : u.smc.mode ≠ m := by rw [h.found.smc]; exact h.differs
  rw [ht, changeMode_differs hne]
  exact beside_fil (pclModeChange_beside.trans (cmpModeChange_beside _ _))

theorem Changes.smc (h : Changes c m s u t) : t.smc = (inMode m u).smc := by
  have ht : t.smc = (changeMode m u).smc := congrArg (fun x => x.1) h.shown
  have hne : u.smc.mode ≠ m := by rw [h.found.smc]; exact h.differs
  rw [ht, changeMode_differs hne, ← moded_smc]
  exact ((beside_iff _ _).mp (pclModeChange_beside.trans (cmpModeChange_beside _ _))).2.2.2.1

theorem Changes.pins (h : Changes c m s u t) : t.pins = { s.pins with masterIsolation := true } := by
  have ht : t.pins = (changeMode m u).pins := congrArg (fun x => x.2.1) h.shown
  have hne : u.smc.mode ≠ m := by rw [h.found.smc]; exact h.differs
  have hq : (changeMode m u).quiet = (inMode m u).quiet := by
    rw [changeMode_differs hne, pclModeChange_quiet, cmpModeChange_quiet, moded, evalAllAvailability_quiet]
  rw [ht, ((quiet_iff _ _).mp hq).2.2.1, inMode_eq h.enters, h.found.same]

theorem Changes.offered (h : Changes c m s u t) (q : Pos) : Offered (inMode m u) t q := by
  have hctx : t.ctx q = (evalAllAvailability (inMode m u)).ctx q := by
    rw [State.ctx, h.fil]
    rfl
  obtain ⟨hopens, hcloses, hshut, hstays, hbusy⟩ := evalAllAvailability_offered (inMode m u) q
  exact ⟨fun a b => hctx.trans (hopens a b), fun a b => hctx.trans (hcloses a b), fun a b => hctx.trans (hshut a b),
    fun a b => hctx.trans (hstays a b), fun a => hctx.trans (hbusy a)⟩

/-- R109: what the mode `m` makes available. -/
theorem inMode_available (hm : m = .parked ∨ m = .quiet ∨ m = .run) (h : Found s u) (q : Pos) :
    (inMode m u).available q = true ↔ (s.ctx q).opened = true ∧ (s.posRow q).pulseWeight ≠ 0
      ∧ (m = .run ∨ (m = .quiet ∧ (s.posRow q).required = .c00)) := by
  have hctx : (inMode m u).ctx q = s.ctx q := by
    rw [inMode_eq hm]
    exact h.ctx q
  have hrow : (inMode m u).posRow q = s.posRow q := by
    rw [inMode_eq hm, h.same]
    rfl
  have hmode : (inMode m u).smc.mode = m := by rw [inMode_eq hm]
  rw [available_of_opened, Bool.and_eq_true, offers_iff, hctx, hrow, hmode]

/-! ### The compressor and the chiller -/

theorem moded_alike (hm : m = .parked ∨ m = .quiet ∨ m = .run) (h : Found s u) : Alike (moded m u) s := by
  have hin := inMode_eq (u := u) hm
  have honly := evalAllAvailability_only (inMode m u)
  have hsig : (moded m u).sig = u.sig := by
    rw [moded, honly, hin]
  refine ⟨?_, ?_, fun r hr => ?_⟩
  · rw [moded, honly, hin, h.same]
  · rw [moded_smc, hin, h.same]
  · rw [State.record, hsig]
    exact h.reads r hr

theorem moded_mode (hm : m = .parked ∨ m = .quiet ∨ m = .run) : (moded m u).smc.mode = m := by
  rw [moded_smc, inMode_eq hm]

/-- R69: the compressor's part of the change. -/
def compressed (m : Mode) (s u : State) : State := cmpModeChange s.smc.mode (moded m u)

theorem Changes.eq (h : Changes c m s u t) (hpend : ∀ q, s.pcl.pending.get q = none) :
    changeMode m u = runEval (compressed m s u) := by
  have hne : u.smc.mode ≠ m := by rw [h.found.smc]; exact h.differs
  rw [changeMode_differs hne, h.found.smc]
  refine pclModeChange_eq fun q => ?_
  rw [cmpModeChange_pcl, (moded_alike h.enters h.found).pcl]
  exact hpend q

theorem Changes.outcome (h : Changes c m s u t) (hpend : ∀ q, s.pcl.pending.get q = none) :
    SameOutcome t (compressed m s u) := by
  have hv : (changeMode m u) = (compressed m s u).chilled (runEval (compressed m s u)) := by
    rw [h.eq hpend]
    exact runEval_chilled
  have hshown := h.shown
  rw [hv] at hshown
  exact ⟨congrArg (fun x => x.2.2.2.1) hshown, congrArg (fun x => x.2.2.2.2.2.2.2) hshown,
    congrArg (fun x => x.2.2.2.2.1) hshown, congrArg (fun x => x.2.2.2.2.2.1) hshown⟩

theorem Changes.pcl (h : Changes c m s u t) (hpend : ∀ q, s.pcl.pending.get q = none) :
    t.pcl = (runEval (compressed m s u)).pcl := by
  rw [← h.eq hpend]
  exact congrArg (fun x => x.2.2.2.2.2.2.1) h.shown

/-- What the chiller's part finds. -/
structure ChillerFinds (m : Mode) (s x : State) : Prop where
  pcl : x.pcl = s.pcl
  tables : x.tables = s.tables
  mode : x.smc.mode = m
  latch : x.smc.latch = s.smc.latch

theorem Changes.chillerFinds (h : Changes c m s u t) : ChillerFinds m s (compressed m s u) := by
  have ha := moded_alike h.enters h.found
  obtain ⟨-, htables, -, hsmc, -⟩ := (beside_iff _ _).mp (cmpModeChange_beside (moded m u) s.smc.mode)
  refine ⟨(cmpModeChange_pcl _ _).trans ha.pcl, htables.trans ha.tables, ?_, ?_⟩
  · exact (congrArg Smc.mode hsmc).trans (moded_mode h.enters)
  · exact (congrArg Smc.latch hsmc).trans ha.latch

theorem ChillerFinds.chillerRow {x : State} (h : ChillerFinds m s x) : x.chillerRow = s.chillerRow := by
  rw [State.chillerRow, h.tables, State.chillerRow]

/-- R76: the run condition after the change. -/
theorem ChillerFinds.runCondition {x : State} (h : ChillerFinds m s x) (hl : s.latched = false) :
    x.runCondition = true ↔ s.chillerRow.fitted = true ∧ (m = .run ∨ ∃ q, (s.pcl.demand.get q).isSome = true) := by
  have hlatch : x.latched = false := by rw [State.latched, h.latch]; exact hl
  have hany : s.pcl.demand.toList.any Option.isSome = true ↔ ∃ q, (s.pcl.demand.get q).isSome = true := by
    rw [PerPos.any_toList, List.any_eq_true]
    exact ⟨fun ⟨q, _, hq⟩ => ⟨q, hq⟩, fun ⟨q, hq⟩ => ⟨q, by cases q <;> decide, hq⟩⟩
  rw [State.runCondition, h.chillerRow, h.pcl, hlatch, h.mode, ← hany]
  simp

/-- RIF sends on through the compressor's part, with what the filters read as it was. -/
theorem Changes.sendsOn (h : Changes c m s u t) (hring : s.rif.ringOut ≠ none) :
    SendsOn s (compressed m s u) := by
  have hm : UnitEvent u (compressed m s u) := by
    refine cmpModeChange_event _ (evalAllAvailability_event ?_)
    rw [inMode_eq h.enters]
    exact .other .start rfl
  exact h.found.sendsOn.trans (hm.ringEvent.sendsOn (by rw [h.found.sendsOn.ringOut]; exact hring))

/-- R77, R78: the command that the chiller's part queues for the drive. -/
theorem Changes.drives (h : Changes c m s u t) (hpend : ∀ q, s.pcl.pending.get q = none) (hl : s.latched = false)
    {a : ActCommand} {n : Nat} (hn : a = .close → n = 0)
    (hdrive : (runEval (compressed m s u)).rif = (actuate .chillerDrive a n (compressed m s u)).rif)
    (hmap : s.mapped .chillerDrive = true) (hring : s.rif.ringOut ≠ none) (htrip : s.rif.tripTaken = false) :
    ⟨.chillerDrive, a, n⟩ ∈ t.rif.commands := by
  have hsend := h.sendsOn hring
  have hheld : s.tripHeld = false := by rw [State.tripHeld, hl, htrip]; rfl
  rw [h.commands hring, h.eq hpend, hdrive]
  exact mem_actuate_sending (by rw [hsend.ringOut]; exact hring) ((hsend.mapped _).trans hmap)
    (hsend.tripHeld.trans hheld) hn

end Changes

end Sys2Proof.Machine
end

section
/-! Every way the mode changes, with its effects at the compressor and at the chiller. O55 follows. -/

namespace Sys2Proof.Machine

open Sys2Proof

section Effects

variable {c : Instr} {m : Mode} {s u t : State} {b : Bank}

/-! ### The compressor -/

theorem Changes.still (h : Changes c m s u t) (hpend : ∀ q, s.pcl.pending.get q = none)
    (hx : compressed m s u = moded m u) : t.cmp = s.cmp ∧ t.bkm = s.bkm ∧ t.mail = s.mail := by
  have ha := moded_alike h.enters h.found
  obtain ⟨hcmp, -, hbkm, hmail⟩ := h.outcome hpend
  rw [hx] at hcmp hbkm hmail
  exact ⟨hcmp.trans ha.cmp, hbkm.trans ha.bkm, hmail.trans ha.mail⟩

theorem Changes.crosses_iff (h : Changes c m s u t) :
    crosses s.smc.mode (moded m u) ↔ s.smc.mode = .parked ∨ m = .parked := by
  rw [crosses, moded_mode h.enters]
  rcases h.leaves with hl | hl | hl <;> rcases h.enters with he | he | he <;> rw [hl, he] <;> decide

theorem Changes.between (h : Changes c m s u t) (hno : ¬(s.smc.mode = .parked ∨ m = .parked)) :
    compressed m s u = moded m u :=
  cmpModeChange_between (not_not.mp (mt h.crosses_iff.mp hno))

theorem Changes.sheltered (h : Changes c m s u t)
    (hs : (s.cmp.state = .priming ∨ s.cmp.state = .cooldown ∨ s.cmp.state = .lockout)
      ∨ ∃ q, s.cmp.state = .loaded ∧ s.cmp.dest = some (.direct q)) : compressed m s u = moded m u := by
  have ha := moded_alike h.enters h.found
  rcases hs with hs | ⟨q, hs, hd⟩
  · have hstate : (moded m u).cmp.state = .priming ∨ (moded m u).cmp.state = .cooldown
        ∨ (moded m u).cmp.state = .lockout := by rwa [ha.cmp]
    refine cmpModeChange_idle ?_ (refillBank_of_state ?_)
    · rcases hstate with h | h | h <;> rw [h] <;> decide
    · rcases hstate with h | h | h <;> rw [h] <;> decide
  · rw [← ha.cmp] at hs hd
    exact cmpModeChange_idle (by rw [hs]; decide) (refillBank_of_direct hd)

/-- R56: entry into PARKED with the compressor STOPPED ends the episode and may report BANK-LOW. -/
theorem Changes.rests (h : Changes c m s u t) (hpend : ∀ q, s.pcl.pending.get q = none)
    (hs : s.cmp.state = .stopped) (hm : m = .parked) :
    t.cmp = { s.cmp with refillWant := s.refillWanted, held := none } ∧ t.bkm = s.bkm
      ∧ t.mail = s.mail ++ (if s.refillWanted = true ∧ s.cmp.refillWant = false then [.bankLow] else []) := by
  have ha := moded_alike h.enters h.found
  have hmode : (moded m u).smc.mode = .parked := (moded_mode h.enters).trans hm
  have hx : compressed m s u = startEval (moded m u) :=
    cmpModeChange_stopped (h.crosses_iff.mpr (.inr hm)) (by rw [ha.cmp, hs])
  obtain ⟨hcmp, -, hbkm, hmail⟩ := h.outcome hpend
  rw [hx] at hcmp hbkm hmail
  rw [hcmp, hbkm, hmail]
  by_cases hlow : s.refillWanted = true ∧ s.cmp.refillWant = false
  · rw [startEval_low hmode (by rw [ha.cmp]; exact hlow.2) (ha.refillWanted.trans hlow.1), if_pos hlow]
    exact ⟨by simp [ha.cmp, ha.refillWanted], by simp [ha.bkm], by simp [ha.mail]⟩
  · have hno : ¬(moded m u).mayStart := fun hmay => hmay.not_parked hmode
    rw [startEval_silent (.inr hno) (.inr ?_), if_neg hlow]
    · exact ⟨by simp [ha.cmp, ha.refillWanted], by simp [ha.bkm], by simp [ha.mail]⟩
    · rw [ha.cmp, ha.refillWanted]
      rw [not_and_or, Bool.not_eq_true, Bool.not_eq_false] at hlow
      exact hlow.symm

/-- R56, R69: out of PARKED it is the start evaluation of an announcement. -/
theorem Changes.evaluates (h : Changes c m s u t) (hpend : ∀ q, s.pcl.pending.get q = none)
    (hs : s.cmp.state = .stopped) (hold : s.smc.mode = .parked) :
    SameOutcome t (startEval { s with smc := { s.smc with mode := m } }) := by
  have ha := moded_alike h.enters h.found
  have ha' : Alike (moded m u) { s with smc := { s.smc with mode := m } } := ⟨ha.same, ha.latch, ha.reads⟩
  have hx : compressed m s u = startEval (moded m u) :=
    cmpModeChange_stopped (h.crosses_iff.mpr (.inl hold)) (by rw [ha.cmp, hs])
  obtain ⟨hcmp, hret, hbkm, hmail⟩ := h.outcome hpend
  obtain ⟨kcmp, kret, kbkm, kmail⟩ := startEval_alike ha' (moded_mode h.enters) hs
  rw [hx] at hcmp hret hbkm hmail
  exact ⟨hcmp.trans kcmp, hret.trans kret, hbkm.trans kbkm, hmail.trans kmail⟩

/-- R60: nothing is to be filled in the new mode. -/
theorem Changes.nothing (h : Changes c m s u t) (hm : m = .parked ∨ s.refillCandidates = []) :
    (moded m u).smc.mode.active = false ∨ (moded m u).refillCandidates = [] := by
  have ha := moded_alike h.enters h.found
  refine hm.imp (fun hm => ?_) (fun hc => ha.refillCandidates.trans hc)
  rw [moded_mode h.enters, hm]
  rfl

section Unloaded

variable (h : Changes c m s u t) (hpend : ∀ q, s.pcl.pending.get q = none)
  (hcross : s.smc.mode = .parked ∨ m = .parked) (hs : s.cmp.state = .unloaded)

include h hcross hs

theorem Changes.chooses : compressed m s u = targetChoice false (moded m u) :=
  cmpModeChange_unloaded (h.crosses_iff.mpr hcross) (by rw [(moded_alike h.enters h.found).cmp, hs])

include hpend

theorem Changes.grants {q : Pos} {qs : List Pos} (hl : s.latched = false) (hw : s.cmp.waiters = q :: qs) :
    t.cmp = { s.cmp with
        state := .loaded, holder := some (q, s.ret.clock), dest := some (.direct q)
        waiters := (q :: qs).filter (fun r => r ≠ q) }
      ∧ t.mail = s.mail ++ .filGranted q .compressor :: cmpReports := by
  have ha := moded_alike h.enters h.found
  obtain ⟨hcmp, -, -, hmail⟩ := h.outcome hpend
  rw [h.chooses hcross hs, targetChoice_grants (ha.latched.trans hl) (by rw [ha.cmp, hw]) (by rw [ha.cmp, hs])]
    at hcmp hmail
  refine ⟨hcmp.trans ?_, hmail.trans ?_⟩
  · simp only [postAll_cmp, updCmp_cmp, ha.cmp, ha.ret, Cmp.feeding, hw]
  · simp only [postAll_mail, updCmp_mail, ha.mail]

theorem Changes.refills {bs : List Bank} (hl : s.latched = false) (hm : m = .quiet ∨ m = .run)
    (hw : s.cmp.waiters = []) (hc : s.refillCandidates = b :: bs) :
    t.cmp = { s.cmp with state := .loaded, dest := some (.refill b) }
      ∧ t.bank b = { s.bank b with
          state := .claimedCmp
          session := some ⟨.compressor, (s.bank b).inventory, (s.bank b).invValid, 0, s.ret.clock⟩ }
      ∧ t.mail = s.mail ++ cmpReports := by
  have ha := moded_alike h.enters h.found
  have hmode := moded_mode (u := u) h.enters
  obtain ⟨hcmp, -, hbkm, hmail⟩ := h.outcome hpend
  have hx : compressed m s u = refilling b (moded m u) := by
    rw [h.chooses hcross hs]
    exact targetChoice_refill false (by rw [ha.cmp, hw]) (by rwa [hmode]) (ha.latched.trans hl)
      (by rw [ha.cmp, hs]; decide) (ha.refillCandidates.trans hc)
  have hf := refilling_fills_unloaded b (moded m u)
  rw [← hx] at hf
  refine ⟨hcmp.trans (hf.cmp.trans (by rw [ha.cmp])), ?_, hmail.trans (hf.mail.trans (by rw [ha.mail, List.append_nil]))⟩
  have hbank : t.bank b = (compressed m s u).bank b := by rw [State.bank, hbkm, State.bank]
  rw [hbank, hf.bank, ha.bank, ha.ret]

theorem Changes.runsOn (hw : s.cmp.waiters = []) (hm : m = .parked ∨ s.refillCandidates = [])
    (hrun : s.runTimer < s.cmpRow.minRun) : t.cmp = s.cmp ∧ t.bkm = s.bkm ∧ t.mail = s.mail := by
  have ha := moded_alike h.enters h.found
  refine h.still hpend ?_
  rw [h.chooses hcross hs]
  exact targetChoice_stays (by rw [ha.cmp, hw]) (h.nothing hm) (by rwa [ha.runTimer, ha.cmpRow])

theorem Changes.stops (hw : s.cmp.waiters = []) (hm : m = .parked ∨ s.refillCandidates = [])
    (hrun : s.cmpRow.minRun ≤ s.runTimer) (hoff : 0 < s.cmpRow.minOff) :
    t.cmp = s.cmp.cooling s.cmpRow.minOff ∧ t.mail = s.mail ++ cmpReports
      ∧ (s.pcl.state = .fault → t.rif = (answered c (close .compressorDrive s)).rif) := by
  have ha := moded_alike h.enters h.found
  obtain ⟨hcmp, -, -, hmail⟩ := h.outcome hpend
  have hx : compressed m s u = postAll cmpReports (updCmp (fun k => k.cooling s.cmpRow.minOff)
      (close .compressorDrive (moded m u))) := by
    rw [h.chooses hcross hs, targetChoice_stops (by rw [ha.cmp, hw]) (h.nothing hm)
      (by rwa [ha.runTimer, ha.cmpRow]), normalStop_eq (by rw [ha.cmp, hs]; decide) (by rwa [ha.cmpRow]), ha.cmpRow]
  refine ⟨hcmp.trans ?_, hmail.trans ?_, fun hf => h.answers _ ?_⟩
  · rw [hx, postAll_cmp, updCmp_cmp, close_cmp, ha.cmp]
  · rw [hx, postAll_mail, updCmp_mail, close_mail, ha.mail]
  · have hclosed := close_congr ha.sameRing .compressorDrive
    rw [h.eq hpend, runEval_fault (by rw [h.chillerFinds.pcl]; exact hf), hx]
    exact ⟨hclosed.rif, hclosed.tables, hclosed.latch⟩

end Unloaded

/-! ### The end of a refill at PARKED -/

section Refill

variable {y : Session} (h : Changes c m s u t) (hpend : ∀ q, s.pcl.pending.get q = none) (hm : m = .parked)
  (hs : s.cmp.state = .loaded) (hd : s.cmp.dest = some (.refill b)) (hb : (s.bank b).state = .claimedCmp)
  (hy : (s.bank b).session = some y) (hyc : y.holder = .compressor) (hbw : (s.bank b).waiters = [])

/-- R41, R46: the bank that the compressor fills is released, at the state the mode has left. -/
def refillReleased (b : Bank) (y : Session) (w : State) : State :=
  postAll [.filBankAnnouncement b, .cmpBankAnnouncement b] (updBank b (fun r =>
    { r with
      state := .available, session := none
      last := some (.refill (refillGain y (w.bank b).inventory (w.bank b).invValid)) })
    (close (.bankValve b .compressor) w))

theorem refillReleased_bank (w : State) : (refillReleased b y w).bank b = { w.bank b with
    state := .available, session := none
    last := some (.refill (refillGain y (w.bank b).inventory (w.bank b).invValid)) } := by
  rw [refillReleased, State.bank, postAll_bkm, ← State.bank, updBank_bank_same, State.bank, close_bkm, ← State.bank]

include h hm in
theorem Changes.released_inactive : (refillReleased b y (moded m u)).smc.mode.active = false := by
  have hmode : (refillReleased b y (moded m u)).smc.mode = m := by simp [refillReleased, moded_mode h.enters]
  rw [hmode, hm]
  rfl

include h hm hs hd hb hy hyc hbw

theorem Changes.endsRefill : compressed m s u = enterUnloaded (refillReleased b y (moded m u)) := by
  have ha := moded_alike h.enters h.found
  have hmode : (moded m u).smc.mode.active = false := by
    rw [moded_mode h.enters, hm]
    rfl
  refine (cmpModeChange_refill (by rw [ha.cmp, hs]) (by rw [ha.cmp, hd]) hmode).trans ?_
  rw [endRefill, releaseBank_compressor (by rw [ha.bank, hb]) (by rw [ha.bank, hy]) hyc (by rw [ha.bank, hbw])]
  rfl

include hpend

/-- What the release and the entry into UNLOADED leave, with the compressor's context and the messages of the rest. -/
theorem Changes.refillEnded {f : Cmp → Cmp} {ms : List Instr} {v : State}
    (hv : v = refillReleased b y (moded m u) ∨ v = close .compressorDrive (refillReleased b y (moded m u)))
    (hx : enterUnloaded (refillReleased b y (moded m u)) = postAll ms (updCmp f v)) :
    t.cmp = f s.cmp ∧ (t.bank b).state = .available ∧ (t.bank b).session = none
      ∧ t.mail = s.mail ++ [.filBankAnnouncement b, .cmpBankAnnouncement b] ++ ms := by
  have ha := moded_alike h.enters h.found
  obtain ⟨hcmp, -, hbkm, hmail⟩ := h.outcome hpend
  have hvcmp : v.cmp = s.cmp := by
    rcases hv with rfl | rfl <;> simp [refillReleased, ha.cmp]
  have hvbank : v.bank b = (refillReleased b y (moded m u)).bank b := by
    rcases hv with rfl | rfl
    · rfl
    · simp [State.bank]
  have hvmail : v.mail = s.mail ++ [.filBankAnnouncement b, .cmpBankAnnouncement b] := by
    rcases hv with rfl | rfl <;> simp [refillReleased, ha.mail]
  have htbank : t.bank b = (refillReleased b y (moded m u)).bank b := by
    rw [State.bank, hbkm, h.endsRefill hm hs hd hb hy hyc hbw, hx, ← hvbank]
    rfl
  rw [h.endsRefill hm hs hd hb hy hyc hbw, hx] at hcmp hmail
  refine ⟨hcmp.trans ?_, ?_, ?_, hmail.trans ?_⟩
  · rw [postAll_cmp, updCmp_cmp, hvcmp]
  · rw [htbank, refillReleased_bank]
  · rw [htbank, refillReleased_bank]
  · rw [postAll_mail, updCmp_mail, hvmail]

theorem Changes.refillStays (hw : s.cmp.waiters = []) (hrun : s.runTimer < s.cmpRow.minRun) :
    t.cmp = s.cmp.unloading ∧ (t.bank b).state = .available ∧ (t.bank b).session = none
      ∧ t.mail = s.mail ++ [.filBankAnnouncement b, .cmpBankAnnouncement b] ++ cmpReports := by
  have ha := moded_alike h.enters h.found
  refine h.refillEnded hpend hm hs hd hb hy hyc hbw (.inl rfl) ?_
  have hcmp : (refillReleased b y (moded m u)).cmp = s.cmp := by simp [refillReleased, ha.cmp]
  have hmode := h.released_inactive (b := b) (y := y) hm
  rw [enterUnloaded_still (by rw [hcmp, hs]; decide) (by rw [hcmp, hw]) hmode]
  refine stopIfDue_stays ?_
  have htimer : (postAll cmpReports (updCmp Cmp.unloading (refillReleased b y (moded m u)))).runTimer = s.runTimer := by
    simp [State.runTimer, refillReleased, ha.cmp, ha.ret, Cmp.unloading]
  have hrow : (postAll cmpReports (updCmp Cmp.unloading (refillReleased b y (moded m u)))).cmpRow = s.cmpRow := by
    simp [State.cmpRow, refillReleased, ha.tables]
  rwa [htimer, hrow]

theorem Changes.refillStops (hw : s.cmp.waiters = []) (hrun : s.cmpRow.minRun ≤ s.runTimer)
    (hoff : 0 < s.cmpRow.minOff) :
    t.cmp = s.cmp.unloading.cooling s.cmpRow.minOff ∧ (t.bank b).state = .available ∧ (t.bank b).session = none
      ∧ t.mail = s.mail ++ [.filBankAnnouncement b, .cmpBankAnnouncement b] ++ (cmpReports ++ cmpReports) := by
  have ha := moded_alike h.enters h.found
  refine h.refillEnded hpend hm hs hd hb hy hyc hbw (f := fun k => k.unloading.cooling s.cmpRow.minOff) (.inr rfl) ?_
  have hcmp : (refillReleased b y (moded m u)).cmp = s.cmp := by simp [refillReleased, ha.cmp]
  have hmode := h.released_inactive (b := b) (y := y) hm
  have htimer : (postAll cmpReports (updCmp Cmp.unloading (refillReleased b y (moded m u)))).runTimer = s.runTimer := by
    simp [State.runTimer, refillReleased, ha.cmp, ha.ret, Cmp.unloading]
  have hrow : (refillReleased b y (moded m u)).cmpRow = s.cmpRow := by
    simp [State.cmpRow, refillReleased, ha.tables]
  have hrow' : (postAll cmpReports (updCmp Cmp.unloading (refillReleased b y (moded m u)))).cmpRow = s.cmpRow := hrow
  rw [enterUnloaded_still (by rw [hcmp, hs]; decide) (by rw [hcmp, hw]) hmode,
    stopIfDue_due (by rwa [htimer, hrow']), normalStop_after _ _ (by exact fun hn => nomatch hn) (by rwa [hrow]), hrow]

theorem Changes.refillGrants {q : Pos} {qs : List Pos} (hl : s.latched = false) (hw : s.cmp.waiters = q :: qs) :
    t.cmp = s.cmp.unloading.feeding q s.ret.clock ∧ (t.bank b).state = .available ∧ (t.bank b).session = none
      ∧ t.mail = s.mail ++ [.filBankAnnouncement b, .cmpBankAnnouncement b]
        ++ (.filGranted q .compressor :: (cmpReports ++ cmpReports)) := by
  have ha := moded_alike h.enters h.found
  have hcmp : (refillReleased b y (moded m u)).cmp = s.cmp := by simp [refillReleased, ha.cmp]
  have hlatch : (refillReleased b y (moded m u)).latched = false := by
    simp only [State.latched, refillReleased, postAll_smc, updBank_smc, close_smc]
    exact ha.latched.trans hl
  have hret : (refillReleased b y (moded m u)).ret = s.ret := by simp [refillReleased, ha.ret]
  refine h.refillEnded hpend hm hs hd hb hy hyc hbw (f := fun k => k.unloading.feeding q s.ret.clock) (.inl rfl) ?_
  rw [enterUnloaded_grant (by rw [hcmp, hs]; decide) hlatch (by rw [hcmp, hw]), hret]

end Refill

end Effects

end Sys2Proof.Machine
end

section
/-! The chiller at a change of mode, and O55. -/

namespace Sys2Proof.Machine

open Sys2Proof

section Chiller

variable {c : Instr} {m : Mode} {s u t : State}

/-- R76: the run condition is present in the mode `m`. -/
def State.coldWanted (s : State) (m : Mode) : Prop :=
  s.chillerRow.fitted = true ∧ (m = .run ∨ ∃ q, (s.pcl.demand.get q).isSome = true)

/-- R76: the chiller runs. -/
def State.chills (s : State) : Prop :=
  s.chillerRow.fitted = true ∧ (s.pcl.state = .pulldown ∨ s.pcl.state = .ready)

variable (h : Changes c m s u t) (hpend : ∀ q, s.pcl.pending.get q = none) (hl : s.latched = false)

include h hpend

theorem Changes.chillerShut (hs : s.chillerRow.fitted = false ∨ s.pcl.state = .fault) : t.pcl = s.pcl := by
  have hx := h.chillerFinds
  rw [h.pcl hpend]
  rcases hs with hs | hs
  · rw [runEval_unfitted (by rw [hx.chillerRow, hs]), hx.pcl]
  · rw [runEval_fault (by rw [hx.pcl, hs]), hx.pcl]

include hl

theorem Changes.chillerRests (hs : s.pcl.state = .parked) (hw : ¬s.coldWanted m) : t.pcl = s.pcl := by
  have hx := h.chillerFinds
  have hr := Bool.eq_false_iff.mpr (mt (hx.runCondition hl).mp hw)
  rw [h.pcl hpend, runEval_parked (by rw [hx.pcl, hs]) hr, hx.pcl]

theorem Changes.chillerStarts (hs : s.pcl.state = .parked) (hw : s.coldWanted m) :
    t.pcl = (if s.chillerRow.readyOn ≤ s.pcl.reserve then
        { s.pcl with
          state := .ready, stabilised := s.chillerRow.stabilise == 0
          stabTimer := if s.chillerRow.stabilise = 0 then none else some (10 * s.chillerRow.stabilise) }
      else { s.pcl with state := .pulldown, stabilised := false, stabTimer := none })
      ∧ (s.mapped .chillerDrive = true → s.rif.ringOut ≠ none → s.rif.tripTaken = false →
        ⟨.chillerDrive, .open, 1000⟩ ∈ t.rif.commands) := by
  have hx := h.chillerFinds
  have hrun : runEval (compressed m s u) = startChiller (compressed m s u) :=
    runEval_starts (by rw [hx.chillerRow]; exact hw.1) (by rw [hx.pcl, hs]) ((hx.runCondition hl).mpr hw)
  refine ⟨?_, fun hmap hring htrip => h.drives hpend hl (fun hn => nomatch hn) ?_ hmap hring htrip⟩
  · rw [h.pcl hpend, hrun, startChiller, hx.chillerRow, hx.pcl]
    split
    · rw [enterReady]
      simp only [updPcl_pcl, openFull_pcl, hx.pcl]
      have hrow : (openFull .chillerDrive (compressed m s u)).chillerRow = s.chillerRow := by
        rw [State.chillerRow, openFull_tables, ← State.chillerRow, hx.chillerRow]
      rw [hrow]
      rfl
    · rw [chillerTo, updPcl_pcl, openFull_pcl, hx.pcl]
  · rw [hrun, startChiller]
    split <;> rfl

theorem Changes.chillerRuns (hs : s.chills) (hw : s.coldWanted m) : t.pcl = { s.pcl with parkTimer := none } := by
  have hx := h.chillerFinds
  rw [h.pcl hpend, runEval_runs (by rw [hx.chillerRow]; exact hs.1) (by rw [hx.pcl]; exact hs.2)
    ((hx.runCondition hl).mpr hw), stopPark, updPcl_pcl, hx.pcl]

omit hpend in
theorem Changes.chillerIdles (hs : s.chills) (hw : ¬s.coldWanted m) :
    runEval (compressed m s u) = beginPark (compressed m s u) := by
  have hx := h.chillerFinds
  exact runEval_idles (by rw [hx.chillerRow]; exact hs.1) (by rw [hx.pcl]; exact hs.2)
    (Bool.eq_false_iff.mpr (mt (hx.runCondition hl).mp hw))

theorem Changes.chillerTimed (hs : s.chills) (hw : ¬s.coldWanted m) (ht : s.pcl.parkTimer ≠ none) :
    t.pcl = s.pcl := by
  have hx := h.chillerFinds
  rw [h.pcl hpend, h.chillerIdles hl hs hw, beginPark_timed (by rw [hx.pcl]; exact ht), hx.pcl]

theorem Changes.chillerWaits (hs : s.chills) (hw : ¬s.coldWanted m) (ht : s.pcl.parkTimer = none)
    (hd : 0 < s.chillerRow.parkDelay) :
    t.pcl = { s.pcl with parkTimer := some (10 * s.chillerRow.parkDelay) } := by
  have hx := h.chillerFinds
  rw [h.pcl hpend, h.chillerIdles hl hs hw, beginPark_later (by rw [hx.pcl]; exact ht)
    (by rw [hx.chillerRow]; exact hd), updPcl_pcl, hx.pcl, hx.chillerRow]

theorem Changes.chillerParks (hs : s.chills) (hw : ¬s.coldWanted m) (ht : s.pcl.parkTimer = none)
    (hd : s.chillerRow.parkDelay = 0) : t.pcl = s.pcl.parkedNow
      ∧ (s.mapped .chillerDrive = true → s.rif.ringOut ≠ none → s.rif.tripTaken = false →
        ⟨.chillerDrive, .close, 0⟩ ∈ t.rif.commands) := by
  have hx := h.chillerFinds
  have hrun : runEval (compressed m s u) = parkChiller (compressed m s u) := by
    rw [h.chillerIdles hl hs hw, beginPark_now (by rw [hx.pcl]; exact ht) (by rw [hx.chillerRow]; exact hd)]
  refine ⟨?_, fun hmap hring htrip => h.drives hpend hl (fun _ => rfl) ?_ hmap hring htrip⟩
  · rw [h.pcl hpend, hrun, parkChiller_eq, updPcl_pcl, close_pcl, hx.pcl]
  · rw [hrun, parkChiller_eq]
    rfl

end Chiller

/-! ### The ways -/

section Ways

variable {rq : Req} {p : Pos} {x : SigRec} {s : State}

/-- R202: a falling nozzle at a position in service that is not closed by request. -/
structure Lifts (p : Pos) (x : SigRec) (s : State) : Prop where
  level : x.level = false
  opened : (s.ctx p).opened = true
  weight : (s.posRow p).pulseWeight ≠ 0

theorem changes_wakesQuiet (hreset : s.smc.inReset = false) (h : Lifts p x s) (hm : s.smc.mode = .parked)
    (hw : (s.posRow p).wakeEnable = true) (hc : (s.posRow p).required = .c00) :
    ∃ t, Changes (.smcHolsterTransition p x) .quiet s (withRecord (.holster p) x s) t :=
  ⟨_, changes_holster hreset h.level (wakeMode_wakes h.opened h.weight (.inl ⟨hm, hw, by rw [if_pos hc]⟩))
    (.inr (.inl rfl)) (.inl hm) (by rw [hm]; decide)⟩

theorem changes_wakesRun (hreset : s.smc.inReset = false) (h : Lifts p x s) (hc : (s.posRow p).required ≠ .c00)
    (hm : (s.smc.mode = .parked ∧ (s.posRow p).wakeEnable = true) ∨ s.smc.mode = .quiet) :
    ∃ t, Changes (.smcHolsterTransition p x) .run s (withRecord (.holster p) x s) t := by
  rcases hm with ⟨hm, hw⟩ | hm
  · exact ⟨_, changes_holster hreset h.level (wakeMode_wakes h.opened h.weight (.inl ⟨hm, hw, by rw [if_neg hc]⟩))
      (.inr (.inr rfl)) (.inl hm) (by rw [hm]; decide)⟩
  · exact ⟨_, changes_holster hreset h.level (wakeMode_wakes h.opened h.weight (.inr ⟨hm, hc, rfl⟩))
      (.inr (.inr rfl)) (.inr (.inl hm)) (by rw [hm]; decide)⟩

theorem changes_bankLow (hreset : s.smc.inReset = false) (hm : s.smc.mode = .parked)
    (hw : s.stationRow.bankLowWake = true) : ∃ t, Changes .bankLow .quiet s s t :=
  ⟨_, changes_plain (running_of_eq hreset (onlyIf_pos (by simp [hm, hw]) _ _)) (fun _ => rfl) (.inr (.inl rfl))
    (.inl hm) (by rw [hm]; decide)⟩

theorem changes_idleExpiry (hreset : s.smc.inReset = false) (hm : s.smc.mode = .run)
    (ht : s.smc.idleTimer ≠ none) : ∃ t, Changes .idleTimerExpiry .quiet s s t :=
  ⟨_, changes_plain (running_of_eq hreset (onlyIf_pos (by simp [hm, Option.isSome_iff_ne_none, ht]) _ _))
    (fun _ => rfl) (.inr (.inl rfl)) (.inr (.inr hm)) (by rw [hm]; decide)⟩

theorem changes_parkExpiry (hreset : s.smc.inReset = false) (hm : s.smc.mode = .quiet)
    (ht : s.smc.parkTimer ≠ none) : ∃ t, Changes .parkTimeExpiry .parked s s t :=
  ⟨_, changes_plain (running_of_eq hreset (onlyIf_pos (by simp [hm, Option.isSome_iff_ne_none, ht]) _ _))
    (fun _ => rfl) (.inl rfl) (.inr (.inl hm)) (by rw [hm]; decide)⟩

theorem changes_named {m : Mode} {n : Nat} (hreset : s.smc.inReset = false)
    (hn : (n = 1 ∧ m = Mode.parked) ∨ (n = 2 ∧ m = .quiet) ∨ (n = 3 ∧ m = .run))
    (hfrom : s.smc.mode = .parked ∨ s.smc.mode = .quiet ∨ s.smc.mode = .run) (hne : s.smc.mode ≠ m) :
    ∃ t, Changes (.modeSet rq n) m s s t :=
  ⟨_, changes_modeSet hreset (namedMode_eq hn) (hn.imp And.right (Or.imp And.right And.right)) hfrom hne⟩

end Ways

end Sys2Proof.Machine

namespace Sys2Proof

open Sys2Proof.Machine

/-- Settles O55: each way is one change of mode, and the change is taken unit by unit. -/
theorem modeChanges : Obligations.ModeChanges := by
  unfold Obligations.ModeChanges
  refine ⟨fun p rq x s hreset => ?_, fun p rq x s hreset hl hpend => ?_⟩
  · intro fills becomes live seen
    have hfills : s.noFills = true ↔ ¬fills = true := by
      rw [noFills_iff, List.any_eq_true]
      refine ⟨fun h ⟨q, _, hq⟩ => Bool.false_ne_true ((h q).symm.trans hq), fun h q => Bool.eq_false_iff.mpr fun hq => ?_⟩
      exact h ⟨q, by cases q <;> decide, hq⟩
    have hbecomes {c : Instr} {m : Mode} {u : State} (h : ∃ t, Changes c m s u t) : becomes c m u := by
      obtain ⟨t, h⟩ := h
      have hnofills : u.noFills = s.noFills := by rw [h.found.same]; rfl
      have hstation : u.stationRow = s.stationRow := by rw [h.found.same]; rfl
      have hcmp : u.cmp = s.cmp := by rw [h.found.same]
      have hrow : u.cmpRow = s.cmpRow := by rw [h.found.same]; rfl
      refine ⟨t, h.runs, ?_, h.pins, fun q => ?_⟩
      · rw [h.smc, inMode_eq h.enters, h.found.smc, hnofills, hstation, hcmp, hrow]
        simp only [hfills]
      · intro offered
        have ha : (inMode m u).available q = true ↔ offered := inMode_available h.enters h.found q
        have hctx : (inMode m u).ctx q = s.ctx q := by
          rw [inMode_eq h.enters]
          exact h.found.ctx q
        have hlevel : (inMode m u).level (.holster q) = u.level (.holster q) := by
          rw [inMode_eq h.enters]
          rfl
        have hno (hoff : ¬offered) : (inMode m u).available q = false := Bool.eq_false_iff.mpr (mt ha.mp hoff)
        obtain ⟨hopens, hcloses, hshut, hstays, hbusy⟩ := h.offered q
        rw [hctx, hlevel] at hopens
        rw [hctx] at hcloses hshut hstays hbusy
        exact ⟨fun hst ho => hopens hst (ha.mpr ho), fun hst ho => hcloses hst (hno ho), fun hst ho => hshut hst (hno ho),
          fun hst ho => hstays hst (ha.mpr ho), hbusy⟩
    refine ⟨fun m n hn hfrom hne => hbecomes (changes_named hreset hn hfrom hne), fun ⟨hv, ho, hw⟩ hm hwake hc => ?_,
      fun ⟨hv, ho, hw⟩ hm hwake hc => ?_, fun ⟨hv, ho, hw⟩ hm hc => ?_, fun hm hwake => ?_, fun hm ht => ?_,
      fun hm ht => ?_⟩
    · exact hbecomes (changes_wakesQuiet hreset ⟨hv, ho, hw⟩ hm hwake hc)
    · exact hbecomes (changes_wakesRun hreset ⟨hv, ho, hw⟩ hc (.inl ⟨hm, hwake⟩))
    · exact hbecomes (changes_wakesRun hreset ⟨hv, ho, hw⟩ hc (.inr hm))
    · exact hbecomes (changes_bankLow hreset hm hwake)
    · exact hbecomes (changes_idleExpiry hreset hm ht)
    · exact hbecomes (changes_parkExpiry hreset hm ht)
  · intro reports effects live
    have heffects {c : Instr} {m : Mode} {u : State} (h : ∃ t, Changes c m s u t) : effects c m := by
      obtain ⟨t, h⟩ := h
      have hsame (hx : compressed m s u = moded m u) :
          ∃ t, exec c s = .next t ∧ t.cmp = s.cmp ∧ t.bkm = s.bkm ∧ t.mail = s.mail :=
        ⟨t, h.runs, h.still hpend hx⟩
      refine ⟨fun hno => hsame (h.between hno), fun hs => hsame (h.sheltered (.inl hs)),
        fun q hs hd => hsame (h.sheltered (.inr ⟨q, hs, hd⟩)), fun hs hm => ⟨t, h.runs, h.rests hpend hs hm⟩,
        fun b hs hold => ?_, fun q qs hcross hs hw => ⟨t, h.runs, h.grants hpend hcross hs hl hw⟩,
        fun b bs hold hs hw hc => ?_, fun hcross hs hw hm => ⟨fun hrun => ?_, fun hrun hoff => ?_⟩,
        fun b y hm hs hd hb hy hyc hbw => ?_, fun hs => ⟨t, h.runs, h.chillerShut hpend hs⟩,
        fun hs hw => ⟨t, h.runs, h.chillerRests hpend hl hs hw⟩, fun hs hw => ?_,
        fun hs hw => ⟨t, h.runs, h.chillerRuns hpend hl hs hw⟩,
        fun hs hw ht => ⟨t, h.runs, h.chillerTimed hpend hl hs hw ht⟩,
        fun hs hw ht hd => ⟨t, h.runs, h.chillerWaits hpend hl hs hw ht hd⟩, fun hs hw ht hd => ?_⟩
      · obtain ⟨hcmp, hret, hbkm, hmail⟩ := h.evaluates hpend hs hold
        refine ⟨t, _, h.runs, running_of_eq (s := { s with smc := { s.smc with mode := m } }) hreset ?_, hcmp, hret,
          hbkm, hmail⟩
        unfold cmpAnnouncement
        rw [hs]
      · have hm : m = .quiet ∨ m = .run := h.enters.resolve_left fun hm => h.differs (hold.trans hm.symm)
        exact ⟨t, h.runs, h.refills hpend (.inl hold) hs hl hm hw hc⟩
      · exact ⟨t, h.runs, h.runsOn hpend hcross hs hw hm hrun⟩
      · exact ⟨t, h.runs, h.stops hpend hcross hs hw hm hrun hoff⟩
      · refine ⟨fun hw hrun => ?_, fun hw hrun hoff => ?_, fun q qs hw => ?_⟩
        · exact ⟨t, h.runs, h.refillStays hpend hm hs hd hb hy hyc hbw hw hrun⟩
        · exact ⟨t, h.runs, h.refillStops hpend hm hs hd hb hy hyc hbw hw hrun hoff⟩
        · obtain ⟨hcmp, hbank, hsession, hmail⟩ := h.refillGrants hpend hm hs hd hb hy hyc hbw hl hw
          refine ⟨t, h.runs, hcmp.trans ?_, hbank, hsession, hmail⟩
          simp only [Cmp.feeding, Cmp.unloading, hw]
      · obtain ⟨hpcl, hdrive⟩ := h.chillerStarts hpend hl hs hw
        exact ⟨⟨t, h.runs, hpcl⟩, fun hmap hring htrip => ⟨t, h.runs, hdrive hmap hring htrip⟩⟩
      · obtain ⟨hpcl, hdrive⟩ := h.chillerParks hpend hl hs hw ht hd
        exact ⟨⟨t, h.runs, hpcl⟩, fun hmap hring htrip => ⟨t, h.runs, hdrive hmap hring htrip⟩⟩
    refine ⟨fun m n hn hfrom hne => heffects (changes_named hreset hn hfrom hne), fun ⟨hv, ho, hw⟩ hm hwake hc => ?_,
      fun ⟨hv, ho, hw⟩ hm hwake hc => ?_, fun ⟨hv, ho, hw⟩ hm hc => ?_, fun hm hwake => ?_, fun hm ht => ?_,
      fun hm ht => ?_⟩
    · exact heffects (changes_wakesQuiet hreset ⟨hv, ho, hw⟩ hm hwake hc)
    · exact heffects (changes_wakesRun hreset ⟨hv, ho, hw⟩ hc (.inl ⟨hm, hwake⟩))
    · exact heffects (changes_wakesRun hreset ⟨hv, ho, hw⟩ hc (.inr hm))
    · exact heffects (changes_bankLow hreset hm hwake)
    · exact heffects (changes_idleExpiry hreset hm ht)
    · exact heffects (changes_parkExpiry hreset hm ht)

end Sys2Proof
end

section
/-! A precool commit that completes the required set while the compressor fills a bank (R74, R200, R69). O58 is
refuted by it. -/

namespace Sys2Proof.Machine

open Sys2Proof

/-- R200: default tables, every one that the set requires committed once. -/
def commissioned : Tables :=
  let t := Tables.dflt
  { t with
    nodeMap := { t.nodeMap with gen := 1 }
    station := { t.station with gen := 1 }
    bank := { t.bank with gen := 1 }
    position := { t.position with gen := 1 }
    tariff := { t.tariff with gen := 1 }
    fillH35 := { t.fillH35 with copy := { t.fillH35.copy with gen := 1 } }
    fillH70 := { t.fillH70 with copy := { t.fillH70.copy with gen := 1 } } }

/-- CONFIGURING with nothing missing any more, and the compressor filling bank B1. -/
def refillingUnsettled : State :=
  { State.reset with
    tables := commissioned
    cmp := { State.reset.cmp with state := .loaded, dest := some (.refill .b1) }
    bkm := State.reset.bkm.set .b1 { State.reset.bkm.get .b1 with state := .claimedCmp } }

theorem refillingUnsettled_commits : refillingUnsettled.smc.inReset = false
    ∧ refillingUnsettled.objection 5 = none ∧ (refillingUnsettled.bank .b1).state = .claimedCmp := by decide

/-- R69, R200: the commit moves CONFIGURING to PARKED, which ends the refill and frees the bank. -/
theorem commit_frees_refilled_bank :
    ((tableCommitRequest ⟨0, 0⟩ 5 refillingUnsettled).bank .b1).state = .available := by decide

end Sys2Proof.Machine

namespace Sys2Proof

open Sys2Proof.Machine

/-- Refutes O58: its clause on a precool commit (table 5) leaves BKM as it is, whatever the mode. In CONFIGURING the
commit that completes the required set also changes the mode to PARKED, and that change ends a refill: the bank that
the compressor holds is released. -/
theorem not_tableChanges : ¬ Obligations.TableChanges := by
  unfold Obligations.TableChanges
  rintro ⟨-, hcommit, -, -⟩
  obtain ⟨hreset, hnone, hclaimed⟩ := refillingUnsettled_commits
  obtain ⟨-, -, -, -, -, -, hprecool⟩ := hcommit ⟨0, 0⟩ refillingUnsettled hreset
  obtain ⟨t, hexec, -, -, hbkm, -⟩ := hprecool hnone
  have hruns : exec (.tableCommit ⟨0, 0⟩ 5) refillingUnsettled =
      .next (tableCommitRequest ⟨0, 0⟩ 5 refillingUnsettled) := running_of_eq hreset rfl
  obtain rfl : tableCommitRequest ⟨0, 0⟩ 5 refillingUnsettled = t := Host.Outcome.next.inj (hruns.symm.trans hexec)
  have hkept : ((tableCommitRequest ⟨0, 0⟩ 5 refillingUnsettled).bank .b1).state = .claimedCmp := by
    rw [State.bank, hbkm]
    exact hclaimed
  exact absurd (commit_frees_refilled_bank.symm.trans hkept) (by decide)

end Sys2Proof
end
